-- ==== Sys2Proof/Config.lean ====
section
/-!
DEFINITION. The free values: what the spec leaves open, or does not state, as constants with no body, so that
nothing in Lean can evaluate them. Each is named in a row of notes/assumptions.
-/
namespace Sys2Proof.Config

/-- The result of a function table (02 R66, R81): function code, destination column (0 FP32, 1 the 16-bit
formats, 2 GW12 and narrower) and FP32 input. The manual gives bounds, not the results. -/
opaque tableFn : (code column : Nat) → BitVec 32 → BitVec 32

/-- A fresh value that the spec leaves open, drawn at the state's counter `fresh`. -/
opaque freeValue : Nat → BitVec 256

/-- A byte of memory whose contents the spec calls undefined, by the draw and its place (01 R44, 11 R291). -/
opaque freeByte : (draw place : Nat) → BitVec 8

/-- SHA-384 of bytes (16, 19): a cryptographic function the manual names and does not define. -/
opaque sha384 : List Byte → BitVec 384

/-- SHA-256 of bytes. -/
opaque sha256 : List Byte → BitVec 256

/-- Whether an ECDSA P-384 signature over bytes verifies under a public key. -/
opaque verifySig : (key message signature : List Byte) → Bool

/-- The signature that the module's key makes over bytes. -/
opaque sign : (key message : List Byte) → List Byte

/-- The 64-byte line that AES-256-XTS under a key, at a tweak, makes of a line (16 R428). -/
opaque xtsEncrypt : (key tweak line : Nat) → Nat

/-- The key a derivation makes of secrets (16 R427, 12 R332). -/
opaque deriveKey : List Nat → Nat

/-- The AES-GCM tag of a frame (12 R333). -/
opaque gcmTag : (key counter : Nat) → (payload : List Nat) → BitVec 128

/-- A frame body through AES-256-GCM's key stream, its own inverse (12 R331). -/
opaque gcmBody : (key counter : Nat) → List (BitVec 8) → List (BitVec 8)

/-- Whether 96 bytes are a valid P-384 point (12 R326). -/
opaque validPoint : BitVec 768 → Bool

end Sys2Proof.Config
end

