-- ==== Sys2Proof/Machine/Fp.lean ====
section
/-!
DEFINITION. Number formats and their conversions (02 R50 to R69): exact dyadic values, the twelve storage
formats, rounding under RNE, RTZ and SR, block scales and pair values.
-/
namespace Sys2Proof.Machine

/-- An exact value on an engine's path: a NaN, an infinity, or plus or minus `m` times 2 to the `e`. -/
inductive Ext where
  | nan
  | inf (neg : Bool)
  | fin (neg : Bool) (m : Nat) (e : Int)
  deriving DecidableEq, Repr

/-- The twelve storage formats (R50), in code order. -/
inductive Fmt where
  | fp32 | fp16 | bf16 | gw12 | e4m3 | e5m2 | e3m2 | e2m3 | e2m1 | mxint8 | int8 | int4
  deriving DecidableEq, Repr

/-- The format of a 4-bit code; codes 0xC to 0xF are reserved (R50). -/
def Fmt.ofCode : Nat → Option Fmt
  | 0 => some .fp32 | 1 => some .fp16 | 2 => some .bf16 | 3 => some .gw12 | 4 => some .e4m3 | 5 => some .e5m2
  | 6 => some .e3m2 | 7 => some .e2m3 | 8 => some .e2m1 | 9 => some .mxint8 | 10 => some .int8 | 11 => some .int4
  | _ => none

/-- The code of a format (R50). -/
def Fmt.code : Fmt → Nat
  | .fp32 => 0 | .fp16 => 1 | .bf16 => 2 | .gw12 => 3 | .e4m3 => 4 | .e5m2 => 5
  | .e3m2 => 6 | .e2m3 => 7 | .e2m1 => 8 | .mxint8 => 9 | .int8 => 10 | .int4 => 11

/-- Element width in bits (R50). -/
def Fmt.width : Fmt → Nat
  | .fp32 => 32 | .fp16 | .bf16 => 16 | .gw12 => 12 | .e4m3 | .e5m2 | .mxint8 | .int8 => 8
  | .e3m2 | .e2m3 => 6 | .e2m1 | .int4 => 4

/-- Exponent field width of a floating format (R50). -/
def Fmt.expBits : Fmt → Nat
  | .fp32 | .bf16 | .gw12 => 8 | .fp16 | .e5m2 => 5 | .e4m3 => 4 | .e3m2 => 3 | .e2m3 | .e2m1 => 2
  | .mxint8 | .int8 | .int4 => 0

/-- Fraction field width of a floating format (R50). -/
def Fmt.fracBits : Fmt → Nat
  | .fp32 => 23 | .fp16 => 10 | .bf16 => 7 | .gw12 | .e4m3 | .e2m3 => 3 | .e5m2 | .e3m2 => 2 | .e2m1 => 1
  | .mxint8 | .int8 | .int4 => 0

/-- Exponent bias (R50). -/
def Fmt.bias : Fmt → Int
  | .fp32 | .bf16 | .gw12 => 127 | .fp16 | .e5m2 => 15 | .e4m3 => 7 | .e3m2 => 3 | .e2m3 | .e2m1 => 1
  | .mxint8 | .int8 | .int4 => 0

/-- Whether a format is an integer format (its element is two's complement). -/
def Fmt.isInt : Fmt → Bool
  | .mxint8 | .int8 | .int4 => true
  | _ => false

/-- The exponent step of one unit of an integer format (R50: MXINT8 is times 2^-6). -/
def Fmt.intExp : Fmt → Int
  | .mxint8 => -6
  | _ => 0

/-- The largest finite magnitude, as (m, e) for m times 2^e (R53). -/
def Fmt.maxFinite : Fmt → Nat × Int
  | .fp32 => (2 ^ 24 - 1, 104) | .fp16 => (2047, 5) | .bf16 => (255, 120) | .gw12 => (15, 124)
  | .e4m3 => (7, 6) | .e5m2 => (7, 13) | .e3m2 => (7, 2) | .e2m3 => (15, -1) | .e2m1 => (3, 1)
  | .mxint8 => (127, -6) | .int8 => (127, 0) | .int4 => (7, 0)

/-- Whether the MX bit may hold `mx` for a format (R51). -/
def Fmt.mxOk : Fmt → Bool → Bool
  | .e3m2, mx | .e2m3, mx | .e2m1, mx | .mxint8, mx => mx
  | .e4m3, _ | .e5m2, _ => true
  | _, mx => !mx

/-- The 4-bit formats, which need a signet (R51, R5). -/
def Fmt.fourBit : Fmt → Bool
  | .e2m1 | .int4 => true
  | _ => false

/-- Payload bytes of a bead (R70): 2,048 elements. -/
def Fmt.payload (f : Fmt) : Nat := 256 * f.width

/-- Bead stride in memory (R70): the payload and, when MX is 1, 64 scale bytes. -/
def Fmt.stride (f : Fmt) (mx : Bool) : Nat := f.payload + (if mx then 64 else 0)

/-- Compare the magnitudes m·2^e and m'·2^e'. -/
def magLt (m : Nat) (e : Int) (m' : Nat) (e' : Int) : Bool :=
  let b := min e e'
  decide (m * 2 ^ (e - b).toNat < m' * 2 ^ (e' - b).toNat)

namespace Ext

/-- Positive zero. -/
def zero : Ext := .fin false 0 0

/-- Whether the value is a NaN or an infinity: special (R107, R174). -/
def special : Ext → Bool
  | .nan | .inf _ => true
  | .fin .. => false

/-- Whether the value is a NaN. -/
def isNan : Ext → Bool
  | .nan => true
  | _ => false

/-- Whether the value is an infinity. -/
def isInf : Ext → Bool
  | .inf _ => true
  | _ => false

/-- Whether the value is a zero of either sign. -/
def isZero : Ext → Bool
  | .fin _ 0 _ => true
  | _ => false

/-- The sign: true when negative. -/
def sign : Ext → Bool
  | .nan => false
  | .inf s => s
  | .fin s _ _ => s

/-- The signed integer multiple of 2^b that a finite value is, for b at or below its exponent. -/
def toInt (b : Int) : Ext → Int
  | .fin s m e => let n : Int := (m * 2 ^ (e - b).toNat : Nat); if s then -n else n
  | _ => 0

/-- The value n·2^e of an integer n; a zero takes the sign given. -/
def ofInt (n e : Int) (zneg : Bool) : Ext :=
  if n = 0 then .fin zneg 0 0 else .fin (decide (n < 0)) n.natAbs e

/-- Negation. -/
def neg : Ext → Ext
  | .nan => .nan
  | .inf s => .inf (!s)
  | .fin s m e => .fin (!s) m e

/-- Exact sum. Opposite infinities give NaN; a zero sum of nonzero values is +0 (R60). -/
def add : Ext → Ext → Ext
  | .nan, _ => .nan
  | _, .nan => .nan
  | .inf s, .inf t => if s = t then .inf s else .nan
  | .inf s, _ => .inf s
  | _, .inf t => .inf t
  | .fin s m e, .fin t n f =>
    if m = 0 && n = 0 then .fin (s && t) 0 0
    else
      let b := min e f
      ofInt (toInt b (.fin s m e) + toInt b (.fin t n f)) b false

/-- Exact difference. -/
def sub (a b : Ext) : Ext := a.add b.neg

/-- Exact product. Zero times infinity gives NaN. -/
def mul : Ext → Ext → Ext
  | .nan, _ => .nan
  | _, .nan => .nan
  | .inf s, .inf t => .inf (s != t)
  | .inf s, .fin t n _ => if n = 0 then .nan else .inf (s != t)
  | .fin s m _, .inf t => if m = 0 then .nan else .inf (s != t)
  | .fin s m e, .fin t n f => .fin (s != t) (m * n) (e + f)

/-- Times a power of two. -/
def scale (k : Int) : Ext → Ext
  | .fin s m e => .fin s m (e + k)
  | x => x

/-- Magnitude. -/
def abs : Ext → Ext
  | .nan => .nan
  | .inf _ => .inf false
  | .fin _ m e => .fin false m e

/-- IEEE ordering: `none` when either is a NaN; minus zero equals plus zero. -/
def cmp : Ext → Ext → Option Ordering
  | .nan, _ => none
  | _, .nan => none
  | .inf s, .inf t => some (if s = t then .eq else if s then .lt else .gt)
  | .inf s, _ => some (if s then .lt else .gt)
  | _, .inf t => some (if t then .gt else .lt)
  | .fin s m e, .fin t n f =>
    let b := min e f
    some (compare (toInt b (.fin s m e)) (toInt b (.fin t n f)))

/-- Less than; false on a NaN. -/
def lt (a b : Ext) : Bool := a.cmp b = some .lt
/-- Equal; false on a NaN. -/
def eq (a b : Ext) : Bool := a.cmp b = some .eq

end Ext

/-- Rounding mode of a conversion (R61, R63): SR carries its 16 random bits. -/
inductive Rnd where
  | rne
  | rtz
  | sr (r : BitVec 16)
  deriving DecidableEq, Repr

/-- Round m·2^e to a multiple of 2^q under a mode (R61, R63): the multiple. -/
def roundAt (mode : Rnd) (m : Nat) (e q : Int) : Nat :=
  if q ≤ e then m * 2 ^ (e - q).toNat
  else
    let u := 2 ^ (q - e).toNat
    let t := m / u
    let r := m % u
    match mode with
    | .rne => if u < 2 * r || (2 * r = u && t % 2 = 1) then t + 1 else t
    | .rtz => t
    | .sr b => if 65536 ≤ r * 65536 / u + b.toNat then t + 1 else t

/-- Floor of log2 of m·2^e, for m not 0. -/
def magLog2 (m : Nat) (e : Int) : Int := (Nat.log2 m : Int) + e

/-- The exponent of the last place of a value in a format of `p` significant bits and least normal exponent
`emin` (R64). -/
def ulpExp (p : Nat) (emin : Int) (m : Nat) (e : Int) : Int := max (magLog2 m e) emin - p + 1

/-- Least normal exponent of a format (R53). -/
def Fmt.emin (f : Fmt) : Int := 1 - f.bias

/-- The canonical NaN of a format; 0 for an integer or block-only format (R58, R59). -/
def Fmt.canonNan : Fmt → Nat
  | .fp32 => 0x7FC00000 | .fp16 => 0x7E00 | .bf16 => 0x7FC0 | .gw12 => 0x7FC | .e4m3 => 0x7F | .e5m2 => 0x7E
  | _ => 0

/-- The sign bit in place. -/
def Fmt.signBit (f : Fmt) (neg : Bool) : Nat := if neg then 2 ^ (f.width - 1) else 0

/-- Whether a format encodes infinities (R53). -/
def Fmt.hasInf : Fmt → Bool
  | .fp32 | .fp16 | .bf16 | .gw12 | .e5m2 => true
  | _ => false

/-- The encoding of an infinity, for a format that has one (R58). -/
def Fmt.infBits (f : Fmt) (neg : Bool) : Nat :=
  f.signBit neg + (2 ^ f.expBits - 1) * 2 ^ f.fracBits

/-- The encoding of a finite floating magnitude n·2^q that the format represents (R50). -/
def Fmt.encodeFin (f : Fmt) (neg : Bool) (n : Nat) (q : Int) : Nat :=
  if n = 0 then f.signBit neg
  else
    let l := magLog2 n q
    let qq := max l f.emin - f.fracBits
    let k := if qq ≤ q then n * 2 ^ (q - qq).toNat else n / 2 ^ (qq - q).toNat
    if l < f.emin then f.signBit neg + k
    else f.signBit neg + (l + f.bias).toNat * 2 ^ f.fracBits + (k - 2 ^ f.fracBits)

/-- The value an element's bits hold, before any block scale (R50, R53, R54). -/
def Fmt.value (f : Fmt) (w : Nat) : Ext :=
  if f.isInt then
    let n := w % 2 ^ f.width
    if n < 2 ^ (f.width - 1) then .fin false n f.intExp else .fin true (2 ^ f.width - n) f.intExp
  else
    let s := w / 2 ^ (f.width - 1) % 2 = 1
    let x := w / 2 ^ f.fracBits % 2 ^ f.expBits
    let m := w % 2 ^ f.fracBits
    if f.hasInf && x = 2 ^ f.expBits - 1 then (if m = 0 then .inf s else .nan)
    else if f = .e4m3 && x = 15 && m = 7 then .nan
    else if x = 0 then (if f = .gw12 then .fin s 0 0 else .fin s m (f.emin - f.fracBits))
    else .fin s (2 ^ f.fracBits + m) ((x : Int) - f.bias - f.fracBits)

/-- A finite magnitude rounded to a floating format, before overflow (R61, R62): multiple and exponent. GW12 rounds
with an unbounded exponent and then flushes below 2^-126. -/
def Fmt.roundFin (f : Fmt) (mode : Rnd) (m : Nat) (e : Int) : Nat × Int :=
  if m = 0 then (0, 0)
  else if f = .gw12 then
    let q := magLog2 m e - 3
    let n := roundAt mode m e q
    if magLt n q 1 (-126) then (0, 0) else (n, q)
  else
    let q := ulpExp (f.fracBits + 1) f.emin m e
    (roundAt mode m e q, q)

/-- Convert an exact value to a format that is not block-scaled (R58 to R63): the element's bits. -/
def Fmt.convert (f : Fmt) (mode : Rnd) (sat : Bool) : Ext → Nat
  | .nan => f.canonNan
  | .inf s =>
    if f.isInt then (if s then 2 ^ (f.width - 1) else 2 ^ (f.width - 1) - 1)
    else if sat then f.encodeFin s f.maxFinite.1 f.maxFinite.2
    else if f.hasInf then f.infBits s
    else f.canonNan
  | .fin s m e =>
    if f.isInt then
      let n := roundAt mode m e f.intExp
      let top := 2 ^ (f.width - 1)
      if s then (2 ^ f.width - min n top) % 2 ^ f.width else min n (top - 1)
    else
      let r := f.roundFin mode m e
      if magLt f.maxFinite.1 f.maxFinite.2 r.1 r.2 then
        (if sat || mode = .rtz then f.encodeFin s f.maxFinite.1 f.maxFinite.2
         else if f.hasInf then f.infBits s
         else f.canonNan)
      else f.encodeFin s r.1 r.2

/-- A value rounded to a format and read back. -/
def Fmt.round (f : Fmt) (mode : Rnd) (sat : Bool) (x : Ext) : Ext := f.value (f.convert mode sat x)

/-- F of R168: rounded to FP32 under RNE, subnormals kept. -/
def f32 (x : Ext) : Ext := Fmt.fp32.round .rne false x

/-- The FP32 value of 32 bits. -/
def ofF32 (w : BitVec 32) : Ext := Fmt.fp32.value w.toNat

/-- The FP32 bits of a value, under RNE. -/
def toF32 (x : Ext) : BitVec 32 := BitVec.ofNat 32 (Fmt.fp32.convert .rne false x)

/-- The value of a scale byte times a value (R55, R56): 0xFF makes it NaN. -/
def scaled (s : Nat) (x : Ext) : Ext := if s = 255 then .nan else x.scale ((s : Int) - 127)

/-- The largest-exponent constant of a block-scaled format (R57). -/
def Fmt.mxEmax : Fmt → Int
  | .e4m3 => 8 | .e5m2 => 15 | .e3m2 => 4 | .e2m3 | .e2m1 => 2
  | _ => 0

/-- The scale byte computed over a block's source values (R57). -/
def mxScale (f : Fmt) (v : List Ext) : Nat :=
  if v.any Ext.special then 255
  else
    match v.foldl (fun (a : Option Int) x => match x with
        | .fin _ m e => if m = 0 then a else some (match a with | none => magLog2 m e | some b => max b (magLog2 m e))
        | _ => a) none with
    | none => 127
    | some l => ((max (-127) (min 127 (l - f.mxEmax))) + 127).toNat

/-- One element against a block scale (R57): scaled, rounded, saturated to the largest finite magnitude; zero under
the scale 0xFF. -/
def mxElem (f : Fmt) (mode : Rnd) (s : Nat) (x : Ext) : Nat :=
  if s = 255 then 0 else f.convert mode true (x.scale (127 - (s : Int)))

/-- The scale a block takes when one is supplied (R57): 0xFF where a source value is special. -/
def mxSupplied (s : Nat) (v : List Ext) : Nat := if v.any Ext.special then 255 else s

/-- The keyed random bits of stochastic rounding (R63). -/
def srBits (seed : BitVec 64) (tag : BitVec 16) (bead elem : Nat) : BitVec 16 :=
  let z : BitVec 64 := seed ^^^ (BitVec.zeroExtend 64 tag <<< 48) ^^^ (BitVec.ofNat 64 bead <<< 11) ^^^ BitVec.ofNat 64 elem
  let z := (z ^^^ (z >>> 30)) * 0xBF58476D1CE4E5B9#64
  let z := (z ^^^ (z >>> 27)) * 0x94D049BB133111EB#64
  let z := z ^^^ (z >>> 31)
  z.truncate 16

/-- two_sum of R67, each operation FP32 under RNE. -/
def twoSum (a b : Ext) : Ext × Ext :=
  let s := f32 (a.add b)
  let bb := f32 (s.sub a)
  (s, f32 ((f32 (a.sub (f32 (s.sub bb)))).add (f32 (b.sub bb))))

/-- A pair value normalised (R67). -/
def pairNorm (h l : Ext) : Ext × Ext :=
  let p := twoSum h l
  if p.1.special then (p.1, Ext.zero) else p

/-- The FP32 components of a pair-mode product (R69): the exact high product as a pair, and the cross terms rounded. A high product
that is infinite or NaN is the pair's value, with +0 below it (R67). -/
def pairProduct (ah al bh bl : Ext) : Ext × Ext :=
  let p := f32 (ah.mul bh)
  if p.special then (p, Ext.zero) else
  let err := f32 ((ah.mul bh).sub p)
  let cross := f32 ((ah.mul bl).add (al.mul bh))
  pairNorm p (f32 (err.add cross))

end Sys2Proof.Machine
end

