-- ==== Sys2Proof/Machine/KMap.lean ====
section
/-!
DEFINITION. Sparse data by key: a list of (key, value) pairs with strictly rising keys; byte memory as a
list of cells in one canonical form (rising addresses, no zero byte listed); sorted sets of numbers.
-/
namespace Sys2Proof.Machine

/-- A finite map from numbers, keys strictly rising. A register file, a table, a set of records by index. -/
abbrev KMap (α : Type) := List (Nat × α)

/-- The value at a key, if one is listed. -/
def KMap.find? {α : Type} : KMap α → Nat → Option α
  | [], _ => none
  | (k, v) :: m, i => if i = k then some v else KMap.find? m i

/-- The value at a key; `d` where none is listed. -/
def KMap.get {α : Type} (m : KMap α) (d : α) (i : Nat) : α := (m.find? i).getD d

/-- Put a value at a key: replace it where the key is listed, else insert it in order. -/
def KMap.set {α : Type} : KMap α → Nat → α → KMap α
  | [], i, v => [(i, v)]
  | (k, w) :: m, i, v =>
    if i < k then (i, v) :: (k, w) :: m
    else if i = k then (i, v) :: m
    else (k, w) :: KMap.set m i v

/-- Remove a key. -/
def KMap.del {α : Type} (m : KMap α) (i : Nat) : KMap α := m.filter (fun p => p.1 ≠ i)

/-- Update the value at a key with `f`, `d` standing for an unlisted one. -/
def KMap.upd {α : Type} (m : KMap α) (d : α) (i : Nat) (f : α → α) : KMap α := m.set i (f (m.get d i))

/-- Change every listed value. -/
def KMap.mapv {α : Type} (m : KMap α) (f : Nat → α → α) : KMap α := m.map (fun p => (p.1, f p.1 p.2))

/-- The values listed. -/
def KMap.vals {α : Type} (m : KMap α) : List α := m.map (·.2)

/-- The keys listed. -/
def KMap.keys {α : Type} (m : KMap α) : List Nat := m.map (·.1)

/-- The first listed pair, in key order, that a test selects. -/
def KMap.first? {α : Type} (m : KMap α) (f : Nat → α → Bool) : Option (Nat × α) := List.find? (fun p => f p.1 p.2) m

/-- The listed pairs that a test keeps. -/
def KMap.keep {α : Type} (m : KMap α) (f : Nat → α → Bool) : KMap α := List.filter (fun p => f p.1 p.2) m

/-- The least key from `lo` to `lo + n - 1` that is not listed. -/
def KMap.freeKey {α : Type} (m : KMap α) (lo n : Nat) : Option Nat :=
  ((List.range n).map (lo + ·)).find? (fun k => (m.find? k).isNone)

/-- A set of numbers, rising, no repeats. -/
abbrev NSet := List Nat

/-- Put a number into a set. -/
def NSet.insert : NSet → Nat → NSet
  | [], i => [i]
  | k :: m, i => if i < k then i :: k :: m else if i = k then k :: m else k :: NSet.insert m i

/-- Remove a number from a set. -/
def NSet.remove (s : NSet) (i : Nat) : NSet := s.filter (· ≠ i)

/-- Put `n` numbers from `a` into a set. -/
def NSet.insertRange (s : NSet) (a n : Nat) : NSet :=
  s.filter (· < a) ++ (List.range n).map (a + ·) ++ s.filter (fun k => a + n ≤ k)

/-- Remove `n` numbers from `a` from a set. -/
def NSet.removeRange (s : NSet) (a n : Nat) : NSet := s.filter (fun k => k < a || a + n ≤ k)

/-- Whether a set holds some number of `a` to `a + n - 1`. -/
def NSet.meets (s : NSet) (a n : Nat) : Bool := s.any (fun k => a ≤ k && k < a + n)

/-- Byte memory: cells at strictly rising addresses, none of them zero; an unlisted byte reads zero
(DESIGN CHOICE, notes/assumptions/1.md). -/
abbrev Memory := List Host.Cell

/-- One byte read. -/
def Memory.readByte : Memory → Nat → Byte
  | [], _ => 0
  | (k, v) :: m, a => if a = k then v else Memory.readByte m a

/-- The nonzero cells of bytes laid at rising addresses from `a`. -/
def Memory.cells : Nat → List Byte → Memory
  | _, [] => []
  | a, b :: bs => if b = 0 then Memory.cells (a + 1) bs else (a, b) :: Memory.cells (a + 1) bs

/-- Bytes written from address `a` up; the canonical form is kept. -/
def Memory.write (m : Memory) (a : Nat) (bs : List Byte) : Memory :=
  m.filter (fun c => decide (c.1 < a)) ++ Memory.cells a bs ++ m.filter (fun c => decide (a + bs.length ≤ c.1))

/-- `n` bytes from `a` set to zero. -/
def Memory.zero (m : Memory) (a n : Nat) : Memory := m.filter (fun c => decide (c.1 < a) || decide (a + n ≤ c.1))

/-- `n` bytes from `a`, in address order. -/
def Memory.readBytes (m : Memory) (a n : Nat) : List Byte := (List.range n).map (fun i => m.readByte (a + i))

/-- `n` bytes from `a` as one little-endian number. -/
def Memory.readNat (m : Memory) (a n : Nat) : Nat :=
  (m.filter (fun c => decide (a ≤ c.1) && decide (c.1 < a + n))).foldl (fun v c => v + c.2.toNat * 256 ^ (c.1 - a)) 0

/-- A little-endian number written as `n` bytes from `a`. -/
def Memory.writeNat (m : Memory) (a n v : Nat) : Memory := m.write a (leBytes n v)

/-- The canonical form: addresses strictly rising, no listed byte zero. -/
def Memory.wf : Memory → Bool
  | [] => true
  | [c] => decide (c.2 ≠ 0)
  | c :: c' :: m => decide (c.2 ≠ 0) && decide (c.1 < c'.1) && Memory.wf (c' :: m)

end Sys2Proof.Machine
end

