-- ==== Sys2Proof/Machine/Bead.lean ====
section
/-!
DEFINITION. Beads (02 R70 to R77): the sideband word, the CRC-32C check, the records of lossless compression, the
bead hash of DIGEST (08 R234), and the layouts that place elements in beads (03 R92, 08 R212).
-/
namespace Sys2Proof.Machine

/-- One step of the reflected CRC-32C (R72). -/
def crcStep (c : BitVec 32) : BitVec 32 :=
  if c.getLsbD 0 then (c >>> 1) ^^^ 0x82F63B78#32 else c >>> 1

/-- One byte entered into the CRC. -/
def crcByte (c : BitVec 32) (b : Byte) : BitVec 32 :=
  crcStep (crcStep (crcStep (crcStep (crcStep (crcStep (crcStep (crcStep (c ^^^ b.zeroExtend 32))))))))

/-- CRC-32C over bytes (R72). -/
def crc32c (bs : List Byte) : BitVec 32 := (bs.foldl crcByte 0xFFFFFFFF#32) ^^^ 0xFFFFFFFF#32

/-- The sideband word of a bead (R71). -/
structure Sideband where
  check : BitVec 32 := 0
  tag : BitVec 16 := 0
  fmt : BitVec 4 := 0
  mx : Bool := false
  chkValid : Bool := false
  deriving DecidableEq, Repr

/-- The 64-bit word of a sideband (R71). -/
def Sideband.word (s : Sideband) : BitVec 64 :=
  BitVec.ofNat 64 (s.check.toNat * 2 ^ 32 + s.tag.toNat * 2 ^ 16 + s.fmt.toNat * 2 ^ 12 + b2n s.mx * 2 ^ 11
    + b2n s.chkValid * 2 ^ 10)

/-- The sideband that a 64-bit word holds (R71); reserved bits are ignored (R10). -/
def Sideband.ofWord (w : BitVec 64) : Sideband :=
  { check := BitVec.ofNat 32 (bits w 63 32), tag := BitVec.ofNat 16 (bits w 31 16), fmt := BitVec.ofNat 4 (bits w 15 12),
    mx := bit w 11, chkValid := bit w 10 }

/-- The bytes the check of a bead runs over (R72): payload, scale bytes, tag low byte first, format byte. -/
def beadCheckBytes (bytes : List Byte) (tag : BitVec 16) (fmt : BitVec 4) (mx : Bool) : List Byte :=
  bytes ++ leBytes 2 tag.toNat ++ [BitVec.ofNat 8 (fmt.toNat + 16 * b2n mx)]

/-- CHECK of a bead (R72); `bytes` is the payload, then the 64 scale bytes when MX is 1. -/
def beadCheck (bytes : List Byte) (tag : BitVec 16) (fmt : BitVec 4) (mx : Bool) : BitVec 32 :=
  crc32c (beadCheckBytes bytes tag fmt mx)

/-- The sideband that the writer of a whole bead gives it (R73). -/
def beadSideband (bytes : List Byte) (tag : BitVec 16) (f : Fmt) (mx : Bool) : Sideband :=
  let c := BitVec.ofNat 4 f.code
  { check := beadCheck bytes tag c mx, tag := tag, fmt := c, mx := mx, chkValid := true }

/-- Bytes a bead occupies by its sideband's format (R70); a reserved code occupies the least bead. -/
def Sideband.size (s : Sideband) : Nat :=
  match Fmt.ofCode s.fmt.toNat with
  | some f => f.stride s.mx
  | none => 1024

/-- Element `i` of a payload held as one little-endian number (R52). -/
def payloadElem (f : Fmt) (payload i : Nat) : Nat := payload / 2 ^ (f.width * i) % 2 ^ f.width

/-- A payload packed from its elements, element 0 first (R52). -/
def packElems (f : Fmt) (es : List Nat) : Nat := es.foldr (fun e acc => e % 2 ^ f.width + 2 ^ f.width * acc) 0

/-- The bytes of a bead from its 2,048 element codes and its 64 scale bytes. -/
def beadBytes (f : Fmt) (mx : Bool) (es scales : List Nat) : List Byte :=
  leBytes f.payload (packElems f es) ++ (if mx then scales.map (BitVec.ofNat 8) else [])

/-- The exponent field of an element (R75). -/
def Fmt.expField (f : Fmt) (w : Nat) : Nat := w / 2 ^ f.fracBits % 2 ^ f.expBits

/-- Sign and fraction of an element, the sign on top (R76). -/
def Fmt.signFrac (f : Fmt) (w : Nat) : Nat := w / 2 ^ (f.width - 1) % 2 * 2 ^ f.fracBits + w % 2 ^ f.fracBits

/-- The compression form of a bead by its content alone (R75): 0 raw, 1 all-zero, 2 exponent-shared. -/
def beadForm (f : Fmt) (payload : Nat) : Nat :=
  if payload = 0 then 1
  else match f with
    | .fp32 | .fp16 | .bf16 | .gw12 | .e4m3 | .e5m2 =>
      let x := f.expField (payloadElem f payload 0)
      if (List.range 2048).all (fun i => f.expField (payloadElem f payload i) = x) then 2 else 0
    | _ => 0

/-- The record of a compressed bead (R76); a raw bead's record is its bytes. -/
def beadRecord (f : Fmt) (sb : Sideband) (bytes : List Byte) : Nat × List Byte :=
  let payload := leNat (bytes.take f.payload)
  let scales := (bytes.drop f.payload).take 64
  let form := beadForm f payload
  if form = 0 then (0, bytes)
  else
    let s0 := (scales.headD 0).toNat
    let uni := sb.mx && scales.all (fun s => s.toNat = s0)
    let x := if form = 2 then f.expField (payloadElem f payload 0) else 0
    let fw := form + x * 2 ^ 8 + b2n uni * 2 ^ 16 + (if uni then s0 * 2 ^ 24 else 0)
    let hdr := leBytes 8 sb.word.toNat ++ leBytes 8 fw ++ leBytes 48 0
    let packed := if form = 2 then
        leBytes (256 * (1 + f.fracBits))
          ((List.range 2048).foldr (fun i acc => f.signFrac (payloadElem f payload i) + 2 ^ (1 + f.fracBits) * acc) 0)
      else []
    (form, hdr ++ packed ++ (if sb.mx && !uni then scales else []))

/-- A record restored bit for bit (R77). -/
def beadRestore (f : Fmt) (mx : Bool) (form : Nat) (record : List Byte) : List Byte :=
  if form = 0 then record
  else
    let fw := leNat ((record.drop 8).take 8)
    let x := fw / 2 ^ 8 % 256
    let uni := fw / 2 ^ 16 % 2 = 1
    let body := record.drop 64
    let plen := if form = 2 then 256 * (1 + f.fracBits) else 0
    let packed := leNat (body.take plen)
    let elem (i : Nat) : Nat :=
      let w := packed / 2 ^ ((1 + f.fracBits) * i) % 2 ^ (1 + f.fracBits)
      w / 2 ^ f.fracBits * 2 ^ (f.width - 1) + x * 2 ^ f.fracBits + w % 2 ^ f.fracBits
    let payload := if form = 2 then leBytes f.payload (packElems f ((List.range 2048).map elem)) else leBytes f.payload 0
    let scales := if mx then (if uni then List.replicate 64 (BitVec.ofNat 8 (fw / 2 ^ 24)) else body.drop plen) else []
    payload ++ scales

/-- Rotate left by 29, multiply (R234). -/
def hashStep (h w : BitVec 64) : BitVec 64 := ((h ^^^ w).rotateLeft 29) * 0x9FB21C651E98DF25#64

/-- The 8-byte groups of bytes. -/
def word64s : Nat → List Byte → List (BitVec 64)
  | 0, _ => []
  | n + 1, bs => BitVec.ofNat 64 (leNat (bs.take 8)) :: word64s n (bs.drop 8)

/-- The hash of one bead (R234). -/
def beadHash (bytes : List Byte) (tag : BitVec 16) (fmx : BitVec 8) (idx : Nat) : BitVec 64 :=
  let h : BitVec 64 := 0x6A09E667F3BCC908#64 ^^^ (tag.zeroExtend 64 <<< 40) ^^^ (fmx.zeroExtend 64 <<< 32) ^^^ BitVec.ofNat 64 idx
  let h := (word64s (bytes.length / 8) bytes).foldl hashStep h
  let h := h ^^^ (h >>> 32)
  let h := h * 0xD6E8FEB86659FD93#64
  h ^^^ (h >>> 32)

/-- The layouts of a tile descriptor (R211, R212). -/
inductive Layout where
  | row64 | row8 | col64 | linear | plain
  deriving DecidableEq, Repr

/-- LAYOUT codes; 5 to 7 are reserved (R211). -/
def Layout.ofCode : Nat → Option Layout
  | 0 => some .row64 | 1 => some .row8 | 2 => some .col64 | 3 => some .linear | 4 => some .plain
  | _ => none

/-- Packed block count of a block layout: the factor of the bead-index formula (R92). -/
def Layout.packed : Layout → (rows cols : Nat) → Nat
  | .row64, _, c => ceilDiv c 32
  | .row8, _, c => ceilDiv c 256
  | .col64, r, _ => ceilDiv r 32
  | _, _, _ => 0

/-- Where element (r, c) of a tensor lies: its bead index and its index in the bead (R92, R212). `k` is the block
count in force (STRIDE when nonzero); `cols` serves LINEAR. -/
def Layout.place (l : Layout) (k cols r c : Nat) : Nat × Nat :=
  match l with
  | .row64 => (r / 64 * k + c / 32, r % 64 * 32 + c % 32)
  | .row8 => (r / 8 * k + c / 256, r % 8 * 256 + c % 256)
  | .col64 => (c / 64 * k + r / 32, c % 64 * 32 + r % 32)
  | _ => ((r * cols + c) / 2048, (r * cols + c) % 2048)

/-- The coordinates of element `i` of bead `b`, inverse to `place`; `none` where the bead lies in a view's gap. -/
def Layout.coord (l : Layout) (k packed cols b i : Nat) : Option (Nat × Nat) :=
  match l with
  | .row64 => if k = 0 || packed ≤ b % k then none else some (b / k * 64 + i / 32, b % k * 32 + i % 32)
  | .row8 => if k = 0 || packed ≤ b % k then none else some (b / k * 8 + i / 256, b % k * 256 + i % 256)
  | .col64 => if k = 0 || packed ≤ b % k then none else some (b % k * 32 + i % 32, b / k * 64 + i / 32)
  | _ => if cols = 0 then none else some ((b * 2048 + i) / cols, (b * 2048 + i) % cols)

end Sys2Proof.Machine
end

