-- ==== Sys2Proof/Machine/CoreState.lean ====
section
/-!
DEFINITION. The state of one core as plain data (03, 04, 06, 07, 08, 09): scalar registers, tensor registers and
CSRs, the tensor issue queue, arm records, the local data store, the engines' own records and counters. Field
defaults are the reset values.
-/
namespace Sys2Proof.Machine

/-- A finding of a check (R215, R260): the cause code, the first faulting address where translation found it, and
the entry a walk met for 0x0207 (R258). -/
structure Finding where
  cause : Cause := 0
  va : Word := 0
  xlate : Bool := false
  walk : Option (Nat × Nat) := none
  deriving DecidableEq, Repr

/-- What a tensor instruction reports at completion (R197, R198). -/
structure Completion where
  cause : Cause := 0
  tcsx : Word := 0
  result : BitVec 32 := 0
  /-- whether it consumed poison, and the first poisoned address where it is known (R450, R451) -/
  consumed : Bool := false
  poisonVa : Word := 0
  deriving DecidableEq, Repr

/-- The tensor instructions, as R208, R209, R216, R218 to R220, R226 to R236 encode them. -/
inductive TInstr where
  | mma (slim : Bool) (mode grp rs1 tdb tda : Nat)
  | vrun (cr rs1 tds0 tdd : Nat)
  | compress (rs1 tds tdd : Nat)
  | expand (rs1 tds tdd : Nat)
  | tload (tdd tds : Nat)
  | tstore (tdd tds : Nat)
  | tmove (tdd tds : Nat)
  | send (tdd tds rs1 : Nat)
  | recv (tdd tds rs1 : Nat)
  | arm (rec td rs1 : Nat)
  | disarm (rec : Nat)
  | signal (rs1 rs2 : Nat) (release : Bool)
  | wait (rs1 rs2 : Nat) (consume : Bool)
  | rflush (rs1 rs2 : Nat)
  | clasp (umask : Nat) (sst : Bool)
  | digest (tds rs1 : Nat) (acc : Bool) (accN : Nat)
  | cset (cr rs1 : Nat)
  deriving DecidableEq, Repr

/-- The units that take tensor instructions (R200), coded as in UNIT of R196. -/
inductive Unit' where
  | matrix | vector | mover | sync | none
  deriving DecidableEq, Repr

/-- A compensated pair (R116): FP32 sum and error term. -/
structure AccPair where
  s : BitVec 32 := 0
  e : BitVec 32 := 0
  deriving DecidableEq, Repr

/-- What the reads of one instruction have met so far (R74, R450): retries, to be counted if it commits (R207); poison, whether
of a bead whose check failed twice, and the first poisoned address. -/
structure Reads where
  retries : Nat := 0
  poison : Bool := false
  unrec : Bool := false
  va : Nat := 0
  deriving DecidableEq, Repr

/-- One bead, or one row of a PLAIN tensor, as an engine reads it (R74): payload as one number, scale bytes, sideband, the 64-byte lines
of it that are poisoned, whether its check failed twice, and where it lies. -/
structure BeadVal where
  payload : Nat := 0
  scales : List Nat := []
  side : BitVec 64 := 0
  pz : List Nat := []
  unrec : Bool := false
  va : Nat := 0
  deriving DecidableEq, Repr

/-- An index-map entry (R178): the 2,048 mask bits as a number, and PREFIX. -/
structure MapEntry where
  mask : Nat := 0
  before : Nat := 0
  deriving DecidableEq, Repr

/-- What a unit holds in staging (R202): the beads read, tensor by tensor, and for the vector engine the scale bytes of S1 and S2, the
mask bits, the entries of an index map with the outcome of their check, and what the reads of these regions met. -/
structure Staging where
  beads : List (KMap BeadVal) := []
  scale1 : List Nat := []
  scale2 : List Nat := []
  mask : Nat := 0
  entries : List MapEntry := []
  bad : Bool := false
  reads : Reads := {}
  deriving DecidableEq, Repr

/-- One entry of the tensor issue queue (R192, R200 to R204, R237). -/
structure TiqEntry where
  id : Nat := 0
  word : BitVec 32 := 0
  pc : Word := 0
  /-- latched operands (R192, R210) -/
  td : KMap (BitVec 128) := []
  chain : BitVec 1024 := 0
  chainRefusal : Option Cause := none
  rs1v : Word := 0
  rs2v : Word := 0
  f : KMap (BitVec 32) := []
  /-- CSET: the register's contents before this entry, restored by a squash (R193, R205) -/
  oldChain : BitVec 1024 := 0
  oldUnchecked : Bool := false
  committed : Bool := false
  begun : Bool := false
  /-- core cycle at which the engine began it (R206) -/
  beginCycle : Nat := 0
  /-- slot claimed at commit and still owned (R197) -/
  slot : Option Nat := none
  /-- arm records matched (R228) -/
  arms : List Nat := []
  /-- MMA: groups entered, and the working pairs of the M × N outputs, row-major -/
  groups : Nat := 0
  acc : List AccPair := []
  reads : Reads := {}
  /-- MMA close handed to the epilogue unit (R96) -/
  closing : Bool := false
  /-- vector engine: output beads formed and written (R183) -/
  beads : Nat := 0
  /-- what its unit holds in staging since it was tentative (R202) -/
  staged : Option Staging := none
  /-- COUNT and BEADS of an index map, read once when the instruction starts (R180, R182) -/
  hdr : Option (Nat × Nat) := none
  /-- a mapping was removed while the entry was tentative: it checks again if it commits (R258) -/
  recheck : Bool := false
  /-- engine-busy cycles of tentative work, counted if the entry commits (R203) -/
  busy : Nat := 0
  /-- vector run: the first special element so far, its value, and whether it was replaced (R174) -/
  special : Option (Nat × Ext × Bool) := none
  /-- SEND, RECV: packets or beads not yet acknowledged or written (R224) -/
  waiting : List Nat := []
  /-- the first cause that one of its packets met, with the lowest refused address (R261, R360) -/
  first : Completion := {}
  /-- attempts of the present group and of the pass (R112) -/
  attempts : Nat := 0
  passAttempts : Nat := 0
  /-- fabric time of the last progress, for ARRIVAL_STAY (R105, R153, R183, R204) -/
  progress : Time := 0
  done : Option Completion := none
  deriving DecidableEq, Repr

/-- An arm record (R101, R226): the module address of each bead position, the bead stride, the tag, the landed
positions, the use counts of R227. -/
structure ArmRec where
  pos : List Nat := []
  stride : Nat := 0
  tag : BitVec 16 := 0
  landed : NSet := []
  /-- fabric times at which the positions landed (R105) -/
  times : KMap Time := []
  uses : Nat := 0
  matched : Nat := 0
  completed : Nat := 0
  deriving DecidableEq, Repr

/-- The end an entry is heading for while committed tensor instructions complete (R190). -/
structure Ending where
  cause : Cause := 0
  status : Word := 0
  arg0 : Word := 0
  arg1 : Word := 0
  /-- the end is a tensor instruction's fault or poison, which takes precedence over the program's own end (R190) -/
  fault : Bool := false
  deriving DecidableEq, Repr

/-- The entry a core is running: its queue, the entry's index, its partition and key (R191, R290). -/
structure Running where
  queue : Nat := 0
  index : Nat := 0
  part : Nat := 0
  rig : BitVec 32 := 0
  start : Time := 0
  /-- dispatched through the borrowing branch (R301) -/
  borrowed : Bool := false
  deriving DecidableEq, Repr

/-- The counters of a core's rig (R37). -/
structure RigCounters where
  busy : Nat := 0
  tileOps : Nat := 0
  squashed : Nat := 0
  stale : Nat := 0
  retries : Nat := 0
  deriving DecidableEq, Repr

/-- A cached translation of a core's translation unit (R257). -/
structure TcEntry where
  part : Nat := 0
  page : Nat := 0
  size : Nat := 0
  leaf : Word := 0
  deriving DecidableEq, Repr

/-- A scalar access that waits for its answer: 0 load, 1 LR, 2 AMO, 3 SC; where the value goes and how it is widened; the request
tag of a read from a remote page. -/
structure MemWait where
  kind : Nat := 0
  rd : Nat := 0
  toF : Bool := false
  size : Nat := 8
  signed : Bool := false
  va : Nat := 0
  tag : Option Nat := none
  /-- queue entries numbered below this are older in program order -/
  upTo : Nat := 0
  deriving DecidableEq, Repr

/-- What a program has done since its last command that has a row: the address it stands at, core cycles and instructions
retired, the scalar registers that plain arithmetic and control flow have written, and then the CSRs it has read, each with the register
that takes the value (R187, R194). -/
structure Prog where
  core : Fin 512 := 0
  pc : Word := 0
  cycle : Nat := 0
  retired : Nat := 0
  x : List (Fin 32 × Word) := []
  f : List (Fin 32 × BitVec 32) := []
  fcsr : Option (BitVec 8) := none
  csrs : List (Fin 32 × BitVec 12) := []
  deriving DecidableEq, Repr

/-- The scalar side of a control core (R187 to R191). -/
structure Scalar where
  x : KMap Word := []
  f : KMap (BitVec 32) := []
  fcsr : BitVec 8 := 0
  pc : Word := 0
  /-- the privilege mode: machine mode runs the monitor, user mode the job's program (R187) -/
  machine : Bool := true
  mcause : Word := 0
  mtval : Word := 0
  /-- local data store, by offset from 0xFFFF_FFFF_FFFF_8000 (R188) -/
  lds : Memory := []
  ldsPoison : NSet := []
  /-- the reservation of LR: a line of the module address space, or of the local data store (R189) -/
  resv : Option (Bool × Nat) := none
  cycle : Nat := 0
  /-- fabric time at which `cycle` was last known (R206) -/
  cycleAt : Time := 0
  instret : Nat := 0
  /-- coherent-window stores, AMOs and SCs of the core not yet performed, oldest first: the line's virtual address (R278) -/
  stores : List Nat := []
  /-- a scalar load, LR, AMO or SC whose answer is awaited (R277, R279, R255) -/
  wait : Option MemWait := none
  deriving DecidableEq, Repr

/-- The tensor registers and CSRs of a control core (R192 to R198). -/
structure TensorRegs where
  td : KMap (BitVec 128) := []
  cr : KMap (BitVec 1024) := []
  crUnchecked : NSet := []
  txctl : Word := 5
  txfault : Word := 0
  txfaultpc : Word := 0
  tdsel : Word := 0
  crsel : Word := 0
  tcs : KMap Word := []
  tcsx : KMap Word := []
  owner : KMap Nat := []
  accState : KMap (BitVec 32) := []
  svRecord : KMap (BitVec 32) := []
  /-- the number of the MMA, in issue order, that last set each group's state (R96, R123) -/
  accBy : KMap Nat := []
  vxRecord : BitVec 32 := 0
  txsqcnt : Nat := 0
  txsqcyc : Nat := 0
  txarmovr : Nat := 0
  deriving DecidableEq, Repr

/-- One core (01 R14, R17; 07). -/
structure Core where
  sc : Scalar := {}
  tx : TensorRegs := {}
  tiq : List TiqEntry := []
  nextId : Nat := 0
  arms : KMap ArmRec := []
  /-- accumulation groups the job declares (R119, TXJOB) -/
  accGroups : Nat := 0
  run : Option Running := none
  ending : Option Ending := none
  /-- fabric times of residue and duplicate mismatches (R112), and of pipeline parity faults (R444) -/
  mismatches : List Time := []
  parityFaults : List Time := []
  cnt : RigCounters := {}
  dbg : Bool := false
  /-- stack-bank pairs retired, and the pairs that the local window leaves out since the last load (R244) -/
  retiredPairs : BitVec 32 := 0
  windowOut : BitVec 32 := 0
  /-- the core's memory addresses are not served (R455), and the finding it was retired for -/
  offline : Bool := false
  finding : Cause := 0
  tcache : List TcEntry := []
  pcache : List TcEntry := []
  /-- when the matrix engine (0) and the vector engine (1) last had work or woke (R404) -/
  worked : KMap Time := []
  deriving DecidableEq, Repr

end Sys2Proof.Machine
end

