-- ==== Sys2Proof/Machine/FrontState.lean ====
section
/-!
DEFINITION. State of the memories beyond the cores, of the coherent windows and of the command front end as plain
data (09 R240 to R249, 10 R270 to R281, 11 R284 to R311). Field defaults are the reset values.
-/
namespace Sys2Proof.Machine

/-- A sideband slot with PRESENT set (R248): the 64-bit sideband and START. -/
structure Slot where
  word : BitVec 64 := 0
  start : BitVec 3 := 0
  deriving DecidableEq, Repr

/-- A hub-cache line of ways 0 to 14 (R245): dirty, and the key slot it was written under. -/
structure HcLine where
  dirty : Bool := false
  keySlot : Nat := 0
  deriving DecidableEq, Repr

/-- A line of the egress write-back buffer (R270): home module, partition, virtual line, byte mask and bytes. -/
structure EgressLine where
  home : BitVec 14 := 0
  part : Nat := 0
  pkey : BitVec 16 := 0
  va : Nat := 0
  mask : BitVec 64 := 0
  bytes : List Byte := []
  poison : Bool := false
  deriving DecidableEq, Repr

/-- A reader copy of a coherent-window line homed elsewhere, or an eviction record of one (R279, R280). -/
structure ReaderCopy where
  home : BitVec 14 := 0
  pkey : BitVec 16 := 0
  va : Nat := 0
  data : Nat := 0
  poison : Bool := false
  tag : BitVec 16 := 0
  gen : BitVec 6 := 0
  time : Time := 0
  deriving DecidableEq, Repr

/-- What is known of a 64 KiB page of DRAM that has been mapped (R256, R430): the key slot and generation it was last mapped under, the
partition, and the leaves that map it now. -/
structure PageRec where
  slot : Nat := 0
  gen : Nat := 0
  part : Nat := 0
  refs : Nat := 0
  deriving DecidableEq, Repr

/-- The memories (09): plaintext home copies by module physical address, poison by 64-byte line, sideband slots by
512-byte block, the hub cache, the egress buffer, the ciphertext of written-back DRAM lines, the channels. -/
structure MemState where
  mem : Memory := []
  poison : NSet := []
  side : KMap Slot := []
  hub : KMap HcLine := []
  egress : List EgressLine := []
  /-- hub-cache banks retired, 0 to 255 (R454) -/
  hubRetired : NSet := []
  /-- ciphertext of DRAM lines as last written back (R245, R428) -/
  dram : KMap Nat := []
  /-- DRAM channels in the interleave map, and those retired since (R247) -/
  mapOut : NSet := []
  chanRetired : NSet := []
  /-- the 64 KiB pages of mappable DRAM and of the coherent windows that have been mapped (R254, R256, R430) -/
  pages : KMap PageRec := []
  /-- first free byte of the region that page tables are taken from -/
  tableNext : Nat := 0x7600010000
  dramOn : Bool := false
  selfRefresh : Bool := false
  deriving DecidableEq, Repr

/-- A sharer of a coherent-window line (R279). -/
structure Sharer where
  module : BitVec 14 := 0
  tag : BitVec 16 := 0
  gen : BitVec 6 := 0
  deriving DecidableEq, Repr

/-- What a WRITE asks the home to do (R277, R279): a masked store, an AMO, an SC or an LR's read. -/
inductive CohOp where
  | store (off : Nat) (bytes : List Byte)
  | amo (op : Nat) (wide : Bool) (off : Nat) (v : Word)
  | sc (wide : Bool) (off : Nat) (v : Word)
  | lr (wide : Bool) (off : Nat)
  /-- a write of the line already in the home copy: a bead, or the hub's own (R268) -/
  | wrote
  deriving DecidableEq, Repr

/-- A coherence message (R279). `va` is the line's virtual address in the partition that `pkey` names. -/
inductive CohMsg where
  | readSh (src : BitVec 14) (pkey : BitVec 16) (va : Nat) (core : Nat)
  | grant (src : BitVec 14) (pkey : BitVec 16) (va : Nat) (data : Nat) (poison : Bool) (tag : BitVec 16) (gen : BitVec 6)
      (uncached : Bool) (core : Nat) (cause : Cause)
  | write (src : BitVec 14) (pkey : BitVec 16) (va : Nat) (op : CohOp) (rig : BitVec 32) (core : Nat)
  | writeAck (src : BitVec 14) (pkey : BitVec 16) (va : Nat) (result : Word) (ok : Bool) (core : Nat) (cause : Cause)
  | snoopInv (src : BitVec 14) (pkey : BitVec 16) (va : Nat) (gen : BitVec 6)
  | ansInvalidated (src : BitVec 14) (pkey : BitVec 16) (va : Nat) (tag : BitVec 16)
  | ansEvicting (src : BitVec 14) (pkey : BitVec 16) (va : Nat) (tag : BitVec 16)
  | evictNotice (src : BitVec 14) (pkey : BitVec 16) (va : Nat) (tag : BitVec 16) (gen : BitVec 6)
  deriving DecidableEq, Repr

/-- An invalidation round in flight (R279, R281). -/
structure Round where
  op : CohOp := .store 0 []
  writer : BitVec 14 := 0
  rig : BitVec 32 := 0
  core : Nat := 0
  pkey : BitVec 16 := 0
  va : Nat := 0
  waiting : List Sharer := []
  sent : Time := 0
  resends : Nat := 0
  deriving DecidableEq, Repr

/-- Directory state of one line of windows 1 to 15 at its home (R279). -/
structure DirLine where
  sharers : List Sharer := []
  gen : BitVec 6 := 0
  round : Option Round := none
  held : List CohMsg := []
  /-- writes performed, so that an SC sees whether its line was written since the LR (R277) -/
  writes : Nat := 0
  deriving DecidableEq, Repr

/-- A reservation held at the home for a core's Rig ID (R277). -/
structure HomeResv where
  rig : BitVec 32 := 0
  line : Nat := 0
  writes : Nat := 0
  deriving DecidableEq, Repr

/-- A snoop that a reader has answered (R277, R279): a GRANT of its generation that comes later is of the value before the write. -/
structure Snooped where
  pkey : BitVec 16 := 0
  va : Nat := 0
  gen : BitVec 6 := 0
  time : Time := 0
  deriving DecidableEq, Repr

/-- A pending WAIT at the semaphore home (R231). -/
structure PendingWait where
  core : Nat := 0
  id : Nat := 0
  sem : Nat := 0
  threshold : Word := 0
  consume : Bool := false
  deriving DecidableEq, Repr

/-- The coherence engine and the semaphore unit (10). -/
structure CohState where
  dir : KMap DirLine := []
  copies : List ReaderCopy := []
  evicted : List ReaderCopy := []
  snooped : List Snooped := []
  resv : List HomeResv := []
  nextTag : BitVec 16 := 0
  waits : List PendingWait := []
  deriving DecidableEq, Repr

/-- Queue states (R287). -/
inductive QState where
  | free | active | error | draining
  deriving DecidableEq, Repr

/-- A submission entry (R290). -/
structure SubEntry where
  pc : Word := 0
  eflags : BitVec 32 := 0
  userTag : BitVec 32 := 0
  sigHandle : Word := 0
  sigInc : Word := 0
  args : List Byte := []
  deriving DecidableEq, Repr

/-- An entry fetched, dispatched or ended, in submission order (R289, R294, R42, R43). -/
structure FlightEntry where
  index : Nat := 0
  e : SubEntry := {}
  /-- core it was dispatched to, with its start; or the member module it was forwarded to (R288) -/
  core : Option Nat := none
  member : Option (BitVec 14) := none
  running : Bool := false
  /-- dispatched through the borrowing branch (R301) -/
  borrowed : Bool := false
  ended : Option Ending := none
  /-- fabric time at which it ended on its core -/
  endedAt : Time := 0
  /-- completion steps done: SIGNAL applied or discarded with its cause (R294, R295) -/
  sigPosted : Bool := false
  sigDone : Option Cause := none
  deriving DecidableEq, Repr

/-- A queue (R284 to R301). -/
structure Queue where
  state : QState := .free
  gen : BitVec 6 := 0
  part : Nat := 0
  func : Nat := 0
  desc : List Byte := []
  rig : BitVec 32 := 0
  tail : BitVec 32 := 0
  fetched : BitVec 32 := 0
  /-- entries fetched and not dispatched, oldest first -/
  ahead : List FlightEntry := []
  /-- entries dispatched and not yet completed, in submission order -/
  flight : List FlightEntry := []
  records : Nat := 0
  cqHead : BitVec 32 := 0
  lastPoll : Option Time := none
  credit : Int := 0
  windowCharge : Nat := 0
  underDemand : Bool := false
  created : Time := 0
  waitStart : Option Time := none
  urgent : Bool := false
  stays : Nat := 0
  msixPending : Bool := false
  lastMsix : Option Time := none
  credited : Time := 0
  deriving DecidableEq, Repr

/-- A transfer stream (R225, R306). -/
structure Stream where
  part : Nat := 0
  dest : BitVec 14 := 0
  open' : Bool := false
  closing : Bool := false
  inFlight : Nat := 0
  deriving DecidableEq, Repr

/-- One kind of identifier: generations, the time at which each freed one entered quarantine, and the module reset at which every
free one entered it (R303, R304). -/
structure IdTable where
  gens : KMap (BitVec 6) := []
  used : NSet := []
  quarantine : KMap Time := []
  allSince : Option Time := none
  deriving DecidableEq, Repr

/-- A notice (R308, R309), PHASE and LOST apart: those belong to the ring it is written to. -/
structure Notice where
  code : Cause := 0
  cls : BitVec 3 := 0
  part : Option Nat := none
  rig : BitVec 32 := 0
  time : Time := 0
  arg0 : Word := 0
  arg1 : Word := 0
  lost : Bool := false
  deriving DecidableEq, Repr

/-- A notice ring in host memory (R310, R518): the physical function's is ring 0, partition `p`'s is ring 4097 + p. -/
structure NoticeRing where
  base : Word := 0
  log2 : BitVec 8 := 8
  vector : BitVec 16 := 0
  tail : Nat := 0
  head : Nat := 0
  /-- numbers of the records of class permanent or higher that the host has not read (21 R536) -/
  alerts : NSet := []
  /-- notices dropped since space last returned, and in all (R311) -/
  lost : Nat := 0
  drops : Nat := 0
  deriving DecidableEq, Repr

/-- A notice held while a ring is full, with its ring (R311). -/
structure HeldNotice where
  ring : Nat := 0
  n : Notice := {}
  deriving DecidableEq, Repr

/-- Scheduling state of one core (R298, R301, R302). -/
structure SchedCore where
  borrow : Int := 0
  last : KMap Nat := []
  settled : Time := 0
  deriving DecidableEq, Repr

/-- An entry of a queue that another module holds, forwarded here whole (R288). -/
structure ForwardedEntry where
  holder : BitVec 14 := 0
  queue : Nat := 0
  gen : BitVec 6 := 0
  rig : BitVec 32 := 0
  part : Nat := 0
  credit : Int := 0
  urgent : Bool := false
  /-- CLASS and RT_SHARE of the holder's queue, whether it is under-demand, when it began to wait -/
  cls : Nat := 0
  share : Nat := 0
  under : Bool := false
  since : Time := 0
  e : FlightEntry := {}
  deriving DecidableEq, Repr

/-- What this module last heard of another module of its group rigs (01 R37, R38): the RCB of its module rig, and the largest sum of
RT_SHARE over one of its cores (R286). -/
structure PeerRig where
  rcb : List Byte := []
  rtMax : Nat := 0
  /-- base cost and one core's engine cost, for the least POWER_REQ (15 R407) -/
  base : Nat := 0
  engine : Nat := 0
  /-- queues it holds that are bound to its mast group, and to the system (R37) -/
  groupQueues : Nat := 0
  systemQueues : Nat := 0
  deriving DecidableEq, Repr

/-- An ACTIVE real-time queue that another module holds and whose rig contains this module's cores (R286, R301). -/
structure PeerRt where
  holder : BitVec 14 := 0
  queue : Nat := 0
  rig : BitVec 32 := 0
  share : Nat := 0
  deriving DecidableEq, Repr

/-- An interrupt that a queue had still to send when its last completion was written (R287, R297). -/
structure LateMsix where
  queue : Nat := 0
  func : Nat := 0
  vector : Nat := 0
  due : Time := 0
  deriving DecidableEq, Repr

/-- The command front end (11). -/
structure FrontEnd where
  queues : KMap Queue := []
  qIds : IdTable := {}
  streams : KMap Stream := []
  sIds : IdTable := {}
  semIds : IdTable := {}
  sched : KMap SchedCore := []
  forwarded : List ForwardedEntry := []
  rings : KMap NoticeRing := []
  held : List HeldNotice := []
  stale : Nat := 0
  window : Nat := 1000000
  tUrgent : Nat := 2000000
  tStay : Nat := 50000000
  windowStart : Time := 0
  peers : KMap PeerRig := []
  peerRt : List PeerRt := []
  lateMsix : List LateMsix := []
  deriving DecidableEq, Repr

end Sys2Proof.Machine
end

