-- ==== Sys2Proof/Machine/FabricState.lean ====
section
/-!
DEFINITION. State of the Maltuox links and of the fabric as plain data (12 R313 to R339, 13 R341 to R371): ports,
replay buffers, training, packets, switches, pair order, epochs, halyards. Field defaults are the reset values.
-/
namespace Sys2Proof.Machine

/-- A fabric packet (R343): header fields in header order, then the payload. -/
structure Packet where
  ptype : Nat := 0
  tc : Nat := 0
  age : Nat := 0
  epoch : Nat := 0
  dst : BitVec 14 := 0
  src : BitVec 14 := 0
  pkey : BitVec 16 := 0
  ts : BitVec 16 := 0
  stream : Nat := 0
  gen : BitVec 6 := 0
  pseq : BitVec 16 := 0
  sync : Bool := false
  pmask : BitVec 8 := 0
  addr : Nat := 0
  frag : Nat := 0
  last : Bool := false
  cform : Nat := 0
  /-- reserved bits [120:80], zero in what this module posts, forwarded unchanged (R343) -/
  rsv : BitVec 41 := 0
  xarg : BitVec 64 := 0
  hcrc : BitVec 16 := 0
  payload : List Byte := []
  deriving DecidableEq, Repr

/-- The operation that owns posted packets, told of acknowledgement or loss (R360, R364). -/
inductive Owner where
  | none
  | tensor (core id : Nat)
  | rflush (core id : Nat)
  | entrySignal (queue index : Nat)
  | load (core : Nat)
  | egress
  | clasp (part : Nat)
  | host (read : Nat)
  deriving DecidableEq, Repr

/-- A packet that waits in the hub egress, or stands in a window, with its owner (R357, R360). -/
structure Posted where
  p : Packet := {}
  owner : Owner := .none
  /-- full fabric time of its posting (R362) -/
  time : Time := 0
  deriving DecidableEq, Repr

/-- Port states (R324), in code order. -/
inductive LinkState where
  | disabled | detect | equalize | laneTest | identify | keyAgree | active | width | retrain | failed | down
  deriving DecidableEq, Repr

/-- STATE code of LINK_STATUS (R324). -/
def LinkState.code : LinkState → Nat
  | .disabled => 0 | .detect => 1 | .equalize => 2 | .laneTest => 3 | .identify => 4 | .keyAgree => 5 | .active => 6
  | .width => 7 | .retrain => 8 | .failed => 9 | .down => 10

/-- An IDENT frame's body (R326). -/
structure Ident where
  serial : BitVec 64 := 0
  module : BitVec 14 := 0
  unassigned : Bool := true
  port : BitVec 5 := 0
  enc : Bool := false
  lanes : BitVec 4 := 0
  pubKey : BitVec 768 := 0
  nonce : BitVec 256 := 0
  deriving DecidableEq, Repr

/-- A frame held in the replay buffer (R319, R320). -/
structure HeldFrame where
  fseq : BitVec 12 := 0
  packets : List Packet := []
  sends : Nat := 1
  deriving DecidableEq, Repr

/-- Framing state of a port and direction (R315, R317, R319, R320, R333, R334). -/
structure Framing where
  replay : List HeldFrame := []
  nextFseq : BitVec 12 := 0
  /-- last DATA FSEQ received in order -/
  fack : BitVec 12 := 0xFFF
  /-- last FACK the far end has given -/
  peerAck : BitVec 12 := 0xFFF
  nakSent : Bool := false
  gcount : BitVec 32 := 0
  rxGcount : BitVec 32 := 0
  locked : Bool := false
  txCount : BitVec 64 := 0
  rxCount : BitVec 64 := 0
  txKey : Nat := 0
  txSalt : Nat := 0
  rxKey : Nat := 0
  rxSalt : Nat := 0
  tagFails : List Time := []
  /-- packets given to the port for its next frame (R321) -/
  frame : List Packet := []
  /-- when the far end's FACK last advanced (R320) -/
  ackAt : Time := 0
  /-- when `gcount` was the group being sent -/
  gAt : Time := 0
  /-- the group whose marker has gone out (R315) -/
  sentGroup : Option (BitVec 32) := none
  /-- LANES of the last good marker received (R315) -/
  rxLanes : BitVec 4 := 0
  deriving DecidableEq, Repr

/-- Training, retrain and width negotiation of a port (R324 to R330). -/
structure Training where
  reqOutstanding : Option Nat := none
  reqResends : Nat := 0
  reqAt : Time := 0
  /-- the training in progress is a retrain, told of when it ends (R325) -/
  retraining : Bool := false
  switchGroup : Option (BitVec 32) := none
  widthGroup : Option (BitVec 32) := none
  failedAt : Time := 0
  proposal : Option (BitVec 4) := none
  newLanes : BitVec 4 := 0
  laneOver : KMap Nat := []
  codewordOver : Nat := 0
  passed : BitVec 4 := 0
  /-- FAILED for a cause that does not retry on its own (R326) -/
  stuck : Bool := false
  /-- the subindex of the port's object at fault, 0 for none (R326) -/
  fault : Nat := 0
  failReported : Bool := false
  retrainReason : Nat := 0
  /-- the IDENT that this end has sent in this training (R326) -/
  myIdent : Ident := {}
  identAt : Time := 0
  peerIdent : Option Ident := none
  deriving DecidableEq, Repr

/-- Beacon and seal state of a port (R336, R337). -/
structure PortTime where
  bseq : BitVec 16 := 0
  sentAt : Option Time := none
  echoSeq : BitVec 16 := 0
  echoRx : Time := 0
  delay : BitVec 32 := 0
  offset : BitVec 32 := 0
  skipNext : Bool := false
  sealSentAt : Option Time := none
  sealMiss : Nat := 0
  sealNoticed : Option Time := none
  lastSeal : Option Time := none
  hops : BitVec 8 := 0
  root : BitVec 14 := 0
  wraps : BitVec 16 := 0
  beaconAt : Option Time := none
  peerEpoch : BitVec 64 := 0
  deriving DecidableEq, Repr

/-- A Maltuox port (12). -/
structure Port where
  state : LinkState := .detect
  activeLanes : BitVec 4 := 0
  retiredLanes : BitVec 4 := 0
  encOn : Bool := false
  peerPort : BitVec 5 := 0
  peerModule : BitVec 14 := 0
  peerAssigned : Bool := false
  peerSerial : BitVec 64 := 0
  peerKey : BitVec 384 := 0
  fr : Framing := {}
  tr : Training := {}
  tm : PortTime := {}
  replays : Nat := 0
  framesLost : Nat := 0
  /-- events 0x0501 and 0x0508 counted (R320, R323), and frames whose tag failed (R334) -/
  exhausted : Nat := 0
  lockLosses : Nat := 0
  tagFailures : Nat := 0
  /-- the port is out of the default routes for a cable mismatch (R490) -/
  cableBad : Bool := false
  keyTable : KMap (BitVec 16) := []
  deriving DecidableEq, Repr

/-- Counters of a port (R371), per traffic class where the table lists eight. -/
structure PortCounters where
  txPkts : KMap Nat := []
  txBytes : KMap Nat := []
  rxPkts : KMap Nat := []
  rxBytes : KMap Nat := []
  deflect : Nat := 0
  expired : Nat := 0
  keyDrops : Nat := 0
  keyDropsNoted : Nat := 0
  keyNoticed : Option Time := none
  noSlot : Nat := 0
  halyardBad : Nat := 0
  deriving DecidableEq, Repr

/-- An injection queue with the cycles its head has waited (R351). -/
structure InjQueue where
  q : List Packet := []
  wait : Nat := 0
  max : Nat := 0
  stall : Nat := 0
  deriving DecidableEq, Repr

/-- A routing bank (R349): entry by destination; a bank not loaded answers to no epoch. -/
structure Bank where
  loaded : Bool := false
  epoch : Nat := 0
  /-- the census's table, computed from the torus (R349), and not a written one -/
  computed : Bool := false
  table : KMap Nat := []
  deriving DecidableEq, Repr

/-- One die's fabric switch (R341, R349, R350, R367, R368, R371). -/
structure Switch where
  /-- packets that a transit input brings, oldest first -/
  inputs : KMap (List Packet) := []
  /-- an injection head promoted into the next arbitration (R351), with its queue -/
  promoted : Option (Nat × Packet) := none
  inj : KMap InjQueue := []
  /-- packets that have come from this die to the hub's ingress unit, oldest first (R342) -/
  ingress : List Packet := []
  ejectMax : Nat := 0
  detour : List Packet := []
  halyardQ : KMap (List Packet) := []
  bank0 : Bank := { loaded := true, epoch := 0, computed := true }
  bank1 : Bank := {}
  rr : Nat := 0
  injRR : Nat := 0
  cycle : Nat := 0
  halyardTable : KMap (BitVec 16) := []
  /-- a staged table waits in the idle bank (R365) -/
  staged : Bool := false
  detours : Nat := 0
  detourDrops : Nat := 0
  restamps : Nat := 0
  halyardDrops : Nat := 0
  hcrcDrops : Nat := 0
  expiredDrops : Nat := 0
  unreachable : Nat := 0
  deriving DecidableEq, Repr

/-- Pair order toward one destination (R357, R363). -/
structure PairOut where
  next : BitVec 16 := 0
  window : List Posted := []
  /-- SYNC is set on posts until an acknowledgement comes back -/
  sync : Bool := true
  deriving DecidableEq, Repr

/-- A bead whose fragments are being gathered (R345): the fragments by index, the index of the last one once it is known. -/
structure BeadAsm where
  addr : Nat := 0
  frags : KMap (List Byte) := []
  last : Option Nat := none
  /-- poisoned lines of the record -/
  poison : List Nat := []
  broken : Bool := false
  deriving DecidableEq, Repr

/-- Pair order from one source (R358 to R363). -/
structure PairIn where
  synced : Bool := false
  frontier : BitVec 16 := 0
  held : List Packet := []
  /-- sequence numbers ahead of the frontier that are declared lost or skipped -/
  gone : NSet := []
  asm : List BeadAsm := []
  lastAdvance : Option Time := none
  ackPending : Bool := false
  lastAck : Option Time := none
  pkey : BitVec 16 := 0
  /-- packets applied to lines of a coherent window whose reader copies are still being invalidated, by number, with those lines (10 R277) -/
  owed : List (BitVec 16 × NSet) := []
  deriving DecidableEq, Repr

/-- An outstanding RECV (R364): its stream, its request tag, the bead positions not yet written. -/
structure RecvOp where
  core : Nat := 0
  id : Nat := 0
  stream : Nat := 0
  tag : Nat := 0
  lastReq : Time := 0
  remaining : List Nat := []
  asm : List BeadAsm := []
  cause : Cause := 0
  deriving DecidableEq, Repr

/-- A fill being received (R374, R375): its partition, destination extent, bead stride, the address after the last bead, whether it is written. -/
structure FillIn where
  part : Nat := 0
  dst : Nat := 0
  bytes : Nat := 0
  stride : Nat := 0
  next : Nat := 0
  ok : Bool := false
  deriving DecidableEq, Repr

/-- Delivery state of one halyard at this hub (R369, R374, R375). -/
structure HalyardIn where
  nextSeq : BitVec 32 := 0
  held : List Packet := []
  gapSince : Option Time := none
  repairs : Nat := 0
  root : BitVec 14 := 0
  fill : Option FillIn := none
  asm : List BeadAsm := []
  deriving DecidableEq, Repr

/-- Sending state of one halyard at its root (R369). -/
structure HalyardOut where
  nextSeq : BitVec 32 := 0
  sent : List Packet := []
  deriving DecidableEq, Repr

/-- The fabric (13). -/
structure FabricState where
  switches : KMap Switch := []
  egressWait : List Posted := []
  /-- packets of the hub that are not of the pair order, on the way to the HUB injection queues -/
  hubOut : List Packet := []
  out : KMap PairOut := []
  inn : KMap PairIn := []
  recvs : List RecvOp := []
  reorderBytes : Nat := 0
  reorderMax : Nat := 0
  lostRx : Nat := 0
  lostTx : Nat := 0
  reorderFull : Nat := 0
  fullNoticed : Option Time := none
  ingressKeyDrops : Nat := 0
  ingressKeyNoted : Nat := 0
  ingressKeyNoticed : Option Time := none
  ingressExpired : Nat := 0
  epoch : Nat := 0
  armed : Option Time := none
  retireAt : Option Time := none
  halyIn : KMap HalyardIn := []
  halyOut : KMap HalyardOut := []
  ports : KMap PortCounters := []
  nextReqTag : Nat := 0
  deriving DecidableEq, Repr

end Sys2Proof.Machine
end

