-- ==== Sys2Proof/Machine/PartState.lean ====
section
/-!
DEFINITION. State of partitions, rigs, the package, power, security, reliability, reset, bring-up, the dictionary and
the host interface as plain data (01, 14 to 21). Field defaults are the reset values.
-/
namespace Sys2Proof.Machine

/-- One journal slot as a member reports it (R387 to R390): valid, its step and STATE, whether its gradient and its pre-update beads
all verify, and a digest of its entry table but for PRE_OFF and GRAD_OFF. -/
structure JrnSlot where
  valid : Bool := false
  step : Nat := 0
  state : Nat := 0
  grad : Bool := false
  pre : Bool := false
  table : Nat := 0
  deriving DecidableEq, Repr

/-- A member's report in journal recovery (R388). -/
structure JrnReport where
  module : BitVec 14 := 0
  lost : Bool := false
  base : Nat := 0
  slot0 : JrnSlot := {}
  slot1 : JrnSlot := {}
  peers : List (BitVec 14) := []
  deriving DecidableEq, Repr

/-- The journal, replica, digest and fill objects of a partition (R386, R388, R393, R396). -/
structure Journal where
  base : Word := 0
  bytes : Word := 0
  claspHome : BitVec 16 := 0xFFFF
  replayQueue : BitVec 32 := 0
  replayPc : Word := 0
  /-- 0 IDLE, 1 GATHER, 2 REPLAY, 3 DONE -/
  phase : Nat := 0
  decision : Nat := 0
  lastStep : Nat := 0
  voteSem : Word := 0
  closeSem : Word := 0
  members : BitVec 16 := 0
  closeList : List Word := []
  peers : List (BitVec 14) := []
  digestSteps : Nat := 1000
  digestSeconds : Nat := 60
  digestAction : Nat := 1
  digestLast : Nat := 0
  /-- step and time of the last comparison, the tries without a common step, the time of the last try -/
  comparedStep : Nat := 0
  lastCompare : Time := 0
  tries : Nat := 0
  tryAt : Option Time := none
  fillBytes : Nat := 0
  fillGaps : Nat := 0
  unsetNoted : Bool := false
  /-- stack banks here did not survive a reset since the job was loaded (R389) -/
  lost : Bool := false
  /-- at the coordinator: the reports, the members that act, and those whose replay entry has not completed -/
  reports : List JrnReport := []
  acted : Nat := 0
  replays : List (BitVec 14) := []
  step : Nat := 0
  /-- at a member: its replay entry's queue and index, and the coordinator -/
  mine : Option (Nat × Nat × BitVec 14) := none
  deriving DecidableEq, Repr

/-- Hang detection of a partition on this module (18 R477 to R481). -/
structure Hang where
  action : Nat := 0
  quietUs : Nat := 2000
  closed : Bool := false
  blocked : Nat := 0
  events : Nat := 0
  lastEvent : Time := 0
  /-- at the coordinator: the last round's event counts by module where every module was closed, and whether that hang is declared -/
  lastRound : Option (KMap Nat) := none
  declared : Bool := false
  deriving DecidableEq, Repr

/-- A loaded job (R48, R263, R264): the digest of its image and the fabric time of its load are what a hallmark shows (R438). -/
structure Job where
  accGroups : Nat := 1
  digest : BitVec 384 := 0
  loadTime : Time := 0
  /-- SIGNET_MASK when the job began: a signet installed later does not affect it (R4) -/
  signets : BitVec 32 := 0xF
  /-- the job is to end as contained (R451); the rig that consumed poison first, with the first poisoned address -/
  contained : Bool := false
  consumer : Option (BitVec 32 × Word) := none
  deriving DecidableEq, Repr

/-- Debug consent of a partition (R435, R436): SCOPE, the nonce of the next token, the digest of the token in force, its end. -/
structure Consent where
  set : Bool := false
  scope : BitVec 3 := 0
  nonce : BitVec 256 := 0
  digest : BitVec 384 := 0
  notAfter : Time := 0
  deriving DecidableEq, Repr

/-- What a job image uses beyond the base instruction set (R5, R439): pair arithmetic and 4-bit formats. -/
structure LoadUses where
  pair : Bool := false
  four : Bool := false
  deriving DecidableEq, Repr

/-- What another module of a partition answers to a job load (R264, R492): the first check it fails, if any, with the amounts and the rig;
its cores in service and the queues it holds for the partition. -/
structure LoadReport where
  module : BitVec 14 := 0
  cause : Cause := 0
  need : Nat := 0
  have' : Nat := 0
  rig : BitVec 32 := 0
  cores : Nat := 0
  queues : Nat := 0
  deriving DecidableEq, Repr

/-- A request that waits for a re-entry to end (R434), or for a partition reset (R480). -/
inductive HeldReq where
  | map (part va target slot size flags : Nat) (home : Option Bool)
  | unmap (part va size : Nat) (remote : List (BitVec 14))
  | erase (part slot : Nat)
  | hallmark (nonce : BitVec 256)
  | hallmarkPart (part : Nat) (nonce : BitVec 256)
  | load (part va bytes : Nat) (pair four : Bool) (others : List LoadReport)
  deriving DecidableEq, Repr

/-- An unmap that waits for the accesses checked under its leaf (R258): the page, the MPA of its entry and its level, and the committed
tensor instructions, by core and number, that use it. -/
structure Leaving where
  part : Nat := 0
  va : Nat := 0
  size : Nat := 65536
  entry : Nat := 0
  level : Nat := 0
  users : List (Nat × Nat) := []
  deriving DecidableEq, Repr

/-- A partition on this module (01 R46 to R48, 09 R250 to R256, 16, 20). -/
structure Part where
  key : BitVec 16 := 0
  rigs : List (BitVec 32) := []
  /-- translation root: MPA of the root table -/
  root : Nat := 0
  keySlots : List Nat := []
  /-- members of the partition that hold rigs of it -/
  modules : List (BitVec 14) := []
  /-- coherent-window pages of this module that it holds, by 64 KiB page of MPA (R275, R256) -/
  windowPages : NSet := []
  /-- 64 KiB virtual pages mapped REMOTE to a coherent window of another module (R275) -/
  remoteWindow : NSet := []
  job : Option Job := none
  jrn : Journal := {}
  hang : Hang := {}
  consent : Consent := {}
  digestAcc : KMap Word := []
  /-- ARRIVAL_STAY in microseconds (R105) -/
  arrivalStay : Nat := 20000
  /-- HALLMARK_OUT_P (R441) -/
  hallmark : List Byte := []
  tenantKey : List Byte := []
  /-- PFLAGS.DEBUG_ALLOWED (R432) -/
  debugAllowed : Bool := false
  /-- RIGS_DIGEST of its entry (R432) -/
  rigsDigest : BitVec 384 := 0
  /-- last cause of JOB_STATUS (R521) -/
  jobCause : Cause := 0
  deriving DecidableEq, Repr

/-- Rig states (R38). -/
inductive RigState where
  | absent | offline | idle | busy | quiesced | resetting | retired
  deriving DecidableEq, Repr

/-- Code of a rig state (R38). -/
def RigState.code : RigState → Nat
  | .absent => 0 | .offline => 1 | .idle => 2 | .busy => 3 | .quiesced => 4 | .resetting => 5 | .retired => 6

/-- A rig's control block beyond what is counted from its cores (R37, R38). -/
structure Rig where
  state : RigState := .offline
  quiescing : Bool := false
  retained : Bool := false
  resetCount : Nat := 0
  powerReq : Option Nat := none
  /-- retries of the module rig that no core caused (R446) -/
  retries : Nat := 0
  deriving DecidableEq, Repr

/-- A DATA flit queued, held for replay or received on a package link (R19, R20, R23). -/
structure Flit where
  vc : Nat := 0
  seq : BitVec 10 := 0
  sop : Bool := false
  eop : Bool := false
  poison : Bool := false
  payload : List Byte := []
  /-- the stream ID, or the line, by which its packet is placed on a link (R21) -/
  key : Nat := 0
  sends : Nat := 0
  deriving DecidableEq, Repr

/-- One end of a UCIe module (R18 to R24). -/
structure Ucie where
  up : Bool := false
  /-- data rate in GT/s -/
  rate : Nat := 32
  retired : Bool := false
  retraining : Bool := false
  /-- credits held, by virtual channel -/
  credits : KMap Nat := []
  /-- CREDIT_INIT announcements still to be sent (R22) -/
  inits : KMap Nat := []
  /-- receiver buffers freed, whose credits go back in the next flit (R22) -/
  owed : KMap Nat := []
  queue : KMap (List Flit) := []
  replay : List Flit := []
  /-- flits of the replay buffer to be sent again, oldest first -/
  resend : List Flit := []
  nextSeq : BitVec 10 := 0
  expect : BitVec 10 := 0
  ack : BitVec 10 := 0x3FF
  nakSent : Bool := false
  /-- when the far end last sent an ACK or NAK, or the first flit of an empty replay buffer left -/
  heardAt : Time := 0
  /-- flits accepted of packets that have not ended, oldest first -/
  arrived : List Flit := []
  deriving DecidableEq, Repr

/-- A packet of the on-package halyard that is not complete (R26 to R28): the dies whose switches it has reached, its target cores and
those that have not received it, and the clusters and dies that have not acknowledged. -/
structure OnPkg where
  hseq : BitVec 32 := 0
  kind : Nat := 0
  payload : List Byte := []
  reached : NSet := []
  targets : NSet := []
  cores : NSet := []
  clusters : NSet := []
  dies : NSet := []
  deriving DecidableEq, Repr

/-- The package (01). -/
structure Package where
  ucie : KMap Ucie := []
  hseq : BitVec 32 := 0
  onpkg : List OnPkg := []
  discardedKinds : Nat := 0
  /-- physical index in service for a logical core, where a spare serves (R17) -/
  physical : KMap Nat := []
  retiredCores : NSet := []
  sparesUsed : NSet := []
  diesOut : NSet := []
  deriving DecidableEq, Repr

/-- A request in the wake queue (R405, R406): an engine's wake (0 matrix, 1 vector), a core's move to a lower level (2), boost (3). Its
cost is in units of 1/8 W. -/
structure WakeReq where
  core : Nat := 0
  unit : Nat := 0
  level : Nat := 0
  cost : Nat := 0
  time : Time := 0
  deriving DecidableEq, Repr

/-- Power state of one core (R400 to R405): its reef level, boost, the engines awake, its FLL in MHz. -/
structure CorePower where
  reef : Nat := 0
  boost : Bool := false
  matrixOn : Bool := false
  vectorOn : Bool := false
  fll : Nat := 1750
  deriving DecidableEq, Repr

/-- Power state of one cluster (R404, R409, R410, R412): its grant in watts, its droop and thermal levels. -/
structure ClusterPower where
  grant : Nat := 0
  /-- since when watts of the grant stand unused (R404) -/
  unusedAt : Time := 0
  droopLevel : Nat := 0
  droopTimes : List Time := []
  stretched : Bool := false
  stretchSince : Time := 0
  escalated : Time := 0
  thermal : Nat := 0
  thermalAt : Time := 0
  /-- its temperature has been above T_REEF since the level was last raised (R412) -/
  hot : Bool := false
  /-- a temperature sensor of it has failed (R415) -/
  sensorFailed : Bool := false
  deriving DecidableEq, Repr

/-- A sensor's last sample (R414, R420, R422): an FP32 value, and whether the sensor is marked failed (R415). -/
structure Sensor where
  value : BitVec 32 := 0
  time : Time := 0
  failed : Bool := false
  deriving DecidableEq, Repr

/-- An average of input power over windows aligned to fabric time (R398, R420): the sum and count so far, and the last average. -/
structure Average where
  sum : Ext := .fin false 0 0
  count : Nat := 0
  last : BitVec 32 := 0
  deriving DecidableEq, Repr

/-- Power, cooling and measurement (15). -/
structure PowerState where
  holdUs : Nat := 10
  reefFloor : Nat := 0
  budgetFloor : Nat := 0
  enforcement : Nat := 0
  /-- floor of 7 under R413 -/
  undervolt : Bool := false
  /-- a failed input sensor, a failed coolant sensor (R415) -/
  inputFailed : Bool := false
  coolantFailed : Bool := false
  cores : KMap CorePower := []
  clusters : KMap ClusterPower := []
  wakes : List WakeReq := []
  sensors : KMap Sensor := []
  avg10 : Average := {}
  avg100 : Average := {}
  avg1s : Average := {}
  /-- since when the 100 µs average has stayed above the budget, when the enforcement level last rose and fell (R411) -/
  overSince : Option Time := none
  raisedAt : Option Time := none
  /-- when a 10 µs average above 3,600 W last raised the level (R411) -/
  peakAt : Option Time := none
  loweredAt : Time := 0
  lowSince : Option Time := none
  highSince : Option Time := none
  coolMode : Nat := 0
  outletSet : BitVec 32 := 0x42700000
  valveMin : BitVec 32 := 0x41A00000
  valveFixed : BitVec 32 := 0x42C80000
  valveCmd : BitVec 32 := 0x42C80000
  ePrev : BitVec 32 := 0
  valveHot : Bool := false
  valveOffSince : Option Time := none
  /-- a valve fault holds the command at 100% (R418) -/
  valveFaulty : Bool := false
  coolantHold : Bool := false
  dryFrom : Option Time := none
  wetFrom : Option Time := none
  inletHot : Bool := false
  flowLow : Bool := false
  /-- last notices 0x0610 and 0x0620 of each die (R410, R412) -/
  thermalNoticed : KMap Time := []
  droopNoticed : KMap Time := []
  deriving DecidableEq, Repr

/-- The fabric-time unit (R419, R421). -/
structure TimeState where
  /-- TIME_STATE: 0 FREE, 1 ACQUIRE, 2 LOCKED, 3 HOLDOVER -/
  state : Nat := 0
  root : BitVec 14 := 0
  hops : Nat := 0
  wraps : BitVec 16 := 0
  good : Nat := 0
  lastBeacon : Time := 0
  rate : Int := 0
  offset : Int := 0
  deriving DecidableEq, Repr

/-- One entry of a staged protection set-up (R432, R433): the partition table's fields, the rig list, the tenant key, and the modules that
hold rigs of the partition. -/
structure SetupPart where
  index : Nat := 0
  pkey : BitVec 16 := 0
  slotFirst : Nat := 0
  slotCount : Nat := 0
  debugAllowed : Bool := false
  root : Nat := 0
  rigsDigest : BitVec 384 := 0
  rigs : List (BitVec 32) := []
  tenantKey : List Byte := []
  modules : List (BitVec 14) := []
  deriving DecidableEq, Repr

/-- A protection set-up (R432): partition entries in index order and the port key tables. -/
structure Setup where
  parts : List SetupPart := []
  ports : KMap (KMap (BitVec 16)) := []
  deriving DecidableEq, Repr

/-- The re-entry of the protection set-up in progress (R433): the set-up to come, the switch time, the partitions that change. -/
structure Reentry where
  setup : Setup := {}
  at' : Time := 0
  changed : List Nat := []
  deriving DecidableEq, Repr

/-- A memory key slot (R427, R429): the partition key it is assigned to, 0 when free; its generation; retired until power-on. -/
structure KeySlot where
  key : Nat := 0
  gen : Nat := 0
  worn : Bool := false
  deriving DecidableEq, Repr

/-- Security and tenancy (16). -/
structure Security where
  slots : KMap KeySlot := []
  setup : Setup := {}
  staged : Option Setup := none
  reentry : Option Reentry := none
  lastCause : Cause := 0
  tableDigest : BitVec 384 := 0
  held : List HeldReq := []
  /-- map and unmap requests that wait for the page's leaves at other modules (R256), and unmaps under way (R258) -/
  waiting : List HeldReq := []
  leaving : List Leaving := []
  /-- signets installed in the field, in store order after the factory's (R440) -/
  signets : List (List Byte) := []
  /-- the vendor signet key of the firmware (R426) -/
  vendorKey : List Byte := []
  hallmark : List Byte := []
  identityKey : BitVec 768 := 0
  /-- the fused device secret and the boot nonce (R426) -/
  secret : Nat := 0
  bootNonce : Nat := 0
  deriving DecidableEq, Repr

/-- One management pair (R457 to R460): its findings of the last 24 h, the output bit its next self-test inverts. -/
structure Pair where
  inService : Bool := true
  unchecked : Bool := false
  uncheckedSince : Time := 0
  retired : Bool := false
  findings : List Time := []
  rotate : Nat := 0
  restarting : Bool := false
  deriving DecidableEq, Repr

/-- Where an error is found: memory by MPA, a hub-cache bank, a core's local data store, a sideband slot's block. -/
inductive EccSite where
  | mem (a : Nat)
  | hub (bank a : Nat)
  | lds (core off : Nat)
  | side (block : Nat)
  deriving DecidableEq, Repr

/-- A recovery (R461): its domain, and what it does. -/
structure Recovery where
  domain : BitVec 32 := 0
  kind : Nat := 0
  cause : Cause := 0
  arg : Nat := 0
  /-- retirements that it has taken over from the recoveries merged into it, as kind and argument -/
  works : List (Nat × Nat) := []
  /-- RECOVERY_START has begun it -/
  started : Bool := false
  deriving DecidableEq, Repr

/-- A stored test pack (R462 to R466): its header and image, the place in the order of storing, its counters, the last run of each core. -/
structure TestPack where
  header : List Byte := []
  image : List Byte := []
  serial : Nat := 0
  runs : Nat := 0
  fails : Nat := 0
  lastFail : BitVec 32 := 0
  lastRun : Time := 0
  coreRun : KMap Time := []
  deriving DecidableEq, Repr

/-- A test-pack run on a core (R464): the pack's slot, when it began. -/
structure TestRun where
  slot : Nat := 0
  since : Time := 0
  deriving DecidableEq, Repr

/-- Reliability (17). -/
structure Reliability where
  /-- REL_SRAM_CORRECTED to REL_DRAM_REREADS by sub-index 3 to 8, lockstep counters by 0x22 to 0x24 (R466) -/
  counters : KMap Nat := []
  /-- entries of each bank's hard-bit table, by channel (R445) -/
  hardBits : KMap NSet := []
  /-- fabric times of transient faults, by channel (R453) -/
  transients : KMap (List Time) := []
  /-- uncorrectable DRAM lines with their times, by channel (R454) -/
  badLines : KMap (List (Nat × Time)) := []
  security : Pair := {}
  system : Pair := {}
  /-- which pair holds the security role and the system role: true the security pair -/
  secRole : Bool := true
  sysRole : Bool := false
  running : Option Recovery := none
  waiting : Option Recovery := none
  packs : KMap TestPack := []
  packSerial : Nat := 0
  /-- the vendor test-pack key of the firmware (R462) -/
  packKey : List Byte := []
  testing : KMap TestRun := []
  /-- SRAM lines just poisoned that the scrubber has not tested (R447) -/
  toTest : List EccSite := []
  deriving DecidableEq, Repr

/-- A rig reset in progress (R40, R471). -/
structure RigReset where
  rig : BitVec 32 := 0
  /-- L4 and L5 rigs whose reset this module's is a part of (R38, R39) -/
  groups : List (BitVec 32) := []
  /-- a partition reset: its partition, every rig of which is in the domain -/
  part : Option Nat := none
  retain : Bool := false
  /-- verbs merged into this reset (R40) -/
  merged : Nat := 0
  cause : Cause := 0
  pendingQuiesce : Bool := false
  /-- a die-level recovery (R475): the cores that fail its logic test, and whether one of its steps fails -/
  dieTest : Bool := false
  bist : List Nat := []
  fails : Bool := false
  deriving DecidableEq, Repr

/-- A neighbour watched for failure (R476). -/
structure Watch where
  lastSeal : Time := 0
  announced : Option Time := none
  deriving DecidableEq, Repr

/-- Reset, hang detection and recovery (18). -/
structure ResetState where
  running : List RigReset := []
  lastCause : Cause := 0
  lastTime : Time := 0
  watch : KMap Watch := []
  failed : NSet := []
  deriving DecidableEq, Repr

/-- A firmware image in a flash bank (R484, R485). -/
structure FwImage where
  valid : Bool := false
  version : Nat := 0
  svn : Nat := 0
  digest : BitVec 384 := 0
  deriving DecidableEq, Repr

/-- A configuration (R494 to R498): its epoch, the SEAL values, and its seal. -/
structure ConfigImage where
  epoch : Nat := 0
  values : KMap (List Byte) := []
  sealDigest : BitVec 384 := 0
  deriving DecidableEq, Repr

/-- Bring-up, firmware, census, configuration (19). -/
structure BringUp where
  /-- 0 off, 1 sequencing, 2 boot, 3 in service, 4 ROM recovery -/
  phase : Nat := 0
  bankA : KMap FwImage := []
  bankB : KMap FwImage := []
  activeB : Bool := false
  nextB : Bool := false
  svn : KMap Nat := []
  romRecovery : Bool := false
  /-- FW_STATUS: B3 fetched, the last cause (R485, R500) -/
  b3Fetched : Bool := false
  fwCause : Cause := 0
  moduleId : BitVec 16 := 0xFFFF
  moduleIdCfg : BitVec 16 := 0xFFFF
  censusOrigin : Bool := false
  /-- CENSUS_STATE: 0 UNASSIGNED, 1 ASSIGNED, 2 COMPLETE -/
  censusState : Nat := 0
  systemModules : Nat := 0
  censusCount : Nat := 0
  children : NSet := []
  childPorts : NSet := []
  parentPort : Option Nat := none
  /-- the last SEAL frame of the parent matched (R492), the claim is acknowledged, a root summary has come -/
  parentMatch : Bool := false
  claimAcked : Bool := false
  summarySeen : Bool := false
  summary : List (BitVec 14 × BitVec 64 × Nat) := []
  firstActive : Option Time := none
  serial : BitVec 64 := 0
  /-- the vendor firmware key, whose digest is fused (R484) -/
  fwKey : List Byte := []
  deriving DecidableEq, Repr

/-- The configuration machinery (R494 to R499). -/
structure ConfigState where
  force : ConfigImage := {}
  staged : Option ConfigImage := none
  previous : Option ConfigImage := none
  armed : Option Time := none
  lastCause : Cause := 0
  switchTime : Time := 0
  deriving DecidableEq, Repr

/-- An open segmented write (R510). -/
structure OpenWrite where
  owner : Nat := 0
  index : Nat := 0
  offset : Nat := 0
  total : Nat := 0
  data : List Byte := []
  deadline : Time := 0
  /-- a takeover of the serving pair has ended it: its next segment is told 0x0883 (R510) -/
  ended : Bool := false
  deriving DecidableEq, Repr

/-- A kept response, or an outstanding request of this module's own (R515). -/
structure KeptTxn where
  peer : Nat := 0
  txn : Nat := 0
  message : List Byte := []
  time : Time := 0
  resends : Nat := 0
  deriving DecidableEq, Repr

/-- A mailbox of a function (R512, R513). -/
structure Mailbox where
  busy : Bool := false
  done : Bool := false
  overrun : Bool := false
  reqLen : Nat := 0
  rspLen : Nat := 0
  irqEn : Bool := false
  vector : Nat := 0
  member : Nat := 0
  request : List Byte := []
  response : List Byte := []
  deriving DecidableEq, Repr

/-- An object's version, and the value it was last seen with (R510). -/
structure VTag where
  tag : BitVec 32 := 1
  seen : List Byte := []
  deriving DecidableEq, Repr

/-- The dictionary (20): objects that are plain storage, value version tags, transports. -/
structure DictState where
  values : KMap (List Byte) := []
  vtags : KMap VTag := []
  opens : List OpenWrite := []
  kept : List KeptTxn := []
  sent : List KeptTxn := []
  boxes : KMap Mailbox := []
  udpDiscards : Nat := 0
  delayed : List KeptTxn := []
  deriving DecidableEq, Repr

/-- A host access forwarded by the anchor and not completed (R532). -/
structure FwdAccess where
  /-- the host's PCIe tag of a read -/
  tag : Nat := 0
  func : Nat := 0
  write : Bool := false
  member : Nat := 0
  fseq : Nat := 0
  message : List Byte := []
  time : Time := 0
  deriving DecidableEq, Repr

/-- A read of the host's that is served from another module's memory (10 R267, R529): its lines by virtual address, with the request tag of
those read outside the coherent windows, and the data of those that have come. -/
structure PeerRead where
  id : Nat := 0
  func : Nat := 0
  /-- the host's PCIe tag; or the anchor that forwarded it, with FSEQ -/
  tag : Nat := 0
  anchor : Option (BitVec 14 × Nat) := none
  part : Nat := 0
  va : Nat := 0
  size : Nat := 0
  lines : KMap (Option Nat) := []
  got : KMap (Nat × Bool) := []
  deriving DecidableEq, Repr

/-- The host link, functions and mast group (21). -/
structure HostState where
  linkUp : Bool := false
  width : Nat := 0
  rate : Nat := 0
  /-- functions whose Bus Master Enable is 1; function 0 is the physical one -/
  busMaster : NSet := []
  perst : Bool := true
  /-- VF_BIND: the partition key of each virtual function that has one (R526) -/
  binds : KMap Nat := []
  aperture : KMap Word := []
  isAnchor : Bool := false
  /-- an anchor has been chosen (R533) -/
  anchorKnown : Bool := false
  anchor : BitVec 14 := 0
  standby : BitVec 14 := 0
  mastMembers : KMap Bool := []
  /-- the member that the host has made the anchor by ANCHOR_TAKEOVER (R534) -/
  forced : Option (BitVec 14) := none
  downSince : Option Time := none
  fseqOut : KMap Nat := []
  fseqIn : Nat := 0
  fwds : List FwdAccess := []
  /-- reads that wait for another module's memory, and the number of the next one -/
  reads : List PeerRead := []
  nextRead : Nat := 0
  deriving DecidableEq, Repr

/-- Power sequencing and pins (R537 to R540). -/
structure Pins where
  standby : Bool := false
  input54 : Bool := false
  pwrEn : Bool := false
  pwrGood : Bool := false
  overvolt : Bool := false
  /-- the cause of the last loss of power, until the module has restarted and reported it (R13) -/
  lossCause : Option Cause := none
  /-- that loss was the overvoltage cut-off (R538) -/
  lossOvervolt : Bool := false
  deriving DecidableEq, Repr

end Sys2Proof.Machine
end

