-- ==== Sys2Proof/Machine/Dev.lean ====
section
/-!
DEFINITION. The whole device as plain data: every register, memory, buffer, counter, mode and pin that the spec gives
the module, in the order of its chapters, and what has left the module at its boundary (DESIGN CHOICE, log entry 13).
-/
namespace Sys2Proof.Machine

/-- What leaves the module: to the host, to the segment, to a link, to another module's management pair. -/
inductive Output where
  | hostWrite (func addr : Nat) (bytes : List Byte) (poison : Bool)
  | msix (func vector : Nat)
  | completion (tag status : Nat) (poison : Bool) (data : List Byte)
  | udp (peer : Nat) (bytes : List Byte)
  | ident (port : Nat) (body : Ident)
  | retrainReq (port : Nat) (serial : BitVec 64) (reason : Nat)
  | retrainAccept (port : Nat) (group : BitVec 32)
  | widthPropose (port : Nat) (lanes : BitVec 4)
  | widthAccept (port : Nat) (lanes : BitVec 4) (group : BitVec 32)
  | beacon (port : Nat) (bseq : BitVec 16) (ttx : Time) (echoSeq : BitVec 16) (echoRx : Time) (root : BitVec 14)
      (hops : BitVec 8) (wraps : BitVec 16)
  | sealFrame (port : Nat) (epoch : Nat) (cfg link : BitVec 384)
  | frame (port : Nat) (bytes : List Byte)
  | marker (port : Nat) (bytes : List Byte)
  | training (port : Nat)
  | pattern (port : Nat)
  | flit (link : Nat) (bytes : List Byte)
  | fwd (dst : BitVec 14) (xarg : BitVec 64) (bytes : List Byte)
  | config (dst : BitVec 14) (force : ConfigImage) (staged : Option ConfigImage) (armed : Option Time)
  | reply (cause : Cause) (arg0 arg1 : Word) (data : List Byte)
  | halyard0 (kind : Nat) (args : List Nat) (bytes : List Byte)
  deriving DecidableEq, Repr

/-- The module (00 to 21). -/
structure Dev where
  /-- fabric time, TIME64 (15 R421) -/
  time : Time := 0
  /-- the model's own counter of free values drawn (DESIGN CHOICE, log entry 6) -/
  fresh : Nat := 0
  /-- ordering code: true GKY-25A-F (00 R2) -/
  full : Bool := true
  /-- SIGNET_MASK: pair mode, 4-bit formats, 16,384 modules, 512 partitions (00 R2, 16 R440) -/
  signetMask : BitVec 32 := 0xF
  /-- more modules in the system than the fabric-size signet allows (00 R6) -/
  overSignet : Bool := false
  mem : MemState := {}
  cores : KMap Core := []
  coh : CohState := {}
  fe : FrontEnd := {}
  ports : KMap Port := []
  fab : FabricState := {}
  parts : KMap Part := []
  rigs : KMap Rig := []
  pkg : Package := {}
  power : PowerState := {}
  tm : TimeState := {}
  sec : Security := {}
  rel : Reliability := {}
  rst : ResetState := {}
  boot : BringUp := {}
  cfg : ConfigState := {}
  dict : DictState := {}
  host : HostState := {}
  pins : Pins := {}
  out : List Output := []
  deriving DecidableEq, Repr

end Sys2Proof.Machine
end

