-- ==== Sys2Proof/Machine/Operands.lean ====
section
/-!
DEFINITION. Operand forms of tensor instructions: the decoder of the 32-bit tensor word (08 R208 to R236), the tile
descriptor and its well-formedness (R211 to R214), chain records (05 R134 to R137, 06 R162 to R165) and their
legality (05 R150, R151; 06 R175).
-/
namespace Sys2Proof.Machine

/-- Whether a SLOT field names a slot or no slot; 0x10 to 0x1E are reserved (R208). -/
def slotOk (s : Nat) : Bool := s < 16 || s = 31

/-- The tensor instruction of a 32-bit word; `none` is an illegal encoding (R208, R209 and the field tables). -/
def decodeTensor (w : BitVec 32) : Option TInstr :=
  let b := bits w
  if !slotOk (b 11 7) then none
  else if b 6 0 = 0x7B then
    if b 31 31 = 0 then
      if b 29 28 < 2 && b 24 20 ≠ 0 then none
      else some (.mma (b 30 30 = 1) (b 29 28) (b 27 25) (b 24 20) (b 19 16) (b 15 12))
    else match b 30 28 with
      | 0 => some (.vrun (b 27 25) (b 24 20) (b 19 16) (b 15 12))
      | 1 => if b 27 25 ≠ 0 then none else some (.compress (b 24 20) (b 19 16) (b 15 12))
      | 2 => if b 27 25 ≠ 0 then none else some (.expand (b 24 20) (b 19 16) (b 15 12))
      | _ => none
  else if b 6 0 = 0x5B then
    match b 31 28 with
    | 0 => if b 14 12 ≠ 0 || b 19 15 ≠ 0 then none else some (.tload (b 27 24) (b 23 20))
    | 1 => if b 14 12 ≠ 0 || b 19 15 ≠ 0 then none else some (.tstore (b 27 24) (b 23 20))
    | 2 => if b 14 12 ≠ 0 || b 19 15 ≠ 0 then none else some (.tmove (b 27 24) (b 23 20))
    | 3 => if b 14 12 ≠ 0 then none else some (.send (b 27 24) (b 23 20) (b 19 15))
    | 4 => if b 14 12 ≠ 0 then none else some (.recv (b 27 24) (b 23 20) (b 19 15))
    | 5 => if b 14 12 ≠ 0 then none else some (.arm (b 27 24) (b 23 20) (b 19 15))
    | 6 => if b 14 12 ≠ 0 || b 19 15 ≠ 0 || b 23 20 ≠ 0 then none else some (.disarm (b 27 24))
    | 7 => if b 14 13 ≠ 0 || b 27 25 ≠ 0 then none else some (.signal (b 19 15) (b 24 20) (b 12 12 = 1))
    | 8 => if b 14 13 ≠ 0 || b 27 25 ≠ 0 then none else some (.wait (b 19 15) (b 24 20) (b 12 12 = 1))
    | 9 => if b 14 12 ≠ 0 || b 27 25 ≠ 0 then none else some (.rflush (b 19 15) (b 24 20))
    | 10 => if b 14 13 ≠ 0 || b 27 24 ≠ 0 || b 19 15 ≠ 0 then none else some (.clasp (b 23 20) (b 12 12 = 1))
    | 11 => if b 14 12 ≠ 0 then none else some (.digest (b 23 20) (b 19 15) (b 27 27 = 1) (b 26 24))
    | 12 => if b 14 12 ≠ 0 || b 27 23 ≠ 0 then none else some (.cset (b 22 20) (b 19 15))
    | _ => none
  else none

/-- The unit that takes an instruction (R200). -/
def TInstr.unit : TInstr → Unit'
  | .mma .. => .matrix
  | .vrun .. | .compress .. | .expand .. => .vector
  | .tload .. | .tstore .. | .tmove .. | .send .. | .recv .. => .mover
  | .arm .. | .disarm .. | .signal .. | .wait .. | .rflush .. | .clasp .. | .digest .. => .sync
  | .cset .. => .none

/-- UNIT code of TXFAULT and of a completion slot (R196). -/
def Unit'.code : Unit' → Nat
  | .matrix | .none => 0 | .vector => 1 | .mover => 2 | .sync => 3

/-- The unit queue's entries (R200). -/
def Unit'.depth : Unit' → Nat
  | .matrix | .vector | .sync => 8 | .mover => 16 | .none => 32

/-- Whether the unit may begin it while tentative (R202): not remote transfers, not the synchronisation unit. -/
def TInstr.tentativeOk : TInstr → Bool
  | .send .. | .recv .. | .arm .. | .disarm .. | .signal .. | .wait .. | .rflush .. | .clasp .. | .digest .. => false
  | _ => true

/-- The scalar registers named: rs1 and rs2 (R210). -/
def TInstr.rs : TInstr → Nat × Nat
  | .mma _ _ _ r _ _ => (r, 0) | .vrun _ r _ _ => (r, 0) | .compress r _ _ => (r, 0) | .expand r _ _ => (r, 0)
  | .send _ _ r | .recv _ _ r | .arm _ _ r => (r, 0)
  | .signal a b _ | .wait a b _ => (a, b) | .rflush a b => (a, b)
  | .digest _ r _ _ => (r, 0) | .cset _ r => (r, 0)
  | _ => (0, 0)

/-- A tile descriptor's fields (R211). -/
structure Desc where
  tag : BitVec 16 := 0
  fmtCode : Nat := 0
  mx : Bool := false
  layoutCode : Nat := 0
  armed : Bool := false
  pair : Bool := false
  stride : Nat := 0
  rows : Nat := 1
  cols : Nat := 1
  base : Nat := 0
  deriving DecidableEq, Repr

/-- The fields of a 128-bit descriptor register (R211). -/
def Desc.ofBits (w : BitVec 128) : Desc :=
  { tag := BitVec.ofNat 16 (bits w 127 112), fmtCode := bits w 111 108, mx := bit w 107, layoutCode := bits w 106 104,
    armed := bit w 103, pair := bit w 102, stride := bits w 101 89, rows := bits w 88 73 + 1, cols := bits w 72 57 + 1,
    base := bits w 56 0 }

/-- The format named, where FMT and MX form an allowed combination (R50, R51). -/
def Desc.fmt? (d : Desc) : Option Fmt :=
  match Fmt.ofCode d.fmtCode with
  | some f => if f.mxOk d.mx then some f else none
  | none => none

/-- The format of a descriptor that has passed R51. -/
def Desc.fmt (d : Desc) : Fmt := d.fmt?.getD .fp32

/-- The layout of a descriptor that is not malformed. -/
def Desc.layout (d : Desc) : Layout := (Layout.ofCode d.layoutCode).getD .plain

/-- Block count in force: STRIDE when nonzero, else the packed count (R212). -/
def Desc.k (d : Desc) : Nat := if d.stride ≠ 0 then d.stride else d.layout.packed d.rows d.cols

/-- Beads of the bead range (R212). -/
def Desc.beads (d : Desc) : Nat :=
  match d.layout with
  | .row64 => (d.rows - 1) / 64 * d.k + (d.cols - 1) / 32 + 1
  | .row8 => (d.rows - 1) / 8 * d.k + (d.cols - 1) / 256 + 1
  | .col64 => (d.cols - 1) / 64 * d.k + (d.rows - 1) / 32 + 1
  | .linear => (d.rows * d.cols - 1) / 2048 + 1
  | .plain => 0

/-- Bead stride in memory. -/
def Desc.bstride (d : Desc) : Nat := d.fmt.stride d.mx

/-- Bytes of the whole extent (R259). -/
def Desc.bytes (d : Desc) : Nat :=
  match d.layout with
  | .plain => (d.rows - 1) * (d.stride * 64) + ceilDiv (d.cols * d.fmt.width) 8
  | _ => d.beads * d.bstride

/-- Where element (r, c) lies. -/
def Desc.place (d : Desc) (r c : Nat) : Nat × Nat := d.layout.place d.k d.cols r c

/-- The coordinates of a bead position that holds an element; padding and gaps give none. -/
def Desc.coord (d : Desc) (b i : Nat) : Option (Nat × Nat) :=
  match d.layout.coord d.k (d.layout.packed d.rows d.cols) d.cols b i with
  | some (r, c) => if r < d.rows && c < d.cols then some (r, c) else none
  | none => none

/-- Whether a descriptor is malformed (R213), PAIR apart. -/
def Desc.malformed (d : Desc) : Bool :=
  match Layout.ofCode d.layoutCode with
  | none => true
  | some l =>
    (l ≠ .plain && d.base % 64 ≠ 0) ||
    ((l = .row64 || l = .row8 || l = .col64) && d.stride ≠ 0 && d.stride < l.packed d.rows d.cols) ||
    (l = .linear && d.stride ≠ 0) ||
    (l = .plain && (d.mx || d.stride = 0 || d.base % 64 ≠ 0)) ||
    (match d.fmt? with
     | none => false
     | some f => (l = .plain && d.stride * 64 < ceilDiv (d.cols * f.width) 8) || 2 ^ 57 < d.base + d.bytes)

/-- Whether a hi descriptor breaks R214, given its register and the lo descriptor. -/
def Desc.pairBad (d : Desc) (reg : Nat) (lo : Desc) : Bool :=
  d.pair && (reg % 2 = 1 || d.fmtCode ≠ 0 || d.mx || lo.fmtCode ≠ 0 || lo.mx || lo.pair || lo.layoutCode ≠ d.layoutCode
    || lo.stride ≠ d.stride || lo.rows ≠ d.rows || lo.cols ≠ d.cols)

/-- CHAIN_KIND of a chain record (R135). -/
def chainKind (c : BitVec 1024) : Nat := bits c 7 4
/-- COUNT of a chain record. -/
def chainCount (c : BitVec 1024) : Nat := bits c 3 0
/-- SEED of a chain record (R134, R162). -/
def chainSeed (c : BitVec 1024) : BitVec 64 := BitVec.ofNat 64 (bits c 127 64)

/-- An epilogue stage word's fields (R136). -/
structure EStage where
  kind : Nat := 0
  td : Nat := 0
  arg : Nat := 0
  useF : Bool := false
  fa : Nat := 0
  fb : Nat := 0
  immA : BitVec 32 := 0
  immB : BitVec 32 := 0
  deriving DecidableEq, Repr

/-- Stage word `i` of an epilogue chain (R134, R136). -/
def eStage (c : BitVec 1024) (i : Nat) : EStage :=
  let b := 128 + 128 * i
  { kind := bits c (b + 31) (b + 28), td := bits c (b + 27) (b + 24), arg := bits c (b + 23) (b + 16), useF := bit c (b + 15),
    fb := bits c (b + 14) (b + 10), fa := bits c (b + 9) (b + 5), immA := BitVec.ofNat 32 (bits c (b + 95) (b + 64)),
    immB := BitVec.ofNat 32 (bits c (b + 127) (b + 96)) }

/-- The stages of an epilogue chain: those within COUNT. -/
def eStages (c : BitVec 1024) : List EStage := (List.range (min (chainCount c) 6)).map (eStage c)

/-- CFMT of the header (R135). -/
def eCfmt (c : BitVec 1024) : Nat := bits c 15 12
/-- OUT_RND of the header. -/
def eOutRnd (c : BitVec 1024) : Nat := bits c 11 10
/-- SAT of the header. -/
def eSat (c : BitVec 1024) : Bool := bit c 9
/-- STATS_TD of the header. -/
def eStatsTd (c : BitVec 1024) : Nat := bits c 19 16
/-- RES_TD of the header. -/
def eResTd (c : BitVec 1024) : Nat := bits c 23 20

/-- Whether a stage list holds a kind. -/
def hasKind (ss : List EStage) (k : Nat) : Bool := ss.any (·.kind = k)

/-- Placements and combinations that R151 forbids. -/
def ePlacementBad (ss : List EStage) : Bool :=
  let n := ss.length
  let at' (i : Nat) : Nat := (ss.map (·.kind)).getD i 0
  (List.range n).any (fun i => at' i = 8 && i + 1 ≠ n) ||
  (List.range n).any (fun i => at' i = 9 && i + 1 ≠ n && !(i + 2 = n && at' (i + 1) = 8)) ||
  (hasKind ss 3 && hasKind ss 7) || (hasKind ss 6 && hasKind ss 7) ||
  (hasKind ss 6 && ss.any (fun s => s.kind = 1 && s.arg % 4 = 3))

/-- The refusal of an epilogue chain record, if any (R150): 0x0320. -/
def eChainRefusal (c : BitVec 1024) : Option Cause :=
  let ss := eStages c
  let count (k : Nat) := (ss.filter (·.kind = k)).length
  if chainCount c > 6 || ss.any (fun s => s.kind = 0 || s.kind > 10) || count 1 > 2
    || ((List.range 11).any (fun k => 2 ≤ k && count k > 1))
    || ss.any (fun s => s.kind = 4 && (s.arg % 16 = 0 || s.arg % 16 > 12))
    || eCfmt c > 3 || eOutRnd c > 1 || ePlacementBad ss then some 0x0320
  else none

/-- A vector stage word's fields (R164). -/
structure VStage where
  imm : BitVec 32 := 0
  useF : Bool := false
  freg : Nat := 0
  func : Nat := 0
  scaleSrc : Nat := 0
  ef : Bool := false
  op : Nat := 0
  dfmt : Nat := 0
  dmx : Bool := false
  rnd : Nat := 0
  sat : Bool := false
  srca : Nat := 0
  srcb : Nat := 0
  srcc : Nat := 0
  cmp : Nat := 0
  pcomb : Nat := 0
  deriving DecidableEq, Repr

/-- Stage word `i` of a vector chain (R162, R164). -/
def vStage (c : BitVec 1024) (i : Nat) : VStage :=
  let b := 128 + 96 * i
  let g (hi lo : Nat) := bits c (b + hi) (b + lo)
  { imm := BitVec.ofNat 32 (g 95 64), useF := g 47 47 = 1, freg := g 46 42, func := g 41 38, scaleSrc := g 37 36, ef := g 35 35 = 1,
    op := g 31 26, dfmt := g 25 22, dmx := g 21 21 = 1, rnd := g 20 19, sat := g 18 18 = 1, srca := g 17 16, srcb := g 15 14,
    srcc := g 13 12, cmp := g 11 8, pcomb := g 7 6 }

/-- The stages of a vector chain: those within COUNT. -/
def vStages (c : BitVec 1024) : List VStage := (List.range (min (chainCount c) 8)).map (vStage c)

/-- LEN_FROM_MAP (R163). -/
def vLenFromMap (c : BitVec 1024) : Bool := bit c 20
/-- MERGE. -/
def vMerge (c : BitVec 1024) : Bool := bit c 19
/-- MASK_OUT. -/
def vMaskOut (c : BitVec 1024) : Bool := bit c 18
/-- MASK_IN. -/
def vMaskIn (c : BitVec 1024) : Bool := bit c 17

/-- Whether a stage writes `x`: every operation but CMP (R165). -/
def VStage.writesX (s : VStage) : Bool := s.op ≠ 4

/-- Whether a stage's OP is reserved (R165). -/
def VStage.opBad (s : VStage) : Bool := !(1 ≤ s.op && s.op ≤ 7) && s.op ≠ 0x20

/-- Whether a vector stage breaks a 0x0320 row of R175. -/
def VStage.bad (s : VStage) : Bool :=
  s.opBad || (s.writesX && s.rnd = 3) || (s.op = 0x20 && s.scaleSrc = 3) || (s.op = 4 && s.cmp > 7)
  || s.func > 12 || (s.op ≠ 0x20 && (s.func ≠ 0 || s.scaleSrc ≠ 0 || s.ef))
  || (s.op = 0x20 && s.scaleSrc = 1 && !s.dmx)
  || (s.op = 0x20 && (s.scaleSrc = 2 || s.ef) && (s.srcb = 0 || s.srcb = 3))
  || (s.op = 0x20 && s.ef && (s.scaleSrc ≠ 0 || s.dfmt ≠ 3 || s.dmx))

/-- The refusal of a vector chain record, if any, the table of R175 read in order. -/
def vChainRefusal (c : BitVec 1024) (sig4 : Bool) : Option Cause :=
  let ss := vStages c
  let fm (s : VStage) : Option Fmt := match Fmt.ofCode s.dfmt with
    | some f => if f.mxOk s.dmx then some f else none
    | none => none
  if chainCount c > 8 || ss.any VStage.bad || (vLenFromMap c && (vMaskIn c || vMaskOut c)) then some 0x0320
  else if ss.any (fun s => s.writesX && (fm s).isNone) then some 0x0312
  else if !sig4 && ss.any (fun s => s.writesX && (s.dfmt = 8 || s.dfmt = 11)) then some 0x0310
  else none

/-- The refusal of a chain record by CSET or at issue (R193, R236): kind 0 empties the register, a reserved kind
is refused with 0x0320. -/
def chainRefusal (c : BitVec 1024) (sig4 : Bool) : Option Cause :=
  match chainKind c with
  | 0 => none
  | 1 => eChainRefusal c
  | 2 => vChainRefusal c sig4
  | _ => some 0x0320

/-- The f registers that a chain selects (R133, R161). -/
def chainFregs (c : BitVec 1024) : List Nat :=
  match chainKind c with
  | 1 => (eStages c).flatMap (fun s => if s.useF then [s.fa, s.fb] else [])
  | 2 => (vStages c).flatMap (fun s => if s.useF then [s.freg] else [])
  | _ => []

/-- A semaphore handle (R229). -/
structure SemHandle where
  module : BitVec 14 := 0
  gen : BitVec 6 := 0
  sem : Nat := 0
  deriving DecidableEq, Repr

/-- The fields of a semaphore handle (R229). -/
def SemHandle.ofWord (w : Word) : SemHandle :=
  { module := BitVec.ofNat 14 (bits w 39 26), gen := BitVec.ofNat 6 (bits w 25 20), sem := bits w 19 0 }

end Sys2Proof.Machine
end

