-- ==== Sys2Proof/Machine/Ops.lean ====
section
/-!
DEFINITION. The shared operations over the device: fabric time (15 R421), rig IDs (01 R34), notices (11 R308 to R311),
the module physical address space with poison and sidebands (02 R73, 09 R248, R249, 17 R448, R449), beads landing
(03 R102, R104), semaphores (08 R230, R231, 10 R276), a core's end of entry (07 R190, R205).
-/
namespace Sys2Proof.Machine

/-- Nanoseconds as TIME64. -/
def ns (n : Nat) : Time := BitVec.ofNat 64 (n * 65536)
/-- Microseconds as TIME64. -/
def us (n : Nat) : Time := ns (n * 1000)
/-- Milliseconds as TIME64. -/
def ms (n : Nat) : Time := ns (n * 1000000)

/-- The nanosecond field of a TIME64. -/
def nsOf (t : Time) : Nat := t.toNat / 65536

/-- `a` is at or before `b`, compared as R421 states: by the signed difference. -/
def timeLe (a b : Time) : Bool := decide (0 ≤ (b - a).toInt)

/-- Fabric time at or past `a + n`. -/
def reached (now a n : Time) : Bool := timeLe (a + n) now

/-- A time argument that lies at least `n` and less than 2^46 ns ahead of now; one further ahead reads as passed (R421). -/
def timeAhead (now t : Time) (n : Time) : Bool :=
  timeLe (now + n) t && decide ((t - now).toNat < 2 ^ 62)

/-- Nanoseconds from `a` to `b`. -/
def nsBetween (a b : Time) : Nat := nsOf (b - a)

/-- Fabric time moves on to `now`; it never moves back, and never across the wrap, which is FABRIC_TIME_WRAP's. -/
def Dev.advance (d : Dev) (now : Time) : Dev :=
  if d.time.toNat ≤ now.toNat then { d with time := now } else d

/-- A fresh value the spec leaves open (Config.freeValue), and the counter moved on. -/
def Dev.draw (d : Dev) : BitVec 256 × Dev := (Config.freeValue d.fresh, { d with fresh := d.fresh + 1 })

/-- Something leaves the module. -/
def Dev.emit (d : Dev) (o : Output) : Dev := { d with out := d.out ++ [o] }

/-- This module's ID, 14 bits (19 R489). -/
def Dev.id (d : Dev) : BitVec 14 := d.boot.moduleId.truncate 14

/-- The core at a logical index die × 64 + cluster × 8 + core. -/
def Dev.core (d : Dev) (c : Nat) : Core := d.cores.get {} c

/-- A core changed. -/
def Dev.modCore (d : Dev) (c : Nat) (f : Core → Core) : Dev := { d with cores := d.cores.upd {} c f }

/-- A partition, by module-local index. -/
def Dev.part (d : Dev) (p : Nat) : Part := d.parts.get {} p

/-- A partition changed. -/
def Dev.modPart (d : Dev) (p : Nat) (f : Part → Part) : Dev := { d with parts := d.parts.upd {} p f }

/-- The local partition index that holds a key, if any partition here does (16 R424). -/
def Dev.partOfKey (d : Dev) (k : BitVec 16) : Option Nat := (d.parts.first? (fun _ p => p.key = k)).map (·.1)

/-- The Rig ID of a core (01 R34). -/
def coreRig (m : BitVec 14) (c : Nat) : BitVec 32 := BitVec.ofNat 32 (m.toNat * 2 ^ 15 + c * 2 ^ 6)
/-- The Rig ID of a cluster: LEVEL 1. -/
def clusterRig (m : BitVec 14) (k : Nat) : BitVec 32 := BitVec.ofNat 32 (2 ^ 29 + m.toNat * 2 ^ 15 + k * 2 ^ 9)
/-- The Rig ID of a compute die: LEVEL 2. -/
def dieRig (m : BitVec 14) (k : Nat) : BitVec 32 := BitVec.ofNat 32 (2 * 2 ^ 29 + m.toNat * 2 ^ 15 + k * 2 ^ 12)
/-- The Rig ID of a module: LEVEL 3. -/
def moduleRig (m : BitVec 14) : BitVec 32 := BitVec.ofNat 32 (3 * 2 ^ 29 + m.toNat * 2 ^ 15)

/-- LEVEL of a Rig ID. -/
def rigLevel (r : BitVec 32) : Nat := bits r 31 29
/-- MODULE of a Rig ID. -/
def rigModule (r : BitVec 32) : BitVec 14 := BitVec.ofNat 14 (bits r 28 15)

/-- Whether a Rig ID is well formed (R34 to R36). -/
def rigValid (r : BitVec 32) : Bool :=
  match rigLevel r with
  | 0 => bits r 5 0 = 0
  | 1 => bits r 8 0 = 0
  | 2 => bits r 11 0 = 0
  | 3 => bits r 14 0 = 0
  | 4 => bits r 20 0 = 0
  | 5 => bits r 28 0 = 0
  | _ => false

/-- Index of a rig of this module in the rig table: cores 0 to 511, clusters 512 to 575, dies 576 to 583, the module
584; its mast group 585 and the system 586, as far as this module holds them. -/
def rigIndex (r : BitVec 32) : Nat :=
  match rigLevel r with
  | 0 => bits r 14 6
  | 1 => 512 + bits r 14 9
  | 2 => 576 + bits r 14 12
  | 4 => 585
  | 5 => 586
  | _ => 584

/-- Whether a rig of a module holds a core: the core lies in the rig's range (R33). -/
def rigHolds (r : BitVec 32) (m : BitVec 14) (c : Nat) : Bool :=
  match rigLevel r with
  | 0 => rigModule r = m && bits r 14 6 = c
  | 1 => rigModule r = m && bits r 14 9 = c / 8
  | 2 => rigModule r = m && bits r 14 12 = c / 64
  | 3 => rigModule r = m
  | 4 => (rigModule r).toNat / 64 = m.toNat / 64
  | 5 => true
  | _ => false

/-- Whether rig `a` is, or encloses, rig `b` (R33, R46). -/
def rigEncloses (a b : BitVec 32) : Bool :=
  rigLevel b ≤ rigLevel a &&
  match rigLevel a with
  | 0 => a = b
  | 1 => bits a 28 9 = bits b 28 9
  | 2 => bits a 28 12 = bits b 28 12
  | 3 => bits a 28 15 = bits b 28 15
  | 4 => bits a 28 21 = bits b 28 21
  | 5 => true
  | _ => false

/-- The rig table's indices of the rigs of this module that hold a core. -/
def rigsOfCore (c : Nat) : List Nat := [c, 512 + c / 8, 576 + c / 64, 584]

/-- A rig's control block by table index. -/
def Dev.rig (d : Dev) (i : Nat) : Rig := d.rigs.get {} i

/-- A rig's control block changed. -/
def Dev.modRig (d : Dev) (i : Nat) (f : Rig → Rig) : Dev := { d with rigs := d.rigs.upd {} i f }

/-- CNT_STALE_DISCARDS of the module rig counts one more (R305). -/
def Dev.stale (d : Dev) : Dev := { d with fe := { d.fe with stale := d.fe.stale + 1 } }

/-- CNT_RETRIES of a core's rigs counts more (R37, R452). -/
def Dev.retry (d : Dev) (c n : Nat) : Dev := d.modCore c (fun k => { k with cnt := { k.cnt with retries := k.cnt.retries + n } })

/-- An event of a partition's wait-for graph (18 R477): its count goes up. -/
def Dev.event (d : Dev) (p : Nat) : Dev :=
  d.modPart p (fun p => { p with hang := { p.hang with events := p.hang.events + 1, lastEvent := d.time } })

/-! ### Notices -/

/-- The 32 bytes of a notice (R308, R309), with the PHASE of the ring pass. -/
def Notice.bytes (n : Notice) (phase : Bool) : List Byte :=
  leBytes 2 n.code.toNat
  ++ leBytes 2 (b2n phase * 2 ^ 15 + b2n n.lost * 2 ^ 14 + n.cls.toNat * 2 ^ 11
      + (match n.part with | some p => 2 ^ 10 + p % 512 | none => 0))
  ++ leBytes 4 n.rig.toNat ++ leBytes 8 n.time.toNat ++ leBytes 8 n.arg0.toNat ++ leBytes 8 n.arg1.toNat

/-- Records of a notice ring. -/
def NoticeRing.size (r : NoticeRing) : Nat := 2 ^ r.log2.toNat

/-- Whether a function may master the bus: the link is up and its Bus Master Enable is 1 (21 R530). -/
def Dev.canMaster (d : Dev) (func : Nat) : Bool := d.host.linkUp && d.host.busMaster.contains func

/-- The function through which a notice ring is written: the physical one, or the first virtual one bound to the ring's partition
(R310, 21 R526). -/
def Dev.ringFunc (d : Dev) (ring : Nat) : Option Nat :=
  if ring = 0 then some 0
  else (d.host.binds.first? (fun _ k => k ≠ 0 && k = (d.part (ring - 4097)).key.toNat)).map (·.1)

/-- Whether a notice can be written to a ring now: configured, not full, and the function may master the bus. -/
def Dev.ringReady (d : Dev) (ring : Nat) : Bool :=
  let r := d.fe.rings.get {} ring
  r.base ≠ 0 && r.tail - r.head < r.size && (match d.ringFunc ring with | some f => d.canMaster f | none => false)

/-- A notice written to a ring, its message sent (R310, R518); vector 0xFFFF sends none. -/
def Dev.writeRing (d : Dev) (ring : Nat) (n : Notice) : Dev :=
  let r := d.fe.rings.get {} ring
  let func := (d.ringFunc ring).getD 0
  let d := d.emit (.hostWrite func (r.base.toNat + 32 * (r.tail % r.size)) (n.bytes (r.tail / r.size % 2 = 0)) false)
  let d := if r.vector = 0xFFFF then d else d.emit (.msix func r.vector.toNat)
  { d with fe := { d.fe with rings := d.fe.rings.set ring { r with
      tail := r.tail + 1, alerts := if 2 ≤ n.cls.toNat then r.alerts.insert r.tail else r.alerts } } }

/-- A notice to one ring: written, or held while it may not be (256 in all), or dropped and counted (R311). -/
def Dev.ringNotice (d : Dev) (ring : Nat) (n : Notice) : Dev :=
  if d.ringReady ring && !(d.fe.held.any (·.ring = ring)) then d.writeRing ring n
  else if d.fe.held.length < 256 then { d with fe := { d.fe with held := d.fe.held ++ [{ ring := ring, n := n }] } }
  else { d with fe := { d.fe with rings := d.fe.rings.upd {} ring (fun (r : NoticeRing) => { r with
    lost := r.lost + 1, drops := r.drops + 1 }) } }

/-- The ring of a partition, where its virtual function has configured one (R310, R526). -/
def Dev.ringsOf (d : Dev) (p : Nat) : List Nat :=
  if (d.fe.rings.get {} (4097 + p)).base ≠ 0 && (d.ringFunc (4097 + p)).isSome then [4097 + p] else []

/-- XARG of a HOST_FWD packet (21 R532): FSEQ, FUNC and KIND. -/
def fwdXarg (fseq func kind : Nat) : BitVec 64 := BitVec.ofNat 64 (fseq % 2 ^ 32 * 2 ^ 32 + func % 8192 * 65536 + kind % 256)

/-- A notice reaches the rings at the anchor: the physical function's, and that of the anchor's partition `part` (R310). -/
def Dev.deliverNotice (d : Dev) (n : Notice) (part : Option Nat) : Dev :=
  let d := d.ringNotice 0 n
  match part with
  | none => d
  | some p => (d.ringsOf p).foldl (fun d f => d.ringNotice f n) d

/-- A notice on its way to the anchor (R310, 21 R532): its record, and the key of its partition. -/
def Dev.forwardNotice (d : Dev) (n : Notice) : Dev :=
  d.emit (.fwd d.host.anchor (fwdXarg 0 0 4) (n.bytes false ++ leBytes 2 (match n.part with | some p => (d.part p).key.toNat | none => 0)))

/-- A notice raised on this module (R308, R310): at the anchor, or while no anchor is known, it goes to the rings, at a member to the
anchor. -/
def Dev.notify (d : Dev) (n : Notice) : Dev :=
  let n := { n with time := d.time }
  if !d.host.anchorKnown || d.host.isAnchor then d.deliverNotice n n.part
  else d.forwardNotice n

/-- A notice of the module's own rig. -/
def Dev.notice (d : Dev) (code : Cause) (cls : Nat) (arg0 arg1 : Nat) : Dev :=
  d.notify { code := code, cls := BitVec.ofNat 3 cls, rig := moduleRig d.id, arg0 := BitVec.ofNat 64 arg0,
             arg1 := BitVec.ofNat 64 arg1 }

/-- A notice of a core's rig; `part` where the raising rule sets PART_VALID. -/
def Dev.coreNotice (d : Dev) (c : Nat) (code : Cause) (cls : Nat) (part : Option Nat) (arg0 arg1 : Nat) : Dev :=
  d.notify { code := code, cls := BitVec.ofNat 3 cls, rig := coreRig d.id c, part := part, arg0 := BitVec.ofNat 64 arg0,
             arg1 := BitVec.ofNat 64 arg1 }

/-- Whether a core lies in a reset's domain (18 R468). -/
def Dev.domainHolds (d : Dev) (r : RigReset) (c : Nat) : Bool := match r.part with
  | some p => (d.part p).rigs.any (fun g => rigHolds g d.id c)
  | none => rigHolds r.rig d.id c

/-- Whether a core is being reset, so that what is aimed at it is absorbed (18 R472). -/
def Dev.inReset (d : Dev) (c : Nat) : Bool := d.rst.running.any (fun r => d.domainHolds r c)

/-! ### The module physical address space -/

/-- What an MPA reaches (R249). -/
inductive MemKind where
  | dram | system | window (w : Nat) | metadata | stack (core : Nat) | scratch (core : Nat) | remote (module : Nat) | nothing
  deriving DecidableEq, Repr

/-- Base MPA of a core's stack bank (R249). -/
def stackBase (c : Nat) : Nat := 0x10000000000 + c * 0x4000000
/-- Base MPA of a core's near scratchpad (R249). -/
def scratchBase (c : Nat) : Nat := 0x20000000000 + c * 0x400000
/-- Base MPA of coherent window `w` (R249). -/
def windowBase (w : Nat) : Nat := 0x77C0000000 + w * 0x4000000

/-- The memory an MPA reaches (R249). -/
def memKind (a : Nat) : MemKind :=
  if a < 0x7600000000 then .dram
  else if a < 0x77C0000000 then .system
  else if a < 0x7800000000 then .window ((a - 0x77C0000000) / 0x4000000)
  else if a < 0x8000000000 then .metadata
  else if 0x10000000000 ≤ a && a < 0x10800000000 then .stack ((a - 0x10000000000) / 0x4000000)
  else if 0x20000000000 ≤ a && a < 0x20080000000 then .scratch ((a - 0x20000000000) / 0x400000)
  else .nothing

/-- Whether an MPA lies in module DRAM, system region and windows included: reached through the hub cache. -/
def isDram (a : Nat) : Bool := a < 0x8000000000

/-- The DRAM channel of an MPA (R246): 512 B blocks over the channels in the map. -/
def Dev.channel (d : Dev) (a : Nat) : Nat :=
  let ins := (List.range 16).filter (fun k => !(d.mem.mapOut.contains k))
  ins.getD (a / 512 % max ins.length 1) 0

/-- Whether a line has left service: a retired stack-bank pair (R244) or DRAM channel (R247). -/
def Dev.lineLost (d : Dev) (line : Nat) : Bool :=
  let a := line * 64
  match memKind a with
  | .stack c => bit (d.core c).retiredPairs ((a - stackBase c) / 0x200000)
  | _ => isDram a && d.mem.chanRetired.contains (d.channel a)

/-- Whether a line reads as poisoned (R448): marked, or out of service (R247, R456). -/
def Dev.poisoned (d : Dev) (line : Nat) : Bool := d.mem.poison.contains line || d.lineLost line

/-- The 64-byte lines that `n` bytes from `a` touch. -/
def lines (a n : Nat) : List Nat := if n = 0 then [] else (List.range ((a + n - 1) / 64 - a / 64 + 1)).map (a / 64 + ·)

/-- Whether any line of a range is poisoned. -/
def Dev.anyPoison (d : Dev) (a n : Nat) : Bool := (lines a n).any d.poisoned

/-- The pieces of a write by line, so that lines out of service drop theirs. -/
def chunks : Nat → Nat → List Byte → List (Nat × List Byte)
  | 0, _, _ => []
  | k + 1, a, bs =>
    if bs.isEmpty then [] else
    let n := 64 - a % 64
    (a, bs.take n) :: chunks k (a + n) (bs.drop n)

/-- Bytes written to memory; lines out of service drop them (R247, R456). -/
def Dev.store (d : Dev) (a : Nat) (bs : List Byte) : Memory :=
  if (lines a bs.length).any d.lineLost then
    (chunks (bs.length / 64 + 2) a bs).foldl (fun m p => if d.lineLost (p.1 / 64) then m else m.write p.1 p.2) d.mem.mem
  else d.mem.mem.write a bs

/-- Hub-cache lines of a written DRAM range become dirty, under the page's key slot (R245). -/
def Dev.hubTouch (d : Dev) (a n : Nat) : KMap HcLine :=
  if isDram a then
    (lines a n).foldl (fun h l => h.set l { dirty := true, keySlot := (d.mem.pages.get {} (l * 64 / 65536)).slot }) d.mem.hub
  else d.mem.hub

/-- The bead a slot belongs to: its first byte and its size (R248). -/
def slotRange (block : Nat) (s : Slot) : Nat × Nat := (block * 512 + s.start.toNat * 64, (Sideband.ofWord s.word).size)

/-- CHK_VALID cleared in a slot. -/
def Slot.uncheck (s : Slot) : Slot := { s with word := setBits s.word 10 10 0 }

/-- CHK_VALID cleared in every slot whose bead covers a byte of the range (R73, R248). -/
def uncheckRange (side : KMap Slot) (a n : Nat) : KMap Slot :=
  side.mapv (fun b s => let r := slotRange b s
    if r.1 < a + n && a < r.1 + r.2 then s.uncheck else s)

/-- The slots after a whole-bead write of `n` bytes at `a` (R248). -/
def beadSlots (side : KMap Slot) (a n : Nat) (word : BitVec 64) : KMap Slot :=
  let kept := (side.keep (fun b s => let r := slotRange b s; !(a < r.1 && r.1 < a + n))).mapv (fun b s =>
    let r := slotRange b s
    if r.1 < a && a < r.1 + r.2 then s.uncheck else s)
  kept.set (a / 512) { word := word, start := BitVec.ofNat 3 (a / 64) }

/-- The sideband read with a bead that starts at `a` (R248). -/
def Dev.sideband (d : Dev) (a : Nat) : Sideband :=
  match d.mem.side.find? (a / 512) with
  | some s => if s.start.toNat = a / 64 % 8 then Sideband.ofWord s.word else {}
  | none => {}

/-- Every reservation for a line of the range is lost (R189). -/
def Dev.breakResv (d : Dev) (a n : Nat) : KMap Core :=
  d.cores.mapv (fun _ k => match k.sc.resv with
    | some (false, l) => if a / 64 ≤ l && l ≤ (a + n - 1) / 64 then { k with sc := { k.sc with resv := none } } else k
    | _ => k)

/-- Lines that a range covers whole. -/
def wholeLines (a n : Nat) : Nat × Nat := let l := ceilDiv a 64; (l, (a + n) / 64 - l)

/-- A line's data as one number. -/
def Dev.lineData (d : Dev) (line : Nat) : Nat := d.mem.mem.readNat (line * 64) 64

/-- The ciphertext that DRAM holds for a line (R428): AES-256-XTS under the slot's key and generation, the line's address as
tweak; slot 0 is the hub's own. -/
def Dev.cipher (d : Dev) (line slot : Nat) : Nat :=
  Config.xtsEncrypt (Config.deriveKey [d.sec.secret, slot, (d.sec.slots.get {} slot).gen, d.sec.bootNonce]) line (d.lineData line)

/-- A dirty hub-cache line written back to DRAM (R245): encrypted under the key slot it was written under. -/
def Dev.hubWriteBack (d : Dev) (line : Nat) : Dev :=
  match d.mem.hub.find? line with
  | none => d
  | some h =>
    { d with mem := { d.mem with
        dram := if h.dirty then d.mem.dram.set line (d.cipher line h.keySlot) else d.mem.dram
        hub := d.mem.hub.del line } }

/-- The hub-cache bank of a line among ways 0 to 14: its place is the model's own (DESIGN CHOICE, log entry 55). -/
def hubBank (line : Nat) : Nat := line % 240

/-- Lines that ways 0 to 14 hold: 240 MiB less their retired banks of 1 MiB (R240, R454). -/
def Dev.hubRoom (d : Dev) : Nat := 0x3C0000 - 0x4000 * (d.mem.hubRetired.filter (fun b => decide (b < 240))).length

/-- Lines that leave the hub cache of written lines: what it holds then, and the ciphertext in DRAM. -/
def Dev.hubSpill (d : Dev) (ls : List Nat) : KMap HcLine × KMap Nat :=
  ls.foldl (fun s l => match s.1.find? l with
    | some h => (s.1.del l, if h.dirty then s.2.set l (d.cipher l h.keySlot) else s.2)
    | none => s) (d.mem.hub, d.mem.dram)

/-- What the capacity of ways 0 to 14 forces after a write (R240, R245, R454): a line whose bank is retired is not kept, and beyond the room
that reader copies leave, lines are written back. Which ones is open (a free value; DESIGN CHOICE, log entry 118). Lines that are only read, and
metadata lines, show nothing at all and are not listed. -/
def Dev.hubTrim (d : Dev) : Dev :=
  let bad (l : Nat) : Bool := d.mem.hubRetired.contains (hubBank l)
  let out := d.mem.hub.keys.filter bad
  let n := d.mem.hub.length + d.coh.copies.length - out.length - d.hubRoom
  if out.isEmpty && n = 0 then d
  else
    let r := d.draw
    let ks := d.mem.hub.keys.filter (fun l => !bad l)
    let i := r.1.toNat % max ks.length 1
    let s := d.hubSpill (out ++ (ks.drop i ++ ks.take i).take n)
    { r.2 with mem := { r.2.mem with hub := s.1, dram := s.2 } }

/-- A write that does not go through a bead path: a scalar store, a host transfer, plain data (R73, R449). Whole lines
are replaced and lose their poison when `clears`; a poisoned source poisons every line touched. -/
def Dev.writePlain (d : Dev) (a : Nat) (bs : List Byte) (clears poison : Bool) : Dev :=
  if bs.isEmpty then d else
  let w := wholeLines a bs.length
  let pz := if clears then d.mem.poison.removeRange w.1 w.2 else d.mem.poison
  let pz := if poison then (lines a bs.length).foldl NSet.insert pz else pz
  ({ d with
    cores := d.breakResv a bs.length
    mem := { d.mem with mem := d.store a bs, poison := pz, side := uncheckRange d.mem.side a bs.length, hub := d.hubTouch a bs.length } }).hubTrim

/-- A bead written whole with its sideband (R73); its lines are poisoned, or lose their poison (R449). -/
def Dev.writeBead (d : Dev) (a : Nat) (bytes : List Byte) (sb : Sideband) (poison : Bool) : Dev :=
  let n := bytes.length
  let pz := d.mem.poison.removeRange (a / 64) (ceilDiv n 64)
  let pz := if poison then pz.insertRange (a / 64) (ceilDiv n 64) else pz
  ({ d with
    cores := d.breakResv a n
    mem := { d.mem with mem := d.store a bytes, poison := pz, side := beadSlots d.mem.side a n sb.word, hub := d.hubTouch a n } }).hubTrim

/-- A range zero-filled, its poison cleared (R430, R431, R449): beads that begin in it are gone, and one that reaches into it is no
longer checked (R73, R248). -/
def Dev.zeroFill (d : Dev) (a n : Nat) : Dev :=
  ({ d with
    cores := d.breakResv a n
    mem := { d.mem with
      mem := d.mem.mem.zero a n, poison := d.mem.poison.removeRange (a / 64) (ceilDiv n 64)
      side := (uncheckRange d.mem.side a n).keep (fun b s => let r := slotRange b s; r.1 < a || a + n ≤ r.1)
      hub := d.hubTouch a (if isDram a then n else 0) } }).hubTrim

/-- Lines marked poisoned (R448). -/
def Dev.poison (d : Dev) (a n : Nat) : Dev :=
  { d with mem := { d.mem with poison := (lines a n).foldl NSet.insert d.mem.poison } }

/-! ### Arm records -/

/-- The lines a bead position of a record holds. -/
def ArmRec.covers (r : ArmRec) (line : Nat) : Bool := r.pos.any (fun p => p / 64 ≤ line && line < p / 64 + ceilDiv r.stride 64)

/-- The armed position that starts at an MPA: core, record, position (R101, R102). -/
def Dev.armedAt (d : Dev) (a : Nat) : Option (Nat × Nat × Nat) :=
  match memKind a with
  | .stack c | .scratch c =>
    (d.core c).arms.findSome? (fun (i, r) => (r.pos.findIdx? (· = a)).map (fun p => (c, i, p)))
  | _ => none

/-- A whole bead written by `w` where it may land (R102, R104): the cause that the writer learns, 0 when written. A bead
whose tag differs from the record's is discarded with 0x0311, a bead for a position that is set with 0x0315; a domain that is being reset absorbs with 0x0932 (18 R472). -/
def Dev.landWith (d : Dev) (a : Nat) (sb : Sideband) (w : Dev → Dev) : Dev × Cause :=
  if (match memKind a with | .stack c | .scratch c => d.inReset c | _ => false) then (d, 0x0932) else
  match d.armedAt a with
  | none => (w d, 0)
  | some (c, i, p) =>
    let r := (d.core c).arms.get {} i
    if sb.chkValid && sb.tag ≠ r.tag then (d, 0x0311)
    else if r.landed.contains p then
      (d.modCore c (fun k => { k with tx := { k.tx with txarmovr := k.tx.txarmovr + 1 } }), 0x0315)
    else
      let d := (w d).modCore c (fun k => { k with arms := k.arms.set i { r with
          landed := r.landed.insert p, times := r.times.set p d.time } })
      (match (d.core c).run with | some r => d.event r.part | none => d, 0)

/-- A whole bead written at consecutive addresses where it may land. -/
def Dev.landBead (d : Dev) (a : Nat) (bytes : List Byte) (sb : Sideband) (poison : Bool) : Dev × Cause :=
  d.landWith a sb (fun d => d.writeBead a bytes sb poison)

/-- A bead that arrives from another core or module: its check is verified, and a failing one is written poisoned
(R74, R102). -/
def Dev.arriveBead (d : Dev) (a : Nat) (bytes : List Byte) (sb : Sideband) (poison : Bool) : Dev × Cause :=
  let bad := sb.chkValid && beadCheck bytes sb.tag sb.fmt sb.mx ≠ sb.check
  d.landBead a bytes sb (poison || bad)

/-! ### Tensor instructions of a core -/

/-- The queue entry of a tensor instruction, by its number. -/
def Core.entry? (k : Core) (id : Nat) : Option TiqEntry := k.tiq.find? (·.id = id)

/-- A queue entry changed. -/
def Core.modEntry (k : Core) (id : Nat) (f : TiqEntry → TiqEntry) : Core :=
  { k with tiq := k.tiq.map (fun e => if e.id = id then f e else e) }

/-- A tensor instruction's outcome recorded in its entry; TENSOR_COMPLETE reports it. -/
def Dev.finish (d : Dev) (c id : Nat) (r : Completion) : Dev :=
  d.modCore c (fun k => k.modEntry id (fun e => { e with done := some r }))

/-- The chain registers that squashed CSETs had changed are put back, youngest first (R193, R205). -/
def restoreChains (tx : TensorRegs) (es : List TiqEntry) : TensorRegs :=
  es.foldr (fun e tx => match decodeTensor e.word with
    | some (.cset cr _) => { tx with
        cr := tx.cr.set cr e.oldChain
        crUnchecked := if e.oldUnchecked then tx.crUnchecked.insert cr else tx.crUnchecked.remove cr }
    | _ => tx) tx

/-- The cycle counter of a core now (R187, R206): as last known, and what has passed since at the core's clock (R31, R400). -/
def Dev.nowCycle (d : Dev) (c : Nat) : Nat :=
  (d.core c).sc.cycle + nsBetween (d.core c).sc.cycleAt d.time * (d.power.cores.get {} c).fll / 1000

/-- SQUASH (R205, R206): the tentative entries that `young` selects are abandoned; those an engine had begun are counted,
with the core cycles from their beginning to `cycle`. -/
def Core.squash (k : Core) (cycle : Nat) (young : TiqEntry → Bool) : Core :=
  let gone := k.tiq.filter (fun e => !e.committed && young e)
  let begun := gone.filter (·.begun)
  { k with
    tiq := k.tiq.filter (fun e => e.committed || !young e)
    tx := { restoreChains k.tx gone with
      txsqcnt := k.tx.txsqcnt + begun.length
      txsqcyc := k.tx.txsqcyc + (begun.map (fun e => cycle - e.beginCycle)).foldl (· + ·) 0 }
    cnt := { k.cnt with squashed := k.cnt.squashed + begun.length } }

/-- The front end is told that a core's entry has ended (R294): the entry waits for its completion steps in order. -/
def Queue.endEntry (q : Queue) (index : Nat) (e : Ending) : Queue :=
  { q with flight := q.flight.map (fun f => if f.index = index then { f with ended := some e, running := false } else f) }

/-- A field of a queue's descriptor (R285). -/
def Queue.field (q : Queue) (off n : Nat) : Nat := leNat ((q.desc.drop off).take n)
/-- Ring size of a queue (R285). -/
def Queue.sqSize (q : Queue) : Nat := 2 ^ q.field 0x14 1
/-- Completion-ring size of a queue. -/
def Queue.cqSize (q : Queue) : Nat := 2 ^ q.field 0x15 1
/-- QFLAGS of a queue. -/
def Queue.flag (q : Queue) (i : Nat) : Bool := q.field 0x18 2 / 2 ^ i % 2 = 1
/-- RT of a queue's CLASS. -/
def Queue.rt (q : Queue) : Bool := q.field 0x16 1 / 128 % 2 = 1
/-- Best-effort priority of a queue. -/
def Queue.prio (q : Queue) : Nat := q.field 0x16 1 % 4
/-- RT_SHARE of a queue. -/
def Queue.share (q : Queue) : Nat := q.field 0x17 1

/-- Whether a core is in service (01 R37). -/
def Dev.inService (d : Dev) (c : Nat) : Bool := match (d.rig c).state with
  | .idle | .busy | .quiesced | .resetting => true
  | _ => false

/-- Cores of this module that a rig holds and that are in service. -/
def Dev.coresHere (d : Dev) (r : BitVec 32) : Nat := ((List.range 512).filter (fun c => rigHolds r d.id c && d.inService c)).length

/-- A field of the RCB that another module last reported (01 R37). -/
def PeerRig.field (p : PeerRig) (off n : Nat) : Nat := leNat ((p.rcb.drop off).take n)

/-- The other modules of an L4 or L5 rig, as last heard of (01 R38). -/
def Dev.peersOf (d : Dev) (r : BitVec 32) : List PeerRig :=
  if rigLevel r < 4 then [] else (d.fe.peers.filter (fun m => m.1 ≠ d.id.toNat && rigHolds r (BitVec.ofNat 14 m.1) 0)).map (·.2)

/-- A field summed over the other modules of a rig. -/
def Dev.peerSum (d : Dev) (r : BitVec 32) (off n : Nat) : Nat := ((d.peersOf r).map (·.field off n)).foldl (· + ·) 0

/-- CORES_ACTIVE of a rig (01 R37). -/
def Dev.coresActive (d : Dev) (r : BitVec 32) : Nat := d.coresHere r + d.peerSum r 8 4

/-- Whether an entry runs at another member of its queue's rig (R288). -/
def FlightEntry.away (f : FlightEntry) (me : BitVec 14) : Bool :=
  f.running && f.ended.isNone && (match f.member with | some m => m ≠ me | none => false)

/-- Cores that run an entry of a queue now, here or at another member: each is charged to it (R298). -/
def Dev.running (d : Dev) (q : Nat) : Nat :=
  (d.cores.filter (fun p => match p.2.run with | some r => decide (r.queue = q) | none => false)).length
    + (match d.fe.queues.find? q with | some x => (x.flight.filter (·.away d.id)).length | none => 0)

/-- A value kept between a floor of −8 times its cap and the cap. -/
def clampCredit (cap v : Int) : Int := if cap < v then cap else if v < -8 * cap then -8 * cap else v

/-- The rate of a real-time queue's credit, in core-nanoseconds over 1,024 for each ns (R299). -/
def Dev.creditRate (d : Dev) (q : Queue) : Nat := if q.rt then q.share * 16 * d.coresActive q.rig else 0

/-- A charge of `n` core-nanoseconds to a queue, after its credit has grown for `grown` ns (R299). -/
def Dev.creditAfter (d : Dev) (q : Queue) (grown : Nat) (n : Int) : Queue :=
  let rate := d.creditRate q
  { q with
    credit := if q.rt then clampCredit ((rate * d.fe.window : Nat) : Int) (q.credit + ((rate * grown : Nat) : Int) - 1024 * n) else 0
    windowCharge := ((q.windowCharge : Int) + n).toNat }

/-- A real-time queue's credit and a queue's window charge brought up to now (R299), in core-nanoseconds over 1,024. -/
def Dev.settleQueue (d : Dev) (i : Nat) : Dev :=
  match d.fe.queues.find? i with
  | none => d
  | some q =>
    let n := nsBetween q.credited d.time
    { d with fe := { d.fe with queues := d.fe.queues.set i { d.creditAfter q n ((d.running i * n : Nat) : Int) with credited := d.time } } }

/-- RTSUM of a core: shares of the ACTIVE real-time queues whose rig contains it, here and at other modules (R301). -/
def Dev.rtSum (d : Dev) (c : Nat) : Nat :=
  (d.fe.queues.vals.map (fun q => if q.state = .active && q.rt && rigHolds q.rig d.id c then q.share else 0)).foldl (· + ·) 0
    + (d.fe.peerRt.map (fun q => if rigHolds q.rig d.id c then q.share else 0)).foldl (· + ·) 0

/-- A core's borrow balance brought up to now (R301): it falls by the charge of an entry dispatched through the borrowing branch. A
core that no real-time queue has reached yet holds none. -/
def Dev.settleCore (d : Dev) (c : Nat) : Dev :=
  let s := (d.fe.sched.find? c).getD { settled := d.time }
  let n := nsBetween s.settled d.time
  let r := d.rtSum c
  let busy := match (d.core c).run with | some x => x.borrowed | none => false
  let v : Int := s.borrow + ((r * n : Nat) : Int) - (if busy then ((1024 * n : Nat) : Int) else 0)
  { d with fe := { d.fe with sched := d.fe.sched.set c { s with borrow := clampCredit ((r * d.fe.window : Nat) : Int) v, settled := d.time } } }

/-- Every queue and core settled, before shares or the cores in service change (R299, R301). -/
def Dev.settleAll (d : Dev) : Dev := d.fe.sched.keys.foldl Dev.settleCore (d.fe.queues.keys.foldl Dev.settleQueue d)

/-- What a core's entry owes is settled, and its charge ends (R298). -/
def Dev.charge (d : Dev) (c : Nat) (r : Running) : Dev := (d.settleQueue r.queue).settleCore c

/-- Key under which a core's entry of another module's queue runs (R288). -/
def forwardKey (holder : BitVec 14) (queue : Nat) : Nat := 65536 * (holder.toNat + 1) + queue

/-- A packet of the hub outside the pair order (R342, R344). -/
def Dev.hubSend (d : Dev) (p : Packet) : Dev :=
  let p := { p with src := d.id, ts := BitVec.ofNat 16 (nsOf d.time / 1000), epoch := d.fab.epoch }
  { d with fab := { d.fab with hubOut := d.fab.hubOut ++ [p] } }

/-- A management service's message to another module (R514): one MGMT packet under the system key. The service's number goes in
XARG[7:0] and its number of 64-bit words in XARG[15:8]; both, and the words, are the model's own (DESIGN CHOICE, log entry 16). -/
def Dev.mgmt (d : Dev) (dst : BitVec 14) (kind : Nat) (args : List Nat) (bytes : List Byte) : Dev :=
  d.hubSend { ptype := 0x18, tc := 4, dst := dst, xarg := BitVec.ofNat 64 (kind + args.length * 256)
              payload := (args.map (leBytes 8)).flatten ++ bytes }

/-- Entries in flight on a core: dispatched and not ended (R42). -/
def Dev.coreFlight (d : Dev) (c : Nat) : Nat :=
  (d.fe.queues.vals.map (fun q => (q.flight.filter (fun f => f.core = some c && f.ended.isNone)).length)).foldl (· + ·) 0
    + (d.fe.forwarded.filter (fun f => f.e.core = some c && f.e.ended.isNone)).length

/-- The entries forwarded here that have ended on a core are reported to the modules that hold their queues, once the core's older stores
have been performed (R288, R294): cause, status, argument and the time of the end. -/
def Dev.reportEnded (d : Dev) (c : Nat) : Dev :=
  if !(d.core c).sc.stores.isEmpty then d
  else
    let mine (f : ForwardedEntry) : Bool := f.e.core = some c && f.e.ended.isSome
    let gone := d.fe.forwarded.filter mine
    gone.foldl (fun (d : Dev) f =>
      let e := f.e.ended.getD {}
      d.mgmt f.holder 0x11 [f.queue, f.e.index, e.cause.toNat, e.status.toNat, e.arg1.toNat, f.e.endedAt.toNat] [])
      { d with fe := { d.fe with forwarded := d.fe.forwarded.filter (fun f => !mine f) } }

/-- The front end is told that the entry of a core has ended (R294): this module's queue notes it; an entry forwarded from another module
is reported to the module that holds its queue (R288). -/
def Dev.noteEnd (d : Dev) (c : Nat) (r : Running) (e : Ending) : Dev :=
  if r.queue < 65536 then { d with fe := { d.fe with queues := d.fe.queues.upd {} r.queue (fun q => q.endEntry r.index e) } }
  else
    ({ d with fe := { d.fe with forwarded := d.fe.forwarded.map (fun (f : ForwardedEntry) =>
        if f.e.core = some c && f.e.running then { f with e := { f.e with ended := some e, running := false, endedAt := d.time } } else f) } }).reportEnded c

/-- The end of the entry a core runs (R190): its tentative work is squashed, its arm records released, its reservation
dropped, and the front end told. -/
def Dev.endEntry (d : Dev) (c : Nat) (e : Ending) : Dev :=
  match (d.core c).run with
  | none => d
  | some r =>
    let d := d.charge c r
    let d := d.modCore c (fun k =>
      let k := k.squash (d.nowCycle c) (fun _ => true)
      { k with run := none, ending := none, arms := [], tiq := k.tiq.filter (·.committed)
               sc := { k.sc with resv := none, wait := none, machine := true } })
    let d := d.noteEnd c r e
    let last := decide (d.coreFlight c = 0)
    d.modRig c (fun g => if g.state = .busy then { g with state := if g.quiescing && last then .quiesced else .idle } else g)

/-- An entry heads for its end (R190): it ends at once when no committed tensor instruction is left, and otherwise when the
last one has completed. The first cause stands, but a fault takes precedence over the program's own end. -/
def Dev.beginEnd (d : Dev) (c : Nat) (e : Ending) : Dev :=
  let d := d.modCore c (fun k => { k.squash (d.nowCycle c) (fun _ => true) with ending := match k.ending with
    | some e' => if e.fault && !e'.fault then some e else some e'
    | none => some e })
  match (d.core c).ending with
  | some e => if (d.core c).tiq.any (·.committed) then d else d.endEntry c e
  | none => d

/-- An exception taken in user mode ends the entry with 0x0130 (R190). -/
def Dev.exception (d : Dev) (c : Nat) (mcause mtval : Word) : Dev :=
  let d := d.modCore c (fun k => { k with sc := { k.sc with mcause := mcause, mtval := mtval, resv := none } })
  d.beginEnd c { cause := 0x0130, status := mcause, arg0 := mcause, arg1 := mtval }

/-! ### Semaphores -/

/-- MPA of a semaphore's slot (R276). -/
def semSlot (n : Nat) : Nat := windowBase 0 + 64 * n

/-- VALUE of a semaphore. -/
def Dev.semValue (d : Dev) (n : Nat) : Word := BitVec.ofNat 64 (d.mem.mem.readNat (semSlot n) 8)
/-- PKEY of a semaphore. -/
def Dev.semKey (d : Dev) (n : Nat) : BitVec 16 := BitVec.ofNat 16 (d.mem.mem.readNat (semSlot n + 8) 2)
/-- GEN of a semaphore. -/
def Dev.semGen (d : Dev) (n : Nat) : BitVec 6 := BitVec.ofNat 6 (d.mem.mem.readNat (semSlot n + 10) 1)
/-- ALLOCATED of a semaphore. -/
def Dev.semAlloc (d : Dev) (n : Nat) : Bool := d.mem.mem.readNat (semSlot n + 11) 1 % 2 = 1

/-- VALUE written. -/
def Dev.semSet (d : Dev) (n : Nat) (v : Word) : Dev := d.writePlain (semSlot n) (leBytes 8 v.toNat) false false

/-- How a handle fares at the home (R230): 0, stale 0x0141, or foreign 0x0142, in that order. -/
def Dev.semCheck (d : Dev) (h : SemHandle) (key : BitVec 16) : Cause :=
  if !d.semAlloc h.sem || d.semGen h.sem ≠ h.gen then 0x0141
  else if d.semKey h.sem ≠ key then 0x0142
  else 0

/-- Notice 0x0142 at the home (R230). -/
def Dev.semForeign (d : Dev) (handle : Word) (key : BitVec 16) (sender : BitVec 32) : Dev :=
  d.notice 0x0142 0 (handle.toNat % 2 ^ 40 + key.toNat * 2 ^ 48) sender.toNat

/-- Whether a tail moves forward within the ring (R289, R292). -/
def Queue.tailOk (q : Queue) (t : BitVec 32) : Bool :=
  (q.tail - q.fetched).toNat ≤ (t - q.fetched).toNat && (t - q.fetched).toNat ≤ q.sqSize

/-- A queue's tail set; a queue that begins to wait notes the moment (R300). -/
def Queue.setTail (q : Queue) (t : BitVec 32) (now : Time) : Queue :=
  { q with tail := t, waitStart := if q.waitStart.isNone && t ≠ q.tail then some now else q.waitStart }

/-- Whether a queue takes its tail from a semaphore as it is now allocated (R293, R305). -/
def Dev.tailFrom (d : Dev) (q : Queue) (n : Nat) : Bool :=
  let h := SemHandle.ofWord (BitVec.ofNat 64 (q.field 0x28 8))
  q.state = .active && q.flag 2 && h.sem = n && d.semCheck h (d.part q.part).key = 0

/-- Queues that take their tail from a semaphore look at it again (R293). -/
def Dev.recheckTails (d : Dev) (n : Nat) : Dev :=
  let v := (d.semValue n).truncate 32
  { d with fe := { d.fe with queues := d.fe.queues.mapv (fun _ q => if d.tailFrom q n && q.tailOk v then q.setTail v d.time else q) } }

/-- One pending WAIT looked at (R231): when the value reaches its threshold it is satisfied, any consume subtracted in
the same step. -/
def Dev.serveWait (d : Dev) (w : PendingWait) : Dev :=
  let v := d.semValue w.sem
  if w.threshold.toNat ≤ v.toNat then
    let d := if w.consume then d.semSet w.sem (v - w.threshold) else d
    let d := { d with coh := { d.coh with waits := d.coh.waits.filter (· ≠ w) } }
    d.finish w.core w.id {}
  else d

/-- Every pending WAIT on a semaphore looked at, in order (R231). -/
def Dev.serveWaits (d : Dev) (n : Nat) : Dev := (d.coh.waits.filter (·.sem = n)).foldl Dev.serveWait d

/-- An amount added to a semaphore, and what hangs on it looked at again (R230, R293). -/
def Dev.semAdd (d : Dev) (n : Nat) (inc : Word) : Dev :=
  let d := d.semSet n (d.semValue n + inc)
  let d := match d.partOfKey (d.semKey n) with | some p => d.event p | none => d
  (d.recheckTails n).serveWaits n

/-- A packet put into the hub egress to be posted in pair order (R357). -/
def Dev.egress (d : Dev) (p : Packet) (o : Owner) : Dev :=
  { d with fab := { d.fab with egressWait := d.fab.egressWait ++ [{ p := p, owner := o }] } }

/-- The SIGNAL packet of R344; the sending rig that R230 reports travels in the payload, a place of the model's own (DESIGN CHOICE, log
entry 19). -/
def signalPacket (key : BitVec 16) (handle : Word) (inc : Word) (sender : BitVec 32) : Packet :=
  { ptype := 5, tc := 2, dst := (SemHandle.ofWord handle).module, pkey := key, addr := handle.toNat % 2 ^ 40, xarg := inc
    payload := leBytes 4 sender.toNat }

/-- A SIGNAL applied or discarded at this home (R230), without the clasp's count: the sender's cause. -/
def Dev.signalHome (d : Dev) (handle inc : Word) (key : BitVec 16) (sender : BitVec 32) : Dev × Cause :=
  let h := SemHandle.ofWord handle
  match d.semCheck h key with
  | 0 => (d.semAdd h.sem inc, 0)
  | 0x0142 => ((d.stale).semForeign handle key sender, 0x0142)
  | c => (d.stale, c)

end Sys2Proof.Machine
end

