-- ==== Sys2Proof/Machine/Flags.lean ====
section
/-!
DEFINITION. Status words and flags: completion slots and TXFAULT (07 R196 to R198), ACC_STATE (04 R121), TXTIQ, TXRIG,
TXDBG and TXJOB (07 R194), signets (00 R2, 16 R440).
-/
namespace Sys2Proof.Machine

/-- ACC_STATE of a group (R121). -/
def accStateWord (held slim poisoned special : Bool) (cls passes : Nat) : BitVec 32 :=
  BitVec.ofNat 32 (b2n held * 2 ^ 30 + b2n slim * 2 ^ 29 + b2n poisoned * 2 ^ 28 + b2n special * 2 ^ 27 + cls % 8 * 2 ^ 24
    + min passes 0xFFFF)

/-- STATE of ACC_STATE is HELD. -/
def accHeld (w : BitVec 32) : Bool := bits w 31 30 = 1
/-- SHAPE of ACC_STATE. -/
def accSlim (w : BitVec 32) : Bool := bit w 29
/-- PASSES of ACC_STATE. -/
def accPasses (w : BitVec 32) : Nat := bits w 15 0

/-- ACC_STATE after a pass (R120, R121): a close leaves EMPTY with SHAPE, POISONED and SPECIAL 0. -/
def accAfter (old : BitVec 32) (mode : Nat) (slim poisoned special : Bool) (cls : Nat) : BitVec 32 :=
  let passes := if mode = 0 || mode = 3 then 1 else accPasses old + 1
  if mode ≤ 1 then accStateWord true slim poisoned special cls passes
  else accStateWord false false false false cls passes

/-- A completion slot's word (R197). -/
def tcsWord (unit : Nat) (r : Completion) : Word :=
  BitVec.ofNat 64 (2 ^ 63 + b2n (r.cause ≠ 0) * 2 ^ 62 + unit * 2 ^ 56 + r.cause.toNat * 2 ^ 32 + r.result.toNat)

/-- VALID of TXFAULT. -/
def txValid (w : Word) : Bool := bit w 63

/-- TXFAULT after a fault (R196): the first is latched, later ones set MULTI and count. -/
def txfaultAfter (w : Word) (unit slot : Nat) (cause : Cause) : Word :=
  let n := min (bits w 15 0 + 1) 0xFFFF
  if txValid w then setBits (setBits w 62 62 1) 15 0 n
  else BitVec.ofNat 64 (2 ^ 63 + unit * 2 ^ 56 + slot * 2 ^ 48 + cause.toNat * 2 ^ 32 + n)

/-- SPEC_EN of TXCTL (R195). -/
def specEn (w : Word) : Bool := bit w 2
/-- FAULT_STOP of TXCTL. -/
def faultStop (w : Word) : Bool := bit w 1
/-- END_ON_FAULT of TXCTL. -/
def endOnFault (w : Word) : Bool := bit w 0

/-- Entries of the issue queue that are tentative. -/
def Core.tentative (k : Core) : Nat := (k.tiq.filter (fun e => !e.committed)).length

/-- TXTIQ (R194). -/
def Core.txtiq (k : Core) : Word := BitVec.ofNat 64 (k.tiq.length * 256 + k.tentative)

/-- Physical index of a logical core (01 R17): its own, or its spare's. -/
def Dev.physical (d : Dev) (c : Nat) : Nat := d.pkg.physical.get (c % 64) c

/-- TXRIG (R194). -/
def Dev.txrig (d : Dev) (c : Nat) : Word :=
  BitVec.ofNat 64 ((coreRig d.id c).toNat + d.physical c * 2 ^ 32 + c / 64 * 2 ^ 40)

/-- TXDBG (R194). -/
def Dev.txdbg (d : Dev) (c : Nat) : Word :=
  BitVec.ofNat 64 (b2n (d.core c).dbg + 2 * (match (d.core c).run with | some r => b2n (d.part r.part).consent.set | none => 0))

/-- TXJOB (R194). -/
def Core.txjob (k : Core) : Word := BitVec.ofNat 64 (k.accGroups + (0x400000 - k.accGroups * 0x10000) * 2 ^ 32)

/-- The pair-mode signet is held (R2, R440). -/
def Dev.sigPair (d : Dev) : Bool := bit d.signetMask 0
/-- The 4-bit signet is held (R2, R440). -/
def Dev.sig4 (d : Dev) : Bool := bit d.signetMask 1
/-- Whether a signet bears on a core's work (R4): as the mask stood when its job began, or as it stands where it runs for no job. -/
def Dev.sigFor (d : Dev) (c i : Nat) : Bool := match (d.core c).run with
  | some r => (match (d.part r.part).job with | some j => bit j.signets i | none => bit d.signetMask i)
  | none => bit d.signetMask i
/-- The fabric-size signet is held (R2, R440). -/
def Dev.sigFabric (d : Dev) : Bool := bit d.signetMask 2
/-- The partitions signet is held (R2, R440). -/
def Dev.sigParts (d : Dev) : Bool := bit d.signetMask 3

end Sys2Proof.Machine
end

