-- ==== Sys2Proof/Machine/Translate.lean ====
section
/-!
DEFINITION. Translation and the whole-extent check (09 R250 to R262): the local window, the five-level walk, entries and
their validity, `check_extent`.
-/
namespace Sys2Proof.Machine

/-- Who makes an access: a core, or the hub or host for a partition (R250). -/
structure Accessor where
  core : Option Nat := none
  part : Nat := 0
  deriving DecidableEq, Repr

/-- Rights an access needs (R259). -/
structure Need where
  r : Bool := false
  w : Bool := false
  x : Bool := false
  deriving DecidableEq, Repr

/-- One page as a translation finds it: its last virtual byte, rights, the memory, and the MPA of the address asked. -/
structure PageView where
  last : Nat := 0
  r : Bool := false
  w : Bool := false
  x : Bool := false
  mem : MemKind := .nothing
  mpa : Nat := 0
  leaf : Word := 0
  /-- bytes of the page -/
  size : Nat := 65536
  deriving DecidableEq, Repr

/-- What a translation gives. -/
inductive Xl where
  | page (v : PageView)
  | unmapped
  | invalid (mpa level : Nat)
  deriving DecidableEq, Repr

/-- Bit width of the page that a leaf at a level maps (R252). -/
def pageBits : Nat → Nat
  | 2 => 30 | 1 => 21 | _ => 16

/-- Index of a virtual address at a level (R252). -/
def walkIndex (va : Nat) : Nat → Nat
  | 4 => va / 2 ^ 48 % 512 | 3 => va / 2 ^ 39 % 512 | 2 => va / 2 ^ 30 % 512 | 1 => va / 2 ^ 21 % 512
  | _ => va / 2 ^ 16 % 32

/-- TARGET of a leaf: true when REMOTE. -/
def leafRemote (e : Word) : Bool := bits e 61 60 = 1
/-- Home module of a REMOTE leaf. -/
def leafHome (e : Word) : Nat := bits e 43 30
/-- MPA of a LOCAL leaf's page. -/
def leafMpa (e : Word) : Nat := bits e 43 12 * 65536
/-- KEY_SLOT of a leaf. -/
def leafSlot (e : Word) : Nat := bits e 55 46

/-- Whether a memory may be mapped (R254): mappable DRAM, a stack bank, a scratchpad, a coherent window but window 0. -/
def mappable : MemKind → Bool
  | .dram | .stack _ | .scratch _ => true
  | .window w => w ≠ 0
  | _ => false

/-- Whether a leaf with V = 1 at a level keeps the table of R254. -/
def leafValid (e : Word) (level : Nat) : Bool :=
  level ≤ 2 && bits e 61 60 ≤ 1 && bits e 56 56 = 0 && bits e 45 44 = 0 && bits e 11 0 = 0 &&
  (if leafRemote e then bits e 29 12 = 0 && leafSlot e = 0
   else
     let a := leafMpa e
     let n := 2 ^ pageBits level
     let k := memKind a
     a % n = 0 && mappable k && memKind (a + n - 1) = k && (if k = .dram then leafSlot e ≠ 0 else leafSlot e = 0))

/-- Whether a pointer entry with V = 1 is valid (R253). -/
def pointerValid (e : Word) (level : Nat) : Bool := level ≠ 0 && bits e 61 48 = 0 && bits e 7 0 = 0

/-- The page a leaf gives. -/
def leafPage (e : Word) (va level : Nat) : PageView :=
  let n := 2 ^ pageBits level
  { last := va / n * n + n - 1, r := bit e 59, w := bit e 58, x := bit e 57, leaf := e, size := n
    mem := if leafRemote e then .remote (leafHome e) else memKind (leafMpa e)
    mpa := if leafRemote e then va else leafMpa e + va % n }

/-- The walk (R252 to R254, R257, R258) from a table at a level down. -/
def Dev.walk (d : Dev) (va : Nat) : Nat → Nat → Xl
  | level, table =>
    let a := table + 8 * walkIndex va level
    let e : Word := BitVec.ofNat 64 (d.mem.mem.readNat a 8)
    if d.poisoned (a / 64) then .invalid a level
    else if !bit e 63 then .unmapped
    else if bit e 62 then (if leafValid e level then .page (leafPage e va level) else .invalid a level)
    else match level with
      | 0 => .invalid a 0
      | l + 1 => if pointerValid e (l + 1) then d.walk va l (bits e 47 8 * 256) else .invalid a (l + 1)

/-- Bytes of virtual space below one entry of a level (R252). -/
def entrySpan : Nat → Nat
  | 4 => 2 ^ 48 | 3 => 2 ^ 39 | 2 => 2 ^ 30 | 1 => 2 ^ 21 | _ => 2 ^ 16

/-- The level whose entry covers a span (R252). -/
def spanLevel (n : Nat) : Nat := ((List.range 5).find? (fun l => entrySpan l = n)).getD 0

/-- The pointer entries that a walk passes, from a table at a level down (R257). -/
def Dev.walkPointers (d : Dev) (va : Nat) : Nat → Nat → List (Nat × Word)
  | 0, _ => []
  | l + 1, table =>
    let e : Word := BitVec.ofNat 64 (d.mem.mem.readNat (table + 8 * walkIndex va (l + 1)) 8)
    if bit e 63 && !bit e 62 && pointerValid e (l + 1) then (l + 1, e) :: d.walkPointers va l (bits e 47 8 * 256) else []

/-- An entry of a translation unit's caches covers an address of a partition. -/
def TcEntry.covers (e : TcEntry) (part va : Nat) : Bool := e.part = part && e.page ≤ va && va < e.page + e.size

/-- The page that a core's translation cache holds for an address (R257). -/
def Core.cachedPage (k : Core) (part va : Nat) : Option PageView :=
  (k.tcache.find? (·.covers part va)).map (fun e => leafPage e.leaf va (spanLevel e.size))

/-- Where a core's walk begins: below the narrowest pointer entry cached for the address, as level and table, or at the root (R257). -/
def Core.walkStart (k : Core) (part va root : Nat) : Nat × Nat :=
  match (k.pcache.filter (·.covers part va)).foldl (fun (b : Option TcEntry) e => match b with
      | some x => if e.size < x.size then some e else b
      | none => some e) none with
  | some e => (spanLevel e.size - 1, bits e.leaf 47 8 * 256)
  | none => (4, root)

/-- In-service pairs of a core's local window, in increasing pair number (R244): the pairs in service at its last load. -/
def Core.windowPairs (k : Core) : List Nat := (List.range 32).filter (fun p => !bit k.windowOut p)

/-- The local window of a core (R251). -/
def Dev.window (d : Dev) (c va : Nat) : Xl :=
  let last := va / 65536 * 65536 + 65535
  if 0x4000000 ≤ va && va < 0x4400000 then
    .page { last := last, r := true, w := true, mem := .scratch c, mpa := scratchBase c + (va - 0x4000000) }
  else if 0x8000000 ≤ va && va < 0xC000000 then
    let o := va - 0x8000000
    match (d.core c).windowPairs[o / 0x200000]? with
    | some p => .page { last := last, r := true, w := true, mem := .stack c, mpa := stackBase c + p * 0x200000 + o % 0x200000 }
    | none => .unmapped
  else .unmapped

/-- Translation of one address for an accessor (R250): a core asks its translation unit's caches first (R257). -/
def Dev.translate (d : Dev) (who : Accessor) (va : Nat) : Xl :=
  if 2 ^ 57 ≤ va then .unmapped
  else if va < 0x10000000 then
    match who.core with
    | some c => d.window c va
    | none => .unmapped
  else
    let root := (d.part who.part).root
    if root = 0 then .unmapped
    else match who.core with
      | none => d.walk va 4 root
      | some c => match (d.core c).cachedPage who.part va with
        | some v => .page v
        | none => let s := (d.core c).walkStart who.part va root; d.walk va s.1 s.2

/-- Whether an unmap of the page of an address is under way, so that no further access of the partition passes (R258). -/
def Dev.leaving (d : Dev) (who : Accessor) (va : Nat) : Bool :=
  decide (0x10000000 ≤ va) && d.sec.leaving.any (fun l => l.part = who.part && l.va ≤ va && decide (va < l.va + l.size))

/-- First byte of the sealed region of a core's scratchpad (R124). -/
def Dev.sealedFrom (d : Dev) (c : Nat) : Nat := scratchBase c + 0x400000 - (d.core c).accGroups * 0x10000

/-- A page's first byte out of service, at or after `va` (R260): retired stack-bank pairs. -/
def Dev.firstRetired (d : Dev) (v : PageView) (lo hi : Nat) : Option Nat :=
  match v.mem with
  | .stack c =>
    let n := (hi - lo) / 0x200000 + 2
    ((List.range n).map (fun i => if i = 0 then v.mpa else (v.mpa / 0x200000 + i) * 0x200000)).findSome? (fun a =>
      if a < v.mpa + (hi - lo) + 1 && bit (d.core c).retiredPairs ((a - stackBase c) / 0x200000) then some (lo + (a - v.mpa)) else none)
  | _ => none

/-- A page's first sealed byte, at or after `lo` (R260). -/
def Dev.firstSealed (d : Dev) (v : PageView) (lo hi : Nat) : Option Nat :=
  match v.mem with
  | .scratch c =>
    let s := d.sealedFrom c
    if s ≤ v.mpa then (if (d.core c).accGroups = 0 then none else some lo)
    else if s ≤ v.mpa + (hi - lo) then (if (d.core c).accGroups = 0 then none else some (lo + (s - v.mpa)))
    else none
  | _ => none

/-- Whether a core's memory is not served (R455). -/
def Dev.offline (d : Dev) : MemKind → Bool
  | .stack c | .scratch c => (d.core c).offline
  | _ => false

/-- The part of one page in the loop of `check_extent` (R260): a finding, or the memory and the MPA range. -/
def Dev.checkPage (d : Dev) (who : Accessor) (need : Need) (dbg : Bool) (first : Option MemKind) (p end_ : Nat) :
    Except Finding PageView :=
  let f (c : Cause) (va : Nat) : Except Finding PageView := .error { cause := c, va := BitVec.ofNat 64 va, xlate := true }
  if d.leaving who p then f 0x0201 p else
  match d.translate who p with
  | .unmapped => f 0x0201 p
  | .invalid a level => .error { cause := 0x0207, va := BitVec.ofNat 64 p, xlate := true, walk := some (a, level) }
  | .page v =>
    let hi := min end_ v.last
    if need.r && !v.r then f 0x0202 p
    else if need.w && !v.w then f 0x0203 p
    else if need.x && !v.x then f 0x0204 p
    else if first.isSome && first ≠ some v.mem then f 0x0205 p
    else if d.offline v.mem then f 0x0844 p
    else match d.firstRetired v p hi with
      | some b => f 0x0206 b
      | none =>
        match d.firstSealed v p hi with
        | some s => if dbg && need.r && !need.w && !need.x then .ok v else f 0x0220 s
        | none => .ok v

/-- The loop of `check_extent` over pages; `n` bounds the pages left. -/
def Dev.checkPages (d : Dev) (who : Accessor) (need : Need) (dbg : Bool) :
    Nat → Option MemKind → Nat → Nat → Except Finding MemKind
  | 0, first, _, _ => .ok (first.getD .nothing)
  | n + 1, first, p, end_ =>
    match d.checkPage who need dbg first p end_ with
    | .error e => .error e
    | .ok v => if end_ ≤ v.last then .ok v.mem else d.checkPages who need dbg n (some v.mem) (v.last + 1) end_

/-- `check_extent` (R260): the one memory an extent reaches, or the first finding. -/
def Dev.checkExtent (d : Dev) (who : Accessor) (need : Need) (dbg : Bool) (va len : Nat) : Except Finding MemKind :=
  if len = 0 then .ok .nothing
  else d.checkPages who need dbg (len / 65536 + 2) none va (va + len - 1)

/-- Whether tile loads, tile moves and control-core loads of a core may read a sealed region (R127). -/
def Dev.debugRead (d : Dev) (c : Nat) : Bool :=
  (d.core c).dbg && (match (d.core c).run with | some r => (d.part r.part).consent.set && bit (d.part r.part).consent.scope 0 | none => false)

/-- The MPA of one address, after its extent has passed the check. -/
def Dev.mpa (d : Dev) (who : Accessor) (va : Nat) : Nat :=
  match d.translate who va with
  | .page v => v.mpa
  | _ => 2 ^ 48

/-- The accessor that a core is. -/
def Dev.who (d : Dev) (c : Nat) : Accessor := { core := some c, part := match (d.core c).run with | some r => r.part | none => 0 }

/-- Notice 0x0207 for a walk that met an invalid entry (R258). -/
def Dev.walkNotice (d : Dev) (who : Accessor) (f : Finding) : Dev :=
  match f.walk with
  | none => d
  | some (a, level) =>
    d.notify { code := 0x0207, part := some who.part, arg0 := BitVec.ofNat 64 (a + level * 2 ^ 48), arg1 := f.va
               rig := match who.core with | some c => coreRig d.id c | none => moduleRig d.id }

/-- The notice of a walk that the hub or the host makes for a partition, where it meets an invalid entry (R258). -/
def Dev.hubWalk (d : Dev) (part : Nat) (need : Need) (va n : Nat) : Dev :=
  match d.checkExtent { part := part } need false va n with
  | .error f => d.walkNotice { part := part } f
  | .ok _ => d

/-- The same for the partition that a key names. -/
def Dev.homeWalk (d : Dev) (key : BitVec 16) (need : Need) (va n : Nat) : Dev := match d.partOfKey key with
  | some p => d.hubWalk p need va n
  | none => d

/-- An entry taken into a cache of `n` entries, the one longest unused giving way: the manual names no replacement (DESIGN CHOICE, log
entry 119). -/
def cacheTake (n : Nat) (es : List TcEntry) (e : TcEntry) : List TcEntry :=
  let es := es.filter (· ≠ e) ++ [e]
  es.drop (es.length - n)

/-- A core's translation unit takes what the translation of an address gave (R257): the leaf into 256 entries, and of a walk the pointer
entries into 32. The local window needs none. -/
def Dev.tcFill (d : Dev) (c va : Nat) : Dev :=
  let who := d.who c
  match d.translate who va with
  | .page v =>
    if va < 0x10000000 then d
    else
      let leaf : TcEntry := { part := who.part, page := va / v.size * v.size, size := v.size, leaf := v.leaf }
      let ps := if ((d.core c).cachedPage who.part va).isSome then [] else d.walkPointers va 4 (d.part who.part).root
      let ptr (p : Nat × Word) : TcEntry := { part := who.part, page := va / entrySpan p.1 * entrySpan p.1, size := entrySpan p.1, leaf := p.2 }
      d.modCore c (fun k => { k with tcache := cacheTake 256 k.tcache leaf, pcache := ps.foldl (fun es p => cacheTake 32 es (ptr p)) k.pcache })
  | _ => d

/-- Bytes of an extent that lie at consecutive virtual addresses, page by page, as MPA pieces. -/
def Dev.pieces (d : Dev) (who : Accessor) : Nat → Nat → Nat → List (Nat × Nat)
  | 0, _, _ => []
  | k + 1, va, n =>
    if n = 0 then [] else
    let m := min n (65536 - va % 65536)
    (d.mpa who va, m) :: d.pieces who k (va + m) (n - m)

/-- Bytes read through translation. -/
def Dev.readVa (d : Dev) (who : Accessor) (va n : Nat) : List Byte :=
  (d.pieces who (n / 65536 + 2) va n).flatMap (fun p => d.mem.mem.readBytes p.1 p.2)

/-- Whether a range read through translation holds poison. -/
def Dev.poisonVa (d : Dev) (who : Accessor) (va n : Nat) : Bool :=
  (d.pieces who (n / 65536 + 2) va n).any (fun p => d.anyPoison p.1 p.2)

/-- Bytes written through translation, not by a bead path. -/
def Dev.writeVa (d : Dev) (who : Accessor) (va : Nat) (bs : List Byte) (clears poison : Bool) : Dev :=
  ((d.pieces who (bs.length / 65536 + 2) va bs.length).foldl (fun (s : Dev × List Byte) p =>
    (s.1.writePlain p.1 (s.2.take p.2) clears poison, s.2.drop p.2)) (d, bs)).1

end Sys2Proof.Machine
end

