-- ==== Sys2Proof/Machine/PageTables.lean ====
section
/-!
DEFINITION. Page tables as the security pair writes them (09 R252 to R256), and the end of an unmap (R258).
-/
namespace Sys2Proof.Machine

/-! ### Page tables (R252 to R256) -/

/-- One entry of a page table. -/
def Dev.pte (d : Dev) (a : Nat) : Word := BitVec.ofNat 64 (d.mem.mem.readNat a 8)

/-- NEXT of a pointer entry (R253). -/
def nextTable (e : Word) : Nat := bits e 47 8 * 256

/-- A pointer entry to a table (R253). -/
def pointerEntry (table : Nat) : Word := BitVec.ofNat 64 (2 ^ 63 + table / 256 * 256)

/-- A leaf (R254). -/
def leafEntry (remote r w x : Bool) (slot target : Nat) : Word :=
  BitVec.ofNat 64 (2 ^ 63 + 2 ^ 62 + b2n remote * 2 ^ 60 + b2n r * 2 ^ 59 + b2n w * 2 ^ 58 + b2n x * 2 ^ 57 + slot % 1024 * 2 ^ 46
    + (if remote then target % 16384 * 2 ^ 30 else target / 65536 % 2 ^ 32 * 2 ^ 12))

/-- Entries of a table at a level (R252). -/
def tableEntries : Nat → Nat
  | 0 => 32 | _ => 512

/-- Whether a table holds a leaf, here or in a table below it. -/
def Dev.hasLeaf (d : Dev) : Nat → Nat → Bool
  | 0, t => (List.range 32).any (fun i => bit (d.pte (t + 8 * i)) 63)
  | l + 1, t => (List.range 512).any (fun i =>
      let e := d.pte (t + 8 * i)
      bit e 63 && (bit e 62 || d.hasLeaf l (nextTable e)))

/-- Whether some leaf maps an address of the page that a leaf at level `target` would map (R256). -/
def Dev.mapped (d : Dev) (va target : Nat) : Nat → Nat → Bool
  | 0, t => bit (d.pte (t + 8 * walkIndex va 0)) 63
  | l + 1, t =>
    let e := d.pte (t + 8 * walkIndex va (l + 1))
    bit e 63 && (bit e 62 || (if l + 1 = target then d.hasLeaf l (nextTable e) else d.mapped va target l (nextTable e)))

/-- An entry written by the security pair. -/
def Dev.setPte (d : Dev) (a : Nat) (e : Word) : Dev := d.writePlain a (leBytes 8 e.toNat) false false

/-- A table taken from the free part of the region that tables lie in. -/
def Dev.newTable (d : Dev) : Nat × Dev :=
  (d.mem.tableNext, { d with mem := { d.mem with tableNext := d.mem.tableNext + 4096 } })

/-- A leaf put at a level, tables made on the way down. -/
def Dev.placeLeaf (va target : Nat) (leaf : Word) : Nat → Nat → Dev → Dev
  | 0, t, d => d.setPte (t + 8 * walkIndex va 0) leaf
  | l + 1, t, d =>
    let a := t + 8 * walkIndex va (l + 1)
    let e := d.pte a
    if l + 1 = target then d.setPte a leaf
    else if bit e 63 then Dev.placeLeaf va target leaf l (nextTable e) d
    else
      let n := d.newTable
      Dev.placeLeaf va target leaf l n.1 (n.2.setPte a (pointerEntry n.1))

/-- The MPA of the entry that maps exactly the page of level `target` at an address, where a leaf stands there (R256). -/
def Dev.leafAt (d : Dev) (va target : Nat) : Nat → Nat → Option Nat
  | 0, t =>
    let a := t + 8 * walkIndex va 0
    if target = 0 && bit (d.pte a) 63 then some a else none
  | l + 1, t =>
    let a := t + 8 * walkIndex va (l + 1)
    let e := d.pte a
    if !bit e 63 then none
    else if bit e 62 then (if l + 1 = target then some a else none)
    else if l + 1 = target then none
    else d.leafAt va target l (nextTable e)

/-- The 64 KiB pages of a range. -/
def pages64 (mpa n : Nat) : List Nat := (List.range (n / 65536)).map (mpa / 65536 + ·)

/-- The memory of a local page given back: its pages count one leaf less. -/
def Dev.dropPage (d : Dev) (mpa n : Nat) : Dev :=
  let less (m : KMap PageRec) (k : Nat) : KMap PageRec := match m.find? k with
    | some r => m.set k { r with refs := r.refs - 1 }
    | none => m
  { d with mem := { d.mem with pages := (pages64 mpa n).foldl less d.mem.pages } }

/-! ### The end of an unmap (R256, R258) -/

/-- A message of a management service to the other modules of a partition, its key first (log entry 16). -/
def Dev.tellPart (d : Dev) (p kind : Nat) (args : List Nat) : Dev :=
  ((d.part p).modules.filter (· ≠ d.id)).foldl (fun (d : Dev) m => d.mgmt m kind ((d.part p).key.toNat :: args) []) d

/-- An unmap completes (R256, R258): the leaf is removed, its memory given back, and of a REMOTE leaf the home told (service 0x46, log
entry 16). -/
def Dev.unmapDone (d : Dev) (l : Leaving) : Dev :=
  let e := d.pte l.entry
  let d := d.setPte l.entry 0
  let d := if leafRemote e then
      (d.modPart l.part (fun q => { q with remoteWindow := q.remoteWindow.removeRange (l.va / 65536) (l.size / 65536) })).mgmt
        (BitVec.ofNat 14 (leafHome e)) 0x46 [(d.part l.part).key.toNat, l.va, l.level] []
    else d.dropPage (leafMpa e) l.size
  d.emit (.reply 0 0 0 [])

/-- Whether a tensor instruction has ended: it is done, or it has left its queue. -/
def Dev.entryOver (d : Dev) (u : Nat × Nat) : Bool := match (d.core u.1).entry? u.2 with
  | some e => e.done.isSome
  | none => true

/-- The unmaps whose page no access checked under its leaf uses any longer complete (R258). -/
def Dev.unmapAgain (d : Dev) : Dev :=
  let gone (l : Leaving) : Bool := l.users.all d.entryOver
  (d.sec.leaving.filter gone).foldl Dev.unmapDone { d with sec := { d.sec with leaving := d.sec.leaving.filter (fun l => !gone l) } }

end Sys2Proof.Machine
end

