-- ==== Sys2Proof/Machine/PkgLinks.lean ====
section
/-!
DEFINITION. The package links as paths (01 R18, R21, R25, R26, R28): which UCIe modules work, the module a packet takes, the way of a
compute die to the hub, and the targets of the on-package halyard.
-/
namespace Sys2Proof.Machine

/-! ### Ends of UCIe modules

Module `m` of die `d` to the hub is link 8 × d + m; module `m` of die `d` to the next die is link 64 + 4 × d + m. Link `l` has the
ends 2 × l, at the die or the lower die, and 2 × l + 1. -/

/-- An end. -/
def Dev.ucie (d : Dev) (e : Nat) : Ucie := d.pkg.ucie.get {} e
/-- An end changed. -/
def Dev.modUcie (d : Dev) (e : Nat) (f : Ucie → Ucie) : Dev := { d with pkg := { d.pkg with ucie := d.pkg.ucie.upd {} e f } }

/-- A link's end as its reset leaves it: numbers at their reset values, nothing held, credits to announce if it is up (R20, R22). -/
def Ucie.fresh (u : Ucie) : Ucie :=
  if u.retired then { retired := true } else if u.up then { up := true, rate := u.rate, inits := [(1, 128), (2, 128), (3, 32)] } else {}

/-- Whether a link works. -/
def Dev.linkWorks (d : Dev) (link : Nat) : Bool := !(d.ucie (2 * link)).retired && !(d.ucie (2 * link + 1)).retired

/-- The working ones of `n` links from `first` on, lowest-numbered first. -/
def Dev.workingLinks (d : Dev) (first n : Nat) : List Nat := ((List.range n).map (first + ·)).filter d.linkWorks

/-- The link of a die pair that a packet takes: on VC3 the lowest-numbered working one (R28); else the one numbered by the stream ID,
or bits [13:6] of a line address, modulo the count of working ones (R21). -/
def Dev.linkFor (d : Dev) (first n vc key : Nat) : Option Nat :=
  let ws := d.workingLinks first n
  if vc = 3 then ws.head? else ws[key % max 1 ws.length]?

/-- The first link of a link's die pair, and how many the pair has. -/
def pairLinks (link : Nat) : Nat × Nat := if link < 64 then (link / 8 * 8, 8) else (link / 4 * 4, 4)

/-- Whether a compute die has a working link of its own to the hub. -/
def Dev.hubLinked (d : Dev) (die : Nat) : Bool := !(d.workingLinks (die * 8) 8).isEmpty

/-- The first link from a die to a ring neighbour, and the side that sends. -/
def ringSide (a b : Nat) : Nat × Nat := if (a + 1) % 8 = b then (64 + 4 * a, 0) else (64 + 4 * b, 1)

/-- Whether the ring works between two neighbours. -/
def Dev.ringWorks (d : Dev) (a b : Nat) : Bool := !(d.workingLinks (ringSide a b).1 4).isEmpty

/-- The dies met in `i` hops along the ring. -/
def ringDies (die i : Nat) (cw : Bool) : List Nat := (List.range (i + 1)).map (fun j => if cw then (die + j) % 8 else (die + 8 - j) % 8)

/-- Whether a path of dies reaches the hub: its last die over a link of its own, the others over ring links and dies that work. -/
def Dev.pathWorks (d : Dev) (p : List Nat) : Bool :=
  (match p.getLast? with | some k => d.hubLinked k | none => false) && (p.zip (p.drop 1)).all (fun x => d.ringWorks x.1 x.2)
    && (p.drop 1).all (fun k => !d.pkg.diesOut.contains k)

/-- The dies that a compute die's traffic to the hub meets, itself first (R25): the shortest path, clockwise before counter-clockwise,
which the spec does not order (DESIGN CHOICE, log 127). -/
def Dev.hubPath (d : Dev) (die : Nat) : Option (List Nat) :=
  ((List.range 8).flatMap (fun i => [ringDies die i true, ringDies die i false])).find? d.pathWorks

/-- Whether a compute die reaches the hub by some path (R25). -/
def Dev.reachesHub (d : Dev) (die : Nat) : Bool := (d.hubPath die).isSome

/-! ### Packets as flits (R19, R21) -/

/-- The flits of a packet's bytes on a channel, SOP to EOP. -/
def packetFlits : Nat → Nat → Nat → Bool → Bool → List Byte → List Flit
  | 0, _, _, _, _, _ => []
  | n + 1, vc, key, poison, first, bs =>
    let rest := bs.drop 244
    { vc := vc, key := key, poison := poison, sop := first, eop := rest.isEmpty, payload := bs.take 244 }
      :: (if rest.isEmpty then [] else packetFlits n vc key poison false rest)

/-- A packet's flits queued on a side of the link that its die pair's rule names. -/
def Dev.pkgQueue (d : Dev) (first n side vc key : Nat) (fs : List Flit) : Dev :=
  match d.linkFor first n vc key with
  | some l => d.modUcie (2 * l + side) (fun u => { u with queue := u.queue.upd [] vc (· ++ fs) })
  | none => d

/-- Bytes of flits. -/
def flitsBytes (fs : List Flit) : List Byte := fs.flatMap (·.payload)

/-- Flits acknowledged through a number leave the replay buffer. -/
def Ucie.acked (u : Ucie) (ack : BitVec 10) (now : Time) : Ucie :=
  match u.replay with
  | [] => u
  | f :: _ =>
    let n := (ack - f.seq + 1).toNat
    if n = 0 || u.replay.length < n then u
    else { u with replay := u.replay.drop n, resend := u.resend.filter (fun (x : Flit) => (u.replay.drop n).any (·.seq = x.seq)), heardAt := now }

/-- The other end of a link. -/
def farEnd (e : Nat) : Nat := e / 2 * 2 + (1 - e % 2)

/-- Flits of a channel that an end holds and the far end has not accepted, oldest first. -/
def Dev.unaccepted (d : Dev) (e vc : Nat) : List Flit :=
  let u := d.ucie e
  ((u.acked ((d.ucie (farEnd e)).expect - 1) 0).replay.filter (fun (f : Flit) => f.vc = vc)) ++ u.queue.get [] vc

/-- How many packets end in some flits. -/
def packetCount (fs : List Flit) : Nat := fs.countP (·.eop)

/-- Packets in a die's HUB ejection queue (R341): those not yet sent on its links to the hub. -/
def Dev.ejecting (d : Dev) (die : Nat) : Nat :=
  ((List.range 8).map (fun m => packetCount ((d.ucie (2 * (die * 8 + m))).queue.get [] 0))).foldl (· + ·) 0

/-- Packets on their way over a die's links from the hub. -/
def Dev.coming (d : Dev) (die : Nat) : Nat :=
  ((List.range 8).map (fun m => packetCount (d.unaccepted (2 * (die * 8 + m) + 1) 0))).foldl (· + ·) 0

/-! ### Targets of the on-package halyard (R26, R28) -/

/-- Target cores of masks: those in service and not RESETTING. -/
def Dev.onPkgCores (d : Dev) (dies clusters : BitVec 8) : List Nat :=
  (List.range 512).filter (fun c => bit dies (c / 64) && bit clusters (c / 8 % 8) && d.inService c && (d.rig c).state ≠ .resetting)

/-- Targets that are RESETTING or have left service are removed, which counts as their acknowledgement; a packet with no target die
left is complete (R28). -/
def Dev.pruneOnPkg (d : Dev) : Dev :=
  let stays (c : Nat) : Bool := d.inService c && (d.rig c).state ≠ .resetting
  { d with pkg := { d.pkg with onpkg := (d.pkg.onpkg.map (fun (p : OnPkg) =>
      let targets := p.targets.filter stays
      let clusters := p.clusters.filter (fun k => targets.any (fun c => c / 8 = k))
      { p with cores := p.cores.filter stays, targets := targets, clusters := clusters
               dies := p.dies.filter (fun k => clusters.any (fun c => c / 8 = k)) })).filter (fun (p : OnPkg) => !p.dies.isEmpty) } }

end Sys2Proof.Machine
end

