-- ==== Sys2Proof/Machine/Retire.lean ====
section
/-!
DEFINITION. What several units share about findings (17 R448 to R456, 01 R17, R45): an entry lost with its core, a core
retired, the consumption of poison, the power grant an engine needs (03 R100).
-/
namespace Sys2Proof.Machine

/-! ### Identifiers (11 R303, R304) -/

/-- The module reset whose quarantine of every free identifier has not ended. -/
def IdTable.allHeld (t : IdTable) (now : Time) : Option Time := t.allSince.filter (fun q => !reached now q (ms 1))

/-- Whether a free identifier is still in quarantine. -/
def IdTable.held (t : IdTable) (i : Nat) (now : Time) : Bool := (t.allHeld now).isSome || (match t.quarantine.find? i with
  | some q => !reached now q (ms 1)
  | none => false)

/-- A module reset: every one of `n` identifiers that is free begins a fresh quarantine (R304). -/
def IdTable.requarantine (t : IdTable) (n : Nat) (now : Time) : IdTable :=
  if t.used.length < n then { t with quarantine := [], allSince := some now } else t

/-- An identifier freed: it enters quarantine. -/
def IdTable.free (t : IdTable) (i : Nat) (now : Time) : IdTable := { t with used := t.used.remove i, quarantine := t.quarantine.set i now }

/-- The lowest-numbered identifier below `n` that is free and out of quarantine. -/
def IdTable.pick (t : IdTable) (n : Nat) (now : Time) : Option Nat :=
  (List.range (min n (t.used.length + t.quarantine.length + 1))).find? (fun i => !t.used.contains i && !t.held i now)

/-- An identifier taken, with the generation after its last one. -/
def IdTable.take (t : IdTable) (i : Nat) : IdTable :=
  { t with gens := t.gens.upd 0 i (· + 1), used := t.used.insert i, quarantine := t.quarantine.del i }

/-- ARG0 of FE_ID_EXHAUSTED: when the earliest quarantined identifier leaves. -/
def IdTable.nextFree (t : IdTable) (now : Time) : Nat :=
  match (t.allHeld now).toList ++ t.quarantine.vals with
  | [] => 0xFFFFFFFFFFFFFFFF
  | q :: qs => ((qs.foldl (fun a b => if nsBetween a now < nsBetween b now then b else a) q) + ms 1).toNat

/-! ### Streams -/

/-- The answer to a request of a transport: a cause and two arguments. -/
def Dev.reply (d : Dev) (cause : Cause) (arg0 arg1 : Nat) : Dev := d.emit (.reply cause (BitVec.ofNat 64 arg0) (BitVec.ofNat 64 arg1) [])

/-- One SEND or RECV fewer in flight on a stream; a closing stream is freed after its last (R306). -/
def Dev.streamDone (d : Dev) (sid : Nat) : Dev :=
  match d.fe.streams.find? sid with
  | none => d
  | some s =>
    if s.closing && s.inFlight ≤ 1 then
      (({ d with fe := { d.fe with streams := d.fe.streams.del sid, sIds := d.fe.sIds.free sid d.time } }).reply 0 sid 0)
    else { d with fe := { d.fe with streams := d.fe.streams.set sid { s with inFlight := s.inFlight - 1 } } }

/-- The stream of a SEND's or RECV's handle (R225). -/
def TiqEntry.stream (e : TiqEntry) : Nat := bits e.rs1v 17 0

/-- Whether an entry is a SEND or a RECV. -/
def TiqEntry.transfer (e : TiqEntry) : Bool := match decodeTensor e.word with
  | some (.send ..) | some (.recv ..) => true
  | _ => false

/-! ### Entries and cores lost -/

/-- Entries dispatched to a core and not begun end with a cause (R45). -/
def Dev.dropWaiting (d : Dev) (c : Nat) (cause : Cause) : Dev :=
  let d := { d with fe := { d.fe with queues := d.fe.queues.mapv (fun _ (q : Queue) => { q with
    flight := q.flight.map (fun (f : FlightEntry) => if f.core = some c && !f.running && f.ended.isNone then { f with ended := some { cause := cause } } else f) }) } }
  let fs := d.fe.forwarded.filter (fun (f : ForwardedEntry) => f.e.core = some c && !f.e.running && f.e.ended.isNone)
  let d := { d with fe := { d.fe with forwarded := d.fe.forwarded.filter (fun (f : ForwardedEntry) => !(f.e.core = some c && !f.e.running && f.e.ended.isNone)) } }
  fs.foldl (fun (d : Dev) (f : ForwardedEntry) => d.mgmt f.holder 0x11 [f.queue, f.e.index, cause.toNat, 0, 0, d.time.toNat] []) d

/-- The retries of committed entries that end without completing are counted (R112, R207). -/
def Core.countHeld (k : Core) : Core :=
  { k with cnt := { k.cnt with
    retries := k.cnt.retries + ((k.tiq.filter (·.committed)).map (fun e => e.reads.retries)).foldl (· + ·) 0 } }

/-- The entry that a core runs ends at once, its committed work stopped. -/
def Dev.dropWith (d : Dev) (c : Nat) (e : Ending) : Dev :=
  let d := { d with coh := { d.coh with waits := d.coh.waits.filter (·.core ≠ c) } }
  let open' := (d.core c).tiq.filter (fun e => e.transfer && !e.waiting.isEmpty && e.done.isNone)
  let d := open'.foldl (fun d e => d.streamDone e.stream) d
  let d := { d with fab := { d.fab with recvs := d.fab.recvs.filter (·.core ≠ c) } }
  let d := d.modCore c (fun k => { (k.squash (d.nowCycle c) (fun _ => true)).countHeld with tiq := [] })
  (d.endEntry c e).unmapAgain

/-- The entries in flight on a core are lost with the core (R45): committed work stops too, and they end at once. -/
def Dev.dropEntry (d : Dev) (c : Nat) (cause : Cause) : Dev := (d.dropWaiting c cause).dropWith c { cause := cause }

/-- Number of the spare that serves a core's cluster pair, die × 4 + pair (R17). -/
def spareOf (c : Nat) : Nat := c / 64 * 4 + c % 64 / 16

/-- Whether the spare of a core's cluster pair is free (R17). -/
def Dev.spareFree (d : Dev) (c : Nat) : Bool :=
  !(d.pkg.sparesUsed.contains (spareOf c)) && !(d.pkg.retiredCores.contains (c / 64 * 68 + 64 + c % 64 / 16))

/-- A 4th fault of one kind within 1 s of fabric time (R112, R453): the times kept, and whether the limit is met. -/
def fourth (now : Time) (ts : List Time) : List Time × Bool :=
  let ts := ts.filter (fun t => !reached now t (ms 1000)) ++ [now]
  (ts, decide (4 ≤ ts.length))

/-! ### Recoveries -/

/-- The rig one level above a rig of this module, never beyond the module (R461). -/
def rigUp (r : BitVec 32) : BitVec 32 :=
  match rigLevel r with
  | 0 => clusterRig (rigModule r) (bits r 14 9)
  | 1 => dieRig (rigModule r) (bits r 14 12)
  | _ => moduleRig (rigModule r)

/-- The smallest rig that encloses two rigs of one module. -/
def rigJoin (a b : BitVec 32) : Nat → BitVec 32
  | 0 => moduleRig (rigModule a)
  | n + 1 => if rigEncloses a b then a else rigJoin (rigUp a) b n

/-- Notice 0x0890: a recovery's domain has changed (R461). -/
def Dev.widened (d : Dev) (old new : BitVec 32) : Dev := d.notice 0x0890 0 old.toNat new.toNat

/-- The retirements that a recovery is to make: its own and those it has taken over. A reset is none. -/
def Recovery.allWorks (r : Recovery) : List (Nat × Nat) := (if r.kind < 4 then [(r.kind, r.arg)] else []) ++ r.works

/-- A recovery after a fault that touches its domain, if it does (R461, rules 3 and 4). A recovery of the whole module that is no reset
cannot widen: a retirement inside it joins it. -/
def Recovery.absorb (r f : Recovery) : Option Recovery :=
  let works := r.allWorks ++ f.allWorks
  if rigEncloses r.domain f.domain then
    if rigLevel r.domain = 3 && f.kind < 4 then some { r with works := r.works ++ f.allWorks }
    else some { domain := rigUp r.domain, kind := 6, cause := f.cause, works := works }
  else if rigEncloses f.domain r.domain then some { domain := f.domain, kind := 6, cause := f.cause, works := works }
  else none

/-- A fault whose recovery becomes pending (R461): it widens, replaces or merges with one that is pending, or waits. -/
def Dev.detect (d : Dev) (f : Recovery) : Dev :=
  match d.rel.running with
  | none => { d with rel := { d.rel with running := some f } }
  | some a =>
    match a.absorb f with
    | some a' => { d with rel := { d.rel with running := some a' } }.widened a.domain a'.domain
    | none =>
      match d.rel.waiting with
      | none => { d with rel := { d.rel with waiting := some f } }
      | some b =>
        let b' := match b.absorb f with
          | some b' => b'
          | none => { domain := rigJoin b.domain f.domain 4, kind := 6, cause := f.cause, works := b.allWorks ++ f.allWorks }
        { d with rel := { d.rel with waiting := some b' } }.widened b.domain b'.domain

/-- A core retires (R455, R112): its entry is lost, its records are discarded, its memory is not served. -/
def Dev.offlineCore (d : Dev) (c : Nat) (finding : Cause) : Dev :=
  let d := d.settleAll.dropEntry c 0x0930
  let d := { d with pkg := { d.pkg with retiredCores := d.pkg.retiredCores.insert (c / 64 * 68 + d.physical c) } }
  let d := d.modCore c (fun k => { k with offline := true, finding := finding, arms := [] })
  (d.modRig c (fun g => { g with state := .offline })).pruneOnPkg

/-- A core found permanently faulty retires at once; what follows, a spare or a smaller cluster, is a recovery (R455, R461). -/
def Dev.retireCore (d : Dev) (c : Nat) (finding : Cause) : Dev :=
  if (d.core c).offline then d else
  (d.offlineCore c finding).detect { domain := coreRig d.id c, kind := 0, cause := finding, arg := c }

/-! ### ECC (17 R445 to R449, R453, R454) -/

/-- What a read finds (R445, R446): a single bit, told whether the word reports it again on the first read after its write-back;
rereads that at last pass; an uncorrectable word; a link transfer repeated. -/
inductive EccKind where
  /-- a bead whose check failed and passed when it was read once more (R74) -/
  | bead
  | corrected (again : Bool)
  | reread (n : Nat)
  | uncorrectable
  | link (n : Nat)
  deriving DecidableEq, Repr

/-- An error found by a read, and the core whose access made it. -/
structure EccEvent where
  site : EccSite := .mem 0
  kind : EccKind := .uncorrectable
  core : Option Nat := none
  deriving DecidableEq, Repr

/-- A tensor instruction that its unit runs, and the memory errors that its reads meet (R446). -/
structure EngineRun where
  id : Nat := 0
  errs : List EccEvent := []
  deriving DecidableEq, Repr

/-- What a unit meets while it works: a parity error of its pipeline (R444) and the memory errors of its reads (R446). -/
structure UnitFaults where
  parity : Bool := false
  errs : List EccEvent := []
  deriving DecidableEq, Repr

/-- The channel a site belongs to, as a number (R454), and the recovery that its retirement is. -/
def Dev.eccChannel (d : Dev) : EccSite → Nat × Recovery
  | .mem a => match memKind a with
    | .stack c =>
      let pair := (a - stackBase c) / 0x200000
      (c * 64 + pair * 2 + a / 256 % 2, { domain := coreRig d.id c, kind := 1, cause := 0x0842, arg := c * 32 + pair })
    | .scratch c => (40000 + c * 32 + a / 128 % 32, { domain := coreRig d.id c, kind := 0, cause := 0x0803, arg := c })
    | _ => (70000 + d.channel a, { domain := moduleRig d.id, kind := 3, cause := 0x0850, arg := d.channel a })
  | .hub b _ => (60000 + b, { domain := moduleRig d.id, kind := 2, cause := 0x0843, arg := b })
  | .lds c _ => (80000 + c, { domain := coreRig d.id c, kind := 0, cause := 0x0803, arg := c })
  | .side b => (70000 + d.channel (b * 512), { domain := moduleRig d.id, kind := 3, cause := 0x0850, arg := d.channel (b * 512) })

/-- Whether a channel is retired, or queued for it (R456). -/
def Dev.channelGone (d : Dev) (r : Recovery) : Bool :=
  let due (x : Option Recovery) : Bool := x.any (fun (y : Recovery) => y.allWorks.contains (r.kind, r.arg))
  due d.rel.running || due d.rel.waiting ||
  (match r.kind with
   | 0 => (d.core r.arg).offline
   | 1 => bit (d.core (r.arg / 32)).retiredPairs (r.arg % 32)
   | 2 => d.mem.hubRetired.contains r.arg
   | _ => d.mem.chanRetired.contains r.arg)

/-- A channel found permanent: it is queued for retirement once (R454, R456). -/
def Dev.permanent (d : Dev) (r : Recovery) : Dev :=
  if d.channelGone r then d else if r.kind = 0 then d.retireCore r.arg r.cause else d.detect r

/-- A transient fault of a channel counted (R453); the 4th within 1 s makes it permanent. -/
def Dev.transient (d : Dev) (s : EccSite) : Dev :=
  let ch := d.eccChannel s
  let h := fourth d.time (d.rel.transients.get [] ch.1)
  let d := { d with rel := { d.rel with transients := d.rel.transients.set ch.1 h.1 } }
  if h.2 then d.permanent ch.2 else d

/-- A reliability counter goes up. -/
def Dev.relCount (d : Dev) (i n : Nat) : Dev := { d with rel := { d.rel with counters := d.rel.counters.upd 0 i (· + n) } }

/-- Retries counted for the core that made the access, or for the module (R446). -/
def Dev.countRetry (d : Dev) (c : Option Nat) (n : Nat) : Dev := match c with
  | some c => d.retry c n
  | none => d.modRig 584 (fun g => { g with retries := g.retries + n })

/-- Whether a site is DRAM: the hub's accesses under R446. -/
def EccSite.dram : EccSite → Bool
  | .mem a => isDram a
  | .side b => isDram (b * 512)
  | _ => false

/-- Lines that an uncorrectable error poisons: the line, or the whole block of a sideband slot (R445, R448). -/
def Dev.eccPoison (d : Dev) : EccSite → Dev
  | .mem a | .hub _ a => d.poison a 1
  | .lds c off => d.modCore c (fun k => { k with sc := { k.sc with ldsPoison := k.sc.ldsPoison.insert (off / 64) } })
  | .side b => d.poison (b * 512) 512

/-- The transient faults of `n` rereads: one each in DRAM (R446), one for a word of an SRAM (R445). -/
def Dev.eccTransients (d : Dev) (s : EccSite) (n : Nat) : Dev :=
  (List.range (if s.dram then n else min n 1)).foldl (fun d _ => d.transient s) d

/-- Retries that a read's error costs (R74, R445, R446). -/
def EccEvent.retries (e : EccEvent) : Nat := match e.kind with
  | .bead => 1
  | .corrected _ => 0
  | .link n | .reread n => min n 3
  | .uncorrectable => 3

/-- One error found by a read (R74, R445, R446, R453, R454), its retries apart. -/
def Dev.eccSeen (d : Dev) (e : EccEvent) : Dev :=
  let ch := d.eccChannel e.site
  match e.kind with
  | .bead => d.transient e.site
  | .corrected again =>
    let d := d.relCount (if e.site.dram then 5 else 3) 1
    if again && !e.site.dram then
      let w := match e.site with | .mem a | .hub _ a => a / 8 | .lds _ o => o / 8 | .side b => b
      let t := (d.rel.hardBits.get [] ch.1).insert w
      let d := { d with rel := { d.rel with hardBits := d.rel.hardBits.set ch.1 (t.take 16) } }
      if 8 ≤ t.length then d.permanent ch.2 else d
    else d
  | .link n =>
    let d := d.transient e.site
    if 4 ≤ n then d.permanent ch.2 else d
  | .reread n =>
    let n := min n 3
    let d := if e.site.dram then d.relCount 8 n else d
    d.eccTransients e.site n
  | .uncorrectable =>
    let d := if e.site.dram then (d.relCount 8 3).relCount 6 1 else d.relCount 4 1
    let d := d.eccTransients e.site 3
    let d := d.eccPoison e.site
    let d := if e.site.dram then d else { d with rel := { d.rel with toTest := d.rel.toTest ++ [e.site] } }
    if e.site.dram then
      let a := match e.site with | .mem a => a / 64 | .side b => b * 8 | _ => 0
      let t := (d.rel.badLines.get [] ch.1).filter (fun p => p.1 ≠ a && !reached d.time p.2 (ms 86400000)) ++ [(a, d.time)]
      let d := { d with rel := { d.rel with badLines := d.rel.badLines.set ch.1 t } }
      if 16 ≤ t.length then d.permanent ch.2 else d
    else d

/-- One error found by a read, its retries counted at once. -/
def Dev.ecc (d : Dev) (e : EccEvent) : Dev := (d.countRetry e.core e.retries).eccSeen e

/-- Errors found by the reads of a tensor instruction: its retries are held with it and counted if it commits (R207). -/
def Dev.eccHeld (d : Dev) (c id : Nat) (errs : List EccEvent) : Dev :=
  let n := (errs.map EccEvent.retries).foldl (· + ·) 0
  errs.foldl Dev.eccSeen (d.modCore c (fun k => k.modEntry id (fun e => { e with reads := { e.reads with retries := e.reads.retries + n } })))

/-- Poison consumed by a core's entry (R451): the entry ends with the cause, REL_POISON_CONSUMED counts, and
the job is contained: JOB_CONTAINED_END ends it and raises notice 0x0822. -/
def Dev.consume (d : Dev) (c : Nat) (cause : Cause) (va : Word) (e : Ending) : Dev :=
  match (d.core c).run with
  | none => d
  | some r =>
    let who := (coreRig d.id c, va)
    let d := d.modPart r.part (fun p => { p with job := p.job.map (fun (j : Job) => { j with
      contained := true, consumer := match j.consumer with | some w => some w | none => some who }) })
    let d := { d with rel := { d.rel with counters := d.rel.counters.upd 0 7 (· + 1) } }
    d.beginEnd c { e with cause := cause, fault := true }

/-- Whether an engine of a core holds the power grant that it needs to start (R100, R405). -/
def Dev.powered (d : Dev) (c : Nat) (u : Unit') : Bool :=
  let p := d.power.cores.get {} c
  match u with
  | .matrix => p.matrixOn
  | .vector => p.vectorOn
  | _ => true

/-- Whether a value read holds a poisoned line. -/
def BeadVal.poison (b : BeadVal) : Bool := !b.pz.isEmpty

/-- Whether line `l` of a bead holds an element that `need` selects, or a scale byte of a block that holds one. -/
def lineHolds (f : Fmt) (mx : Bool) (need : Nat → Bool) (l : Nat) : Bool :=
  if mx && f.payload / 64 ≤ l then (List.range 2048).any need
  else (List.range (512 / f.width + 2)).any (fun n => let i := 512 * l / f.width + n; i < 2048 && i * f.width < 512 * (l + 1) && need i)

/-- A bead's finding added to an instruction's, for the elements that it reads of it (R173). -/
def Reads.seeOf (r : Reads) (x : Desc) (need : Nat → Bool) (b : BeadVal) : Reads :=
  match b.pz.find? (lineHolds x.fmt x.mx need) with
  | none => { r with retries := r.retries + b2n b.unrec }
  | some l =>
    { retries := r.retries + b2n b.unrec, poison := true, unrec := r.unrec || b.unrec, va := if r.poison then r.va else b.va + 64 * l }

/-- The findings of one bead's reads added to those of the instruction. -/
def Reads.join (r q : Reads) : Reads :=
  { retries := r.retries + q.retries, poison := r.poison || q.poison, unrec := r.unrec || q.unrec, va := if r.poison then r.va else q.va }

/-- The completion cause of an instruction that read poison (R451). -/
def Reads.cause (r : Reads) : Cause := if !r.poison then 0 else if r.unrec then 0x0821 else 0x0822

/-- The first poisoned address of a range of an accessor's space. -/
def Dev.firstPoison (d : Dev) (who : Accessor) (va n : Nat) : Nat :=
  ((List.range (n / 64 + 1)).map (fun i => if i = 0 then va else (va / 64 + i) * 64)).find? (fun a => d.poisoned (d.mpa who a / 64))
    |>.getD va

/-- The lines of a range, counted from its line-aligned start, that are poisoned. -/
def Dev.poisonLines (d : Dev) (who : Accessor) (va n : Nat) : List Nat :=
  (List.range (ceilDiv n 64)).filter (fun l => d.poisoned (d.mpa who (va + 64 * l) / 64))

/-- A bead as it lies in memory. -/
def Dev.rawBead (d : Dev) (who : Accessor) (x : Desc) (b : Nat) : BeadVal :=
  let va := x.base + b * x.bstride
  let bytes := d.readVa who va x.bstride
  { payload := leNat (bytes.take x.fmt.payload), scales := (bytes.drop x.fmt.payload).map (·.toNat), va := va
    side := (d.sideband (d.mpa who va)).word, pz := d.poisonLines who va x.bstride }

/-- The bytes of a bead read. -/
def BeadVal.bytes (b : BeadVal) (x : Desc) : List Byte := leBytes x.fmt.payload b.payload ++ (if x.mx then b.scales.map (BitVec.ofNat 8) else [])

/-- A bead read as an operand (R74): tag, format and MX first; then the check, of a bead with no poisoned line. A check that fails the first
read and passes the second is an event of its own (EccKind.bead); one that fails here fails both reads, and the bead's lines are
poisoned. -/
def Dev.readBead (d : Dev) (who : Accessor) (x : Desc) (b : Nat) : Dev × Except Cause BeadVal :=
  let v := d.rawBead who x b
  let sb := Sideband.ofWord v.side
  if sb.chkValid && (sb.tag ≠ x.tag || sb.fmt.toNat ≠ x.fmtCode || sb.mx ≠ x.mx) then (d, .error 0x0311)
  else if v.pz.isEmpty && sb.chkValid && beadCheck (v.bytes x) sb.tag sb.fmt sb.mx ≠ sb.check then
    ((d.pieces who 3 v.va x.bstride).foldl (fun d p => d.poison p.1 p.2) d,
     .ok { v with pz := List.range (ceilDiv x.bstride 64), unrec := true })
  else (d, .ok v)

/-- Beads read in order until one faults. -/
def Dev.readBeads (d : Dev) (who : Accessor) (x : Desc) : List Nat → KMap BeadVal → Dev × Except Cause (KMap BeadVal)
  | [], m => (d, .ok m)
  | b :: bs, m =>
    let r := d.readBead who x b
    match r.2 with
    | .error c => (r.1, .error c)
    | .ok v => r.1.readBeads who x bs (m.set b v)

/-- Operand tensors read in order. -/
def Dev.readAll (d : Dev) (who : Accessor) : List (Desc × List Nat) → Dev × Except Cause (List (KMap BeadVal))
  | [] => (d, .ok [])
  | p :: ps =>
    let r := d.readBeads who p.1 p.2 []
    match r.2 with
    | .error c => (r.1, .error c)
    | .ok m =>
      let q := r.1.readAll who ps
      (q.1, match q.2 with | .error c => .error c | .ok ms => .ok (m :: ms))

/-- What a set of beads shows to an instruction that takes any poisoned line of a bead as poison of the bead (R109). -/
def seeAll (r : Reads) (m : KMap BeadVal) : Reads :=
  m.vals.foldl (fun r b => r.join { retries := b2n b.unrec, poison := b.poison, unrec := b.unrec, va := b.va + 64 * b.pz.headD 0 }) r

/-- The code of an element in beads read. -/
def beadCode (x : Desc) (m : KMap BeadVal) (b i : Nat) : Nat := payloadElem x.fmt (m.get {} b).payload i

/-- The value of an element in beads read (R55, R56). -/
def beadValue (x : Desc) (m : KMap BeadVal) (b i : Nat) : Ext :=
  let v := x.fmt.value (beadCode x m b i)
  if x.mx then scaled ((m.get {} b).scales.getD (i / 32) 127) v else v

/-- Element `j` of a linear run of beads (R140, R159). -/
def linearValue (x : Desc) (m : KMap BeadVal) (j : Nat) : Ext := beadValue x m (j / 2048) (j % 2048)

/-- Whether a bead of an armed operand has landed (R101, R103); an operand not armed never waits (R228). -/
def Dev.beadReady (d : Dev) (who : Accessor) (x : Desc) (b : Nat) : Bool :=
  !x.armed || (match d.armedAt (d.mpa who (x.base + b * x.bstride)) with
    | some (c, i, p) => ((d.core c).arms.get {} i).landed.contains p
    | none => true)

/-- The lines of a merged bead that stay poisoned: poisoned before, and holding a kept position (R73, R448). `kept i` tells
that element `i` keeps its old value. -/
def keptPoison (f : Fmt) (mx : Bool) (kept : Nat → Bool) (old : Nat → Bool) : List Nat :=
  (List.range (f.stride mx / 64)).filter (fun l => old l && lineHolds f mx kept l)

/-- Whether pieces of memory follow one another. -/
def inRow : List (Nat × Nat) → Bool
  | p :: q :: ps => p.1 + p.2 = q.1 && inRow (q :: ps)
  | _ => true

/-- A whole bead written at a virtual address: over pages that are not adjacent its pieces lie apart and its sideband lies
with its first byte (R73, R248); older beads that begin in a piece are gone, and those that reach into one are no longer checked. -/
def Dev.writeBeadVa (d : Dev) (who : Accessor) (va : Nat) (bytes : List Byte) (sb : Sideband) (poison : Bool) : Dev :=
  if inRow (d.pieces who 3 va bytes.length) then d.writeBead (d.mpa who va) bytes sb poison
  else
    let ps := d.pieces who 3 va bytes.length
    let d' := d.writeVa who va bytes true poison
    let inside (x : Nat) : Bool := ps.any (fun p => p.1 ≤ x && decide (x < p.1 + p.2))
    let kept := d'.mem.side.keep (fun b s => !inside (slotRange b s).1)
    { d' with mem := { d'.mem with side := kept.set (d.mpa who va / 512) { word := sb.word, start := BitVec.ofNat 3 (d.mpa who va / 64) } } }

/-- A bead with its sideband put at a virtual address, landing where the position is armed (R73, R102); the lines of `keep`
end poisoned. -/
def Dev.putBytes (d : Dev) (who : Accessor) (va : Nat) (bytes : List Byte) (sb : Sideband) (poison : Bool) (keep : List Nat) :
    Dev × Cause :=
  d.landWith (d.mpa who va) sb (fun d =>
    keep.foldl (fun d l => d.poison (d.mpa who (va + 64 * l)) 64) (d.writeBeadVa who va bytes sb poison))

/-- A bead that an engine writes whole with a descriptor's tag (R73). -/
def Dev.putBead (d : Dev) (who : Accessor) (x : Desc) (b : Nat) (codes scales : List Nat) (poison : Bool) (keep : List Nat) :
    Dev × Cause :=
  let bytes := beadBytes x.fmt x.mx codes scales
  d.putBytes who (x.base + b * x.bstride) bytes (beadSideband bytes x.tag x.fmt x.mx) poison keep

/-- A bead's old contents for a merge: codes, scale bytes, and which lines are poisoned. -/
def Dev.oldBead (d : Dev) (who : Accessor) (x : Desc) (b : Nat) : List Nat × List Nat × (Nat → Bool) :=
  let va := x.base + b * x.bstride
  let bytes := d.readVa who va x.bstride
  let payload := leNat (bytes.take x.fmt.payload)
  ((List.range 2048).map (payloadElem x.fmt payload), (bytes.drop x.fmt.payload).map (·.toNat),
   fun l => d.poisoned (d.mpa who (va + 64 * l) / 64))

/-- A bead written with some elements new and the others kept (R73): `newc` and `news` give the new codes and scale bytes. -/
def Dev.mergePut (d : Dev) (who : Accessor) (x : Desc) (b : Nat) (newc news : Nat → Option Nat) (poison : Bool) : Dev × Cause :=
  let old := d.oldBead who x b
  let codes := old.1.zipIdx.map (fun (c, i) => (newc i).getD c)
  let scales := old.2.1.zipIdx.map (fun (c, i) => (news i).getD c)
  d.putBead who x b codes scales poison (keptPoison x.fmt x.mx (fun i => (newc i).isNone) old.2.2)

end Sys2Proof.Machine
end

