-- ==== Sys2Proof/Machine/Tables.lean ====
section
/-!
DEFINITION. The function tables (02 R66): the special results, the value of each function in fixed point, and the FP32 result, which is
free within the bound that R66 states (log entry 95).
-/
namespace Sys2Proof.Machine

/-- Fraction bits of the fixed point in which the functions are worked out: far below any bound of R66. -/
def fxBits : Nat := 512
/-- 1.0 in fixed point. -/
def fxOne : Int := 2 ^ fxBits
/-- A product in fixed point. -/
def fxMul (a b : Int) : Int := a * b / fxOne
/-- A quotient in fixed point. -/
def fxDiv (a b : Int) : Int := a * fxOne / b
/-- A finite FP32 value in fixed point: exact, since FP32 goes no lower than 2^-149. -/
def fxOf (x : Ext) : Int := x.toInt (-(fxBits : Int))

/-- The sum of a series of `n` terms: `step k t` is the term after `t`, and `part k t` what term `k` adds. -/
def fxSeries (n : Nat) (first : Int) (step part : Nat → Int → Int) : Int :=
  ((List.range n).foldl (fun (a : Int × Int) k => (a.1 + part k a.2, step k a.2)) (0, first)).1

/-- ln 2, by the series of 1 / (k 2^k). -/
def fxLn2 : Int := fxSeries 540 (fxOne / 2) (fun _ t => t / 2) (fun k t => t / (k + 1 : Int))

/-- The arc tangent of 1 / n. -/
def fxAtanInv (n : Int) : Int := fxSeries 240 (fxOne / n) (fun _ t => -(t / (n * n))) (fun k t => t / (2 * k + 1 : Int))
/-- pi, by Machin's formula. -/
def fxPi : Int := 16 * fxAtanInv 5 - 4 * fxAtanInv 239

/-- e^x, x held between -300 and 300: beyond them FP32 has overflowed or is zero. -/
def fxExp (x : Int) : Int :=
  let x := max (-(300 * fxOne)) (min x (300 * fxOne))
  let n := x / fxLn2
  let r := x - n * fxLn2
  let s := fxSeries 130 fxOne (fun k t => fxMul t r / (k + 1 : Int)) (fun _ t => t)
  if 0 ≤ n then s * 2 ^ n.toNat else s / 2 ^ (-n).toNat

/-- The natural logarithm of a positive number in fixed point. -/
def fxLog (x : Int) : Int :=
  let k := Nat.log2 x.toNat
  let y : Int := x * fxOne / 2 ^ k
  let z := fxDiv (y - fxOne) (y + fxOne)
  2 * fxSeries 170 z (fun _ t => fxMul (fxMul t z) z) (fun i t => t / (2 * i + 1 : Int)) + ((k : Int) - fxBits) * fxLn2

/-- The square root of a number in fixed point. -/
def fxSqrt (x : Int) : Int := (Nat.sqrt (x.toNat * 2 ^ fxBits) : Nat)

/-- 1 / (1 + e^-x). -/
def fxSigmoid (x : Int) : Int :=
  let e := fxExp (-(x.natAbs : Int))
  if 0 ≤ x then fxDiv fxOne (fxOne + e) else fxDiv e (fxOne + e)

/-- tanh x. -/
def fxTanh (x : Int) : Int :=
  let e := fxExp (-(2 * (x.natAbs : Int)))
  let t := fxDiv (fxOne - e) (fxOne + e)
  if 0 ≤ x then t else -t

/-- The normal distribution function, by its series around 0; beyond 16 it is 0 or 1 below every bound. -/
def fxPhi (x : Int) : Int :=
  let z : Int := x.natAbs
  if 16 * fxOne < z then (if 0 ≤ x then fxOne else 0)
  else
    let s := fxSeries 720 z (fun k t => fxMul (fxMul t z) z / (2 * k + 3 : Int)) (fun _ t => t)
    let h := fxMul (fxDiv (fxExp (-(fxMul z z / 2))) (fxSqrt (2 * fxPi))) s
    if 0 ≤ x then fxOne / 2 + h else fxOne / 2 - h

/-- The functions of R66 at a finite input with no special result, in fixed point. -/
def tableFixed (code : Nat) (x : Int) : Int :=
  match code with
  | 1 => fxExp x
  | 2 => fxExp (fxMul (max (-(1000 * fxOne)) (min x (1000 * fxOne))) fxLn2)
  | 3 => fxLog x
  | 4 => fxDiv fxOne x
  | 5 => fxDiv fxOne (fxSqrt x)
  | 6 => fxSqrt x
  | 7 => fxSigmoid x
  | 8 => fxTanh x
  | 9 => fxMul x (fxPhi x)
  | 10 => fxMul x (fxSigmoid (2 * fxMul (fxSqrt (fxDiv (2 * fxOne) fxPi)) (x + fxMul (fxMul x x) x * 44715 / 1000000)))
  | 11 => fxMul x (fxSigmoid x)
  | _ => if 300 * fxOne < x then x else fxLog (fxOne + fxExp x)

/-- The special results of a function table (R66), where the input has one. -/
def tableSpecial (code : Nat) (x : Ext) : Option Ext :=
  let one : Ext := .fin false 1 0
  match x with
  | .nan => some .nan
  | .inf false => match code with
    | 1 | 2 | 3 | 6 | 9 | 10 | 11 | 12 => some (.inf false)
    | 4 | 5 => some Ext.zero
    | 7 | 8 => some one
    | _ => none
  | .inf true => match code with
    | 1 | 2 | 7 | 12 => some Ext.zero
    | 3 | 5 | 6 => some .nan
    | 4 => some (.fin true 0 0)
    | 8 => some one.neg
    | 9 | 10 | 11 => some (.fin true 0 0)
    | _ => none
  | .fin s m _ => match code with
    | 3 => if m = 0 then some (.inf true) else if s then some .nan else none
    | 4 => if m = 0 then some (.inf s) else none
    | 5 => if m = 0 then some (.inf s) else if s then some .nan else none
    | 6 => if m = 0 then some x else if s then some .nan else none
    | _ => none

/-- Destination column of R66 for a format. -/
def Fmt.column : Fmt → Nat
  | .fp32 => 0
  | .fp16 | .bf16 => 1
  | _ => 2

/-- The FP32 column of R66: the bound in ulp of FP32. -/
def tableUlps : Nat → Nat
  | 4 | 6 => 1 | 1 | 2 | 5 => 2 | 3 | 7 | 8 => 3 | _ => 4

/-- How far from the exact result `y` the FP32 result of a table may lie (R66): the FP32 bound; for the 16-bit formats what leaves
their bound after a rounding to 11 bits; for the narrower ones 2^-14 of the result, 0.01 ulp of each of them at the least. Below -16
the last four functions are bounded by 2^-24. -/
def tableBound (code column : Nat) (x y : Ext) : Ext :=
  let far := x.lt (.fin true 16 0)
  if far && 9 ≤ code then .fin false 1 (-24)
  else match y with
    | .fin _ m e =>
      if m = 0 then .fin false (tableUlps code) (-149)
      else match column with
        | 0 => .fin false (tableUlps code) (ulpExp 24 (-126) m e)
        | 1 => .fin false (if 9 ≤ code then 3 else 1) (magLog2 m e - 11)
        | _ => .fin false m (e - 14)
    | _ => Ext.zero

/-- A function table, evaluated in FP32 (R66): the special results of the table, else the free value where it keeps the bound, and
otherwise the result rounded. -/
def tableF32 (code column : Nat) (x : Ext) : Ext :=
  match tableSpecial code x with
  | some r => r
  | none =>
    let y := Ext.ofInt (tableFixed code (fxOf x)) (-(fxBits : Int)) false
    let r := ofF32 (Config.tableFn code column (toF32 x))
    if !r.special && !((tableBound code column x y).lt (r.sub y).abs) then r else f32 y

end Sys2Proof.Machine
end

