-- ==== Sys2Proof/Machine/Matrix.lean ====
section
/-!
DEFINITION. The arithmetic of the matrix engine (03 R84 to R93, 04 R114 to R118): classes, the group sum, the
compensated accumulator, the fold.
-/
namespace Sys2Proof.Machine

/-- Operand classes, fastest first (R87): Q 0, E 1, H 2, S 3, P 4. -/
def Fmt.cls : Fmt → Nat
  | .e2m1 | .int4 => 0
  | .e4m3 | .e5m2 | .e3m2 | .e2m3 | .mxint8 | .int8 | .gw12 => 1
  | .fp16 | .bf16 => 2
  | .fp32 => 3

/-- Group size of a class (R87). -/
def clsGroup : Nat → Nat
  | 0 | 1 => 16 | 2 => 8 | _ => 4

/-- Tree width of a class (R115). -/
def clsTree : Nat → Int
  | 0 => 4 | 1 => 16 | 2 => 22 | _ => 48

/-- Tile height of a shape (R84). -/
def tileH (slim : Bool) : Nat := if slim then 8 else 64
/-- Tile width of a shape (R84). -/
def tileW (slim : Bool) : Nat := if slim then 1024 else 128

/-- The class of an MMA from its operands (R88): the slower; a pair operand makes it P. -/
def mmaClass (fa fb : Fmt) (pair : Bool) : Nat := if pair then 4 else max fa.cls fb.cls

/-- Pairings that are refused (R88). -/
def pairingBad (fa fb : Fmt) (pair : Bool) : Bool :=
  let isI (f : Fmt) := f = .int8 || f = .int4
  (isI fa != isI fb) || (pair && (fa ≠ .fp32 || fb ≠ .fp32))

/-- round_f32 of R115: RNE to FP32 of T·2^q; a tie with `sticky` set goes to the larger magnitude. -/
def roundF32Sticky (t : Int) (q : Int) (sticky : Bool) : Ext :=
  let m := t.natAbs
  if m = 0 then Ext.zero
  else
    let u := ulpExp 24 (-126) m q
    let n := if q < u && sticky && m % 2 ^ (u - q).toNat * 2 = 2 ^ (u - q).toNat
      then m / 2 ^ (u - q).toNat + 1 else roundAt .rne m q u
    f32 (.fin (decide (t < 0)) n u)

/-- The group sum of R115: the pair (gh, gl) of one group's exact addends, in increasing k. `isInt` sets q to 1. -/
def groupSum (p : List Ext) (tree : Int) (isInt : Bool) : Ext × Ext :=
  if p.any Ext.isNan || (p.contains (.inf false) && p.contains (.inf true)) then (.nan, Ext.zero)
  else if p.contains (.inf false) then (.inf false, Ext.zero)
  else if p.contains (.inf true) then (.inf true, Ext.zero)
  else
    let es := p.filterMap (fun x => match x with | .fin _ m e => if m = 0 then none else some (magLog2 m e) | _ => none)
    match es with
    | [] => (Ext.zero, Ext.zero)
    | e0 :: es =>
      let q : Int := if isInt then 0 else es.foldl max e0 - tree - 2
      let step (acc : Int × Bool) (x : Ext) : Int × Bool := match x with
        | .fin s m e =>
          let a := if q ≤ e then m * 2 ^ (e - q).toNat else m / 2 ^ (q - e).toNat
          let lost := decide (e < q) && m % 2 ^ (q - e).toNat != 0
          (acc.1 + (if s then -(a : Int) else a), acc.2 || lost)
        | _ => acc
      let r := p.foldl step (0, false)
      let gh := roundF32Sticky r.1 q r.2
      if gh.special then (gh, Ext.zero)
      else (gh, f32 ((Ext.ofInt r.1 q false).sub gh))

/-- The accumulator step of R116 on exact values that are FP32; a sum that the renormalisation carries to infinity has +0 beside it
(R118). -/
def accStepX (s e gh gl : Ext) : Ext × Ext :=
  if s.special || gh.special then (s.add gh, Ext.zero)
  else
    let p := twoSum s gh
    if p.1.special then (p.1, Ext.zero)
    else pairNorm p.1 (f32 (p.2.add (f32 (e.add gl))))

/-- The accumulator step on held bits (R116). -/
def accStep (a : AccPair) (g : Ext × Ext) : AccPair :=
  let r := accStepX (ofF32 a.s) (ofF32 a.e) g.1 g.2
  { s := toF32 r.1, e := toF32 r.2 }

/-- The fold of a close (R117): RNE of s + e, a zero as +0. -/
def fold (a : AccPair) : BitVec 32 :=
  let v := toF32 ((ofF32 a.s).add (ofF32 a.e))
  if v = 0x80000000 then 0 else v

/-- The addends of one product (R115): in class P the two components of the pair product. Each operand is its value
and, in a pair operand, its lo value. -/
def productAddends (pair : Bool) (a b : Ext × Ext) : List Ext :=
  if pair then let p := pairProduct a.1 a.2 b.1 b.2; [p.1, p.2] else [a.1.mul b.1]

/-- Operand bytes of one group (R89). -/
def opBytes (elems width : Nat) (mx : Bool) : Nat := elems * width / 8 + (if mx then elems / 32 else 0)

/-- Array cycles of one group's compute (R87). -/
def clsCycles : Nat → Nat
  | 0 => 8 | 1 | 2 => 16 | 3 => 128 | _ => 512

/-- Step time of an MMA with operands present (R89), `aStack`, `bStack` telling where the operands lie; `share` is the bytes of partial
sums that a group reads from the scratchpad port (R90, R98), counted while all of it lies there. -/
def stepCycles (slim : Bool) (cls wa wb : Nat) (mxa mxb aStack bStack pa pb : Bool) (share : Nat) : Nat :=
  let g := clsGroup cls
  let a := opBytes (tileH slim * g) wa mxa * (if pa then 2 else 1)
  let b := opBytes (g * tileW slim) wb mxb * (if pb then 2 else 1)
  let sb := (if aStack then a else 0) + (if bStack then b else 0)
  let sp := (if aStack then 0 else a) + (if bStack then 0 else b) + (if aStack || bStack then 0 else share)
  max (clsCycles cls) (max (ceilDiv sb 512) (ceilDiv sp 1024))

end Sys2Proof.Machine
end

