-- ==== Sys2Proof/Machine/Epilogue.lean ====
section
/-!
DEFINITION. The epilogue chain's arithmetic (05 R132 to R149): stages over the rows of an output tile, row statistics,
the final conversion, and the special-value record of a close (03 R107, R108).
-/
namespace Sys2Proof.Machine

/-- A value on an element's path with the first special value the path has held (R107). -/
structure PathVal where
  x : Ext := Ext.zero
  first : Option Ext := none
  deriving DecidableEq, Repr

/-- A path that goes on with value `y` (R107): the first special value is kept. -/
def PathVal.next (p : PathVal) (y : Ext) : PathVal :=
  { x := y, first := match p.first with
      | some v => some v
      | none => if y.special then some y else none }

/-- A path's beginning. -/
def PathVal.start (y : Ext) : PathVal := { x := y, first := if y.special then some y else none }

/-- A statistics row (R142). -/
structure StatRow where
  m : Ext := Ext.zero
  l : Ext := Ext.zero
  f : Ext := Ext.zero
  deriving DecidableEq, Repr

/-- What the stages read (R140): each stage's vector operand, the residual tile, the latched f registers. -/
structure EpiOps where
  vec : Nat → Nat → Ext
  res : Nat → Nat → Ext
  freg : Nat → BitVec 32

/-- Rounding to the carry format (R138): RNE, saturation per SAT. -/
def carry (c : BitVec 1024) (x : Ext) : Ext := ((Fmt.ofCode (eCfmt c)).getD .fp32).round .rne (eSat c) x

/-- Scalar A of a stage (R136). -/
def stageA (o : EpiOps) (s : EStage) : Ext := ofF32 (if s.useF then o.freg s.fa else s.immA)
/-- Scalar B of a stage. -/
def stageB (o : EpiOps) (s : EStage) : Ext := ofF32 (if s.useF then o.freg s.fb else s.immB)

/-- The greater of two values that are not NaN; NaN if either is (R143). Of +0 and -0 it keeps the one that it met first, on which R143 is
silent (DESIGN CHOICE, log entry 101). -/
def extMax (a b : Ext) : Ext := if a.isNan || b.isNan then .nan else if a.lt b then b else a

/-- One element through a stage other than ROWSTAT (R139, R145). -/
def stageElem (c : BitVec 1024) (o : EpiOps) (i : Nat) (s : EStage) (st : StatRow) (r col : Nat) (x : Ext) : Ext :=
  let R := carry c
  match s.kind with
  | 1 => match s.arg % 4 with
    | 0 => R (x.mul (stageA o s))
    | 1 => R (x.mul (o.vec i col))
    | 2 => R (x.mul (o.vec i r))
    | _ => R (x.mul (tableF32 4 0 st.l))
  | 2 => R (x.add (o.vec i (if s.arg % 2 = 1 then r else col)))
  | 3 => R (x.add (o.res r col))
  | 4 => R (tableF32 (s.arg % 16) ((Fmt.ofCode (eCfmt c)).getD .fp32).column x)
  | 5 =>
    if x.isNan then R x
    else
      let a := stageA o s
      let b := stageB o s
      let y := if a.isNan then x else if x.lt a then a else x
      let z := if b.isNan then y else if b.lt y then b else y
      R z
  | 7 => R (if st.f.isZero && !st.f.sign then x else x.add (st.f.mul (o.res r col)))
  | 10 =>
    let x := if s.arg % 2 = 1 && x.isNan then R (stageA o s) else x
    R (if s.arg / 2 % 2 = 1 && x.isInf then (let b := (stageB o s).abs; if x.sign then b.neg else b) else x)
  | 9 => R x
  | _ => x

/-- ROWSTAT over one row (R143 ONLINE, R144 FIXED): the new row and its statistics. -/
def rowStat (c : BitVec 1024) (s : EStage) (st : StatRow) (row : List Ext) : List Ext × StatRow :=
  let R := carry c
  if s.arg % 2 = 1 then
    let rl := tableF32 4 0 st.l
    (row.map (fun x => if st.m = .inf true then Ext.zero else R ((tableF32 1 0 (f32 (x.sub st.m))).mul rl)), st)
  else
    let t := row.foldl extMax (.inf true)
    let m1 := extMax st.m t
    if m1 = .inf true then (row.map (fun _ => Ext.zero), st)
    else
      let k := if st.m = .inf true then Ext.zero else tableF32 1 0 (f32 (st.m.sub m1))
      let ps := row.map (fun x => tableF32 1 0 (f32 (x.sub m1)))
      let acc := ps.foldl (fun (a : Ext × Ext) p => accStepX a.1 a.2 p Ext.zero) (Ext.zero, Ext.zero)
      (ps.map R, { m := m1, l := f32 ((st.l.mul k).add acc.1), f := f32 (st.f.mul k) })

/-- One row through one stage. -/
def stageRow (c : BitVec 1024) (o : EpiOps) (i : Nat) (s : EStage) (r : Nat) (p : List PathVal × StatRow) :
    List PathVal × StatRow :=
  if s.kind = 6 then
    let q := rowStat c s p.2 (p.1.map (·.x))
    (List.zipWith PathVal.next p.1 q.1, q.2)
  else if s.kind = 8 then p
  else (p.1.zipIdx.map (fun (v, col) => v.next (stageElem c o i s p.2 r col v.x)), p.2)

/-- One row through the whole chain, before the final conversion. -/
def chainRow (c : BitVec 1024) (o : EpiOps) (r : Nat) (p : List PathVal × StatRow) : List PathVal × StatRow :=
  (eStages c).zipIdx.foldl (fun q (s, i) => stageRow c o i s r q) p

/-- The final conversion's rounding of one element (R138, R148): SR with the destination's position. -/
def finalRnd (c : BitVec 1024) (tag : BitVec 16) (place : Nat × Nat) : Rnd :=
  if hasKind (eStages c) 8 then .sr (srBits (chainSeed c) tag place.1 place.2)
  else if eOutRnd c = 1 then .rtz else .rne

/-- One row converted to the output format (R138, R148, R149): each element's code, and the scale of each of its
32-column blocks. -/
def finalRow (c : BitVec 1024) (f : Fmt) (mx : Bool) (tag : BitVec 16) (place : Nat → Nat × Nat) (row : List PathVal) :
    List Nat × List Nat :=
  let scales := (List.range (ceilDiv row.length 32)).map (fun b => mxScale f (((row.drop (32 * b)).take 32).map (·.x)))
  (row.zipIdx.map (fun (v, col) =>
    let mode := finalRnd c tag (place col)
    if mx then mxElem f mode (scales.getD (col / 32) 127) v.x else f.convert mode (eSat c) v.x), scales)

/-- The value that a written element's encoding represents. -/
def writtenValue (f : Fmt) (mx : Bool) (scale code : Nat) : Ext := if mx then scaled scale (f.value code) else f.value code

/-- FIRST_KIND code of a special value (R108, R174). -/
def specialKind : Ext → Nat
  | .inf false => 1
  | .inf true => 2
  | _ => 0

/-- A chain that is not named (R133): zero stages, FP32, RNE, saturation off. -/
def emptyChain : BitVec 1024 := 0x10

/-- SV_RECORD (R108) from the first special element: its first special value and the value written. -/
def svRecord (special : Option (Nat × Nat × Ext × Ext)) (poisoned : Bool) : BitVec 32 :=
  match special with
  | none => BitVec.ofNat 32 (b2n poisoned * 2 ^ 27)
  | some (r, c, v, w) =>
    BitVec.ofNat 32 (2 ^ 31 + specialKind v * 2 ^ 29 + b2n (v ≠ w) * 2 ^ 28 + b2n poisoned * 2 ^ 27 + r * 2 ^ 16 + c)

end Sys2Proof.Machine
end

