-- ==== Sys2Proof/Machine/Vector.lean ====
section
/-!
DEFINITION. The vector engine's arithmetic (06 R157 to R182): one output bead of a vector run through its chain,
masks, index maps, compress and expand.
-/
namespace Sys2Proof.Machine

/-- One element's path through a vector chain (R167): running value, code in its current format, predicate, padding,
first special value. -/
structure VElem where
  x : Ext := Ext.zero
  code : Nat := 0
  k : Bool := true
  pad : Bool := false
  first : Option Ext := none
  deriving DecidableEq, Repr

/-- The running state of one bead: its elements, the format they are in, and its 64 block scales. -/
structure VBead where
  es : List VElem := []
  fmt : Fmt := .fp32
  mx : Bool := false
  scales : List Nat := []
  /-- the residuals of S1 and S2 as an EF stage has left them (R169) -/
  res1 : Option (List Nat) := none
  res2 : Option (List Nat) := none
  deriving DecidableEq, Repr

/-- What the stages of one bead read: source values of S1 and S2 by element of the bead, their raw residual codes,
the supplied scale bytes by block of the bead, the latched f registers, and the destination position for SR. -/
structure VecOps where
  s1 : Nat → Ext
  s2 : Nat → Ext
  scaleByte : Nat → Nat → Nat
  freg : Nat → BitVec 32
  seed : BitVec 64
  tag : BitVec 16
  bead : Nat

/-- The rounding of a stage's result at one element (R164, R170); an error-feedback stage rounds under RNE, as R78 states its
conversion (DEDUCED, log entry 106). -/
def vRnd (o : VecOps) (idx : Nat) (s : VStage) (i : Nat) : Rnd :=
  if s.op = 0x20 && s.ef then .rne else
  match s.rnd with
  | 0 => .rne
  | 1 => .rtz
  | _ => .sr (srBits (o.seed + BitVec.ofNat 64 idx) o.tag o.bead i)

/-- The format a stage writes. -/
def VStage.fmt (s : VStage) : Fmt := (Fmt.ofCode s.dfmt).getD .fp32

/-- A path that goes on with a written value. -/
def VElem.next (e : VElem) (x : Ext) (code : Nat) : VElem :=
  { e with x := x, code := code, first := match e.first with
      | some v => some v
      | none => if x.special && !e.pad then some x else none }

/-- W of R168 and R169 over a bead: every element's exact result rounded once to DFMT; with DMX each block takes a scale
computed under R57 over its elements that are not padding, or the supplied one. -/
def writeStage (o : VecOps) (idx : Nat) (s : VStage) (b : VBead) (vs : List Ext) : VBead :=
  let f := s.fmt
  if s.dmx then
    let block (n : Nat) : List Ext :=
      (((b.es.zip vs).drop (32 * n)).take 32).filterMap (fun (e, v) => if e.pad then none else some v)
    let scales := (List.range 64).map (fun n =>
      if s.op = 0x20 && s.scaleSrc = 2 then mxSupplied (o.scaleByte s.srcb n) (block n) else mxScale f (block n))
    { b with
      fmt := f, mx := true, scales := scales
      es := (b.es.zip vs).zipIdx.map (fun ((e, v), i) =>
        let sc := scales.getD (i / 32) 127
        let code := if e.pad then 0 else mxElem f (vRnd o idx s i) sc v
        e.next (if e.pad then Ext.zero else scaled sc (f.value code)) code) }
  else
    { b with
      fmt := f, mx := false, scales := []
      es := (b.es.zip vs).zipIdx.map (fun ((e, v), i) =>
        let code := if e.pad then 0 else f.convert (vRnd o idx s i) s.sat v
        e.next (f.value code) code) }

/-- Operand SRCA, SRCB or SRCC of element `i`, widened exactly to FP32 (R164, R168). -/
def vSrc (o : VecOps) (s : VStage) (src : Nat) (e : VElem) (i : Nat) : Ext :=
  match src with
  | 0 => f32 e.x
  | 1 => f32 (o.s1 i)
  | 2 => f32 (o.s2 i)
  | _ => ofF32 (if s.useF then o.freg s.freg else s.imm)

/-- The comparison of a CMP stage (R164, R168). -/
def vCmp (code : Nat) (a b : Ext) : Bool :=
  let r := a.cmp b
  match code with
  | 0 => r = some .eq
  | 1 => r ≠ some .eq
  | 2 => r = some .lt
  | 3 => r = some .lt || r = some .eq
  | 4 => r = some .gt
  | 5 => r = some .gt || r = some .eq
  | 6 => r = none
  | _ => r ≠ none

/-- How a comparison enters the predicate (R164). -/
def vComb (code : Nat) (k t : Bool) : Bool :=
  match code with
  | 0 => t
  | 1 => k && t
  | 2 => k || t
  | _ => k && !t

/-- MIN of R168. -/
def vMin (a b : Ext) : Ext :=
  if a.isNan || b.isNan then .nan else if a.lt b || (a.eq b && a.sign) then a else b
/-- MAX of R168. -/
def vMax (a b : Ext) : Ext :=
  if a.isNan || b.isNan then .nan else if b.lt a || (a.eq b && !a.sign) then a else b

/-- The exact result of a stage that writes `x`, for one element (R168, R169). -/
def vResult (o : VecOps) (s : VStage) (e : VElem) (i : Nat) : Ext :=
  let a := vSrc o s s.srca e i
  let b := vSrc o s s.srcb e i
  match s.op with
  | 1 => f32 (a.add b)
  | 2 => f32 (a.mul b)
  | 3 => f32 ((a.mul b).add (vSrc o s s.srcc e i))
  | 5 => if e.k then a else b
  | 6 => vMin a b
  | 7 => vMax a b
  | _ =>
    let v := a
    let v := if s.scaleSrc = 2 && !s.dmx then scaled (o.scaleByte s.srcb (i / 32)) v else v
    let v := if s.func ≠ 0 then tableF32 s.func s.fmt.column (f32 v) else v
    if s.ef then f32 (v.add b) else v

/-- One stage over a bead (R167 to R169): CMP writes predicates, EF also writes the residual of R78. -/
def vStageBead (o : VecOps) (idx : Nat) (s : VStage) (b : VBead) : VBead :=
  if s.op = 4 then
    { b with es := b.es.zipIdx.map (fun (e, i) =>
        { e with k := vComb s.pcomb e.k (vCmp s.cmp (vSrc o s s.srca e i) (vSrc o s s.srcb e i)) }) }
  else
    let vs := b.es.zipIdx.map (fun (e, i) => vResult o s e i)
    let b' := writeStage o idx s b vs
    if s.op = 0x20 && s.ef then
      let r := (b'.es.zip vs).map (fun (e, w) => if w.special || e.pad then 0 else (toF32 (w.sub e.x)).toNat)
      if s.srcb = 1 then { b' with res1 := some r } else { b' with res2 := some r }
    else b'

/-- What the next stage reads: residuals as the stages before have left them. -/
def VBead.ops (b : VBead) (o : VecOps) : VecOps :=
  { o with
    s1 := match b.res1 with | some r => fun i => Fmt.fp32.value (r.getD i 0) | none => o.s1
    s2 := match b.res2 with | some r => fun i => Fmt.fp32.value (r.getD i 0) | none => o.s2 }

/-- A bead through the whole chain. -/
def vChainBead (c : BitVec 1024) (o : VecOps) (b : VBead) : VBead :=
  (vStages c).zipIdx.foldl (fun q (s, i) => vStageBead (q.ops o) i s q) b

/-- The last stage that writes `x`, with its index. -/
def vLastWrite (c : BitVec 1024) : Option (VStage × Nat) := ((vStages c).zipIdx.filter (fun p => p.1.writesX)).getLast?

/-- The format and MX bit of the final `x` (R171, R176). -/
def vFinalFmt (c : BitVec 1024) (s0 : Nat × Bool) : Nat × Bool :=
  match vLastWrite c with
  | some (s, _) => (s.dfmt, s.dmx)
  | none => s0

/-- The merge of R171 into a block-scaled D: a block with a new element takes a scale over all its values, kept and new
(or the supplied one), and all are converted against it; a block with none is left as it was. -/
def vMergeMx (c : BitVec 1024) (o : VecOps) (b : VBead) (oldCodes oldScales : List Nat) : List Nat × List Nat :=
  let f := b.fmt
  let last := vLastWrite c
  let old (i : Nat) : Ext := scaled (oldScales.getD (i / 32) 127) (f.value (oldCodes.getD i 0))
  let es := b.es.zipIdx
  let block (n : Nat) := (es.drop (32 * n)).take 32
  let isNew (n : Nat) : Bool := (block n).any (fun (e, _) => !e.pad && e.k)
  let vals (n : Nat) : List Ext :=
    (block n).filterMap (fun (e, i) => if e.pad then none else some (if e.k then e.x else old i))
  let scales := (List.range 64).map (fun n =>
    if !isNew n then oldScales.getD n 127
    else match last with
      | some (s, _) => if s.op = 0x20 && s.scaleSrc = 2 then mxSupplied (o.scaleByte s.srcb n) (vals n) else mxScale f (vals n)
      | none => mxScale f (vals n))
  (es.map (fun (e, i) =>
    if e.pad || !isNew (i / 32) then oldCodes.getD i 0
    else mxElem f (match last with | some (s, idx) => vRnd o idx s i | none => .rne) (scales.getD (i / 32) 127)
      (if e.k then e.x else old i)), scales)

/-- The codes and scales written to D for a bead (R171); `old` is D's bead before, used by MERGE. -/
def vWriteCodes (c : BitVec 1024) (o : VecOps) (b : VBead) (oldCodes oldScales : List Nat) : List Nat × List Nat :=
  if vMerge c then
    (if b.mx then vMergeMx c o b oldCodes oldScales
     else (b.es.zipIdx.map (fun (e, i) => if e.pad || !e.k then oldCodes.getD i 0 else e.code), []))
  else (b.es.map (fun e => if e.pad then 0 else e.code), b.scales)

/-- The first special element of a bead that D takes (R174): its index, first special value, and whether the value D
represents differs. -/
def vFirstSpecial (c : BitVec 1024) (b : VBead) (codes scales : List Nat) : Option (Nat × Ext × Bool) :=
  (b.es.zipIdx.find? (fun (e, _) => e.first.isSome && !e.pad && !(vMerge c && !e.k))).map (fun (e, i) =>
    let v := e.first.getD .nan
    (i, v, decide (v ≠ writtenValue b.fmt b.mx (scales.getD (i / 32) 127) (codes.getD i 0))))

/-- VX_RECORD (R174). -/
def vxRecord (special : Option (Nat × Ext × Bool)) (poisoned : Bool) : BitVec 32 :=
  match special with
  | none => BitVec.ofNat 32 (b2n poisoned * 2 ^ 27)
  | some (j, v, rep) =>
    BitVec.ofNat 32 (2 ^ 31 + specialKind v * 2 ^ 29 + b2n rep * 2 ^ 28 + b2n poisoned * 2 ^ 27 + j % 2 ^ 23)

/-- What a bead's codes and block scales are where they are written as they were read (R54, R55, R58, R171): a code is that of its value,
a NaN the canonical one; a block with a special value has scale 0xFF and zero elements; padding is zero. -/
def vCanon (f : Fmt) (mx : Bool) (pad : Nat → Bool) (codes scales : List Nat) : List Nat × List Nat :=
  if mx then
    let bad (n : Nat) : Bool := scales.getD n 127 = 255 || (List.range 32).any (fun i =>
      !pad (32 * n + i) && (f.value (codes.getD (32 * n + i) 0)).special)
    (codes.zipIdx.map (fun (c, i) => if pad i || bad (i / 32) then 0 else c), scales.zipIdx.map (fun (s, n) => if bad n then 255 else s))
  else (codes.zipIdx.map (fun (c, i) => if pad i then 0 else f.convert .rne false (f.value c)), [])

/-- Vector rate of R185: elements per cycle, `rs` the rate of the lanes, from quarter bits read and written per element. -/
def vxRate (rs rb4 wb4 : Nat) : Nat :=
  min rs (min (if rb4 = 0 then rs else 8192 * 4 / rb4) (if wb4 = 0 then rs else 4096 * 4 / wb4))

/-- Bits set in the low `n` bits of a number. -/
def popCount (v : Nat) : Nat → Nat
  | 0 => 0
  | n + 1 => v % 2 + popCount (v / 2) n

/-- Active elements of an entry. -/
def MapEntry.active (e : MapEntry) : Nat := popCount e.mask 2048

/-- The first entry that fails the check of R181, with `pad b` the mask of padding positions of bead `b`. -/
def mapFirstBad (pad : Nat → Nat) : Nat → Nat → List MapEntry → Option Nat
  | _, _, [] => none
  | b, sum, e :: es =>
    if e.before ≠ sum || (e.mask &&& pad b) ≠ 0 then some b else mapFirstBad pad (b + 1) (sum + e.active) es

/-- Active bits of the entries. -/
def mapActive (es : List MapEntry) : Nat := (es.map MapEntry.active).foldl (· + ·) 0

/-- The map that BUILD makes from masks with padding cleared (R178, R179). -/
def mapBuild : Nat → List Nat → List MapEntry
  | _, [] => []
  | sum, m :: ms => { mask := m, before := sum } :: mapBuild (sum + popCount m 2048) ms

/-- The bytes of an index map (R178). -/
def mapBytes (es : List MapEntry) : List Byte :=
  leBytes 4 (mapActive es) ++ leBytes 4 es.length ++ leBytes 56 0
    ++ es.flatMap (fun e => leBytes 256 e.mask ++ leBytes 4 e.before ++ leBytes 60 0)

/-- The codes of the active elements, in increasing j (R179). -/
def compressCodes (es : List MapEntry) (codes : Nat → Nat → Nat) : List Nat :=
  es.zipIdx.flatMap (fun (e, b) => (List.range 2048).filterMap (fun i => if e.mask.testBit i then some (codes b i) else none))

/-- The codes of bead `b` of an expand's destination (R180): active positions take dense elements, the others `other`. -/
def expandCodes (e : MapEntry) (dense other : Nat → Nat) : List Nat :=
  ((List.range 2048).foldl (fun (acc : List Nat × Nat) i =>
    if e.mask.testBit i then (dense acc.2 :: acc.1, acc.2 + 1) else (other i :: acc.1, acc.2)) ([], e.before)).1.reverse

end Sys2Proof.Machine
end

