-- ==== Sys2Proof/Machine/Checks.lean ====
section
/-!
DEFINITION. The checks a tensor instruction passes before any operand is read, in the order of 08 R215 (steps 2 to 7), for
every instruction, with the operand descriptors each one names (R216 to R235) and the extents of R237.
-/
namespace Sys2Proof.Machine

/-- A check's outcome: a finding, or nothing. -/
abbrev Chk := Option Finding

/-- A finding with a plain cause code. -/
def refuse (c : Cause) (p : Bool) : Chk := if p then some { cause := c } else none

/-- The first of two findings. -/
def Chk.orElse (a : Chk) (b : Unit → Chk) : Chk := match a with
  | some f => some f
  | none => b ()

/-- The first finding of a list. -/
def firstOf (l : List Chk) : Chk := l.findSome? id

/-- One operand as the checks see it: its extent, the rights, where it may lie, and how arming bears on it. -/
structure OpRef where
  va : Nat := 0
  len : Nat := 0
  need : Need := {}
  /-- its bead range and stride, for the match of an armed operand; no beads for a region -/
  beads : Nat := 0
  bstride : Nat := 0
  armed : Bool := false
  /-- must not lie in an armed range (R183) -/
  noArm : Bool := false
  /-- placements allowed: scratchpad of this core, its stack bank, any local memory, remote (R95, R158, R221) -/
  scratch : Bool := true
  stack : Bool := false
  anyLocal : Bool := false
  remote : Bool := false
  aligned8 : Bool := false
  /-- bytes that the interlock takes, where they differ from the extent checked at issue -/
  lock : Option Nat := none
  /-- a destination whose old contents a merge keeps: no read extent of R237 -/
  dest : Bool := false
  deriving DecidableEq, Repr

/-- A descriptor latched by an entry. -/
def TiqEntry.desc (e : TiqEntry) (n : Nat) : Desc := Desc.ofBits (e.td.get 0 n)

/-- The close control word's fields (R216): TDC, CR, CHV. -/
def closeCtl (w : Word) : Nat × Nat × Bool := (bits w 3 0, bits w 6 4, bit w 7)

/-- Whether an MMA mode closes (R120). -/
def isClose (mode : Nat) : Bool := mode = 2 || mode = 3

/-- The chain a close runs: the latched one, or none (R133). -/
def TiqEntry.closeChain (e : TiqEntry) : BitVec 1024 := if (closeCtl e.rs1v).2.2 then e.chain else emptyChain

/-- The tile-descriptor registers an epilogue chain reads: vector operands, residual tile, statistics (R136, R137). -/
def epiTds (c : BitVec 1024) : List Nat × Option Nat × Option Nat :=
  let ss := eStages c
  (ss.filterMap (fun s => if (s.kind = 1 && (s.arg % 4 = 1 || s.arg % 4 = 2)) || s.kind = 2 then some s.td else none),
   if hasKind ss 3 || hasKind ss 7 then some (eResTd c) else none,
   if hasKind ss 6 || hasKind ss 7 || ss.any (fun s => s.kind = 1 && s.arg % 4 = 3) then some (eStatsTd c) else none)

/-- Whether a chain writes its statistics tensor (R143 to R145). -/
def statsWritten (c : BitVec 1024) : Bool := (eStages c).any (fun s => (s.kind = 6 && s.arg % 2 = 0) || s.kind = 7)

/-- The operand control fields of VRUN, COMPRESS and EXPAND (R219). -/
structure VCtl where
  s1 : Nat := 0
  s2 : Nat := 0
  m : Nat := 0
  s1On : Bool := false
  s2On : Bool := false
  mOn : Bool := false
  dOff : Bool := false
  s1Rep : Bool := false
  s2Rep : Bool := false
  freg : Nat := 0
  deriving DecidableEq, Repr

/-- x[rs1] of a vector-engine instruction (R219). -/
def VCtl.ofWord (w : Word) : VCtl :=
  { s1 := bits w 3 0, s2 := bits w 7 4, m := bits w 11 8, s1On := bit w 12, s2On := bit w 13, mOn := bit w 14, dOff := bit w 15,
    s1Rep := bit w 16, s2Rep := bit w 17, freg := bits w 22 18 }

/-- Whether some stage reads S1 (1) or S2 (2) as a tensor operand. -/
def vReads (c : BitVec 1024) (n : Nat) : Bool :=
  (vStages c).any (fun s => s.srca = n || (s.srcb = n && !(s.op = 0x20 && !s.ef)) || (s.op = 3 && s.srcc = n))

/-- Whether some stage reads S1 or S2 as a scale operand (R169). -/
def vScaleRegion (c : BitVec 1024) (n : Nat) : Bool := (vStages c).any (fun s => s.op = 0x20 && s.scaleSrc = 2 && s.srcb = n)

/-- Whether the checks take S1 or S2 as a tensor: unless it serves as a scale operand only. An operand that is both is read both ways
(DESIGN CHOICE, log entry 103). -/
def vTensor (c : BitVec 1024) (n : Nat) : Bool := vReads c n || !vScaleRegion c n

/-- Whether some stage uses S1 or S2 as the residual of EF (R169). -/
def vResidual (c : BitVec 1024) (n : Nat) : Bool := (vStages c).any (fun s => s.op = 0x20 && s.ef && s.srcb = n)

/-- The format operand `a` of each stage is in, stage by stage (R167): the running format by stage. -/
def vRunFmt (c : BitVec 1024) (s0 : Nat × Bool) (i : Nat) : Nat × Bool :=
  ((vStages c).take i).foldl (fun f s => if s.writesX then (s.dfmt, s.dmx) else f) s0

/-- Element count of a descriptor. -/
def Desc.elems (d : Desc) : Nat := d.rows * d.cols

/-- Beads of the element space (R159, R182): of D, or of S0 when D is omitted. -/
def vSpaceBeads (e : TiqEntry) (ctl : VCtl) (tds0 tdd : Nat) : Nat := (e.desc (if ctl.dOff then tds0 else tdd)).beads

/-- Step 2 over tensor operands: malformed (R213), with the lo descriptor of a pair (R214). -/
def malformedAny (e : TiqEntry) (regs pairRegs : List Nat) : Bool :=
  regs.any (fun r => (e.desc r).malformed) ||
  pairRegs.any (fun r => (e.desc r).pair && ((e.desc r).pairBad r (e.desc (r + 1)) || (e.desc (r + 1)).malformed))

/-- Step 3 over tensor operands: format codes (R50, R51), then signets (R5). -/
def Dev.fmtCheck (d : Dev) (c : Nat) (e : TiqEntry) (regs pairRegs : List Nat) : Chk :=
  let ds := regs.map e.desc
  firstOf [refuse 0x0312 (ds.any (fun x => x.fmt?.isNone)),
    refuse 0x0310 ((!d.sigFor c 1 && ds.any (fun x => x.fmt.fourBit)) || (!d.sigFor c 0 && pairRegs.any (fun r => (e.desc r).pair)))]

/-- A descriptor as an operand reference. -/
def Desc.ref (x : Desc) (need : Need) : OpRef :=
  { va := x.base, len := x.bytes, need := need, beads := x.beads, bstride := x.bstride, armed := x.armed, stack := true }

/-- A descriptor read as a linear run, whatever its layout (R140): a PLAIN one has the beads its elements fill (DESIGN CHOICE, log entry
104). -/
def Desc.linearRef (x : Desc) (need : Need) : OpRef :=
  let n := if x.layout = .plain then ceilDiv x.elems 2048 else x.beads
  { x.ref need with len := max x.bytes (n * x.bstride), beads := n }

/-- Beads of an operand, as MPA of each. -/
def Dev.beadMpas (d : Dev) (who : Accessor) (o : OpRef) : List Nat := (List.range o.beads).map (fun b => d.mpa who (o.va + b * o.bstride))

/-- The one live record whose range wholly contains an operand's beads (R101, R228). -/
def Dev.matchArm (d : Dev) (c : Nat) (o : OpRef) : Option Nat :=
  let ls := (d.beadMpas (d.who c) o).flatMap (fun a => lines a o.bstride)
  if ls.isEmpty then none else ((d.core c).arms.first? (fun _ r => ls.all r.covers)).map (·.1)

/-- Whether a range lies in part in an armed range. -/
def Dev.inArmed (d : Dev) (c : Nat) (o : OpRef) : Bool :=
  let ls := (d.pieces (d.who c) (o.len / 65536 + 2) o.va o.len).flatMap (fun p => lines p.1 p.2)
  (d.core c).arms.any (fun p => ls.any p.2.covers)

/-- Step 5 over operands, in order: translation and permission over each whole extent. -/
def Dev.xlateCheck (d : Dev) (c : Nat) (dbg : Bool) (ops : List OpRef) : Chk :=
  ops.findSome? (fun o => match d.checkExtent (d.who c) o.need (dbg && !o.need.w && d.debugRead c) o.va o.len with
    | .error f => some f
    | .ok _ => none)

/-- Whether an operand lies where it may. -/
def Dev.placed (d : Dev) (c : Nat) (o : OpRef) : Bool :=
  (match d.checkExtent (d.who c) o.need true o.va o.len with
  | .error _ => false
  | .ok k => match k with
    | .nothing => true
    | .scratch c' => (o.scratch && c' = c) || o.anyLocal
    | .stack c' => (o.stack && c' = c) || o.anyLocal
    | .dram => o.anyLocal
    | .remote _ => o.remote
    | _ => false) && (!o.aligned8 || o.va % 8 = 0)

/-- Steps 5 to 7 (R215): translation, placement, arm-record match. -/
def Dev.placeCheck (d : Dev) (c : Nat) (dbg : Bool) (ops : List OpRef) : Chk :=
  firstOf [d.xlateCheck c dbg ops, refuse 0x0316 (ops.any (fun o => !d.placed c o)),
    refuse 0x0316 (ops.any (fun o => (o.armed && (d.matchArm c o).isNone) || (o.noArm && d.inArmed c o)))]

/-- The arm records that an instruction's operands match (R228). -/
def Dev.armsOf (d : Dev) (c : Nat) (ops : List OpRef) : List Nat :=
  (ops.filterMap (fun o => if o.armed then d.matchArm c o else none)).eraseDups

/-- Class of an MMA from its descriptors (R88). -/
def mmaCls (a b : Desc) : Nat := mmaClass a.fmt b.fmt (a.pair || b.pair)

/-- Operand descriptors of an MMA: A, B, their lo tensors, and for a close the output and the epilogue operands. -/
def mmaRefs (e : TiqEntry) (mode tda tdb : Nat) : List OpRef :=
  let rd : Need := { r := true }
  let lo (r : Nat) : List OpRef := if (e.desc r).pair then [(e.desc (r + 1)).ref rd] else []
  let base := (e.desc tda).ref rd :: lo tda ++ (e.desc tdb).ref rd :: lo tdb
  if isClose mode then
    let t := epiTds e.closeChain
    base ++ [{ (e.desc (closeCtl e.rs1v).1).ref { w := true } with armed := false }]
      ++ t.1.map (fun r => (e.desc r).linearRef rd)
      ++ (match t.2.1 with | some r => [(e.desc r).ref rd] | none => [])
      ++ (match t.2.2 with
          | some r => [(e.desc r).linearRef { r := true, w := statsWritten e.closeChain }]
          | none => [])
  else base

/-- R152: what a close refuses at issue about its chain. -/
def closeChainCheck (e : TiqEntry) (slim : Bool) (m n : Nat) (out : Desc) : Chk :=
  let ctl := closeCtl e.rs1v
  let ch := e.closeChain
  let ss := eStages ch
  let mxs := hasKind ss 9
  let t := epiTds ch
  let vecBad (s : EStage) : Bool :=
    let x := e.desc s.td
    let col := (s.kind = 1 && s.arg % 4 = 1) || (s.kind = 2 && s.arg % 2 = 0)
    ((s.kind = 1 && (s.arg % 4 = 1 || s.arg % 4 = 2)) || s.kind = 2) && (x.mx || x.elems < (if col then n else m))
  firstOf [(if ctl.2.2 then (match e.chainRefusal with | some c => some { cause := c } | none => none) else none),
    refuse 0x0321 (ctl.2.2 && chainKind ch ≠ 1),
    refuse 0x0321 (out.mx != mxs),
    refuse 0x0321 (slim && hasKind ss 6),
    refuse 0x0322 ((match t.2.2 with
        | some r => let x := e.desc r; x.fmtCode ≠ 0 || x.mx || x.elems < 4 * m
        | none => false)
      || ss.any vecBad
      || (match t.2.1 with
        | some r => let x := e.desc r; x.rows ≠ m || x.cols ≠ n || x.layout ≠ (if slim then .row8 else .row64)
        | none => false))]

/-- Steps 2 to 7 of an MMA, step 4 in the order of R217. A CONTINUE or CLOSE comes to them once every older MMA on its group has ended
(mayBegin), so the group's state is the one R122 names. -/
def Dev.mmaCheck (d : Dev) (c : Nat) (e : TiqEntry) (slim : Bool) (mode grp tda tdb : Nat) : Chk :=
  let close := isClose mode
  let a := e.desc tda
  let b := e.desc tdb
  let out := e.desc (closeCtl e.rs1v).1
  let ep := if close && chainKind e.closeChain = 1 && e.chainRefusal.isNone then
      let t := epiTds e.closeChain; t.1 ++ t.2.1.toList ++ t.2.2.toList else []
  let regs := [tda, tdb] ++ (if close then [(closeCtl e.rs1v).1] else []) ++ ep
  let rowL : Layout := if slim then .row8 else .row64
  let g := clsGroup (mmaCls a b)
  let st := (d.core c).tx.accState.get 0 grp
  firstOf [refuse 0x0330 (malformedAny e regs [tda, tdb]), d.fmtCheck c e regs [tda, tdb],
    refuse 0x0337 (a.layout ≠ rowL || b.layout ≠ .col64 || (close && out.layout ≠ rowL)),
    refuse 0x0314 (tileH slim < a.rows || tileW slim < b.cols || a.cols ≠ b.rows || a.cols % g ≠ 0 || a.cols < g || 4096 < a.cols
      || (close && (out.rows ≠ a.rows || out.cols ≠ b.cols))),
    refuse 0x0313 (pairingBad a.fmt b.fmt (a.pair || b.pair)),
    refuse 0x0319 ((d.core c).accGroups ≤ grp),
    refuse 0x0318 ((mode = 1 || mode = 2) && (!accHeld st || accSlim st ≠ slim)),
    (if close then closeChainCheck e slim a.rows b.cols out else none),
    d.placeCheck c false (mmaRefs e mode tda tdb)]

/-- A region operand (R213): only BASE is read. -/
def regionRef (x : Desc) (len : Nat) (need : Need) : OpRef := { va := x.base, len := len, need := need, noArm := true }

/-- Operands of a vector run in the order of R237 (R157, R259). The map of a LEN_FROM_MAP run is checked over its header at issue; for
the interlock it may reach to the end of a scratchpad until BEADS is known (DEDUCED from R201 and R237, log entry 105). -/
def vrunRefs (e : TiqEntry) (tds0 tdd : Nat) : List OpRef :=
  let ctl := VCtl.ofWord e.rs1v
  let ch := e.chain
  let nb := vSpaceBeads e ctl tds0 tdd
  let rd : Need := { r := true }
  let scr (o : OpRef) : OpRef := { o with stack := false }
  let src (on : Bool) (n reg : Nat) : List OpRef :=
    if !on then []
    else (if !vTensor ch n then []
        else if vResidual ch n then [{ scr ((e.desc reg).ref { r := true, w := true }) with armed := false, noArm := true }]
        else [scr ((e.desc reg).ref rd)])
      ++ (if vScaleRegion ch n then [regionRef (e.desc reg) (64 * nb) rd] else [])
  let map : OpRef := if vLenFromMap ch then
      { regionRef (e.desc ctl.m) 64 rd with lock := some (match e.hdr with | some h => 64 + 320 * h.2 | none => 0x400000) }
    else regionRef (e.desc ctl.m) (256 * nb) { r := vMaskIn ch, w := vMaskOut ch }
  [scr ((e.desc tds0).ref rd)] ++ src ctl.s1On 1 ctl.s1 ++ src ctl.s2On 2 ctl.s2
    ++ (if ctl.mOn then [map] else [])
    ++ (if ctl.dOff then [] else [{ scr ((e.desc tdd).ref { r := vMerge ch, w := true }) with armed := false, dest := true }])

/-- Whether two virtual ranges overlap. -/
def overlap (a n b m : Nat) : Bool := a < b + m && b < a + n

/-- Steps 2 to 7 of a vector run, step 4 in the order of R176. -/
def Dev.vrunCheck (d : Dev) (c : Nat) (e : TiqEntry) (tds0 tdd : Nat) : Chk :=
  let ctl := VCtl.ofWord e.rs1v
  let ch := e.chain
  let ss := vStages ch
  let tensor (on : Bool) (n reg : Nat) : List Nat := if on && vTensor ch n then [reg] else []
  let srcs := tensor ctl.s1On 1 ctl.s1 ++ tensor ctl.s2On 2 ctl.s2
  let regs := [tds0] ++ srcs ++ (if ctl.dOff then [] else [tdd])
  let s0 := e.desc tds0
  let dd := e.desc tdd
  let fin := vFinalFmt ch (s0.fmtCode, s0.mx)
  let srcFmt (i n : Nat) : Nat × Bool := match n with
    | 0 => vRunFmt ch (s0.fmtCode, s0.mx) i
    | 1 => ((e.desc ctl.s1).fmtCode, (e.desc ctl.s1).mx)
    | 2 => ((e.desc ctl.s2).fmtCode, (e.desc ctl.s2).mx)
    | _ => (0, false)
  let efBad := ss.zipIdx.any (fun (s, i) => s.op = 0x20 && s.ef &&
    ((srcFmt i s.srca) ≠ (0, false) || (srcFmt i s.srcb) ≠ (0, false) || (s.srcb = 1 && ctl.s1Rep) || (s.srcb = 2 && ctl.s2Rep)))
  let needs (n : Nat) : Bool := vReads ch n || vScaleRegion ch n
  let rep (n : Nat) : Bool := if n = 1 then ctl.s1Rep else ctl.s2Rep
  let plainSrcs := (if ctl.s1Rep then [] else tensor ctl.s1On 1 ctl.s1) ++ (if ctl.s2Rep then [] else tensor ctl.s2On 2 ctl.s2)
  let scales := (if ctl.s1On && vScaleRegion ch 1 then [ctl.s1] else []) ++ (if ctl.s2On && vScaleRegion ch 2 then [ctl.s2] else [])
  let nb := vSpaceBeads e ctl tds0 tdd
  let same (x y : Desc) : Bool := x.layoutCode = y.layoutCode && x.rows = y.rows && x.cols = y.cols && x.beads = y.beads
  firstOf [refuse 0x0330 (malformedAny e regs []), d.fmtCheck c e regs [],
    (match e.chainRefusal with | some k => some { cause := k } | none => none),
    refuse 0x0321 (chainKind ch ≠ 2),
    refuse 0x0321 (!ctl.dOff && fin ≠ (dd.fmtCode, dd.mx)),
    refuse 0x0324 (ctl.dOff && !vMaskOut ch),
    refuse 0x0324 ((needs 1 && !ctl.s1On) || (needs 2 && !ctl.s2On) || ((vMaskIn ch || vMaskOut ch || vLenFromMap ch) && !ctl.mOn)),
    refuse 0x0324 efBad,
    refuse 0x0324 ((ctl.s1On && rep 1 && vTensor ch 1 && (e.desc ctl.s1).layout ≠ .linear)
      || (ctl.s2On && rep 2 && vTensor ch 2 && (e.desc ctl.s2).layout ≠ .linear)
      || (vLenFromMap ch && regs.any (fun r => (e.desc r).layout ≠ .linear))),
    refuse 0x0324 (!ctl.dOff && ([tds0] ++ srcs).any (fun r => let x := e.desc r
      overlap x.base x.bytes dd.base dd.bytes && e.td.get 0 r ≠ e.td.get 0 tdd)
      || !ctl.dOff && scales.any (fun r => overlap (e.desc r).base (64 * nb) dd.base dd.bytes)),
    refuse 0x0323 ((plainSrcs ++ (if ctl.dOff then [] else [tdd])).any (fun r => !same s0 (e.desc r))),
    d.placeCheck c false (vrunRefs e tds0 tdd)]

/-- Operands of a compress (R179) or an expand (R180). -/
def packRefs (e : TiqEntry) (expand : Bool) (tds tdd : Nat) : List OpRef :=
  let ctl := VCtl.ofWord e.rs1v
  let s := e.desc tds
  let x := e.desc tdd
  let rd : Need := { r := true }
  let scr (o : OpRef) : OpRef := { o with stack := false }
  let map (n : Nat) (w : Bool) : OpRef := regionRef (e.desc ctl.s2) (64 + 320 * n) { r := !w, w := w }
  if expand then
    [scr (s.ref rd), { scr (x.ref { r := ctl.s1Rep, w := true }) with armed := false, dest := true }, map x.beads false]
  else
    [scr (s.ref rd), { scr (x.ref { w := true }) with armed := false }]
      ++ (if ctl.s1Rep then [map s.beads false]
          else [regionRef (e.desc ctl.m) (256 * s.beads) rd, map s.beads true])

/-- Steps 2 to 7 of a compress (R179). -/
def Dev.compressCheck (d : Dev) (c : Nat) (e : TiqEntry) (tds tdd : Nat) : Chk :=
  let s := e.desc tds
  let x := e.desc tdd
  firstOf [refuse 0x0330 (malformedAny e [tds, tdd] []), d.fmtCheck c e [tds, tdd] [],
    refuse 0x0323 (x.elems < s.elems),
    refuse 0x0324 s.mx,
    refuse 0x0324 (x.layout ≠ .linear || x.fmtCode ≠ s.fmtCode || x.mx ≠ s.mx),
    d.placeCheck c false (packRefs e false tds tdd)]

/-- Steps 2 to 7 of an expand (R180). -/
def Dev.expandCheck (d : Dev) (c : Nat) (e : TiqEntry) (tds tdd : Nat) : Chk :=
  let s := e.desc tds
  let x := e.desc tdd
  firstOf [refuse 0x0330 (malformedAny e [tds, tdd] []), d.fmtCheck c e [tds, tdd] [],
    refuse 0x0324 (x.fmtCode ≠ s.fmtCode || x.mx || s.mx),
    d.placeCheck c false (packRefs e true tds tdd)]

/-- Whether source and destination agree for a copy within the module (R222). -/
def copyAgrees (s x : Desc) : Bool :=
  s.fmtCode = x.fmtCode && s.mx = x.mx && s.rows = x.rows && s.cols = x.cols &&
  (!s.mx || s.layout = x.layout ||
    ((s.layout = .row64 || s.layout = .row8 || s.layout = .linear) && (x.layout = .row64 || x.layout = .row8 || x.layout = .linear)
      && (!(s.layout = .linear || x.layout = .linear) || s.cols % 32 = 0)))

/-- Operands of TLOAD, TSTORE and TMOVE (R221). -/
def copyRefs (e : TiqEntry) (op : Nat) (tdd tds : Nat) : List OpRef :=
  let s := { (e.desc tds).ref { r := true } with armed := false, scratch := op = 1, stack := op = 0, anyLocal := op = 2 }
  let x := { (e.desc tdd).ref { w := true } with armed := false, scratch := op = 0, stack := op = 1, anyLocal := op = 2 }
  [s, x]

/-- Steps 2 to 7 of TLOAD (0), TSTORE (1) or TMOVE (2). -/
def Dev.copyCheck (d : Dev) (c : Nat) (e : TiqEntry) (op tdd tds : Nat) : Chk :=
  firstOf [refuse 0x0330 (malformedAny e [tds, tdd] []), d.fmtCheck c e [tds, tdd] [],
    refuse 0x0331 (!copyAgrees (e.desc tds) (e.desc tdd)),
    d.placeCheck c (op ≠ 1) (copyRefs e op tdd tds)]

/-- Whether a SEND's or RECV's descriptors agree (R224). -/
def sendAgrees (s x : Desc) : Bool :=
  s.fmtCode = x.fmtCode && s.mx = x.mx && s.layout = x.layout && s.rows = x.rows && s.cols = x.cols && s.tag = x.tag && s.layout ≠ .plain

/-- The stream a handle names, where it may be used (R225). -/
def Dev.streamOk (d : Dev) (part : Nat) (h : Word) : Option Stream :=
  match d.fe.streams.find? (bits h 17 0) with
  | some s => if s.open' && !s.closing && s.part = part && (d.fe.sIds.gens.get 0 (bits h 17 0)).toNat = bits h 23 18 then some s else none
  | none => none

/-- Whether a stream handle is stale or names no stream (R305). -/
def Dev.streamStale (d : Dev) (h : Word) : Bool :=
  (d.fe.streams.find? (bits h 17 0)).isNone || (d.fe.sIds.gens.get 0 (bits h 17 0)).toNat ≠ bits h 23 18

/-- The module that an address reaches, where it translates: a remote page's home, else this one. -/
def Dev.homeOf (d : Dev) (who : Accessor) (va : Nat) : Option Nat :=
  match d.translate who va with
  | .page v => (match v.mem with | .remote m => some m | _ => some d.id.toNat)
  | _ => none

/-- Operands of SEND (local source) or RECV (local destination), and the remote one (R221). -/
def sendRefs (e : TiqEntry) (recv : Bool) (tdd tds : Nat) : List OpRef :=
  let loc (o : OpRef) : OpRef := { o with armed := false, stack := true }
  let rem (o : OpRef) : OpRef := { o with armed := false, scratch := false, stack := false, remote := true }
  if recv then [rem ((e.desc tds).ref { r := true }), loc ((e.desc tdd).ref { w := true })]
  else [loc ((e.desc tds).ref { r := true }), rem ((e.desc tdd).ref { w := true })]

/-- Steps 2 to 7 of SEND or RECV; the stream is of step 4 (R215, R225). -/
def Dev.sendCheck (d : Dev) (c : Nat) (e : TiqEntry) (recv : Bool) (tdd tds : Nat) : Chk :=
  let who := d.who c
  let far := e.desc (if recv then tds else tdd)
  firstOf [refuse 0x0330 (malformedAny e [tds, tdd] []), d.fmtCheck c e [tds, tdd] [],
    refuse 0x0331 (!sendAgrees (e.desc tds) (e.desc tdd)),
    refuse 0x0140 (match d.streamOk who.part e.rs1v with
      | some s => (match d.homeOf who far.base with | some m => m ≠ s.dest.toNat | none => false)
      | none => true),
    d.placeCheck c false (sendRefs e recv tdd tds)]

/-- Bead positions that an ARM registers (R101, R226). -/
def Dev.armPositions (d : Dev) (c : Nat) (x : Desc) : List Nat := d.beadMpas (d.who c) (x.ref {})

/-- The range of an ARM as an operand: no right is needed. -/
def armRef (x : Desc) : OpRef := { x.ref {} with armed := false }

/-- Steps 2 to 7 of ARM (R226). -/
def Dev.armCheck (d : Dev) (c : Nat) (e : TiqEntry) (rec td : Nat) : Chk :=
  let x := e.desc td
  firstOf [refuse 0x0330 (malformedAny e [td] []), d.fmtCheck c e [td] [],
    refuse 0x0336 (x.layout = .plain),
    refuse 0x0336 (x.beads = 0 || 1024 < x.beads),
    refuse 0x0333 ((d.core c).arms.find? rec).isSome,
    refuse 0x0334 ((d.core c).arms.any (fun p => (d.armPositions c x).any (fun a => (lines a x.bstride).any p.2.covers))),
    d.placeCheck c false [armRef x]]

/-- Operands of DIGEST (R235): the tensor and the result. -/
def digestRefs (e : TiqEntry) (td : Nat) : List OpRef :=
  [{ (e.desc td).ref { r := true } with armed := false },
   { va := e.rs1v.toNat, len := 8, need := { w := true }, aligned8 := true }]

/-- Steps 2 to 7 of DIGEST (R235). -/
def Dev.digestCheck (d : Dev) (c : Nat) (e : TiqEntry) (td : Nat) : Chk :=
  firstOf [refuse 0x0330 (malformedAny e [td] [] || (e.desc td).layout = .plain), d.fmtCheck c e [td] [],
    d.placeCheck c false (digestRefs e td)]

/-- The range of an RFLUSH (R232): no right, valid leaves, one memory. -/
def Dev.rflushCheck (d : Dev) (c : Nat) (e : TiqEntry) : Chk :=
  if e.rs2v = 0 then none
  else match d.checkExtent (d.who c) {} false e.rs1v.toNat e.rs2v.toNat with
    | .error f => some f
    | .ok _ => none

/-- The operands of an instruction, as step 7 and the interlock see them (R228, R237). -/
def TiqEntry.refs (e : TiqEntry) : List OpRef :=
  match decodeTensor e.word with
  | some (.mma _ mode _ _ tdb tda) => mmaRefs e mode tda tdb
  | some (.vrun _ _ tds0 tdd) => vrunRefs e tds0 tdd
  | some (.compress _ tds tdd) => packRefs e false tds tdd
  | some (.expand _ tds tdd) => packRefs e true tds tdd
  | some (.tload tdd tds) => copyRefs e 0 tdd tds
  | some (.tstore tdd tds) => copyRefs e 1 tdd tds
  | some (.tmove tdd tds) => copyRefs e 2 tdd tds
  | some (.send tdd tds _) => sendRefs e false tdd tds
  | some (.recv tdd tds _) => sendRefs e true tdd tds
  | some (.digest tds _ _ _) => digestRefs e tds
  | _ => []

/-- Checks 2 to 7 of an entry's instruction (R215). -/
def Dev.checkEntry (d : Dev) (c : Nat) (e : TiqEntry) : Chk :=
  match decodeTensor e.word with
  | none => none
  | some (.mma slim mode grp _ tdb tda) => d.mmaCheck c e slim mode grp tda tdb
  | some (.vrun _ _ tds0 tdd) => d.vrunCheck c e tds0 tdd
  | some (.compress _ tds tdd) => d.compressCheck c e tds tdd
  | some (.expand _ tds tdd) => d.expandCheck c e tds tdd
  | some (.tload tdd tds) => d.copyCheck c e 0 tdd tds
  | some (.tstore tdd tds) => d.copyCheck c e 1 tdd tds
  | some (.tmove tdd tds) => d.copyCheck c e 2 tdd tds
  | some (.send tdd tds _) => d.sendCheck c e false tdd tds
  | some (.recv tdd tds _) => d.sendCheck c e true tdd tds
  | some (.arm rec td _) => d.armCheck c e rec td
  | some (.disarm rec) => refuse 0x0335 ((d.core c).arms.find? rec).isNone
  | some (.digest tds _ _ _) => d.digestCheck c e tds
  | some (.rflush ..) => d.rflushCheck c e
  | some (.cset ..) | some (.signal ..) | some (.wait ..) | some (.clasp ..) => none

/-- Whether an extent of the interlock covers local memory: scratchpad or stack bank of this core (R201, R237). -/
def Dev.localLines (d : Dev) (c : Nat) (o : OpRef) : List Nat :=
  let n := o.lock.getD o.len
  (d.pieces (d.who c) (n / 65536 + 2) o.va n).flatMap (fun p => match memKind p.1 with
    | .scratch c' => if c' = c then [p.1 / 64, (p.1 + p.2 - 1) / 64] else []
    | .stack c' => if c' = c then [p.1 / 64, (p.1 + p.2 - 1) / 64] else []
    | _ => [])

/-- An operand's extent for the interlock: its first and last line (R201), where it is local. -/
def Dev.extentOf (d : Dev) (c : Nat) (o : OpRef) : Option (Nat × Nat) :=
  match d.localLines c o with
  | [] => none
  | l :: ls => some (ls.foldl min l, ls.foldl max l)

/-- Extents beyond what an entry records are merged into the last one of their kind (R237). -/
def mergeExtents (n : Nat) (es : List (Nat × Nat)) : List (Nat × Nat) :=
  match es.drop (n - 1) with
  | [] => es
  | l :: ls => es.take (n - 1) ++ [ls.foldl (fun a b => (min a.1 b.1, max a.2 b.2)) l]

/-- Read extents of an entry (R201: up to 4), in the order of R237. -/
def Dev.readExtents (d : Dev) (c : Nat) (e : TiqEntry) : List (Nat × Nat) :=
  mergeExtents 4 (e.refs.filterMap (fun o => if o.need.r && !o.dest then d.extentOf c o else none))

/-- Operands that an entry writes, in the order of R237: a vector run's D, then its mask output, then its residual; a pack's
destination, then its map. -/
def TiqEntry.writeRefs (e : TiqEntry) : List OpRef :=
  let ws := e.refs.filter (·.need.w)
  ws.filter (·.dest) ++ ws.filter (fun o => !o.dest && !o.need.r) ++ ws.filter (fun o => !o.dest && o.need.r)

/-- Write extents of an entry (R201: up to 2). -/
def Dev.writeExtents (d : Dev) (c : Nat) (e : TiqEntry) : List (Nat × Nat) :=
  mergeExtents 2 (e.writeRefs.filterMap (d.extentOf c))

/-- Whether two extents overlap. -/
def extMeet (a b : Nat × Nat) : Bool := a.1 ≤ b.2 && b.1 ≤ a.2

/-- Whether the interlock lets an entry read its operands (R201): no older unfinished entry writes them. -/
def Dev.mayRead (d : Dev) (c : Nat) (e : TiqEntry) : Bool :=
  ((d.core c).tiq.takeWhile (·.id ≠ e.id)).all (fun o => o.done.isSome ||
    !((d.writeExtents c o).any (fun w => (d.readExtents c e).any (extMeet w))))

/-- Whether the interlock lets an entry write its destinations (R201): no older unfinished entry reads or writes them. -/
def Dev.mayWrite (d : Dev) (c : Nat) (e : TiqEntry) : Bool :=
  ((d.core c).tiq.takeWhile (·.id ≠ e.id)).all (fun o => o.done.isSome ||
    !((d.readExtents c o ++ d.writeExtents c o).any (fun w => (d.writeExtents c e).any (extMeet w))))

end Sys2Proof.Machine
end

