-- ==== Sys2Proof/Machine/Issue.lean ====
section
/-!
DEFINITION. The life of a tensor instruction in the issue queue (07 R192 to R207): an engine begins it, it commits, it
completes.
-/
namespace Sys2Proof.Machine

/-- The instruction of an entry. -/
def TiqEntry.instr (e : TiqEntry) : Option TInstr := decodeTensor e.word

/-- The unit of an entry. -/
def TiqEntry.unit (e : TiqEntry) : Unit' := match e.instr with
  | some i => i.unit
  | none => .none

/-- The completion slot an entry names (R208). -/
def TiqEntry.slotNo (e : TiqEntry) : Nat := bits e.word 11 7

/-- Entries older than one, oldest first. -/
def Core.older (k : Core) (id : Nat) : List TiqEntry := k.tiq.takeWhile (·.id ≠ id)

/-- Whether an entry is an ARM or a DISARM. -/
def TiqEntry.isArm (e : TiqEntry) : Bool := match e.instr with
  | some (.arm ..) | some (.disarm ..) => true
  | _ => false

/-- Whether an older entry of the same unit lets a younger one begin: each unit takes its entries in order (R200); the array
runs one MMA at a time (R96), the vector engine one instruction (R160); an ARM completes before any younger entry of the
synchronisation unit starts (R226). -/
def TiqEntry.letsBegin (e : TiqEntry) : Bool := match e.unit with
  | .matrix => e.closing || e.done.isSome
  | .vector => e.done.isSome
  | .mover => e.begun
  | .sync => if e.isArm then e.done.isSome else e.begun
  | .none => true

/-- The accumulation group whose state an entry's checks read (R122). -/
def TiqEntry.groupRead (e : TiqEntry) : Option Nat := match e.instr with
  | some (.mma _ mode g ..) => if mode = 1 || mode = 2 then some g else none
  | _ => none

/-- The accumulation group of an entry. -/
def TiqEntry.group (e : TiqEntry) : Option Nat := match e.instr with
  | some (.mma _ _ g ..) => some g
  | _ => none

/-- Whether an MMA may enter the array (R96): a close waits at the array's input while the epilogue unit holds 2. -/
def TiqEntry.inputFree (e : TiqEntry) (old : List TiqEntry) : Bool := match e.instr with
  | some (.mma _ mode ..) => !isClose mode || (old.filter (fun o => o.closing && o.done.isNone)).length < 2
  | _ => true

/-- Whether a core's unit may begin an entry now (R96, R100, R122, R200, R202, R228): the entry stands in its unit's queue, and its turn
has come. -/
def Dev.mayBegin (d : Dev) (c : Nat) (e : TiqEntry) : Bool :=
  let k := d.core c
  let old := k.older e.id
  !e.begun && e.done.isNone && e.unit ≠ .none
    && (e.committed || (specEn k.tx.txctl && (match e.instr with | some i => i.tentativeOk | none => false)))
    && old.all (fun o => o.unit ≠ e.unit || o.letsBegin)
    && (old.filter (fun o => o.unit = e.unit && o.done.isNone)).length < e.unit.depth
    && e.inputFree old
    && d.powered c e.unit
    && (!e.refs.any (·.armed) || old.all (fun o => !o.isArm || o.done.isSome))
    && (match e.groupRead with
        | some g => old.all (fun o => o.group ≠ some g || o.done.isSome)
        | none => true)

/-- RESULT of an MMA that does not run to its end (R123, R197): SV_RECORD of its group for a close, ACC_STATE for another, as they
stand. -/
def Core.keptResult (k : Core) (e : TiqEntry) : BitVec 32 := match e.instr with
  | some (.mma _ mode g ..) => if isClose mode then k.tx.svRecord.get 0 g else k.tx.accState.get 0 g
  | _ => 0

/-- An instruction ends with a cause and without its effect. -/
def Dev.failEntry (d : Dev) (c : Nat) (e : TiqEntry) (cause : Cause) : Dev :=
  d.finish c e.id { cause := cause, result := (d.core c).keptResult e }

/-- The completion that a finding gives (R198, R204). -/
def Core.refusal (k : Core) (e : TiqEntry) (f : Finding) : Completion :=
  { cause := f.cause, tcsx := if f.xlate then f.va else 0, result := k.keptResult e }

/-- Engine cycles counted for an entry, held while it is tentative (R203). -/
def Core.spend (k : Core) (id n : Nat) : Core :=
  match k.entry? id with
  | some e => if e.committed then { k with cnt := { k.cnt with busy := k.cnt.busy + n } }
      else k.modEntry id (fun e => { e with busy := e.busy + n })
  | none => k

/-- Matched use counts of arm records go up when an instruction is both begun and committed (R227, R228); a record that has been
released since is matched no longer. -/
def Core.countMatch (k : Core) (id : Nat) : Core :=
  match k.entry? id with
  | none => k
  | some e =>
    let live := e.arms.filter (fun i => (k.arms.find? i).isSome)
    { k with arms := live.foldl (fun m i => m.upd {} i (fun r => { r with matched := r.matched + 1 })) k.arms }.modEntry id (fun e =>
      { e with arms := live })

/-- An engine begins an entry (R202): checks 2 to 7 run, a finding is held with it, its operands match their arm records. -/
def Dev.beginEntry (d : Dev) (c id cycle : Nat) : Dev :=
  match (d.core c).entry? id with
  | none => d
  | some e =>
    if d.mayBegin c e then
      let f := d.checkEntry c e
      let d := match f with
        | some f => d.walkNotice (d.who c) f
        | none => e.refs.foldl (fun (d : Dev) (o : OpRef) => d.tcFill c o.va) d
      let arms := if f.isNone then d.armsOf c e.refs else []
      d.modCore c (fun k =>
        let r := f.map (k.refusal e)
        let k := k.modEntry id (fun e => { e with begun := true, beginCycle := cycle, progress := d.time, arms := arms, done := r })
        if e.committed then k.countMatch id else k)
    else d

/-- Arm records released: no instruction holds them any longer. -/
def Core.dropArms (k : Core) (is : List Nat) : Core :=
  { k with arms := is.foldl KMap.del k.arms, tiq := k.tiq.map (fun e => { e with arms := e.arms.filter (fun i => !is.contains i) }) }

/-- Whether a record has been matched by USES committed instructions that have all completed (R227). -/
def ArmRec.spent (r : ArmRec) : Bool := r.uses ≠ 0 && r.uses ≤ r.matched && r.matched ≤ r.completed

/-- Completed use counts go up, and records that are spent are released (R227). -/
def Core.countDone (k : Core) (e : TiqEntry) : Core :=
  let done (m : KMap ArmRec) (i : Nat) : KMap ArmRec := match m.find? i with
    | some r => m.set i { r with completed := r.completed + 1 }
    | none => m
  let k := { k with arms := e.arms.foldl done k.arms }
  k.dropArms ((k.arms.keep (fun _ r => r.spent)).keys)

/-- A slot cleared and owned by an entry (R197). -/
def Core.claim (k : Core) (e : TiqEntry) : Core :=
  if e.slotNo < 16 then
    { k with tx := { k.tx with
      tcs := k.tx.tcs.set e.slotNo 0, tcsx := k.tx.tcsx.set e.slotNo 0, owner := k.tx.owner.set e.slotNo e.id } }
  else k

/-- An entry committed (R202): its slot claimed, its matches and the cycles of its tentative work counted; ARRIVAL_STAY runs from here at the earliest (R204). -/
def Core.commit (k : Core) (e : TiqEntry) (now : Time) : Core :=
  let k := (k.claim e).modEntry e.id (fun e => { e with committed := true, progress := now, busy := 0 })
  let k := { k with cnt := { k.cnt with tileOps := k.cnt.tileOps + 1, busy := k.cnt.busy + e.busy } }
  if e.begun then k.countMatch e.id else k

/-- UNIT that an entry reports (R196, R236). -/
def TiqEntry.unitCode (e : TiqEntry) : Nat := match e.instr with
  | some (.cset ..) => if chainKind e.chain = 2 then 1 else 0
  | _ => e.unit.code

/-- A completed entry's slot, TCSX, TXFAULT and VX_RECORD (R196 to R198). -/
def Core.report (k : Core) (e : TiqEntry) (r : Completion) : Core :=
  let own := e.slotNo < 16 && k.tx.owner.find? e.slotNo = some e.id
  let tx := k.tx
  let tx := if own then { tx with tcs := tx.tcs.set e.slotNo (tcsWord e.unitCode r), tcsx := tx.tcsx.set e.slotNo r.tcsx } else tx
  let tx := if r.cause = 0 then tx else
    { tx with txfault := txfaultAfter tx.txfault e.unitCode e.slotNo r.cause, txfaultpc := if txValid tx.txfault then tx.txfaultpc else e.pc }
  { k with tx := if e.unit = .vector then { tx with vxRecord := r.result } else tx }

/-- A committed, finished entry completes (R197): it leaves the queue, and its fault or the poison it consumed may end the
program's entry (R190, R195, R451). -/
def Dev.completeEntry (d : Dev) (c id : Nat) : Dev :=
  match (d.core c).entry? id with
  | none => d
  | some e => match e.committed, e.done with
    | true, some r =>
      let d := d.retry c e.reads.retries
      let d := if e.transfer && r.cause = 0x0140 && d.streamStale e.rs1v then d.stale else d
      let d := d.modCore c (fun k =>
        let k := (k.report e r).countDone e
        { k with tiq := k.tiq.filter (·.id ≠ id)
                 worked := match e.unit with | .matrix => k.worked.set 0 d.time | .vector => k.worked.set 1 d.time | _ => k.worked })
      let d := ({ d with coh := { d.coh with waits := d.coh.waits.filter (fun w => !(w.core = c && w.id = id)) } }).unmapAgain
      let eof := endOnFault (d.core c).tx.txctl
      let pc := (d.core c).tx.txfaultpc
      let fin : Ending := if eof then { cause := r.cause, status := pc, arg0 := pc, arg1 := r.tcsx, fault := true } else {}
      let d := if r.consumed then d.consume c r.cause r.poisonVa fin
        else if r.cause ≠ 0 && eof then d.beginEnd c fin
        else d
      match (d.core c).ending with
      | some x => if (d.core c).tiq.any (·.committed) then d else d.endEntry c x
      | none => d
    | _, _ => d

/-- The outcome of an instruction whose reads met poison or not (R109, R173, R451). -/
def Reads.completion (r : Reads) (cause : Cause) (tcsx : Word) (result : BitVec 32) : Completion :=
  { cause := if cause ≠ 0 then cause else r.cause, tcsx := tcsx, result := result, consumed := r.poison, poisonVa := BitVec.ofNat 64 r.va }

/-- An entry a command names, where it is committed, begun or begun now, and not finished: what a work command acts on. -/
def Dev.working (d : Dev) (c id : Nat) : Dev × Option TiqEntry :=
  let d := match (d.core c).entry? id with
    | some e => if e.committed && !e.begun then d.beginEntry c id (d.nowCycle c) else d
    | none => d
  (d, match (d.core c).entry? id with
    | some e => if e.committed && e.begun && e.done.isNone then some e else none
    | none => none)

/-- ARRIVAL_STAY of the partition a core runs for (R105). -/
def Dev.arrivalStay (d : Dev) (c : Nat) : Time := us (d.part (d.who c).part).arrivalStay

/-- A committed instruction that has waited ARRIVAL_STAY since its commit or its last progress (R105, R204). -/
def Dev.stayed (d : Dev) (c : Nat) (e : TiqEntry) : Bool := e.committed && reached d.time e.progress (d.arrivalStay c)

end Sys2Proof.Machine
end

