-- ==== Sys2Proof/Machine/MatrixUnit.lean ====
section
/-!
DEFINITION. The matrix engine and its epilogue unit over the device (03 R84 to R113, 04 R114 to R128, 05 R132 to R155): groups,
partial sums in the sealed region, closes, mismatches and retries, the arrival limit.
-/
namespace Sys2Proof.Machine

/-- An MMA's operands as latched (R216, R217). -/
structure Mma where
  slim : Bool := false
  mode : Nat := 0
  grp : Nat := 0
  a : Desc := {}
  b : Desc := {}
  alo : Option Desc := none
  blo : Option Desc := none
  deriving DecidableEq, Repr

/-- The MMA of an entry. -/
def TiqEntry.mma? (e : TiqEntry) : Option Mma := match e.instr with
  | some (.mma slim mode grp _ tdb tda) =>
    some { slim := slim, mode := mode, grp := grp, a := e.desc tda, b := e.desc tdb
           alo := if (e.desc tda).pair then some (e.desc (tda + 1)) else none
           blo := if (e.desc tdb).pair then some (e.desc (tdb + 1)) else none }
  | _ => none

/-- Class P applies (R88). -/
def Mma.pair (u : Mma) : Bool := u.alo.isSome || u.blo.isSome
/-- Operand class (R88). -/
def Mma.cls (u : Mma) : Nat := mmaClass u.a.fmt u.b.fmt u.pair
/-- Group size g (R87). -/
def Mma.g (u : Mma) : Nat := clsGroup u.cls
/-- Groups of the pass, S (R97). -/
def Mma.count (u : Mma) : Nat := u.a.cols / u.g
/-- Rows M of the output. -/
def Mma.m (u : Mma) : Nat := u.a.rows
/-- Columns N of the output. -/
def Mma.n (u : Mma) : Nat := u.b.cols

/-- First byte of an accumulation group's slot in the sealed region (R124). -/
def accSlot (c grp : Nat) : Nat := scratchBase c + 0x400000 - (grp + 1) * 0x10000

/-- The pairs of a slot at the M × N positions, row-major (R125). -/
def Dev.accLoad (d : Dev) (c : Nat) (u : Mma) : List AccPair :=
  (List.range u.m).flatMap (fun r => (List.range u.n).map (fun col =>
    let p := accSlot c u.grp + 4 * (r * tileW u.slim + col)
    { s := BitVec.ofNat 32 (d.mem.mem.readNat p 4), e := BitVec.ofNat 32 (d.mem.mem.readNat (p + 0x8000) 4) }))

/-- The pairs written to a slot (R125, R126): an open pass starts the whole slot from zero; positions outside M × N of a
continued one stand as they were (R123). The slot's poison is that of the pass (R109). -/
def Dev.accStore (d : Dev) (c : Nat) (u : Mma) (acc : List AccPair) (poison : Bool) : Dev :=
  let base := accSlot c u.grp
  let mem := if u.mode = 0 then d.mem.mem.zero base 0x10000 else d.mem.mem
  let mem := (List.range u.m).foldl (fun (m : Memory) r =>
    let row := (acc.drop (r * u.n)).take u.n
    let at' := base + 4 * (r * tileW u.slim)
    (m.write at' (row.flatMap (fun p => leBytes 4 p.s.toNat))).write (at' + 0x8000) (row.flatMap (fun p => leBytes 4 p.e.toNat))) mem
  let pz := d.mem.poison.removeRange (base / 64) 1024
  { d with mem := { d.mem with mem := mem, poison := if poison then pz.insertRange (base / 64) 1024 else pz } }

/-- What an MMA's pass starts from (R120): zero, or the partial sums with their poison. -/
def Dev.accStart (d : Dev) (c : Nat) (u : Mma) : List AccPair × Bool :=
  if u.mode = 0 || u.mode = 3 then (List.replicate (u.m * u.n) {}, false)
  else (d.accLoad c u, d.mem.poison.meets (accSlot c u.grp / 64) 1024)

/-- Beads of A that group `j` reads (R103, R114). -/
def Mma.aBeads (u : Mma) (x : Desc) (j : Nat) : List Nat :=
  ((List.range u.m).flatMap (fun r => (List.range u.g).map (fun k => (x.place r (u.g * j + k)).1))).eraseDups

/-- Beads of B that group `j` reads. -/
def Mma.bBeads (u : Mma) (x : Desc) (j : Nat) : List Nat :=
  ((List.range u.g).flatMap (fun k => (List.range u.n).map (fun col => (x.place (u.g * j + k) col).1))).eraseDups

/-- Operand reads of group `j`: descriptor and beads, hi then lo, A then B. -/
def Mma.groupReads (u : Mma) (j : Nat) : List (Desc × List Nat) :=
  [(u.a, u.aBeads u.a j)] ++ (match u.alo with | some x => [(x, u.aBeads x j)] | none => [])
    ++ [(u.b, u.bBeads u.b j)] ++ (match u.blo with | some x => [(x, u.bBeads x j)] | none => [])

/-- Whether group `j` is ready (R103): every bead that holds one of its elements has landed. The lo tensor of a pair waits as
its hi tensor does. -/
def Dev.groupReady (d : Dev) (c : Nat) (u : Mma) (j : Nat) : Bool :=
  (u.groupReads j).all (fun p => p.2.all (d.beadReady (d.who c) p.1))

/-- The values of an operand and of its lo tensor, +0 where there is none (R69, R88). -/
def pairAt (x : Desc) (lo : Option Desc) (m mlo : KMap BeadVal) (r col : Nat) : Ext × Ext :=
  let p := x.place r col
  (beadValue x m p.1 p.2, match lo with
    | some y => let q := y.place r col; beadValue y mlo q.1 q.2
    | none => Ext.zero)

/-- The group sums of group `j` entered into the pairs (R114 to R116). -/
def Mma.enter (u : Mma) (j : Nat) (ms : List (KMap BeadVal)) (acc : List AccPair) : List AccPair :=
  let ma := ms.headD []
  let malo := if u.alo.isSome then ms.getD 1 [] else []
  let rest := ms.drop (if u.alo.isSome then 2 else 1)
  let mb := rest.headD []
  let mblo := rest.getD 1 []
  let isInt := u.a.fmt = .int8 || u.a.fmt = .int4
  acc.zipIdx.map (fun (p, i) =>
    let adds := (List.range u.g).flatMap (fun k =>
      productAddends u.pair (pairAt u.a u.alo ma malo (i / u.n) (u.g * j + k)) (pairAt u.b u.blo mb mblo (u.g * j + k) (i % u.n)))
    accStep p (groupSum adds (clsTree u.cls) isInt))

/-- Matrix columns enabled at a core's level, in eighths (R400). -/
def CorePower.columns (p : CorePower) : Nat :=
  if p.boost then 8 else match p.reef with | 3 => 6 | 4 | 5 => 4 | 6 => 2 | 7 => 1 | _ => 8

/-- Whether the pass reads the group's partial sums (R120). -/
def Mma.readsSums (u : Mma) : Bool := u.mode = 1 || u.mode = 2

/-- Engine-busy cycles of the group after `n` others (R37, R89, R90, R98, R100), told by where the operands lie: the step time at the
core's reef level, and with the last group what a pass with partial-sum traffic lacks of its 128 cycles. -/
def Dev.groupCycles (d : Dev) (c : Nat) (u : Mma) (n : Nat) : Nat :=
  let inStack (x : Desc) : Bool := match memKind (d.mpa (d.who c) x.base) with | .stack _ => true | _ => false
  let share := if u.readsSums then ceilDiv 0x10000 (max 1 u.count) else 0
  let t := stepCycles u.slim u.cls u.a.fmt.width u.b.fmt.width u.a.mx u.b.mx (inStack u.a) (inStack u.b) u.alo.isSome u.blo.isSome share
  let t := ceilDiv (8 * t) (d.power.cores.get {} c).columns
  if n + 1 = u.count && u.mode ≠ 3 then t + (128 - u.count * t) else t

/-- One group run through the array (R103): nothing happens while it may not be read or is not ready. A bead that does not
match its descriptor ends the MMA (R74). -/
def Dev.runGroup (d : Dev) (c : Nat) (e : TiqEntry) (u : Mma) : Dev :=
  if e.done.isSome || u.count ≤ e.groups || !d.mayRead c e || !d.groupReady c u e.groups then d
  else
    let acc := if e.groups = 0 then d.accStart c u else (e.acc, false)
    let r := d.readAll (d.who c) (u.groupReads e.groups)
    match r.2 with
    | .error cause => r.1.failEntry c e cause
    | .ok ms =>
      let reads := ms.foldl seeAll (if acc.2 then { e.reads with poison := true } else e.reads)
      r.1.modCore c (fun k => (k.spend e.id (d.groupCycles c u e.groups)).modEntry e.id (fun e => { e with
          groups := e.groups + 1, acc := u.enter e.groups ms acc.1, reads := reads, attempts := 0 }))

/-- The groups that are left, one after another, while each is ready. -/
def Dev.runGroups (d : Dev) (c id : Nat) (u : Mma) : Nat → Dev
  | 0 => d
  | n + 1 => match (d.core c).entry? id with
    | some e => if e.groups < u.count && e.done.isNone && d.groupReady c u e.groups && d.mayRead c e
        then (d.runGroup c e u).runGroups c id u n else d
    | none => d

/-- What an element engine finds wrong in one group (R110 to R112). -/
inductive Mismatch where
  | none | residue | duplicate
  deriving DecidableEq, Repr

/-- A mismatch (R112): a residue mismatch has the group computed again, differing accumulator copies the whole pass; the 4th
attempt, or the core's 4th mismatch within 1 s, retires the core. -/
def Dev.mismatch (d : Dev) (c : Nat) (e : TiqEntry) (dup : Bool) : Dev :=
  let h := fourth d.time (d.core c).mismatches
  let n := (if dup then e.passAttempts else e.attempts) + 1
  let d := d.modCore c (fun k => { k with mismatches := h.1 }.modEntry e.id (fun e => { e with
    reads := { e.reads with retries := e.reads.retries + 1 }
    attempts := if dup then 0 else n, passAttempts := if dup then n else e.passAttempts
    groups := if dup then 0 else e.groups, acc := if dup then [] else e.acc }))
  if h.2 || 4 ≤ n then d.retireCore c 0x0832 else d

/-- A pass that is not a close ends (R120, R121): its partial sums are written, its group is HELD. -/
def Dev.endPass (d : Dev) (c : Nat) (e : TiqEntry) (u : Mma) : Dev :=
  let d := d.accStore c u e.acc e.reads.poison
  let old := (d.core c).tx.accState.get 0 u.grp
  let special := e.acc.any (fun p => (ofF32 p.s).special) || (u.mode = 1 && bit old 27)
  let w := accAfter old u.mode u.slim e.reads.poison special u.cls
  let d := d.modCore c (fun k => { k with tx := { k.tx with accState := k.tx.accState.set u.grp w, accBy := k.tx.accBy.set u.grp e.id } })
  d.finish c e.id (e.reads.completion 0 0 w)

/-! ### Closes -/

/-- Entries of the vector operand that a stage reads (R140): N for a per-column operand, M for a per-row one. -/
def vecLen (u : Mma) (s : EStage) : Nat :=
  if s.kind = 1 then (if s.arg % 4 = 1 then u.n else if s.arg % 4 = 2 then u.m else 0)
  else if s.kind = 2 then (if s.arg % 2 = 1 then u.m else u.n)
  else 0

/-- Beads of the first `n` elements of a linear run. -/
def linearBeads (n : Nat) : List Nat := List.range (ceilDiv n 2048)

/-- Beads of a tensor that hold an element. -/
def Desc.heldBeads (x : Desc) : List Nat :=
  (List.range x.beads).filter (fun b => (List.range 2048).any (fun i => (x.coord b i).isSome))

/-- The reads of a close's epilogue (R140): each stage's vector operand, the residual tile, the statistics rows. -/
def epiReads (e : TiqEntry) (u : Mma) : List (Desc × List Nat) :=
  let ch := e.closeChain
  let t := epiTds ch
  (eStages ch).map (fun s => (e.desc s.td, linearBeads (vecLen u s)))
    ++ (match t.2.1 with | some r => [(e.desc r, (e.desc r).heldBeads)] | none => [({}, [])])
    ++ (match t.2.2 with | some r => [(e.desc r, linearBeads (4 * u.m))] | none => [({}, [])])

/-- Whether every bead that a close reads for its epilogue has landed (R153). -/
def Dev.epiReady (d : Dev) (c : Nat) (e : TiqEntry) (u : Mma) : Bool :=
  (epiReads e u).all (fun p => p.2.all (d.beadReady (d.who c) p.1))

/-- A row of the output: its elements' codes, its block scales, its paths, its statistics before and after. -/
structure OutRow where
  codes : List Nat := []
  scales : List Nat := []
  path : List PathVal := []
  st0 : StatRow := {}
  st1 : StatRow := {}

/-- The rows of a close (R117, R132 to R149). -/
def closeRows (e : TiqEntry) (u : Mma) (out : Desc) (ms : List (KMap BeadVal)) : List OutRow :=
  let ch := e.closeChain
  let ss := eStages ch
  let t := epiTds ch
  let stats := match t.2.2 with | some r => e.desc r | none => {}
  let res := match t.2.1 with | some r => e.desc r | none => {}
  let mres := ms.getD ss.length []
  let mst := ms.getD (ss.length + 1) []
  let ops : EpiOps :=
    { vec := fun i j => match ss[i]? with
        | some s => linearValue (e.desc s.td) (ms.getD i []) j
        | none => Ext.zero
      res := fun r col => let p := res.place r col; f32 (beadValue res mres p.1 p.2)
      freg := fun i => e.f.get 0 i }
  (List.range u.m).map (fun r =>
    let row := ((e.acc.drop (r * u.n)).take u.n).map (fun p => PathVal.start (ofF32 (fold p)))
    let st : StatRow := if t.2.2.isSome then
        { m := linearValue stats mst (4 * r), l := linearValue stats mst (4 * r + 1), f := linearValue stats mst (4 * r + 2) } else {}
    let q := chainRow ch ops r (row, st)
    let w := finalRow ch out.fmt out.mx out.tag (fun col => out.place r col) q.1
    { codes := w.1, scales := w.2, path := q.1, st0 := st, st1 := q.2 })

/-- The first special element of a tile (R107, R108), the value written counted as the path's last. -/
def firstSpecial (out : Desc) (rows : List OutRow) : Option (Nat × Nat × Ext × Ext) :=
  rows.zipIdx.findSome? (fun (w, r) => w.path.zipIdx.findSome? (fun (p, col) =>
    let y := writtenValue out.fmt out.mx (w.scales.getD (col / 32) 127) (w.codes.getD col 0)
    (p.next y).first.map (fun v => (r, col, v, y))))

/-- The output tile written (R86): beads that hold an element, merged where they also hold padding. -/
def Dev.putTile (d : Dev) (c : Nat) (out : Desc) (rows : List OutRow) (poison : Bool) : Dev × Cause :=
  out.heldBeads.foldl (fun (s : Dev × Cause) b =>
    let newc (i : Nat) : Option Nat := (out.coord b i).map (fun (r, col) => (rows.getD r {}).codes.getD col 0)
    let news (k : Nat) : Option Nat := ((List.range 32).findSome? (fun i => out.coord b (32 * k + i))).map (fun (r, col) =>
      (rows.getD r {}).scales.getD (col / 32) 127)
    let w := s.1.mergePut (d.who c) out b newc news poison
    (w.1, if s.2 = 0 then w.2 else s.2)) (d, 0)

/-- The statistics rows written back (R142 to R145, R155): m, l, f as the chain leaves them, each a value of FP32, and the reserved word
as +0; RESCALE leaves f at 1. -/
def Dev.putStats (d : Dev) (c : Nat) (ch : BitVec 1024) (x : Desc) (rows : List OutRow) (m : Nat) (poison : Bool) : Dev × Cause :=
  if !statsWritten ch then (d, 0) else
  let online := hasKind (eStages ch) 6
  let code (j : Nat) : Nat :=
    let w := (rows.getD (j / 4) {}).st1
    match j % 4 with
    | 0 => (toF32 w.m).toNat
    | 1 => (toF32 w.l).toNat
    | 2 => if online then (toF32 w.f).toNat else 0x3F800000
    | _ => 0
  (linearBeads (4 * m)).foldl (fun (s : Dev × Cause) b =>
    let w := s.1.mergePut (d.who c) x b (fun i => let j := 2048 * b + i; if j < 4 * m then some (code j) else none) (fun _ => none) poison
    (w.1, if s.2 = 0 then w.2 else s.2)) (d, 0)

/-- Whether an MMA younger than an entry has set the state of its group (R96, R123). -/
def Core.groupTaken (k : Core) (grp id : Nat) : Bool := match k.tx.accBy.find? grp with
  | some i => decide (id < i)
  | none => false

/-- A close through the epilogue (R132 to R155): operands read and verified, rows computed, output and statistics written,
the group's records set. A finding on an epilogue operand leaves everything as it was (R123). A younger pass on the group that has
ended keeps the state it left. DESIGN CHOICE, log entry 102: the statistics are written after the output, so theirs stand where the two
tensors overlap, of which the manual says nothing. -/
def Dev.runClose (d : Dev) (c : Nat) (e : TiqEntry) (u : Mma) : Dev :=
  let who := d.who c
  let out := e.desc (closeCtl e.rs1v).1
  let r := d.readAll who (epiReads e u)
  match r.2 with
  | .error cause => r.1.failEntry c e cause
  | .ok ms =>
    let reads := ms.foldl seeAll e.reads
    let rows := closeRows e u out ms
    let w := r.1.putTile c out rows reads.poison
    let t := epiTds e.closeChain
    let w2 := match t.2.2 with
      | some q => w.1.putStats c e.closeChain (e.desc q) rows u.m reads.poison
      | none => (w.1, 0)
    let sv := svRecord (firstSpecial out rows) reads.poison
    let d := w2.1.modCore c (fun k =>
      let old := k.tx.accState.get 0 u.grp
      let k := { k with tx := { k.tx with svRecord := k.tx.svRecord.set u.grp sv } }
      let k := if k.groupTaken u.grp e.id then k else { k with tx := { k.tx with
        accState := k.tx.accState.set u.grp (accAfter old u.mode u.slim false false u.cls), accBy := k.tx.accBy.set u.grp e.id } }
      k.modEntry e.id (fun e => { e with reads := reads }))
    d.finish c e.id (reads.completion (if w.2 ≠ 0 then w.2 else w2.2) 0 sv)

/-- Whether the close is the oldest one pending in the epilogue unit, ready, and free to write (R96, R147, R153, R201). -/
def Dev.closeReady (d : Dev) (c : Nat) (e : TiqEntry) (u : Mma) : Bool :=
  e.closing && e.done.isNone && ((d.core c).older e.id).all (fun o => !o.closing || o.done.isSome)
    && d.epiReady c e u && d.mayRead c e && d.mayWrite c e

/-- The epilogue unit takes a close (R96). -/
def Dev.takeClose (d : Dev) (c id : Nat) : Dev :=
  match (d.core c).entry? id with
  | some e => match e.mma? with
    | some u => if e.committed && d.closeReady c e u then d.runClose c e u else d
    | none => d
  | none => d

/-- An MMA whose groups are all entered goes on (R96, R120): partial sums written, or the close handed to the epilogue unit
when it holds fewer than 2. -/
def Dev.endMma (d : Dev) (c id : Nat) : Dev :=
  match (d.core c).entry? id with
  | some e => match e.mma? with
    | some u =>
      if e.groups < u.count || e.done.isSome || !e.committed then d
      else if !isClose u.mode then d.endPass c e u
      else if e.closing then d.takeClose c id
      else if ((d.core c).tiq.filter (fun o => o.closing && o.done.isNone)).length < 2 then
        (d.modCore c (fun k => k.modEntry id (fun e => { e with closing := true, progress := d.time }))).takeClose c id
      else d
    | none => d
  | none => d

/-- A committed MMA of one mode: the groups that are ready, then its end. -/
def Dev.mmaRun (d : Dev) (c id mode : Nat) : Dev :=
  let w := d.working c id
  match w.2 with
  | some e => match e.mma? with
    | some u => if u.mode = mode then (w.1.runGroups c id u (u.count - e.groups)).endMma c id else d
    | none => d
  | none => d

/-- MMA_OPEN (R120). -/
def mmaOpen (c id : Nat) (now : Time) (d : Dev) : Dev := (d.advance now).mmaRun c id 0
/-- MMA_CONTINUE (R120). -/
def mmaContinue (c id : Nat) (now : Time) (d : Dev) : Dev := (d.advance now).mmaRun c id 1
/-- MMA_CLOSE (R120). -/
def mmaClose (c id : Nat) (now : Time) (d : Dev) : Dev := (d.advance now).mmaRun c id 2
/-- MMA_OPEN_CLOSE (R120). -/
def mmaOpenClose (c id : Nat) (now : Time) (d : Dev) : Dev := (d.advance now).mmaRun c id 3

/-- MMA_GROUP_START (R103, R111, R112, R445): the next group of an MMA that an engine has begun, tentative or committed; or a mismatch
found in it, of the accumulator copies also in the fold of a close whose groups are all entered; and the errors that its reads find. -/
def mmaGroupStart (c id : Nat) (fault : Mismatch) (errs : List EccEvent) (now : Time) (d : Dev) : Dev :=
  let d := (d.advance now).eccHeld c id errs
  match (d.core c).entry? id with
  | some e => match e.mma? with
    | some u =>
      if !e.begun || e.done.isSome then d
      else if u.count ≤ e.groups then
        (if fault = .duplicate && isClose u.mode && e.committed && !e.closing then d.mismatch c e true else d)
      else if !d.groupReady c u e.groups || !d.mayRead c e then d
      else match fault with
        | .none => d.runGroup c e u
        | .residue => d.mismatch c e false
        | .duplicate => d.mismatch c e true
    | none => d
  | none => d

/-- EPILOGUE_CLOSE_START (R96, R444): the epilogue unit takes the oldest pending close, with the errors that its reads find; a pipeline parity error has its row
formed again, and the core's 4th within 1 s retires it. -/
def epilogueCloseStart (c : Nat) (parity : Bool) (errs : List EccEvent) (now : Time) (d : Dev) : Dev :=
  let d := d.advance now
  match (d.core c).tiq.find? (fun e => e.closing && e.done.isNone) with
  | none => d
  | some e =>
    let d := d.eccHeld c e.id errs
    if parity then
      let h := fourth d.time (d.core c).parityFaults
      let d := d.modCore c (fun k => { k with parityFaults := h.1 }.modEntry e.id (fun e =>
        { e with reads := { e.reads with retries := e.reads.retries + 1 } }))
      if h.2 then d.retireCore c 0x0833 else d.takeClose c e.id
    else d.takeClose c e.id

/-- When the last of an armed tensor's beads landed, among some of them (R101, R105). -/
def Dev.landedAt (d : Dev) (who : Accessor) (x : Desc) (bs : List Nat) : List Time :=
  if !x.armed then [] else bs.filterMap (fun b => match d.armedAt (d.mpa who (x.base + b * x.bstride)) with
    | some (c, i, p) => ((d.core c).arms.get {} i).times.find? p
    | none => none)

/-- The moment from which ARRIVAL_STAY runs for an MMA in the array (R105, R204): the latest of its start, its commit and the moments at
which the groups before the next one became ready. -/
def Dev.readySince (d : Dev) (c : Nat) (e : TiqEntry) (u : Mma) : Time :=
  ((List.range e.groups).flatMap (fun j => (u.groupReads j).flatMap (fun p => d.landedAt (d.who c) p.1 p.2))).foldl
    (fun a b => if timeLe a b then b else a) e.progress

/-- ARRIVAL_STAY_EXPIRE (R105, R153): an armed MMA whose next group, or a close whose epilogue operands, have not become ready
within ARRIVAL_STAY completes with 0x0317; nothing is written, and its arm records are released. -/
def arrivalStayExpire (c id : Nat) (now : Time) (d : Dev) : Dev :=
  let d := d.advance now
  match (d.core c).entry? id with
  | some e => match e.mma? with
    | some u =>
      let waits := if e.closing then !d.epiReady c e u
        else (u.a.armed || u.b.armed) && e.groups < u.count && !d.groupReady c u e.groups
      let since := if e.closing then e.progress else d.readySince c e u
      if e.begun && e.done.isNone && waits && e.committed && reached d.time since (d.arrivalStay c) then
        (d.modCore c (fun k => k.dropArms e.arms)).failEntry c e 0x0317
      else d
    | none => d
  | none => d

end Sys2Proof.Machine
end

