-- ==== Sys2Proof/Machine/Coherence.lean ====
section
/-!
DEFINITION. Coherent windows 1 to 15 (10 R275 to R281), the egress write-back buffer and the hub cache's write-back (09 R245,
10 R270): home, reader, their messages, and the rows of the table that carry them.
-/
namespace Sys2Proof.Machine

/-! ### Messages as packets (13 R344) -/

/-- An operation of a WRITE as payload bytes: the layout is the model's own, the manual gives none (DESIGN CHOICE, log
entry 18). -/
def CohOp.bytes : CohOp → List Byte
  | .store off bs => leBytes 2 off ++ bs
  | .amo op wide off v => leBytes 2 (0x4000 + op * 256 + off) ++ leBytes 1 (b2n wide) ++ leBytes 8 v.toNat
  | .sc wide off v => leBytes 2 (0x8000 + off) ++ leBytes 1 (b2n wide) ++ leBytes 8 v.toNat
  | .lr wide off => leBytes 2 (0xC000 + off) ++ leBytes 1 (b2n wide)
  | .wrote => []

/-- A coherence message as a packet: type, line, tag, generation, UNCACHED, SC success (R344). -/
def CohMsg.packet (dst : BitVec 14) : CohMsg → Packet
  | .readSh src k va core => { ptype := 0x10, tc := 3, dst := dst, src := src, pkey := k, addr := va, payload := leBytes 2 core }
  | .grant src k va data poison tag gen unc core cause =>
    { ptype := 0x11, tc := 3, dst := dst, src := src, pkey := k, addr := va, pmask := if poison then 1 else 0
      xarg := BitVec.ofNat 64 (tag.toNat + gen.toNat * 2 ^ 16 + b2n unc * 2 ^ 24)
      payload := leBytes 64 data ++ leBytes 2 core ++ leBytes 2 cause.toNat }
  | .write src k va op rig core =>
    { ptype := 0x12, tc := 3, dst := dst, src := src, pkey := k, addr := va, payload := op.bytes ++ leBytes 4 rig.toNat ++ leBytes 2 core }
  | .writeAck src k va result ok core cause =>
    { ptype := 0x13, tc := 3, dst := dst, src := src, pkey := k, addr := va, xarg := BitVec.ofNat 64 (b2n ok * 2 ^ 25)
      payload := leBytes 8 result.toNat ++ leBytes 2 core ++ leBytes 2 cause.toNat }
  | .snoopInv src k va gen => { ptype := 0x14, tc := 3, dst := dst, src := src, pkey := k, addr := va, xarg := BitVec.ofNat 64 (gen.toNat * 2 ^ 16) }
  | .ansInvalidated src k va tag => { ptype := 0x15, tc := 3, dst := dst, src := src, pkey := k, addr := va, xarg := tag.zeroExtend 64 }
  | .ansEvicting src k va tag => { ptype := 0x16, tc := 3, dst := dst, src := src, pkey := k, addr := va, xarg := tag.zeroExtend 64 }
  | .evictNotice src k va tag gen =>
    { ptype := 0x17, tc := 3, dst := dst, src := src, pkey := k, addr := va, xarg := BitVec.ofNat 64 (tag.toNat + gen.toNat * 2 ^ 16) }

/-- A coherence message sent (R279: outside the pair order). -/
def Dev.cohSend (d : Dev) (dst : BitVec 14) (m : CohMsg) : Dev := d.hubSend (m.packet dst)

/-- The ingress unit takes a packet where it stands first among those that came from a die (R342). -/
def Dev.takeIngress (d : Dev) (p : Packet → Bool) : Dev :=
  { d with fab := { d.fab with switches := d.fab.switches.mapv (fun _ s => match s.ingress with
    | q :: qs => if p q then { s with ingress := qs } else s
    | [] => s) } }

/-- The packet that carries a coherence message, by type, source, key and line. -/
def CohMsg.isIn (m : CohMsg) (q : Packet) : Bool :=
  let p := m.packet q.dst
  p.ptype = q.ptype && p.src = q.src && p.pkey = q.pkey && p.addr = q.addr

/-! ### The home -/

/-- The home line of a partition's virtual line (R255): this module's own window line, or why it is refused. -/
def Dev.homeLine (d : Dev) (key : BitVec 16) (va : Nat) (need : Need) : Except Cause Nat :=
  match d.partOfKey key with
  | none => .error 0x0201
  | some p =>
    match d.checkExtent { part := p } need false va 64 with
    | .error f => .error f.cause
    | .ok (.window _) => .ok (d.mpa { part := p } va / 64)
    | .ok _ => .error 0x0201

/-- The result of an AMO by its funct5 (RISC-V A extension, R187): the new value from the old and the operand. -/
def amoNew (op : Nat) (wide : Bool) (old v : Word) : Word :=
  let w := if wide then 64 else 32
  let a : Nat := old.toNat % 2 ^ w
  let b : Nat := v.toNat % 2 ^ w
  let sa : Int := if a < 2 ^ (w - 1) then a else (a : Int) - 2 ^ w
  let sb : Int := if b < 2 ^ (w - 1) then b else (b : Int) - 2 ^ w
  let r : Nat := match op with
    | 0 => a + b
    | 1 => b
    | 4 => a ^^^ b
    | 8 => a ||| b
    | 12 => a &&& b
    | 16 => if sa ≤ sb then a else b
    | 20 => if sa ≤ sb then b else a
    | 24 => min a b
    | _ => max a b
  BitVec.ofNat 64 (r % 2 ^ w)

/-- A loaded value widened to 64 bits: sign-extended or zero-extended from `n` bytes. -/
def widenLoad (n : Nat) (signed : Bool) (v : Nat) : Word :=
  let m := v % 256 ^ n
  if signed && 256 ^ n ≤ 2 * m then BitVec.ofNat 64 (m + (2 ^ 64 - 256 ^ n)) else BitVec.ofNat 64 m

/-- A directory line changed. -/
def Dev.modDir (d : Dev) (line : Nat) (f : DirLine → DirLine) : Dev := { d with coh := { d.coh with dir := d.coh.dir.upd {} line f } }

/-- The home applies a write to its copy (R277): the result of an AMO, the success of an SC. -/
def Dev.cohApply (d : Dev) (line : Nat) (op : CohOp) (rig : BitVec 32) : Dev × Word × Bool :=
  let a := line * 64
  let wrote (d : Dev) : Dev := d.modDir line (fun l => { l with writes := l.writes + 1 })
  match op with
  | .store off bs => (wrote (d.writePlain (a + off) bs true false), 0, true)
  | .amo op wide off v =>
    let n := if wide then 8 else 4
    let old : Word := BitVec.ofNat 64 (d.mem.mem.readNat (a + off) n)
    (wrote (d.writePlain (a + off) (leBytes n (amoNew op wide old v).toNat) true false), widenLoad n true old.toNat, true)
  | .sc wide off v =>
    let w := (d.coh.dir.get {} line).writes
    let ok := d.coh.resv.any (fun r => r.rig = rig && r.line = line && r.writes = w)
    let d := { d with coh := { d.coh with resv := d.coh.resv.filter (·.rig ≠ rig) } }
    if ok then (wrote (d.writePlain (a + off) (leBytes (if wide then 8 else 4) v.toNat) true false), 0, true) else (d, 1, false)
  | .lr wide off =>
    let n := if wide then 8 else 4
    let r : HomeResv := { rig := rig, line := line, writes := (d.coh.dir.get {} line).writes }
    let l := d.coh.resv.filter (·.rig ≠ rig) ++ [r]
    ({ d with coh := { d.coh with resv := l.drop (l.length - 256) } }, widenLoad n true (d.mem.mem.readNat (a + off) n), true)
  | .wrote => (d, 0, true)

/-! ### The answer at a core -/

/-- A value written to a scalar register: x0 stays zero. -/
def Scalar.setReg (s : Scalar) (toF : Bool) (rd : Nat) (v : Word) : Scalar :=
  if toF then { s with f := s.f.set rd (v.truncate 32) } else if rd = 0 then s else { s with x := s.x.set rd v }

/-- A scalar register read. -/
def Scalar.reg (s : Scalar) (i : Nat) : Word := if i = 0 then 0 else s.x.get 0 i

/-- A control-core access that consumed poison ends the entry at its commit, mtval holding the line's address (R451). -/
def Dev.scalarPoison (d : Dev) (c va : Nat) : Dev :=
  let d := d.modCore c (fun k => { k with sc := { k.sc with mtval := BitVec.ofNat 64 (va / 64 * 64), wait := none } })
  d.consume c 0x0822 (BitVec.ofNat 64 (va / 64 * 64)) {}

/-- The awaited value comes: it is written to its register. -/
def Dev.answerLoad (d : Dev) (c : Nat) (w : MemWait) (v : Word) : Dev :=
  d.modCore c (fun k => { k with sc := { k.sc.setReg w.toF w.rd v with wait := none } })

/-- A store, AMO or SC of a core has been performed (R278). -/
def Dev.storeDone (d : Dev) (c : Nat) (va : Nat) : Dev :=
  (d.modCore c (fun k => { k with sc := { k.sc with stores := k.sc.stores.erase va } })).reportEnded c

/-- A core learns that its coherent write is performed (R279): an AMO's result, an SC's success (0) or failure (1), an LR's
value; a refusal by the home is an access fault (R260). A host's write through an aperture is no core's: its refusal is notice 0x0171 (21 R529). -/
def Dev.ackCore (d : Dev) (c va : Nat) (result : Word) (cause : Cause) : Dev :=
  if 512 ≤ c then (if cause = 0 then d else d.notice 0x0171 0 va cause.toNat)
  else
  let w := (d.core c).sc.wait
  let d := d.storeDone c va
  if cause = 0x0822 then d.scalarPoison c (match w with | some w => w.va | none => va)
  else if cause ≠ 0 then
    let load := match w with | some w => w.kind = 0 || w.kind = 1 | none => false
    (d.modCore c (fun k => { k with sc := { k.sc with wait := none } })).exception c (if load then 5 else 7) (BitVec.ofNat 64 va)
  else match w with
    | some w => if w.kind ≠ 0 && w.va / 64 * 64 = va then d.answerLoad c w result else d
    | none => d

/-- The acknowledgement of a performed write goes to its writer, this module's core or another module (R279). -/
def Dev.cohAck (d : Dev) (writer : BitVec 14) (key : BitVec 16) (va core : Nat) (result : Word) (ok : Bool) (cause : Cause) : Dev :=
  if writer = d.id then d.ackCore core va result cause
  else d.cohSend writer (.writeAck d.id key va result ok core cause)

/-- The home grants a reader copy, or an uncached value when 8 sharers hold one (R279). -/
def Dev.cohGrant (d : Dev) (line : Nat) (src : BitVec 14) (key : BitVec 16) (va core : Nat) : Dev :=
  let l := d.coh.dir.get {} line
  let listed := l.sharers.any (·.module = src)
  if !listed && 8 ≤ l.sharers.length then
    d.cohSend src (.grant d.id key va (d.lineData line) (d.poisoned line) 0 l.gen true core 0)
  else
    let tag := d.coh.nextTag + 1
    let d := { d with coh := { d.coh with nextTag := tag } }
    let s : Sharer := { module := src, tag := tag, gen := l.gen }
    let d := d.modDir line (fun l => { l with sharers := l.sharers.filter (·.module ≠ src) ++ [s] })
    d.cohSend src (.grant d.id key va (d.lineData line) (d.poisoned line) tag l.gen false core 0)

/-- A write begins at the home (R279): with no sharer it is performed at once; else a round snoops every sharer. -/
def Dev.cohBegin (d : Dev) (line : Nat) (op : CohOp) (writer : BitVec 14) (rig : BitVec 32) (key : BitVec 16) (va core : Nat) : Dev :=
  let l := d.coh.dir.get {} line
  let reads := match op with | .lr .. => true | _ => false
  let consumes := match op with | .store .. | .wrote => false | _ => true
  if consumes && d.poisoned line then d.cohAck writer key va core 0 false 0x0822
  else if l.sharers.isEmpty || reads then
    let r := d.cohApply line op rig
    r.1.cohAck writer key va core r.2.1 r.2.2 0
  else
    let r : Round := { op := op, writer := writer, rig := rig, core := core, pkey := key, va := va, waiting := l.sharers, sent := d.time }
    let d := d.modDir line (fun l => { l with round := some r })
    l.sharers.foldl (fun d s => d.cohSend s.module (.snoopInv d.id key va l.gen)) d

/-- A message served at the home, or held behind the line's round (R279). -/
def Dev.cohServe (d : Dev) (line : Nat) (m : CohMsg) : Dev :=
  if (d.coh.dir.get {} line).round.isSome then d.modDir line (fun l => { l with held := l.held ++ [m] })
  else match m with
    | .readSh src key va core => d.cohGrant line src key va core
    | .write src key va op rig core => d.cohBegin line op src rig key va core
    | _ => d

/-- The held messages of a line served in arrival order, until one begins a round. -/
def Dev.cohRelease (d : Dev) (line : Nat) : Dev :=
  let l := d.coh.dir.get {} line
  l.held.foldl (fun d m => d.cohServe line m) (d.modDir line (fun l => { l with held := [] }))

/-- No reader copy of a line from before a write by packet is left: the packets that wait for it may be acknowledged (R277). -/
def Dev.windowDone (d : Dev) (line : Nat) : Dev :=
  { d with fab := { d.fab with inn := d.fab.inn.mapv (fun _ (i : PairIn) =>
    if i.owed.any (fun o => o.2.contains line) then
      { i with owed := (i.owed.map (fun o => (o.1, o.2.remove line))).filter (fun o => !o.2.isEmpty), ackPending := true }
    else i) } }

/-- A round whose sharers have all answered ends (R279): the write is performed, the generation goes up, held messages are
served. -/
def Dev.cohEnd (d : Dev) (line : Nat) : Dev :=
  match (d.coh.dir.get {} line).round with
  | some r =>
    if r.waiting.isEmpty then
      let d := (d.modDir line (fun l => { l with round := none, gen := l.gen + 1 })).windowDone line
      let q := d.cohApply line r.op r.rig
      (if r.op = .wrote then q.1 else q.1.cohAck r.writer r.pkey r.va r.core q.2.1 q.2.2 0).cohRelease line
    else d
  | none => d

/-- A write that has gone to the home copy of a coherent window, at MPA `a` and virtual address `va` (R268, R277): reservations on its lines
are lost, and every reader copy of them is invalidated. -/
def Dev.windowWrote (d : Dev) (key : BitVec 16) (va a n : Nat) : Dev :=
  match memKind a with
  | .window _ => (lines a n).foldl (fun (d : Dev) line =>
      let d := d.modDir line (fun l => { l with writes := l.writes + 1 })
      let l := d.coh.dir.get {} line
      if l.round.isSome || l.sharers.isEmpty then d
      else
        let at' := va / 64 * 64 + 64 * (line - a / 64)
        let r : Round := { op := .wrote, writer := d.id, pkey := key, va := at', waiting := l.sharers, sent := d.time }
        l.sharers.foldl (fun (d : Dev) s => d.cohSend s.module (.snoopInv d.id key at' l.gen)) (d.modDir line (fun l => { l with round := some r }))) d
  | _ => d

/-- Bytes that the hub writes for a partition through translation, coherent windows included. -/
def Dev.writeHub (d : Dev) (who : Accessor) (va : Nat) (bs : List Byte) (clears : Bool) : Dev :=
  let ps := d.pieces who (bs.length / 65536 + 2) va bs.length
  (ps.foldl (fun (s : Dev × Nat) p => (s.1.windowWrote (d.part who.part).key s.2 p.1 p.2, s.2 + p.2)) (d.writeVa who va bs clears false, va)).1

/-- A sharer's answer (R279, R280): its entry goes, and the round ends after the last one; an answer already accounted for is
dropped and counted. -/
def Dev.cohAnswer (d : Dev) (line : Nat) (src : BitVec 14) (tag : BitVec 16) : Dev :=
  let l := d.coh.dir.get {} line
  match l.round with
  | some r =>
    match r.waiting.find? (fun s => s.module = src && (tag = 0 || s.tag = tag)) with
    | some s =>
      let d := d.modDir line (fun l => { l with
        sharers := l.sharers.filter (· ≠ s), round := some { r with waiting := r.waiting.filter (· ≠ s) } })
      d.cohEnd line
    | none => d.stale
  | none => d.stale

/-- The sharers of a module that is declared failed leave every line, and rounds that waited for them go on (R281, R476). -/
def Dev.cohForget (d : Dev) (m : BitVec 14) : Dev :=
  let d := { d with coh := { d.coh with dir := d.coh.dir.mapv (fun _ (l : DirLine) => { l with
    sharers := l.sharers.filter (·.module ≠ m)
    round := l.round.map (fun (r : Round) => { r with waiting := r.waiting.filter (fun s => s.module ≠ m) }) }) } }
  d.coh.dir.keys.foldl Dev.cohEnd d

/-! ### The reader -/

/-- The reader copy of a line that this module holds (R279). -/
def Dev.copyOf (d : Dev) (key : BitVec 16) (va : Nat) : Option ReaderCopy := d.coh.copies.find? (fun r => r.pkey = key && r.va = va)

/-- The bytes of a scalar access in a line's data. -/
def lineBytes (data off n : Nat) : Nat := data / 256 ^ off % 256 ^ n

/-- A load answered from a line's data. -/
def Dev.loadFrom (d : Dev) (c : Nat) (w : MemWait) (data : Nat) (poison : Bool) : Dev :=
  if poison then d.scalarPoison c w.va
  else d.answerLoad c w (widenLoad w.size w.signed (lineBytes data (w.va % 64) w.size))

/-- Whether a grant is later than a copy of the same line, by generation and then by tag: a home's tags rise (DESIGN CHOICE, log entry
121). -/
def ReaderCopy.before (r : ReaderCopy) (tag : BitVec 16) (gen : BitVec 6) : Bool :=
  if gen = r.gen then decide (0 < (tag - r.tag).toInt) else decide (0 < (gen - r.gen).toInt)

/-- Whether a granted copy may be kept (R277, R279): a snoop of its generation has not come before it, and what this module holds or has
evicted of the line is older; else a later load could go back to a value before the last one. -/
def Dev.grantFresh (d : Dev) (key : BitVec 16) (va : Nat) (tag : BitVec 16) (gen : BitVec 6) : Bool :=
  !d.coh.snooped.any (fun s => s.pkey = key && s.va = va && s.gen = gen) &&
  (d.coh.copies ++ d.coh.evicted).all (fun r => !(r.pkey = key && r.va = va) || r.before tag gen)

/-- A reader copy evicted (R280): its home is notified, and an eviction record kept. -/
def Dev.dropCopy (d : Dev) (r : ReaderCopy) : Dev :=
  let x : ReaderCopy := { r with time := d.time }
  let d := { d with coh := { d.coh with copies := d.coh.copies.filter (· ≠ r), evicted := d.coh.evicted ++ [x] } }
  d.cohSend r.home (.evictNotice d.id r.pkey r.va r.tag r.gen)

/-- A copy kept in the hub cache (R245): where ways 0 to 14 are full the oldest other reader copy gives way, or a written line. -/
def Dev.keepCopy (d : Dev) (r : ReaderCopy) : Dev :=
  let others := d.coh.copies.filter (fun x => !(x.pkey = r.pkey && x.va = r.va))
  let d := { d with coh := { d.coh with copies := others ++ [r] } }
  if d.hubRoom < d.mem.hub.length + d.coh.copies.length then
    match others with
    | x :: _ => d.dropCopy x
    | [] => d.hubTrim
  else d

/-! ### Reads of the host's from other modules (R267, 21 R529) -/

/-- The answer of a read to the host, or to the anchor that forwarded it (21 R529, R532): bytes and poison, or Unsupported Request. -/
def Dev.hostAnswer (d : Dev) (h : PeerRead) (r : Option (List Byte × Bool)) : Dev :=
  match h.anchor, r with
  | none, some (b, p) => d.emit (.completion h.tag 0 p b)
  | none, none => d.emit (.completion h.tag 1 false [])
  | some (m, fseq), some (b, p) => d.emit (.fwd m (fwdXarg fseq h.func 7) (([0, if p then 1 else 0] : List Byte) ++ b))
  | some (m, fseq), none => d.emit (.fwd m (fwdXarg fseq h.func 7) [1, 0])

/-- An aperture access refused (21 R529): notice 0x0171 with the address and the cause. -/
def Dev.apertureFault (d : Dev) (part : Option Nat) (va : Nat) (c : Cause) : Dev :=
  d.notify { code := 0x0171, part := part, rig := moduleRig d.id, arg0 := BitVec.ofNat 64 va, arg1 := c.zeroExtend 64 }

/-- A host read that fails at its home, or whose request is lost. -/
def Dev.hostReadFail (d : Dev) (h : PeerRead) (cause : Cause) : Dev :=
  (({ d with host := { d.host with reads := d.host.reads.filter (·.id ≠ h.id) } }).apertureFault (some h.part) h.va cause).hostAnswer h none

/-- A line of a host read has come: with the last one the read completes. -/
def Dev.hostReadLine (d : Dev) (h : PeerRead) (line data : Nat) (poison : Bool) : Dev :=
  let g := { h with got := h.got.set line (data, poison) }
  if g.lines.keys.all (fun l => (g.got.find? l).isSome) then
    let bs := g.got.vals.flatMap (fun x => leBytes 64 x.1)
    ({ d with host := { d.host with reads := d.host.reads.filter (·.id ≠ h.id) } }).hostAnswer h
      (some ((bs.drop (h.va % 64)).take h.size, g.got.vals.any (·.2)))
  else { d with host := { d.host with reads := d.host.reads.map (fun x => if x.id = h.id then g else x) } }

/-- A GRANT arrives at the reader (R279): the copy is kept unless UNCACHED or overtaken, and the load or the host's read that waits is
answered. -/
def grant (m : CohMsg) (now : Time) (d : Dev) : Dev :=
  match m with
  | .grant src key va data poison tag gen unc core cause =>
    let d := (d.advance now).takeIngress m.isIn
    let copy : ReaderCopy := { home := src, pkey := key, va := va, data := data, poison := poison, tag := tag, gen := gen, time := d.time }
    let d := if unc || cause ≠ 0 || !d.grantFresh key va tag gen then d else d.keepCopy copy
    if 512 ≤ core then
      (d.host.reads.filter (fun h => (d.part h.part).key = key && h.lines.find? va = some none && (h.got.find? va).isNone)).foldl
        (fun (d : Dev) h => if cause ≠ 0 then d.hostReadFail h cause else d.hostReadLine h va data poison) d
    else match (d.core core).sc.wait with
    | some w =>
      if w.kind = 0 && w.tag.isNone && w.va / 64 * 64 = va then
        (if cause ≠ 0 then d.ackCore core va 0 cause else d.loadFrom core w data poison)
      else d
    | none => d
  | _ => d

/-- READ_SH at the home (R279). -/
def readSh (m : CohMsg) (now : Time) (d : Dev) : Dev :=
  match m with
  | .readSh src key va core =>
    let d := (d.advance now).takeIngress m.isIn
    match d.homeLine key va { r := true } with
    | .ok line => d.cohServe line m
    | .error cause => (d.homeWalk key { r := true } va 64).cohSend src (.grant d.id key va 0 false 0 0 true core cause)
  | _ => d

/-- The rights that an operation needs (R259). -/
def CohOp.need : CohOp → Need
  | .lr .. => { r := true }
  | .amo .. => { r := true, w := true }
  | _ => { w := true }

/-- WRITE at the home (R279). -/
def write (m : CohMsg) (now : Time) (d : Dev) : Dev :=
  match m with
  | .write src key va op _ core =>
    let d := (d.advance now).takeIngress m.isIn
    match d.homeLine key va op.need with
    | .ok line => d.cohServe line m
    | .error cause => (d.homeWalk key op.need va 64).cohSend src (.writeAck d.id key va 0 false core cause)
  | _ => d

/-- WRITE_ACK at the writer (R279). -/
def writeAck (m : CohMsg) (now : Time) (d : Dev) : Dev :=
  match m with
  | .writeAck _ _ va result _ core cause => ((d.advance now).takeIngress m.isIn).ackCore core va result cause
  | _ => d

/-- SNOOP_INV at a sharer (R279, R280): the copy is dropped, or an eviction record answers, or tag 0. -/
def snoopInv (m : CohMsg) (now : Time) (d : Dev) : Dev :=
  match m with
  | .snoopInv src key va gen =>
    let d := (d.advance now).takeIngress m.isIn
    let x : Snooped := { pkey := key, va := va, gen := gen, time := d.time }
    let d : Dev := { d with coh := { d.coh with snooped := d.coh.snooped ++ [x] } }
    match d.copyOf key va with
    | some r =>
      let d := { d with coh := { d.coh with copies := d.coh.copies.filter (· ≠ r) } }
      d.cohSend src (.ansInvalidated d.id key va r.tag)
    | none => match d.coh.evicted.find? (fun r => r.pkey = key && r.va = va) with
      | some r => d.cohSend src (.ansEvicting d.id key va r.tag)
      | none => d.cohSend src (.ansInvalidated d.id key va 0)
  | _ => d

/-- ANS_INVALIDATED at the home (R279). -/
def ansInvalidated (m : CohMsg) (now : Time) (d : Dev) : Dev :=
  match m with
  | .ansInvalidated src key va tag =>
    let d := (d.advance now).takeIngress m.isIn
    (match d.homeLine key va {} with | .ok line => d.cohAnswer line src tag | .error _ => (d.homeWalk key {} va 64).stale)
  | _ => d

/-- ANS_EVICTING at the home (R280): the answer and the eviction in one. -/
def ansEvicting (m : CohMsg) (now : Time) (d : Dev) : Dev :=
  match m with
  | .ansEvicting src key va tag =>
    let d := (d.advance now).takeIngress m.isIn
    (match d.homeLine key va {} with | .ok line => d.cohAnswer line src tag | .error _ => (d.homeWalk key {} va 64).stale)
  | _ => d

/-- EVICT_NOTICE at the home (R280): the entry that it matches goes; a late notice is dropped and counted. -/
def evictNotice (m : CohMsg) (now : Time) (d : Dev) : Dev :=
  match m with
  | .evictNotice src key va tag gen =>
    let d := (d.advance now).takeIngress m.isIn
    match d.homeLine key va {} with
    | .error _ => (d.homeWalk key {} va 64).stale
    | .ok line =>
      let s : Sharer := { module := src, tag := tag, gen := gen }
      if (d.coh.dir.get {} line).sharers.contains s then
        d.modDir line (fun l => { l with sharers := l.sharers.filter (· ≠ s) })
      else d.stale
  | _ => d

/-- READER_COPY_EVICT (R280): the hub drops a reader copy, notifies its home, and keeps an eviction record. -/
def readerCopyEvict (key : BitVec 16) (va : Nat) (now : Time) (d : Dev) : Dev :=
  let d := d.advance now
  match d.copyOf key va with
  | none => d
  | some r => d.dropCopy r

/-- EVICTION_RECORD_EXPIRE (R280): records 1 ms old are dropped, and what is kept of snoops with them. -/
def evictionRecordExpire (now : Time) (d : Dev) : Dev :=
  let d := d.advance now
  { d with coh := { d.coh with 
    evicted := d.coh.evicted.filter (fun r => !reached d.time r.time (ms 1))
    snooped := d.coh.snooped.filter (fun s => !reached d.time s.time (ms 1)) } }

/-- SNOOP_RESEND_TIMEOUT (R281): a round of a line unanswered for 600 µs snoops again, 3 times; then notice 0x0440 names the line
and each sharer, and the home keeps waiting. -/
def snoopResendTimeout (line : Nat) (now : Time) (d : Dev) : Dev :=
  let d := d.advance now
  match (d.coh.dir.get {} line).round with
  | none => d
  | some r =>
    let gen := (d.coh.dir.get {} line).gen
    if r.waiting.isEmpty || !reached d.time r.sent (us 600) || 3 < r.resends then d
    else
      let d := d.modDir line (fun l => { l with round := some { r with resends := r.resends + 1, sent := d.time } })
      if r.resends = 3 then r.waiting.foldl (fun d s => d.notice 0x0440 0 (line * 64) s.module.toNat) d
      else r.waiting.foldl (fun d s => d.cohSend s.module (.snoopInv d.id r.pkey r.va gen)) d

/-! ### The egress buffer and the hub cache -/

/-- Lines that way 15 holds: 16 MiB less its retired banks of 1 MiB (R245, R454). -/
def Dev.egressRoom (d : Dev) : Nat := 0x40000 - 0x4000 * (d.mem.hubRetired.filter (fun b => 240 ≤ b)).length

/-- The LINE_WB packet of an egress line (R270, R344): only masked bytes count at the home. -/
def EgressLine.packet (l : EgressLine) : Packet :=
  { ptype := 2, tc := 0, dst := l.home, pkey := l.pkey, addr := l.va, xarg := l.mask, payload := l.bytes, pmask := if l.poison then 1 else 0 }

/-- An egress line sent home, its acknowledgement owed to `o` (R270). -/
def Dev.egressSend (d : Dev) (l : EgressLine) (o : Owner) : Dev :=
  let d := { d with mem := { d.mem with egress := d.mem.egress.filter (· ≠ l) } }
  d.egress l.packet o

/-- EGRESS_WRITEBACK (R270): the hub writes a line of the egress buffer back. -/
def egressWriteback (key : BitVec 16) (va : Nat) (now : Time) (d : Dev) : Dev :=
  let d := d.advance now
  match d.mem.egress.find? (fun l => l.pkey = key && l.va = va) with
  | some l => d.egressSend l .egress
  | none => d

/-- Bytes that a mask selects, laid over old ones. -/
def maskMerge (mask : BitVec 64) (old new : List Byte) : List Byte :=
  old.zipIdx.map (fun (b, i) => if bit mask i then new.getD i b else b)

/-- A scalar store placed in the egress buffer (R245, R270): its bytes merged into the line's; when way 15 is full the least
recently written line is written back first. -/
def Dev.egressStore (d : Dev) (home : BitVec 14) (part : Nat) (key : BitVec 16) (va : Nat) (bs : List Byte) : Dev :=
  let line := va / 64 * 64
  let off := va % 64
  let mask : BitVec 64 := BitVec.ofNat 64 ((2 ^ bs.length - 1) * 2 ^ off)
  let new := List.replicate off (0 : Byte) ++ bs ++ List.replicate (64 - off - bs.length) 0
  match d.mem.egress.find? (fun l => l.pkey = key && l.va = line) with
  | some l =>
    let l' := { l with mask := l.mask ||| mask, bytes := maskMerge mask l.bytes new }
    { d with mem := { d.mem with egress := d.mem.egress.filter (· ≠ l) ++ [l'] } }
  | none =>
    let d := if d.egressRoom ≤ d.mem.egress.length then
        (match d.mem.egress with | l :: _ => d.egressSend l .egress | [] => d) else d
    { d with mem := { d.mem with egress := d.mem.egress ++
        [{ home := home, part := part, pkey := key, va := line, mask := mask, bytes := new }] } }

/-- HUB_CACHE_EVICT (R245, R446): a line of ways 0 to 14 leaves the cache; `errs` are the DRAM errors met on the way. -/
def hubCacheEvict (line : Nat) (errs : List EccEvent) (now : Time) (d : Dev) : Dev :=
  (errs.foldl Dev.ecc (d.advance now)).hubWriteBack line

end Sys2Proof.Machine
end

