-- ==== Sys2Proof/Machine/Journal.lean ====
section
/-!
DEFINITION. The step clasp and the start of journal recovery (14 R381 to R388): headers and beads of a journal slot verified, a
member's report, the coordinator, the clasp's count, a SIGNAL at its home.
-/
namespace Sys2Proof.Machine

/-! ### Journal slots (R381 to R384, R387) -/

/-- SLOT_BYTES of a journal region (R381). -/
def Journal.slotBytes (j : Journal) : Nat := (j.bytes.toNat - 65536) / 2 / 65536 * 65536

/-- Virtual address of a slot's header. -/
def Journal.header (j : Journal) (slot : Nat) : Nat := j.base.toNat + 256 * slot
/-- Virtual address of a slot's data. -/
def Journal.data (j : Journal) (slot : Nat) : Nat := j.base.toNat + 0x10000 + slot * j.slotBytes

/-- Whether `count` beads of one format byte at a stride from `va` all verify (R74, R388): none is poisoned, and every sideband that has a
check names the tag and the format, and its check matches. -/
def Dev.beadsVerify (d : Dev) (p va count stride tag fmx : Nat) : Bool :=
  (List.range count).all (fun i =>
    let a := va + i * stride
    let sb := d.sideband (d.mpa { part := p } a)
    !d.poisonVa { part := p } a stride &&
    (!sb.chkValid || (sb.tag.toNat = tag && sb.fmt.toNat = fmx % 16 && sb.mx = decide (fmx / 16 % 2 = 1) && beadCheck (d.readVa { part := p } a stride) sb.tag sb.fmt sb.mx = sb.check)))

/-- The stride of a format byte: FMT in [3:0], MX in [4] (R383). -/
def fmtStride (b : Nat) : Nat := match Fmt.ofCode (b % 16) with
  | some f => f.stride (b / 16 % 2 = 1)
  | none => 0

/-- A slot as a member's pair finds it (R382, R383, R387, R388), told whether its line 0 fails HCHECK (R392). -/
def Dev.readSlot (d : Dev) (p slot : Nat) : JrnSlot × Bool :=
  let j := (d.part p).jrn
  if j.base = 0 then ({}, false)
  else
    let who : Accessor := { part := p }
    let h := d.readVa who (j.header slot) 256
    let f (o n : Nat) : Nat := leNat ((h.drop o).take n)
    let poisoned := d.poisonVa who (j.header slot) 256
    let check := decide ((crc32c (h.take 0x3C)).toNat = f 0x3C 4)
    if poisoned || f 0 8 ≠ 0x314C4E524A59474B then ({}, false)
    else if !check then ({}, true)
    else
      let es := (List.range (f 0x10 4)).map (fun i => d.readVa who (j.data slot + 32 * i) 32)
      let run (e : List Byte) (off fm tag : Nat) : Bool :=
        let g (o n : Nat) : Nat := leNat ((e.drop o).take n)
        d.beadsVerify p (j.data slot + 64 * g off 4) (g 0x16 2) (fmtStride (g fm 1)) (g tag 2) (g fm 1)
      let core (e : List Byte) : List Byte := e.take 8 ++ e.drop 16
      ({ valid := decide (2 ≤ f 0x40 1) && decide (f 0x40 1 ≤ 5), step := f 8 8, state := f 0x40 1
         grad := es.all (fun e => run e 0x0C 0x15 0x12), pre := es.all (fun e => run e 0x08 0x14 0x10)
         table := (Config.sha384 (es.flatMap core)).toNat }, false)

/-- A member's report of both slots (R388), with 0x0943 for a line 0 that fails its check (R392). -/
def Dev.jrnReport (d : Dev) (p : Nat) : JrnReport × Dev :=
  let j := (d.part p).jrn
  let a := d.readSlot p 0
  let b := d.readSlot p 1
  ({ module := d.id, lost := j.lost, base := j.base.toNat, slot0 := a.1, slot1 := b.1, peers := j.peers },
   if a.2 || b.2 then d.notice 0x0943 0 0 0 else d)

/-- A report as words of a management message. -/
def JrnReport.words (r : JrnReport) : List Nat :=
  let slot (s : JrnSlot) : List Nat := [b2n s.valid + 2 * b2n s.grad + 4 * b2n s.pre + 8 * s.state, s.step]
    ++ (List.range 6).map (fun i => s.table / 2 ^ (64 * i) % 2 ^ 64)
  [b2n r.lost, r.base] ++ slot r.slot0 ++ slot r.slot1

/-- A report read back from the words of a management message of a module. -/
def jrnOfWords (m : BitVec 14) (w : List Nat) (peers : List (BitVec 14)) : JrnReport :=
  let g (i : Nat) : Nat := w.getD i 0
  let slot (o : Nat) : JrnSlot :=
    { valid := g o % 2 = 1, grad := g o / 2 % 2 = 1, pre := g o / 4 % 2 = 1, state := g o / 8, step := g (o + 1)
      table := ((List.range 6).map (fun i => g (o + 2 + i) * 2 ^ (64 * i))).foldl (· + ·) 0 }
  { module := m, lost := g 0 = 1, base := g 1, slot0 := slot 2, slot1 := slot 10, peers := peers }

/-! ### The coordinator and the start of recovery (R388) -/

/-- The lowest of some module IDs. -/
def lowestId : List (BitVec 14) → Option (BitVec 14)
  | [] => none
  | m :: ms => some (ms.foldl (fun a b => if b.toNat < a.toNat then b else a) m)

/-- The coordinator of a partition: its clasp home, or the lowest surviving module where that is lost (R385, R388). -/
def Dev.coordinator (d : Dev) (p : Part) : Option (BitVec 14) :=
  let up := p.modules.filter (fun m => !d.rst.failed.contains m.toNat)
  if p.jrn.claspHome ≠ 0xFFFF && up.contains (p.jrn.claspHome.truncate 14) then some (p.jrn.claspHome.truncate 14) else lowestId up

/-- Every in-flight entry of a partition's job on this module ends with 0x0945 (R388 step 1). -/
def Dev.abortEntries (d : Dev) (p : Nat) : Dev :=
  (d.cores.filter (fun k => match k.2.run with | some r => decide (r.part = p) | none => false)).foldl (fun (d : Dev) k => d.dropEntry k.1 0x0945) d

/-- A member's part of recovery steps 1 and 2: entries ended, the report made, here or toward the coordinator. -/
def Dev.jrnMember (d : Dev) (p : Nat) (coord : BitVec 14) : Dev :=
  let d := d.abortEntries p
  let d := d.modPart p (fun p => { p with jrn := { p.jrn with mine := none } })
  let r := d.jrnReport p
  if coord = d.id then r.2.modPart p (fun p => { p with jrn := { p.jrn with reports := p.jrn.reports ++ [r.1] } })
  else r.2.mgmt coord 0x21 ([(d.part p).key.toNat] ++ r.1.words) (r.1.peers.flatMap (fun m => leBytes 2 m.toNat))

/-- JOURNAL_RECOVERY_START (R388): the coordinator ends the partition's entries and gathers reports; another module asks it to. A
failed member has nothing to report: it is lost, with no slot. A recovery under way starts again at its first step (R392). -/
def Dev.journalStart (d : Dev) (p : Nat) : Dev :=
  let q := d.part p
  match d.coordinator q with
  | none => d
  | some c =>
    if c ≠ d.id then d.mgmt c 0x22 [q.key.toNat] []
    else
      let dead := q.modules.filter (fun m => d.rst.failed.contains m.toNat)
      let d := d.modPart p (fun p => { p with jrn := { p.jrn with
        phase := 1, reports := dead.map (fun m => { module := m, lost := true }), acted := 0, replays := [] } })
      let d := d.jrnMember p c
      (q.modules.filter (fun m => m ≠ d.id && !d.rst.failed.contains m.toNat)).foldl (fun (d : Dev) m => d.mgmt m 0x20 [q.key.toNat] []) d

/-! ### The step clasp (R386) -/

/-- A close SIGNAL that fails starts journal recovery (R386). -/
def Dev.closeFailed (d : Dev) (p : Nat) (cause : Cause) : Dev := if cause = 0 then d else d.journalStart p

/-- The step clasp's count at the clasp home (R386): when the vote semaphore holds JRN_MEMBERS or more, that many are
subtracted and every close semaphore is signalled; an incomplete set-up is noted once. -/
def Dev.claspCount (d : Dev) (n : Nat) : Dev :=
  match d.parts.first? (fun _ p => p.jrn.voteSem ≠ 0 && (SemHandle.ofWord p.jrn.voteSem).module = d.id
      && (SemHandle.ofWord p.jrn.voteSem).sem = n) with
  | none => d
  | some (i, p) =>
    let j := p.jrn
    let m := j.members.toNat
    if m = 0 || j.closeList.length < m then
      if j.unsetNoted then d
      else (d.modPart i (fun p => { p with jrn := { p.jrn with unsetNoted := true } })).notify
        { code := 0x0946, rig := moduleRig d.id, part := some i }
    else if (d.semValue n).toNat < m then d
    else
      let d := (d.semSet n (d.semValue n - BitVec.ofNat 64 m))
      j.closeList.foldl (fun d h =>
        if (SemHandle.ofWord h).module = d.id then let r := d.signalHome h 1 p.key (moduleRig d.id); r.1.closeFailed i r.2
        else d.egress (signalPacket p.key h 1 (moduleRig d.id)) (.clasp i)) d

/-- A SIGNAL at this home, the clasp's count included (SEMAPHORE_APPLY, STEP_CLASP_COUNT). -/
def Dev.signalApply (d : Dev) (handle inc : Word) (key : BitVec 16) (sender : BitVec 32) : Dev × Cause :=
  let r := d.signalHome handle inc key sender
  if r.2 = 0 then (r.1.claspCount (SemHandle.ofWord handle).sem, 0) else r

/-- Causes of rig-fatal and module-fatal errors that an entry ends with (15 R412, R416, 17 R461). -/
def rigFatal (c : Cause) : Bool := c = 0x0611 || c = 0x0632 || c = 0x0891

/-- Recovery of a partition that keeps a journal, started by the device itself. -/
def Dev.journalAuto (d : Dev) (p : Nat) : Dev := if (d.part p).jrn.base = 0 then d else d.journalStart p

/-- A member's replay entry has completed: the coordinator is told (R388 step 5). -/
def Dev.replayEnded (d : Dev) (queue index : Nat) : Dev :=
  match d.parts.first? (fun _ p => match p.jrn.mine with | some x => x.1 = queue && x.2.1 = index | none => false) with
  | some (i, p) =>
    let c := match p.jrn.mine with | some x => x.2.2 | none => d.id
    let d := d.modPart i (fun p => { p with jrn := { p.jrn with mine := none } })
    if c = d.id then d.modPart i (fun p => { p with jrn := { p.jrn with replays := p.jrn.replays.filter (· ≠ d.id) } })
    else d.mgmt c 0x24 [p.key.toNat] []
  | none => d

end Sys2Proof.Machine
end

