-- ==== Sys2Proof/Machine/Mover.lean ====
section
/-!
DEFINITION. The data mover's copies within the module (08 R220 to R223): TLOAD, TSTORE, TMOVE.
-/
namespace Sys2Proof.Machine

/-- One element of a copy's source: its code, its block's scale byte, whether a line that holds it, or its scale byte, is poisoned. -/
structure CopyElem where
  code : Nat := 0
  scale : Nat := 127
  poison : Bool := false
  scalePoison : Bool := false

/-- Row `r` of a PLAIN tensor as it lies in memory. -/
def Dev.rawRow (d : Dev) (who : Accessor) (x : Desc) (r : Nat) : BeadVal :=
  let va := x.base + r * x.stride * 64
  let n := ceilDiv (x.cols * x.fmt.width) 8
  { payload := leNat (d.readVa who va n), va := va, pz := d.poisonLines who va n }

/-- The lines that hold an element `w` bits wide at bit `p`. -/
def bitLines (p w : Nat) : List Nat := [p / 512, (p + w - 1) / 512]

/-- An element of a tensor as a copy reads it, from beads or PLAIN rows read (R212, R222). -/
def copyElem (x : Desc) (ms : KMap BeadVal) (r c : Nat) : CopyElem :=
  let w := x.fmt.width
  match x.layout with
  | .plain =>
    let v := ms.get {} r
    { code := v.payload / 2 ^ (c * w) % 2 ^ w, poison := (bitLines (c * w) w).any v.pz.contains }
  | _ =>
    let p := x.place r c
    let v := ms.get {} p.1
    { code := beadCode x ms p.1 p.2, scale := v.scales.getD (p.2 / 32) 127, poison := (bitLines (p.2 * w) w).any v.pz.contains
      scalePoison := x.mx && v.pz.contains (x.fmt.payload / 64) }

/-- Beads of a tensor that hold an element, none for PLAIN. -/
def Desc.copyBeads (x : Desc) : List Nat :=
  if x.layout = .plain then []
  else (List.range x.beads).filter (fun b => (List.range 2048).any (fun i => (x.coord b i).isSome))

/-- What a copy reads of its source: beads, verified, or rows, those after the first `n` for a source partly in staging. -/
def Dev.readSource (d : Dev) (who : Accessor) (s : Desc) (have' : KMap BeadVal) (limit : Option Nat) : Dev × Except Cause (KMap BeadVal) :=
  let take (l : List Nat) (size : Nat) : List Nat :=
    let l := match limit with | some n => l.take (n / max 1 size) | none => l
    l.filter (fun i => (have'.find? i).isNone)
  if s.layout = .plain then
    (d, .ok ((take (List.range s.rows) (ceilDiv (s.cols * s.fmt.width) 8)).foldl (fun m r => m.set r (d.rawRow who s r)) have'))
  else d.readBeads who s (take s.copyBeads s.bstride) have'

/-- Whether beads move unchanged (R223): the same bead layout and the same tag. -/
def movesWhole (s x : Desc) : Bool := s.layout = x.layout && s.layout ≠ .plain && s.tag = x.tag

/-- One destination bead that equals a source bead, moved with its sideband and its poison by line (R223). -/
def Dev.moveBead (d : Dev) (who : Accessor) (s x : Desc) (ms : KMap BeadVal) (b : Nat) : Dev × Cause :=
  match (List.range 2048).findSome? (x.coord b) with
  | none => (d, 0)
  | some (r, c) =>
    let v := ms.get {} (s.place r c).1
    d.putBytes who (x.base + b * x.bstride) (v.bytes s) (Sideband.ofWord v.side) false v.pz

/-- One destination bead formed anew (R222, R223): elements bit for bit, blocks with their scale bytes, padding zero; the lines formed
from poisoned source lines end poisoned. -/
def Dev.formBead (d : Dev) (who : Accessor) (s x : Desc) (ms : KMap BeadVal) (b : Nat) : Dev × Cause :=
  let es := (List.range 2048).map (fun i => (x.coord b i).map (fun p => copyElem s ms p.1 p.2))
  let codes := es.map (fun o => match o with | some e => e.code | none => 0)
  let scales := (List.range 64).map (fun k => match ((es.drop (32 * k)).take 32).findSome? (fun o => o) with
    | some e => e.scale
    | none => 0)
  let w := x.fmt.width
  let bad := es.zipIdx.flatMap (fun (o, i) => match o with
    | some e => if e.poison then bitLines (i * w) w else []
    | none => [])
  let scaleBad := x.mx && es.any (fun o => match o with | some e => e.scalePoison | none => false)
  d.putBead who x b codes scales false (bad ++ (if scaleBad then [x.fmt.payload / 64] else [])).eraseDups

/-- One PLAIN destination row written (R223): its elements packed from bit 0; lines formed from poison end poisoned. -/
def Dev.putRow (d : Dev) (who : Accessor) (s x : Desc) (ms : KMap BeadVal) (r : Nat) : Dev :=
  let w := x.fmt.width
  let row := x.base + r * x.stride * 64
  let es := (List.range x.cols).map (fun c => copyElem s ms r c)
  let v := es.foldr (fun e acc => e.code + 2 ^ w * acc) 0
  let n := ceilDiv (x.cols * w) 8
  let top := if x.cols * w % 8 = 0 then 0
    else ((d.readVa who (row + n - 1) 1).headD 0).toNat / 2 ^ (x.cols * w % 8) * 2 ^ (x.cols * w)
  let d := d.writeVa who row (leBytes n (v + top)) true false
  (es.zipIdx.flatMap (fun (e, c) => if e.poison then bitLines (c * w) w else [])).eraseDups.foldl
    (fun d l => d.poison (d.mpa who (row + 64 * l)) 64) d

/-- A copy's destination written from its source's beads or rows (R222, R223): the first cause that a destination bead meets ends it after the
others. -/
def Dev.putCopy (d : Dev) (who : Accessor) (s x : Desc) (ms : KMap BeadVal) : Dev × Cause :=
  if x.layout = .plain then ((List.range x.rows).foldl (fun d r => d.putRow who s x ms r) d, 0)
  else x.copyBeads.foldl (fun (p : Dev × Cause) b =>
    let q := if movesWhole s x then p.1.moveBead who s x ms b else p.1.formBead who s x ms b
    (q.1, if p.2 = 0 then q.2 else p.2)) (d, 0)

/-- A copy (R222, R223): every source bead read and verified, then every destination bead or row written. Poison moves and ends nothing. What the mover held in staging is written as it was read
(R202). -/
def Dev.copy (d : Dev) (c : Nat) (e : TiqEntry) (tdd tds : Nat) : Dev :=
  let who := d.who c
  let s := e.desc tds
  let x := e.desc tdd
  let r := d.readSource who s ((e.staged.getD {}).beads.headD []) none
  match r.2 with
  | .error cause => r.1.finish c e.id { cause := cause }
  | .ok ms =>
    let retries := (ms.vals.filter (·.unrec)).length
    let w := r.1.putCopy who s x ms
    (w.1.modCore c (fun k => k.modEntry e.id (fun e => { e with reads := { e.reads with retries := e.reads.retries + retries } }))).finish c e.id
      { cause := w.2 }

/-- A tentative copy that the mover has begun (R202): up to 16 KiB of its source, in whole beads or rows, read into staging. -/
def Dev.copyStage (d : Dev) (c : Nat) (e : TiqEntry) (tds : Nat) : Dev :=
  let r := d.readSource (d.who c) (e.desc tds) [] (some 0x4000)
  match r.2 with
  | .error cause => r.1.finish c e.id { cause := cause }
  | .ok ms => r.1.modCore c (fun k => k.modEntry e.id (fun e => { e with staged := some { beads := [ms] } }))

/-- A copy of one kind, once its extents are free (R201): carried out when it is committed, staged while it is tentative. -/
def Dev.copyRun (d : Dev) (c id : Nat) (errs : List EccEvent) (sel : TInstr → Option (Nat × Nat)) : Dev :=
  let w := (d.eccHeld c id errs).working c id
  match (w.1.core c).entry? id with
  | some e => match e.instr.bind sel with
    | some (tdd, tds) =>
      if !e.begun || e.done.isSome || !w.1.mayRead c e then w.1
      else if e.committed then (if w.1.mayWrite c e then w.1.copy c e tdd tds else w.1)
      else if e.staged.isNone then w.1.copyStage c e tds
      else w.1
    | none => d
  | none => d

/-- TLOAD (R222). -/
def tload (c id : Nat) (errs : List EccEvent) (now : Time) (d : Dev) : Dev :=
  (d.advance now).copyRun c id errs (fun i => match i with | .tload tdd tds => some (tdd, tds) | _ => none)
/-- TSTORE (R222). -/
def tstore (c id : Nat) (errs : List EccEvent) (now : Time) (d : Dev) : Dev :=
  (d.advance now).copyRun c id errs (fun i => match i with | .tstore tdd tds => some (tdd, tds) | _ => none)
/-- TMOVE (R222). -/
def tmove (c id : Nat) (errs : List EccEvent) (now : Time) (d : Dev) : Dev :=
  (d.advance now).copyRun c id errs (fun i => match i with | .tmove tdd tds => some (tdd, tds) | _ => none)

end Sys2Proof.Machine
end

