-- ==== Sys2Proof/Machine/Sync.lean ====
section
/-!
DEFINITION. The synchronisation unit and the chain set (08 R226 to R236): ARM, DISARM, SIGNAL, WAIT, RFLUSH, CLASP, DIGEST,
CSET, and the semaphore home's service of pending WAITs.
-/
namespace Sys2Proof.Machine

/-- ARM (R226): a record over the descriptor's bead range with no bit set. -/
def arm (c id : Nat) (now : Time) (d : Dev) : Dev :=
  let w := (d.advance now).working c id
  match w.2 with
  | none => w.1
  | some e => match e.instr with
    | some (.arm rec td _) =>
      let x := e.desc td
      let r : ArmRec := { pos := w.1.armPositions c x, stride := x.bstride, tag := x.tag, uses := bits e.rs1v 7 0 }
      (w.1.modCore c (fun k => { k with arms := k.arms.set rec r })).finish c id {}
    | _ => d

/-- DISARM (R227): the record is released once every committed instruction that matched it has completed. -/
def disarm (c id : Nat) (now : Time) (d : Dev) : Dev :=
  let w := (d.advance now).working c id
  match w.2 with
  | none => w.1
  | some e => match e.instr with
    | some (.disarm rec) => match (w.1.core c).arms.find? rec with
      | some r =>
        if r.matched = r.completed then (w.1.modCore c (fun k => { k with arms := k.arms.del rec })).finish c id {} else w.1
      | none => w.1.finish c id { cause := 0x0335 }
    | _ => d

/-- Whether an older SIGNAL of a core has not left yet: signals leave in commit order (R230). -/
def Core.signalBefore (k : Core) (id : Nat) : Bool :=
  (k.older id).any (fun o => match o.instr with
    | some (.signal ..) => o.waiting.isEmpty && o.done.isNone
    | _ => false)

/-- Whether an older TSTORE, TMOVE, SEND or RFLUSH of a core has not completed (R230, RELEASE). -/
def Core.copyBefore (k : Core) (id : Nat) : Bool :=
  (k.older id).any (fun o => o.done.isNone && (match o.instr with
    | some (.tstore ..) | some (.tmove ..) | some (.send ..) | some (.rflush ..) => true
    | _ => false))

/-- A SIGNAL that may leave (R230): applied at this module's own home, or posted to another's. -/
def Dev.sendSignal (d : Dev) (c : Nat) (e : TiqEntry) : Dev :=
  let key := (d.part (d.who c).part).key
  let h := SemHandle.ofWord e.rs1v
  if h.module = d.id then
    let r := d.signalApply e.rs1v e.rs2v key (coreRig d.id c)
    r.1.finish c e.id { cause := r.2 }
  else
    let d := d.modCore c (fun k => k.modEntry e.id (fun e => { e with waiting := [0] }))
    d.egress (signalPacket key e.rs1v e.rs2v (coreRig d.id c)) (.tensor c e.id)

/-- A committed SIGNAL of one kind, once it may leave. -/
def Dev.signalRun (d : Dev) (c id : Nat) (release : Bool) : Dev :=
  let w := d.working c id
  match w.2 with
  | none => w.1
  | some e => match e.instr with
    | some (.signal _ _ rel) =>
      if rel ≠ release then d
      else if !e.waiting.isEmpty || (w.1.core c).signalBefore id || (rel && (w.1.core c).copyBefore id) then w.1
      else w.1.sendSignal c e
    | _ => d

/-- SIGNAL (R230). -/
def signal (c id : Nat) (now : Time) (d : Dev) : Dev := (d.advance now).signalRun c id false
/-- SIGNAL with RELEASE (R230). -/
def signalRelease (c id : Nat) (now : Time) (d : Dev) : Dev := (d.advance now).signalRun c id true

/-- A committed WAIT of one kind (R231): refused at once, or it waits at its home, which serves it when its condition holds. -/
def Dev.waitRun (d : Dev) (c id : Nat) (consume : Bool) : Dev :=
  let w := d.working c id
  match w.2 with
  | none => w.1
  | some e => match e.instr with
    | some (.wait _ _ con) =>
      if con ≠ consume then d
      else
        let h := SemHandle.ofWord e.rs1v
        let key := (w.1.part (w.1.who c).part).key
        if h.module ≠ w.1.id then w.1.finish c id { cause := 0x0143 }
        else match w.1.semCheck h key with
          | 0 =>
            let p : PendingWait := { core := c, id := id, sem := h.sem, threshold := e.rs2v, consume := con }
            let d := if w.1.coh.waits.contains p then w.1 else { w.1 with coh := { w.1.coh with waits := w.1.coh.waits ++ [p] } }
            d.serveWaits h.sem
          | 0x0142 => (w.1.semForeign e.rs1v key (coreRig w.1.id c)).finish c id { cause := 0x0142 }
          | k => w.1.stale.finish c id { cause := k }
    | _ => d

/-- WAIT (R231). -/
def wait (c id : Nat) (now : Time) (d : Dev) : Dev := (d.advance now).waitRun c id false
/-- WAIT with CONSUME (R231). -/
def waitConsume (c id : Nat) (now : Time) (d : Dev) : Dev := (d.advance now).waitRun c id true
/-- WAIT_SATISFIED (R231): the home serves the pending WAITs of a semaphore whose condition holds. -/
def waitSatisfied (sem : Nat) (now : Time) (d : Dev) : Dev := (d.advance now).serveWaits sem

/-! ### RFLUSH -/

/-- Whether an older committed TSTORE or TMOVE of a core writes a range and has not completed (R232). -/
def Core.copiesInto (k : Core) (id va n : Nat) : Bool :=
  (k.older id).any (fun o => o.committed && o.done.isNone && (match o.instr with
    | some (.tstore x _) | some (.tmove x _) => overlap (o.desc x).base (o.desc x).bytes va n
    | _ => false))

/-- Whether an egress write-back of a range is on its way and not acknowledged. -/
def Dev.wbInFlight (d : Dev) (key : BitVec 16) (va n : Nat) : Bool :=
  (d.fab.egressWait ++ d.fab.out.vals.flatMap (·.window)).any (fun q => q.p.ptype = 2 && q.p.pkey = key && overlap q.p.addr 64 va n)

/-- Dirty lines of a range sent home (R232): those of the egress buffer. The lines of this module's own memories are in the home
copy already, and nothing is written for them (R271). -/
def Dev.flushRange (d : Dev) (key : BitVec 16) (va n : Nat) (o : Owner) : Dev :=
  (d.mem.egress.filter (fun l => l.pkey = key && overlap l.va 64 va n)).foldl (fun d l => d.egressSend l o) d

/-- An RFLUSH that has sent its lines completes when none of its range is unacknowledged (R232). -/
def Dev.rflushDone (d : Dev) (c : Nat) (e : TiqEntry) : Dev :=
  match e.instr with
  | some (.rflush ..) =>
    if e.waiting.isEmpty || e.done.isSome || d.wbInFlight (d.part (d.who c).part).key e.rs1v.toNat e.rs2v.toNat then d
    else d.finish c e.id e.first
  | _ => d

/-- Every RFLUSH of a core looked at again. -/
def Dev.rflushAgain (d : Dev) (c : Nat) : Dev := (d.core c).tiq.foldl (fun d e => d.rflushDone c e) d

/-- RFLUSH (R232). -/
def rflush (c id : Nat) (now : Time) (d : Dev) : Dev :=
  let w := (d.advance now).working c id
  match w.2 with
  | none => w.1
  | some e => match e.instr with
    | some (.rflush ..) =>
      let va := e.rs1v.toNat
      let n := e.rs2v.toNat
      let who := w.1.who c
      if n = 0 then w.1.finish c id {}
      else if !e.waiting.isEmpty then w.1.rflushDone c e
      else if (w.1.core c).copiesInto id va n then w.1
      else
        let d := w.1.flushRange (w.1.part who.part).key va n (.rflush c id)
        (d.modCore c (fun k => k.modEntry id (fun e => { e with waiting := [0] }))).rflushAgain c
    | _ => d

/-- CLASP (R233): older entries of the units in UMASK have left the queue, and with SST every older scalar store is performed. -/
def clasp (c id : Nat) (now : Time) (d : Dev) : Dev :=
  let w := (d.advance now).working c id
  match w.2 with
  | none => w.1
  | some e => match e.instr with
    | some (.clasp um sst) =>
      let k := w.1.core c
      if (k.older id).any (fun o => o.unit ≠ .none && um / 2 ^ o.unit.code % 2 = 1) || (sst && !k.sc.stores.isEmpty) then w.1
      else w.1.finish c id {}
    | _ => d

/-! ### DIGEST -/

/-- The digest of beads read (R234): the sum of their hashes under the descriptor's tag and format. -/
def Dev.digestOf (d : Dev) (who : Accessor) (x : Desc) (bs : List Nat) : Word :=
  bs.foldl (fun h b => h + beadHash (d.readVa who (x.base + b * x.bstride) x.bstride) x.tag
    (BitVec.ofNat 8 (x.fmtCode + 16 * b2n x.mx)) b) 0

/-- A committed DIGEST of one kind (R235). -/
def Dev.digestRun (d : Dev) (c id : Nat) (errs : List EccEvent) (useAcc : Bool) : Dev :=
  let w := (d.eccHeld c id errs).working c id
  match w.2 with
  | none => w.1
  | some e => match e.instr with
    | some (.digest td _ acc n) =>
      if acc ≠ useAcc then d
      else if !(w.1.mayRead c e && w.1.mayWrite c e) then w.1
      else
        let who := w.1.who c
        let x := e.desc td
        let r := w.1.readBeads who x x.copyBeads []
        match r.2 with
        | .error cause => r.1.finish c id { cause := cause }
        | .ok ms =>
          let seen := seeAll e.reads ms
          let h := r.1.digestOf who x x.copyBeads
          let d := r.1.modCore c (fun k => k.modEntry id (fun e => { e with reads := seen }))
          let d := d.writeVa who e.rs1v.toNat (leBytes 8 h.toNat) false seen.poison
          let d := if acc && !seen.poison then d.modPart who.part (fun p => { p with digestAcc := p.digestAcc.upd 0 n (· + h) }) else d
          d.finish c id (seen.completion 0 0 0)
    | _ => d

/-- DIGEST (R235). -/
def digest (c id : Nat) (errs : List EccEvent) (now : Time) (d : Dev) : Dev := (d.advance now).digestRun c id errs false
/-- DIGEST with ACC (R235). -/
def digestAcc (c id : Nat) (errs : List EccEvent) (now : Time) (d : Dev) : Dev := (d.advance now).digestRun c id errs true

/-- CSET at its commit (R236, R193): the refusal its record met as it entered the queue, or success. -/
def cset (c id : Nat) (now : Time) (d : Dev) : Dev :=
  let d := d.advance now
  match (d.core c).entry? id with
  | some e => match e.instr with
    | some (.cset ..) =>
      if e.committed && e.done.isNone then
        let d := d.modCore c (fun k => k.modEntry id (fun e => { e with begun := true }))
        d.finish c id { cause := e.chainRefusal.getD 0 }
      else d
    | _ => d
  | none => d

end Sys2Proof.Machine
end

