-- ==== Sys2Proof/Machine/Control.lean ====
section
/-!
DEFINITION. The control core (07): the program's own steps that have a row, the tensor registers and CSRs, the issue queue's entry,
begin, commit and completion, and a bead that lands.
-/
namespace Sys2Proof.Machine

/-- Whether a tensor instruction that stops decode until it completes stands in the queue (R231, R233): its completion is the
step that writes its slot (R197), after which it has left the queue. -/
def Core.serialised (k : Core) : Bool := k.tiq.any (fun e => match e.instr with
  | some (.wait ..) | some (.clasp ..) => true
  | _ => false)

/-- Whether a core's program goes on to decode: it runs an entry that is not ending, and nothing stops decode. -/
def Core.decodes (k : Core) : Bool := k.run.isSome && k.ending.isNone && !k.serialised

/-- Whether the program's next instruction may commit: older instructions have retired (R202). -/
def Core.commits (k : Core) : Bool := k.decodes && k.sc.wait.isNone && k.tentative = 0

/-! ### CSRs -/

/-- What a user-mode CSR reads as (R194, and R189's fcsr with its two fields); none at an address that the manual does not list; satp reads as zero in machine mode (R187). The counters
are as the program's last step left them. -/
def Dev.csrRead (d : Dev) (c a : Nat) : Option Word :=
  let k := d.core c
  let t := k.tx
  if a = 0x001 then some (k.sc.fcsr &&& 0x1F).toNat
  else if a = 0x002 then some (k.sc.fcsr >>> 5).toNat
  else if a = 0x003 then some k.sc.fcsr.toNat
  else if a = 0xC00 then some k.sc.cycle
  else if a = 0xC01 then some d.time
  else if a = 0xC02 then some k.sc.instret
  else if a = 0x800 then some t.txctl
  else if a = 0x801 then some t.txfault
  else if a = 0x802 then some t.tdsel
  else if a = 0x803 then some (bits (t.td.get 0 (bits t.tdsel 3 0)) 63 0)
  else if a = 0x804 then some (bits (t.td.get 0 (bits t.tdsel 3 0)) 127 64)
  else if a = 0x805 then some t.crsel
  else if a = 0x806 then some ((t.cr.get 0 (bits t.crsel 6 4)).toNat / 2 ^ (64 * bits t.crsel 3 0))
  else if 0xCC0 ≤ a && a ≤ 0xCCF then some (t.tcs.get 0 (a - 0xCC0))
  else if 0xCD0 ≤ a && a ≤ 0xCDF then some (t.tcsx.get 0 (a - 0xCD0))
  else if 0xCE0 ≤ a && a ≤ 0xCE7 then some (t.accState.get 0 (a - 0xCE0)).toNat
  else if 0xCE8 ≤ a && a ≤ 0xCEF then some (t.svRecord.get 0 (a - 0xCE8)).toNat
  else if a = 0xCF0 then some t.vxRecord.toNat
  else if a = 0xCF1 then some t.txfaultpc
  else if a = 0xCF2 then some t.txsqcnt
  else if a = 0xCF3 then some t.txsqcyc
  else if a = 0xCF4 then some t.txarmovr
  else if a = 0xCF5 then some k.txtiq
  else if a = 0xCF6 then some (d.txrig c)
  else if a = 0xCF7 then some (d.txdbg c)
  else if a = 0xCF8 then some k.txjob
  else if a = 0x180 && k.sc.machine then some 0
  else none

/-- The CSR's old value goes to the destination register of the instruction that writes it (R187). -/
def Dev.csrTo (d : Dev) (c a rd : Nat) : Dev :=
  match d.csrRead c a with
  | some v => d.modCore c (fun k => { k with sc := k.sc.setReg false rd v })
  | none => d

/-! ### A program's steps -/

/-- The scalar registers as the program has left them (R187, R194). -/
def Scalar.after (s : Scalar) (p : Prog) (now : Time) : Scalar :=
  let s := p.x.foldl (fun s w => s.setReg false w.1.val w.2) s
  let s := p.f.foldl (fun s w => s.setReg true w.1.val w.2.toNat) s
  { s with pc := p.pc, cycle := max s.cycle p.cycle, cycleAt := if s.cycle ≤ p.cycle then now else s.cycleAt, instret := s.instret + p.retired, fcsr := p.fcsr.getD s.fcsr }

/-- A fetch's check (R188, R259): the bytes of the instruction at an address, two or four of them, need X; whether a line they lie in is
poisoned. -/
def Dev.fetch (d : Dev) (c pc : Nat) : Except Finding Bool :=
  let who := d.who c
  if 2 ^ 57 ≤ pc then .error { va := BitVec.ofNat 64 pc }
  else match d.checkExtent who { x := true } false pc 2 with
    | .error f => .error f
    | .ok m =>
      let here := !(match m with | .remote _ => true | _ => false)
      let bad (va : Nat) : Bool := here && d.poisoned (d.mpa who va / 64)
      if here && d.mem.mem.readNat (d.mpa who pc) 1 % 4 ≠ 3 then .ok (bad pc)
      else match d.checkExtent who { x := true } false pc 4 with
        | .error f => .error f
        | .ok _ => .ok (bad pc || bad (pc + 2))

/-- The CSR reads that a program has made, in order (R194, R199): none from the first address that the manual does not list. -/
def Dev.csrReads (d : Dev) (c : Nat) (l : List (Fin 32 × BitVec 12)) : Dev :=
  l.foldl (fun d r => d.csrTo c r.2.toNat r.1.val) d

/-- What stops a program before its next instruction: a CSR read that is an illegal instruction (R194), the access fault of a fetch (R190,
R260), poison that a fetch consumes (R450). The manual states no mtval for an illegal instruction: free (log entry 86). -/
def Dev.progStop (d : Dev) (c : Nat) (p : Prog) : Option Dev :=
  if p.csrs.any (fun r => (d.csrRead c r.2.toNat).isNone) then some (let q := d.draw; q.2.exception c 2 (q.1.truncate 64))
  else match d.fetch c p.pc.toNat with
    | .error f => some ((d.walkNotice (d.who c) f).exception c 1 f.va)
    | .ok true => some (d.scalarPoison c p.pc.toNat)
    | .ok false => none

/-- The registers brought up to a program's step (R187). -/
def Dev.bringUp (d : Dev) (p : Prog) : Dev :=
  (d.modCore p.core.val (fun k => { k with sc := k.sc.after p d.time })).csrReads p.core.val p.csrs

/-- A program's step: its registers are brought up, and `f` is run, where `ok` lets it; else nothing happens. What stops the program
before the step's instruction is an exception, taken once all older instructions have retired (R190, R202). -/
def Dev.prog (d : Dev) (p : Prog) (now : Time) (ok : Core → Bool) (f : Dev → Dev) : Dev :=
  let d := d.advance now
  let k := d.core p.core.val
  if ok k then
    match (d.bringUp p).progStop p.core.val p with
    | none => f (d.bringUp p)
    | some t => if k.tentative = 0 && k.sc.wait.isNone then t else d
  else d

/-! ### Ends and branches -/

/-- ECALL (R190): with a7 = 0 the entry ends with a0 as its status word; with another a7 it is the environment-call exception. As every
instruction it commits in program order, after the older tensor instructions (R202). -/
def ecallEnd (p : Prog) (now : Time) (d : Dev) : Dev :=
  d.prog p now Core.commits (fun d =>
    let s := (d.core p.core.val).sc
    if s.reg 17 = 0 then d.beginEnd p.core.val { status := s.reg 10 } else d.exception p.core.val 8 0)

/-- An exception taken in user mode (R190), at its instruction's commit. -/
def programException (p : Prog) (mcause mtval : Word) (now : Time) (d : Dev) : Dev :=
  d.prog p now (fun k => k.run.isSome && k.ending.isNone && k.sc.wait.isNone && decide (k.tentative = 0)) (fun d => d.exception p.core.val mcause mtval)

/-- A mispredicted branch or jump resolves (R205): the tentative entries numbered `from` and above are younger. -/
def branchMispredict (p : Prog) (young : Nat) (now : Time) (d : Dev) : Dev :=
  d.prog p now (fun k => k.run.isSome && k.ending.isNone) (fun d =>
    d.modCore p.core.val (fun k => k.squash (d.nowCycle p.core.val) (fun e => decide (young ≤ e.id))))

/-! ### Scalar memory accesses -/

/-- What a scalar access reaches (R188, R189). -/
inductive ScalarTarget where
  | lds (off : Nat)
  | own (mpa : Nat)
  | memory (mpa : Nat)
  | window (line : Nat)
  | remoteWindow (home : Nat)
  | remote (home : Nat)
  | trap (mcause : Nat) (mtval : Word) (f : Finding)
  deriving DecidableEq, Repr

/-- First address of the local data store (R188). -/
def ldsBase : Nat := 0xFFFFFFFFFFFF8000

/-- A scalar access resolved and checked (R188, R259, R260): `store` picks the cause codes of a store or AMO. -/
def Dev.scalarTarget (d : Dev) (c : Nat) (need : Need) (va size : Nat) (store aligned : Bool) : ScalarTarget :=
  let mis := if store then 6 else 4
  let acc := if store then 7 else 5
  if (aligned && va % size ≠ 0) || 64 < va % 64 + size then .trap mis (BitVec.ofNat 64 va) {}
  else if ldsBase ≤ va then .lds (va - ldsBase)
  else if 2 ^ 57 ≤ va then .trap acc (BitVec.ofNat 64 va) {}
  else
    let who := d.who c
    match d.checkExtent who need (!store && d.debugRead c) va size with
    | .error f => .trap acc f.va f
    | .ok m => match m with
      | .scratch c' | .stack c' => if c' = c then .own (d.mpa who va) else .memory (d.mpa who va)
      | .window _ => .window (d.mpa who va / 64)
      | .remote h => if (d.part who.part).remoteWindow.contains (va / 65536) then .remoteWindow h else .remote h
      | _ => .memory (d.mpa who va)

/-- A scalar access that traps (R260): the exception, and the notice of a bad table entry. -/
def Dev.scalarTrap (d : Dev) (c mcause : Nat) (mtval : Word) (f : Finding) : Dev :=
  (d.walkNotice (d.who c) f).exception c (BitVec.ofNat 64 mcause) mtval

/-- The key of the partition that a core runs for. -/
def Dev.keyOf (d : Dev) (c : Nat) : BitVec 16 := (d.part (d.who c).part).key

/-- The virtual line of an address. -/
def lineVa (va : Nat) : Nat := va / 64 * 64

/-- A scalar access begins to wait for its answer. -/
def Dev.await (d : Dev) (c : Nat) (w : MemWait) : Dev :=
  d.modCore c (fun k => { k with sc := { k.sc with wait := some { w with upTo := k.nextId } } })

/-- A load's value from memory: poison is consumed (R450). -/
def Dev.loadMem (d : Dev) (c : Nat) (w : MemWait) (mpa : Nat) : Dev :=
  if d.poisoned (mpa / 64) then d.scalarPoison c w.va
  else d.answerLoad c w (widenLoad w.size w.signed (d.mem.mem.readNat mpa w.size))

/-- A load's value from the local data store. -/
def Dev.loadLds (d : Dev) (c : Nat) (w : MemWait) (off : Nat) : Dev :=
  let s := (d.core c).sc
  if s.ldsPoison.contains (off / 64) then d.scalarPoison c w.va
  else d.answerLoad c w (widenLoad w.size w.signed (s.lds.readNat off w.size))

/-- A read of a remote page outside the coherent windows (R255): a request in pair order, its answer awaited. -/
def Dev.loadRemote (d : Dev) (c : Nat) (w : MemWait) (home : Nat) : Dev :=
  let tag := d.fab.nextReqTag % 256
  let d := { d with fab := { d.fab with nextReqTag := tag + 1 } }
  let p : Packet := { ptype := 3, tc := 1, dst := BitVec.ofNat 14 home, pkey := d.keyOf c, addr := w.va,
                      xarg := BitVec.ofNat 64 (w.size + tag * 2 ^ 24) }
  (d.await c { w with tag := some tag }).egress p (.load c)

/-- Whether a load would raise an exception (R190, R450): while it is tentative it waits for its commit. -/
def Dev.loadRaises (d : Dev) (c : Nat) : ScalarTarget → Bool
  | .trap .. => true
  | .lds off => (d.core c).sc.ldsPoison.contains (off / 64)
  | .own a | .memory a => d.poisoned (a / 64)
  | _ => false

/-- SCALAR_LOAD (R278, R188): a load to a coherent window or a remote page is not sent while it is tentative; `errs` are the memory errors that the read meets (17 R445, R446). -/
def scalarLoad (p : Prog) (w : MemWait) (errs : List EccEvent) (now : Time) (d : Dev) : Dev :=
  let c := p.core.val
  let w := { w with kind := 0 }
  d.prog p now (fun k => k.decodes && k.sc.wait.isNone && !k.sc.stores.contains (lineVa w.va)) (fun d =>
    let early := (d.core c).tentative ≠ 0
    let d := errs.foldl Dev.ecc d
    let t := d.scalarTarget c { r := true } w.va w.size false false
    if early && d.loadRaises c t then d else
    match t with
    | .trap mc mt f => d.scalarTrap c mc mt f
    | .lds off => d.loadLds c w off
    | .own a | .memory a => (d.tcFill c w.va).loadMem c w a
    | .window _ => if early then d else (d.tcFill c w.va).loadMem c w (d.mpa (d.who c) w.va)
    | .remote h => if early then d else (d.tcFill c w.va).loadRemote c w h
    | .remoteWindow h =>
      let d := d.tcFill c w.va
      if early then d else
      match d.copyOf (d.keyOf c) (lineVa w.va) with
      | some r => d.loadFrom c w r.data r.poison
      | none => (d.await c w).cohSend (BitVec.ofNat 14 h) (.readSh d.id (d.keyOf c) (lineVa w.va) c))

/-- Bytes stored to the local data store; its line's reservation is lost (R189). -/
def Dev.storeLds (d : Dev) (c off : Nat) (bs : List Byte) : Dev :=
  d.modCore c (fun k => { k with sc := { k.sc with
    lds := k.sc.lds.write off bs
    resv := if k.sc.resv = some (true, off / 64) then none else k.sc.resv } })

/-- A write sent to a coherent line's home, which may be this module (R277, R279). -/
def Dev.cohWrite (d : Dev) (c va : Nat) (home : Option Nat) (line : Nat) (op : CohOp) : Dev :=
  let reads := match op with | .lr .. => true | _ => false
  let d := if reads then d else d.modCore c (fun k => { k with sc := { k.sc with stores := k.sc.stores ++ [lineVa va] } })
  match home with
  | none =>
    let m : CohMsg := .write d.id (d.keyOf c) (lineVa va) op (coreRig d.id c) c
    d.cohServe line m
  | some h => d.cohSend (BitVec.ofNat 14 h) (.write d.id (d.keyOf c) (lineVa va) op (coreRig d.id c) c)

/-- SCALAR_STORE (R278, R188): a store to a coherent line waits for the one before it. -/
def scalarStore (p : Prog) (va size : Nat) (v : Word) (now : Time) (d : Dev) : Dev :=
  let c := p.core.val
  d.prog p now Core.commits (fun d =>
    let bs := leBytes size v.toNat
    let busy := !(d.core c).sc.stores.isEmpty
    match d.scalarTarget c { w := true } va size true false with
    | .trap mc mt f => d.scalarTrap c mc mt f
    | .lds off => d.storeLds c off bs
    | .own a | .memory a => (d.tcFill c va).writePlain a bs false false
    | .window line => if busy then d else (d.tcFill c va).cohWrite c va none line (.store (va % 64) bs)
    | .remoteWindow h => if busy then d else (d.tcFill c va).cohWrite c va (some h) 0 (.store (va % 64) bs)
    | .remote h => (d.tcFill c va).egressStore (BitVec.ofNat 14 h) (d.who c).part (d.keyOf c) va bs)

/-- AMO (R189, R277): on the local data store, the core's own memories, or at a coherent home; elsewhere an access fault. -/
def amo (p : Prog) (op : Nat) (wide : Bool) (va : Nat) (v : Word) (rd : Nat) (rl : Bool) (now : Time) (d : Dev) : Dev :=
  let c := p.core.val
  let n := if wide then 8 else 4
  let w : MemWait := { kind := 2, rd := rd, size := n, signed := true, va := va }
  d.prog p now (fun k => k.commits && (!rl || k.sc.stores.isEmpty)) (fun d =>
    let busy := !(d.core c).sc.stores.isEmpty
    match d.scalarTarget c { r := true, w := true } va n true true with
    | .trap mc mt f => d.scalarTrap c mc mt f
    | .lds off =>
      let old : Word := BitVec.ofNat 64 ((d.core c).sc.lds.readNat off n)
      if (d.core c).sc.ldsPoison.contains (off / 64) then d.scalarPoison c va
      else (d.storeLds c off (leBytes n (amoNew op wide old v).toNat)).answerLoad c w (widenLoad n true old.toNat)
    | .own a =>
      let old : Word := BitVec.ofNat 64 (d.mem.mem.readNat a n)
      if d.poisoned (a / 64) then d.scalarPoison c va
      else (d.writePlain a (leBytes n (amoNew op wide old v).toNat) false false).answerLoad c w (widenLoad n true old.toNat)
    | .window line => if busy then d else (d.await c w).cohWrite c va none line (.amo op wide (va % 64) v)
    | .remoteWindow h => if busy then d else (d.await c w).cohWrite c va (some h) 0 (.amo op wide (va % 64) v)
    | .memory _ | .remote _ => d.exception c 7 (BitVec.ofNat 64 va))

/-- LR (R189, R277): one that goes to a coherent window drops the reservation held for the core's own memories, as any other LR does. -/
def lr (p : Prog) (wide : Bool) (va rd : Nat) (now : Time) (d : Dev) : Dev :=
  let c := p.core.val
  let n := if wide then 8 else 4
  let w : MemWait := { kind := 1, rd := rd, size := n, signed := true, va := va }
  let hold (d : Dev) (l : Bool) (i : Nat) : Dev := d.modCore c (fun k => { k with sc := { k.sc with resv := some (l, i) } })
  let drop (d : Dev) : Dev := d.modCore c (fun k => { k with sc := { k.sc with resv := none } })
  d.prog p now (fun k => k.commits && !k.sc.stores.contains (lineVa va)) (fun d =>
    match d.scalarTarget c { r := true } va n false true with
    | .trap mc mt f => d.scalarTrap c mc mt f
    | .lds off => (hold d true (off / 64)).loadLds c w off
    | .own a => (hold d false (a / 64)).loadMem c w a
    | .window line => ((drop d).await c w).cohWrite c va none line (.lr wide (va % 64))
    | .remoteWindow h => ((drop d).await c w).cohWrite c va (some h) 0 (.lr wide (va % 64))
    | .memory _ | .remote _ => d.exception c 5 (BitVec.ofNat 64 va))

/-- SC (R189, R277): 0 to the destination on success, 1 on failure; the reservation is dropped either way. -/
def sc (p : Prog) (wide : Bool) (va : Nat) (v : Word) (rd : Nat) (now : Time) (d : Dev) : Dev :=
  let c := p.core.val
  let n := if wide then 8 else 4
  let w : MemWait := { kind := 3, rd := rd, size := n, signed := true, va := va }
  let drop (d : Dev) : Dev := d.modCore c (fun k => { k with sc := { k.sc with resv := none } })
  d.prog p now Core.commits (fun d =>
    let busy := !(d.core c).sc.stores.isEmpty
    let held := (d.core c).sc.resv
    match d.scalarTarget c { w := true } va n true true with
    | .trap mc mt f => d.scalarTrap c mc mt f
    | .lds off =>
      if (d.core c).sc.ldsPoison.contains (off / 64) then d.scalarPoison c va
      else if held = some (true, off / 64) then ((drop d).storeLds c off (leBytes n v.toNat)).answerLoad c w 0
      else (drop d).answerLoad c w 1
    | .own a =>
      if d.poisoned (a / 64) then d.scalarPoison c va
      else if held = some (false, a / 64) then ((drop d).writePlain a (leBytes n v.toNat) false false).answerLoad c w 0
      else (drop d).answerLoad c w 1
    | .window line => if busy then d else ((drop d).await c w).cohWrite c va none line (.sc wide (va % 64) v)
    | .remoteWindow h => if busy then d else ((drop d).await c w).cohWrite c va (some h) 0 (.sc wide (va % 64) v)
    | .memory _ | .remote _ => d.exception c 7 (BitVec.ofNat 64 va))

/-- FENCE (R278): with W in its predecessor set it waits until every older store has been performed. -/
def fence (p : Prog) (predW : Bool) (now : Time) (d : Dev) : Dev :=
  d.prog p now (fun k => k.commits && (!predW || k.sc.stores.isEmpty)) (fun d => d)

/-! ### CSR writes -/

/-- A change of a core's tensor registers. -/
def Dev.modTx (d : Dev) (c : Nat) (f : TensorRegs → TensorRegs) : Dev := d.modCore c (fun k => { k with tx := f k.tx })

/-- TXCTL written (R195): the three bits. -/
def TensorRegs.setCtl (t : TensorRegs) (v : Word) : TensorRegs := { t with txctl := v &&& 7 }
/-- TXFAULT written with any value (R196). -/
def TensorRegs.clearFault (t : TensorRegs) : TensorRegs := { t with txfault := 0 }
/-- Half of the selected descriptor written (R194). -/
def TensorRegs.setTd (t : TensorRegs) (hi : Bool) (v : Word) : TensorRegs :=
  { t with td := t.td.upd 0 (bits t.tdsel 3 0) (fun w => if hi then setBits w 127 64 v.toNat else setBits w 63 0 v.toNat) }
/-- The selected chain word written, the register marked unchecked (R193). -/
def TensorRegs.setCr (t : TensorRegs) (v : Word) : TensorRegs :=
  let r := bits t.crsel 6 4
  let w := bits t.crsel 3 0
  { t with cr := t.cr.upd 0 r (fun x => setBits x (64 * w + 63) (64 * w) v.toNat), crUnchecked := t.crUnchecked.insert r }

/-- TXCTL_WRITE (R195, R199). -/
def txctlWrite (p : Prog) (v : Word) (rd : Nat) (now : Time) (d : Dev) : Dev :=
  d.prog p now Core.commits (fun d => (d.csrTo p.core.val 0x800 rd).modTx p.core.val (·.setCtl v))
/-- TXFAULT_WRITE (R196). -/
def txfaultWrite (p : Prog) (rd : Nat) (now : Time) (d : Dev) : Dev :=
  d.prog p now Core.commits (fun d => (d.csrTo p.core.val 0x801 rd).modTx p.core.val TensorRegs.clearFault)
/-- TD_WRITE (R199). -/
def tdWrite (p : Prog) (hi : Bool) (v : Word) (rd : Nat) (now : Time) (d : Dev) : Dev :=
  d.prog p now Core.commits (fun d => (d.csrTo p.core.val (if hi then 0x804 else 0x803) rd).modTx p.core.val (·.setTd hi v))
/-- CRDATA_WRITE (R193). -/
def crdataWrite (p : Prog) (v : Word) (rd : Nat) (now : Time) (d : Dev) : Dev :=
  d.prog p now Core.commits (fun d => (d.csrTo p.core.val 0x806 rd).modTx p.core.val (·.setCr v))

/-- CSR_WRITE (R194, R199): TDSEL and CRSEL hold their defined bits; a read-only or unlisted address is an illegal instruction,
whose mtval the manual does not state (free, log entry 86). -/
def csrWrite (p : Prog) (addr : BitVec 12) (v : Word) (rd : Nat) (now : Time) (d : Dev) : Dev :=
  let c := p.core.val
  d.prog p now Core.commits (fun d =>
    let o := d.csrTo c addr.toNat rd
    match addr.toNat with
    | 0x001 => o.modCore c (fun k => { k with sc := { k.sc with fcsr := (k.sc.fcsr &&& 0xE0) ||| (v.truncate 8 &&& 0x1F) } })
    | 0x002 => o.modCore c (fun k => { k with sc := { k.sc with fcsr := (k.sc.fcsr &&& 0x1F) ||| (v.truncate 8 <<< 5) } })
    | 0x003 => o.modCore c (fun k => { k with sc := { k.sc with fcsr := v.truncate 8 } })
    | 0x800 => o.modTx c (·.setCtl v)
    | 0x801 => o.modTx c TensorRegs.clearFault
    | 0x802 => o.modTx c (fun t => { t with tdsel := v &&& 0xF })
    | 0x803 => o.modTx c (·.setTd false v)
    | 0x804 => o.modTx c (·.setTd true v)
    | 0x805 => o.modTx c (fun t => { t with crsel := v &&& 0x7F })
    | 0x806 => o.modTx c (·.setCr v)
    | _ => let q := d.draw
           q.2.exception c 2 (q.1.truncate 64))

/-! ### The issue queue -/

/-- Where a CSET's record lies (R236): its offset in the local data store, or the exception of its address. -/
def csetAddr (va : Word) : Except Nat Nat :=
  if va.toNat < ldsBase then .error 5
  else if va.toNat % 128 ≠ 0 then .error 4
  else .ok (va.toNat - ldsBase)

/-- The chain register that an instruction names (R216, R218, R236), if any. -/
def namedChain (i : TInstr) (rs1v : Word) : Option Nat := match i with
  | .mma _ mode _ _ _ _ => if isClose mode && (closeCtl rs1v).2.2 then some (closeCtl rs1v).2.1 else none
  | .vrun cr .. => some cr
  | .cset cr _ => some cr
  | _ => none

/-- A tensor instruction's entry latched (R192, R210): descriptors, the named chain, scalar and f registers. -/
def Dev.latch (d : Dev) (c : Nat) (word : BitVec 32) : TiqEntry :=
  let k := d.core c
  let i := decodeTensor word
  let rs := (i.map TInstr.rs).getD (0, 0)
  let rs1v := k.sc.reg rs.1
  let cr := i.bind (fun i => namedChain i rs1v)
  let chain := match cr with | some r => k.tx.cr.get 0 r | none => 0
  { id := k.nextId, word := word, pc := k.sc.pc, td := k.tx.td, f := k.sc.f, rs1v := rs1v, rs2v := k.sc.reg rs.2, chain := chain
    chainRefusal := match cr with
      | some r => if k.tx.crUnchecked.contains r then chainRefusal chain (d.sigFor c 1) else none
      | none => none }

/-- A CSET as it enters the queue (R193, R236): a legal record changes the register for younger instructions. -/
def Dev.csetEnter (d : Dev) (c : Nat) (e : TiqEntry) (cr : Nat) : TiqEntry × TensorRegs :=
  let k := d.core c
  let e := { e with oldChain := k.tx.cr.get 0 cr, oldUnchecked := k.tx.crUnchecked.contains cr }
  match csetAddr e.rs1v with
  | .error _ => (e, k.tx)
  | .ok off =>
    let rec' : BitVec 1024 := BitVec.ofNat 1024 (k.sc.lds.readNat off 128)
    let bad := chainRefusal rec' (d.sigFor c 1)
    let e := { e with chain := rec', chainRefusal := bad }
    (e, if bad.isSome then k.tx else
      { k.tx with cr := k.tx.cr.set cr (if chainKind rec' = 0 then 0 else rec'), crUnchecked := k.tx.crUnchecked.remove cr })

/-- Whether a load on its way is to write a register that a tensor instruction latches (R210). -/
def Core.latchWaits (k : Core) (word : BitVec 32) : Bool :=
  match k.sc.wait, decodeTensor word with
  | some w, some i =>
    if w.toF then (match i with | .expand .. | .mma .. | .vrun .. => true | _ => false)
    else w.rd ≠ 0 && (i.rs.1 = w.rd || i.rs.2 = w.rd)
  | _, _ => false

/-- Whether a tensor instruction may enter the issue queue (R195, R200, R210). -/
def Core.entersTiq (k : Core) (word : BitVec 32) : Bool :=
  k.decodes && !k.latchWaits word && k.tiq.length < 32 && k.tentative < 8 && !(faultStop k.tx.txctl && txValid k.tx.txfault)

/-- TIQ_ENTER (R192, R200): a decoded tensor instruction takes an entry and latches its operands; else decode stalls. -/
def tiqEnter (p : Prog) (word : BitVec 32) (now : Time) (d : Dev) : Dev :=
  let c := p.core.val
  d.prog p now (fun k => k.entersTiq word) (fun d =>
    let e := d.latch c word
    let q : TiqEntry × TensorRegs := match decodeTensor word with
      | some (.cset cr _) => d.csetEnter c e cr
      | some i =>
        let tx := (d.core c).tx
        (e, match namedChain i e.rs1v with
          | some r => if e.chainRefusal.isNone then { tx with crUnchecked := tx.crUnchecked.remove r } else tx
          | none => tx)
      | none => (e, (d.core c).tx)
    d.modCore c (fun k => { k with tiq := k.tiq ++ [q.1], nextId := k.nextId + 1, tx := q.2 }))

/-- ENGINE_BEGIN (R202): a unit makes an entry's first operand request. -/
def engineBegin (c id cycle : Nat) (now : Time) (d : Dev) : Dev :=
  let d := d.advance now
  (d.modCore c (fun k => if k.sc.cycle ≤ cycle then { k with sc := { k.sc with cycle := cycle, cycleAt := d.time } } else k)).beginEntry c id cycle

/-- A tentative entry whose translation an invalidation has dropped checks again as it commits (R258): what is found now stands, and where
nothing is found and nothing has been read yet the engine begins it anew. -/
def Dev.recheckEntry (d : Dev) (c : Nat) (e : TiqEntry) : Dev :=
  if !e.recheck || !e.begun then d
  else match d.checkEntry c e with
    | some f =>
      (d.walkNotice (d.who c) f).modCore c (fun k => k.modEntry e.id (fun x => { x with recheck := false, done := some (k.refusal e f) }))
    | none => d.modCore c (fun k => k.modEntry e.id (fun x =>
        if x.groups = 0 && x.staged.isNone && x.hdr.isNone then { x with recheck := false, begun := false, arms := [], done := none }
        else { x with recheck := false }))

/-- An entry that the control core retires (R202, R204, R208, R258): the exception its encoding or address raises, or its commit with the
finding held with it. -/
def Dev.commitEntry (d : Dev) (c : Nat) (e : TiqEntry) : Dev :=
  match e.instr with
  | none => let q := d.draw
            q.2.exception c 2 (q.1.truncate 64)
  | some i =>
    let go (d : Dev) : Dev :=
      let d := d.recheckEntry c e
      let d := d.modCore c (fun k => match k.entry? e.id with | some e => k.commit e d.time | none => k)
      if ((d.core c).entry? e.id).any (·.done.isSome) then d.completeEntry c e.id else d
    match i with
    | .cset .. => match csetAddr e.rs1v with
      | .error mc => d.exception c (BitVec.ofNat 64 mc) e.rs1v
      | .ok off =>
        if (d.core c).sc.ldsPoison.contains (off / 64) || (d.core c).sc.ldsPoison.contains (off / 64 + 1) then
          d.scalarPoison c e.rs1v.toNat
        else go d
    | _ => go d

/-- TENSOR_COMMIT (R202): the oldest tentative entry commits, once every older instruction has retired. -/
def tensorCommit (c : Nat) (now : Time) (d : Dev) : Dev :=
  let d := d.advance now
  let k := d.core c
  if k.run.isSome && k.ending.isNone then
    match k.tiq.find? (fun e => !e.committed) with
    | some e => if (match k.sc.wait with | some w => decide (e.id < w.upTo) | none => true) then d.commitEntry c e else d
    | none => d
  else d

/-- TENSOR_COMPLETE (R197). -/
def tensorComplete (c id : Nat) (now : Time) (d : Dev) : Dev := (d.advance now).completeEntry c id

/-- BEAD_LAND (R102): a whole bead from outside the engines of its core is written into an armed position and verified, or
discarded. -/
def beadLand (mpa : Nat) (bytes : List Byte) (sb : BitVec 64) (poison : Bool) (now : Time) (d : Dev) : Dev :=
  let d := d.advance now
  match d.armedAt mpa with
  | some (c, i, _) =>
    if bytes.length = ((d.core c).arms.get {} i).stride then (d.arriveBead mpa bytes (Sideband.ofWord sb) poison).1 else d
  | none => d

end Sys2Proof.Machine
end

