-- ==== Sys2Proof/Machine/Fabric.lean ====
section
/-!
DEFINITION. The fabric switches (13 R341 to R356, R365 to R368): packets as bytes, torus routes, a switch cycle, routing epochs.
-/
namespace Sys2Proof.Machine

/-! ### Packets (R343) -/

/-- One byte into the CRC-16 of R343: polynomial 0x1021, most significant bit first. -/
def crc16Byte (c : BitVec 16) (b : Byte) : BitVec 16 :=
  (List.range 8).foldl (fun c _ => if c.getLsbD 15 then (c <<< 1) ^^^ 0x1021#16 else c <<< 1) (c ^^^ (b.zeroExtend 16 <<< 8))

/-- The CRC-16 of bytes. -/
def crc16 (bs : List Byte) : BitVec 16 := bs.foldl crc16Byte 0xFFFF#16

/-- The 320-bit header of a packet (R343). -/
def Packet.header (p : Packet) : Nat :=
  p.hcrc.toNat + p.xarg.toNat * 2 ^ 16 + p.rsv.toNat * 2 ^ 80 + p.cform % 4 * 2 ^ 121 + b2n p.last * 2 ^ 123 + p.frag % 32 * 2 ^ 124
    + p.addr % 2 ^ 57 * 2 ^ 129 + p.payload.length % 512 * 2 ^ 186 + p.pmask.toNat * 2 ^ 195 + b2n p.sync * 2 ^ 203
    + p.pseq.toNat * 2 ^ 204 + p.gen.toNat * 2 ^ 220 + p.stream % 2 ^ 18 * 2 ^ 226 + p.ts.toNat * 2 ^ 244
    + p.pkey.toNat * 2 ^ 260 + p.src.toNat * 2 ^ 276 + p.dst.toNat * 2 ^ 290 + p.epoch % 4 * 2 ^ 304 + p.age % 64 * 2 ^ 306
    + p.tc % 8 * 2 ^ 312 + p.ptype % 32 * 2 ^ 315

/-- HCRC of a packet (R343): over bytes 2 to 39, with AGE and EPOCH taken as zero. -/
def Packet.crc (p : Packet) : BitVec 16 :=
  crc16 ((leBytes 40 ({ p with age := 0, epoch := 0, hcrc := 0 } : Packet).header).drop 2)

/-- A packet with its HCRC. -/
def Packet.stamped (p : Packet) : Packet := { p with hcrc := p.crc }

/-- The bytes of a packet on a link. -/
def Packet.bytes (p : Packet) : List Byte := leBytes 40 p.header ++ p.payload

/-- Packets that stand in a frame's body, one after another (R316). -/
def parsePackets : Nat → List Byte → List Packet
  | 0, _ => []
  | n + 1, bs =>
    if bs.length < 40 then [] else
    let h := leNat (bs.take 40)
    let f (hi lo : Nat) : Nat := h / 2 ^ lo % 2 ^ (hi + 1 - lo)
    let len := f 194 186
    let p : Packet :=
      { ptype := f 319 315, tc := f 314 312, age := f 311 306, epoch := f 305 304, dst := BitVec.ofNat 14 (f 303 290)
        src := BitVec.ofNat 14 (f 289 276), pkey := BitVec.ofNat 16 (f 275 260), ts := BitVec.ofNat 16 (f 259 244)
        stream := f 243 226, gen := BitVec.ofNat 6 (f 225 220), pseq := BitVec.ofNat 16 (f 219 204), sync := f 203 203 = 1
        pmask := BitVec.ofNat 8 (f 202 195), addr := f 185 129, frag := f 128 124, last := f 123 123 = 1, cform := f 122 121
        rsv := BitVec.ofNat 41 (f 120 80), xarg := BitVec.ofNat 64 (f 79 16), hcrc := BitVec.ofNat 16 (f 15 0), payload := (bs.drop 40).take len }
    p :: parsePackets n (bs.drop (40 + len))

/-- The traffic class that a packet type has (R344); reserved types have none. -/
def typeClass (t : Nat) : Option Nat :=
  if t = 1 || t = 2 then some 0 else if t = 3 || t = 4 then some 1 else if 5 ≤ t && t ≤ 9 then some 2
  else if 0x10 ≤ t && t ≤ 0x17 then some 3 else if t = 0x18 || t = 0x19 then some 4 else if t = 0x1A then some 5 else none

/-- Whether a packet type goes in pair order (R344). -/
def pairType (t : Nat) : Bool := t = 1 || t = 2 || t = 3 || t = 5

/-- Fabric time in whole microseconds. -/
def usOf (t : Time) : Nat := nsOf t / 1000

/-- Elapsed time of a packet (R354). -/
def elapsed (now : Time) (p : Packet) : Nat := (usOf now + 65536 - p.ts.toNat) % 65536

/-- Whether a packet's lifetime has passed (R354). -/
def expired (now : Time) (p : Packet) : Bool := 500 ≤ elapsed now p

/-! ### Configuration values and the torus (R347 to R349) -/

/-- The value of an integer object of the configuration in force, or its default (19 R494). -/
def Dev.cfgNat (d : Dev) (index sub dflt : Nat) : Nat := match d.cfg.force.values.find? (index * 256 + sub) with
  | some bs => leNat bs
  | none => dflt

/-- The value of an integer object that is plain storage of the dictionary (20 R505), or its default. -/
def Dev.dictNat (d : Dev) (index sub dflt : Nat) : Nat := match d.dict.values.find? (index * 256 + sub) with
  | some bs => leNat bs
  | none => dflt

/-- TORUS_DIMS: DX, DY, DZ. -/
def Dev.dims (d : Dev) : Nat × Nat × Nat :=
  let v := d.cfgNat 0x0C82 1 0x00202010
  (v % 256, v / 256 % 256, v / 65536 % 256)

/-- AUX_DIR (R348). -/
def Dev.auxDir (d : Dev) : Nat := d.cfgNat 0x0C82 2 0

/-- Coordinates of a module ID (R347). -/
def coords (m : BitVec 14) : Nat × Nat × Nat := (bits m 3 0, bits m 8 4, bits m 13 9)

/-- The direction that a global port serves: axis 0 to 2 with its sign, or none (R348). -/
def portDir (aux : Nat) (p : Nat) : Option (Nat × Bool) :=
  let a (s : Bool) : Option (Nat × Bool) := if aux ≤ 2 then some (aux, s) else none
  match p / 2 with
  | 0 => a false | 1 => some (1, true) | 2 => some (1, true) | 3 => some (2, true) | 4 => some (2, true) | 5 => some (0, true)
  | 6 => some (0, true) | 7 => a true | 8 => a true | 9 => some (1, false) | 10 => some (1, false) | 11 => some (2, false)
  | 12 => some (2, false) | 13 => some (0, false) | 14 => some (0, false) | _ => a false

/-- Whether a module ID lies in the system (R347). -/
def inTorus (dm : Nat × Nat × Nat) (m : BitVec 14) : Bool :=
  let c := coords m
  c.1 < dm.1 && c.2.1 < dm.2.1 && c.2.2 < dm.2.2

/-- Directions along one axis that shorten the distance, both when the offset is half the ring (R349). -/
def axisDirs (axis n from' dest : Nat) : List (Nat × Bool) :=
  if n = 0 then [] else
  let off := (dest + n - from') % n
  if off = 0 then []
  else if 2 * off = n then [(axis, true), (axis, false)]
  else if 2 * off < n then [(axis, true)] else [(axis, false)]

/-- Directions that shorten the torus distance to a module. -/
def Dev.dirsTo (d : Dev) (m : BitVec 14) : List (Nat × Bool) :=
  let dm := d.dims
  let a := coords d.id
  let b := coords m
  axisDirs 0 dm.1 a.1 b.1 ++ axisDirs 1 dm.2.1 a.2.1 b.2.1 ++ axisDirs 2 dm.2.2 a.2.2 b.2.2

/-- Whether a port faces a module that has announced no ID (R490). -/
def Port.facesUnassigned (p : Port) : Bool := match p.tr.peerIdent with | some b => b.unassigned | none => false

/-- Maltuox outputs of a die that serve one of some directions; ports left out for their cables, or because they face an unassigned
module, do not (R490). -/
def Dev.dieOuts (d : Dev) (die : Nat) (ds : List (Nat × Bool)) : List Nat :=
  (List.range 4).filter (fun i => !(d.ports.get {} (die * 4 + i)).cableBad && !(d.ports.get {} (die * 4 + i)).facesUnassigned &&
    (match portDir d.auxDir (die * 4 + i) with | some x => ds.contains x | none => false))

/-- The census's routing entry for a destination at a die (R349). -/
def Dev.routeDefault (d : Dev) (die : Nat) (m : BitVec 14) : Nat :=
  if m = d.id then 64
  else if !inTorus d.dims m then 0
  else
    let ds := d.dirsTo m
    let outs := d.dieOuts die ds
    if !outs.isEmpty then (outs.map (2 ^ ·)).foldl (· + ·) 0
    else
      let has (k : Nat) : Bool := !(d.dieOuts (k % 8) ds).isEmpty
      match (List.range 4).find? (fun i => has (die + i + 1) || has (die + 7 - i)) with
      | some i => b2n (has (die + i + 1)) * 16 + b2n (has (die + 7 - i)) * 32
      | none => 0

/-- An entry of a routing bank. -/
def Dev.entry (d : Dev) (die : Nat) (b : Bank) (m : BitVec 14) : Nat :=
  if b.computed then d.routeDefault die m else b.table.get 0 m.toNat % 128

/-- The bank of a switch that is loaded for an epoch. -/
def Switch.bank (s : Switch) (e : Nat) : Option Bank :=
  if s.bank0.loaded && s.bank0.epoch = e then some s.bank0
  else if s.bank1.loaded && s.bank1.epoch = e then some s.bank1 else none

/-- A die's switch. -/
def Dev.switch (d : Dev) (die : Nat) : Switch := d.fab.switches.get {} die

/-- A die's switch changed. -/
def Dev.modSwitch (d : Dev) (die : Nat) (f : Switch → Switch) : Dev :=
  { d with fab := { d.fab with switches := d.fab.switches.upd {} die f } }

/-- A port's counters changed. -/
def Dev.modCount (d : Dev) (p : Nat) (f : PortCounters → PortCounters) : Dev :=
  { d with fab := { d.fab with ports := d.fab.ports.upd {} p f } }

/-- A port changed. -/
def Dev.modPort (d : Dev) (p : Nat) (f : Port → Port) : Dev := { d with ports := d.ports.upd {} p f }

/-- Whether a port's key table admits a key (R355, R356). -/
def Dev.portAdmits (d : Dev) (p : Nat) (k : BitVec 16) : Bool := k = 0 || (d.ports.get {} p).keyTable.any (fun e => e.2 = k)

/-- A packet dropped by the key rule at a receiving port, its notice at most once per 10 ms (R356). -/
def Dev.keyDrop (d : Dev) (port : Nat) (k : BitVec 16) : Dev :=
  let c := d.fab.ports.get {} port
  let n := c.keyDrops + 1
  let due := match c.keyNoticed with | some t => reached d.time t (ms 10) | none => true
  if due then
    (d.modCount port (fun c => { c with keyDrops := n, keyDropsNoted := n, keyNoticed := some d.time })).notice 0x0402 0
      (port + k.toNat * 65536) (n - c.keyDropsNoted)
  else d.modCount port (fun c => { c with keyDrops := n })

/-! ### A switch cycle (R350) -/

/-- A packet in arbitration with the input it came by: 0 to 5 transit, 15 the detour queue, 6 to 14 a promoted injection. -/
structure Arb where
  input : Nat := 0
  p : Packet := {}

/-- Whether `a` goes before `b`: AGE, then elapsed time, then rotating input (R350). -/
def Arb.before (now : Time) (cycle : Nat) (a b : Arb) : Bool :=
  if a.p.age ≠ b.p.age then b.p.age < a.p.age
  else if elapsed now a.p ≠ elapsed now b.p then elapsed now b.p < elapsed now a.p
  else (a.input + cycle) % 16 ≤ (b.input + cycle) % 16

/-- A packet put in its place in a sorted list. -/
def arbInsert (now : Time) (cycle : Nat) (a : Arb) : List Arb → List Arb
  | [] => [a]
  | b :: bs => if a.before now cycle b then a :: b :: bs else b :: arbInsert now cycle a bs

/-- The outputs of a mask. -/
def maskOuts (m : Nat) : List Nat := (List.range 7).filter (fun i => m / 2 ^ i % 2 = 1)

/-- rr_pick (R350): the next member after the last output chosen. -/
def rrPick (last : Nat) (set : List Nat) : Option Nat := ((List.range 7).map (fun i => (last + 1 + i) % 7)).find? set.contains

/-- A packet counted as sent on a Maltuox port. -/
def Dev.countTx (d : Dev) (port : Nat) (p : Packet) : Dev :=
  d.modCount port (fun c => { c with txPkts := c.txPkts.upd 0 p.tc (· + 1), txBytes := c.txBytes.upd 0 p.tc (· + 40 + p.payload.length) })

/-- The flits of a packet on VC0 of a package link (R21), placed by its stream. -/
def Packet.flits (p : Packet) : List Flit := packetFlits 35 0 p.stream (p.pmask ≠ 0) true p.bytes

/-- A packet on VC0 of the ring link from a die to a neighbour (R21, R341). -/
def Dev.ringSend (d : Dev) (a b : Nat) (p : Packet) : Dev := d.pkgQueue (ringSide a b).1 4 (ringSide a b).2 0 p.stream p.flits

/-- The die over whose links a die's traffic with the hub goes: itself, or a ring neighbour's (R25). -/
def Dev.hubVia (d : Dev) (die : Nat) : Nat := ((d.hubPath die).bind List.getLast?).getD die

/-- Whether a die's HUB output is free (R341): its path to the hub works and the ejection queue there has room. -/
def Dev.hubFree (d : Dev) (die : Nat) : Bool := d.reachesHub die && d.ejecting (d.hubVia die) < 8

/-- Outputs of a die that are free whatever the Maltuox ports offer: CW and CCW where the ring works, HUB over the die's own links. -/
def Dev.innerFree (d : Dev) (die : Nat) : List Nat :=
  (if d.ringWorks die ((die + 1) % 8) then [4] else []) ++ (if d.ringWorks die ((die + 7) % 8) then [5] else [])
    ++ (if d.hubLinked die && d.hubFree die then [6] else [])

/-- The outputs of a routing entry; where a die has no link of its own to the hub, HUB is the ring neighbour's side (R25). -/
def Dev.entryOuts (d : Dev) (die ent : Nat) : List Nat :=
  (maskOuts ent).flatMap (fun o =>
    if o = 6 && !d.hubLinked die then
      (match d.hubPath die with | some (_ :: n :: _) => [if (die + 1) % 8 = n then 4 else 5] | _ => [])
    else [o])

/-- A packet sent on an output of a die's switch: to the port's frame, or as flits to the next die's switch or to the hub. -/
def Dev.sendOut (d : Dev) (die o : Nat) (p : Packet) : Dev :=
  let d := d.modSwitch die (fun s => { s with rr := o })
  if o < 4 then
    (d.countTx (die * 4 + o) p).modPort (die * 4 + o) (fun q => { q with fr := { q.fr with frame := q.fr.frame ++ [p] } })
  else if o = 4 then d.ringSend die ((die + 1) % 8) p
  else if o = 5 then d.ringSend die ((die + 7) % 8) p
  else
    let via := d.hubVia die
    (d.pkgQueue (via * 8) 8 0 0 p.stream p.flits).modSwitch via (fun s => { s with ejectMax := max s.ejectMax (d.ejecting via + 1) })

/-- Whether an output is admissible to a key at a die (R356). -/
def Dev.outAdmits (d : Dev) (die : Nat) (k : BitVec 16) (o : Nat) : Bool := 4 ≤ o || d.portAdmits (die * 4 + o) k

/-- A packet restamped to the newest live epoch where its own is not loaded (R366), with the bank that routes it. -/
def Dev.routeBank (d : Dev) (die : Nat) (p : Packet) : Packet × Option Bank × Dev :=
  match (d.switch die).bank p.epoch with
  | some b => (p, some b, d)
  | none => ({ p with epoch := d.fab.epoch }, (d.switch die).bank d.fab.epoch,
      d.modSwitch die (fun s => { s with restamps := s.restamps + 1 }))

/-- A HALYARD packet copied to the queues of its child outputs (R368), but not to a port that does not admit its key (R374). -/
def Dev.halyardCopy (d : Dev) (die input : Nat) (p : Packet) : Dev :=
  let e := (d.switch die).halyardTable.get 0 (bits p.xarg 7 0 % 64)
  let drop (d : Dev) : Dev := if input < 4 then d.modCount (die * 4 + input) (fun c => { c with halyardBad := c.halyardBad + 1 })
    else d.modSwitch die (fun s => { s with halyardDrops := s.halyardDrops + 1 })
  if !bit e 15 || bits e 10 8 ≠ input then drop d
  else (maskOuts (bits e 6 0)).foldl (fun (d : Dev) o =>
    if !d.outAdmits die p.pkey o then d.modCount (die * 4 + o) (fun c => { c with keyDrops := c.keyDrops + 1 })
    else if 8 ≤ ((d.switch die).halyardQ.get [] o).length then d.modSwitch die (fun s => { s with halyardDrops := s.halyardDrops + 1 })
    else d.modSwitch die (fun s => { s with halyardQ := s.halyardQ.upd [] o (· ++ [{ p with age := min 63 (p.age + 1) }]) })) d

/-- One packet arbitrated (R350): productive, else deflected, else to the detour queue; the outputs still free come back. -/
def Dev.arbOne (die : Nat) (st : Dev × List Nat) (a : Arb) : Dev × List Nat :=
  let d := st.1
  let free := st.2
  if a.p.ptype = 0x1A then (d.halyardCopy die a.input a.p, free)
  else
    let r := d.routeBank die a.p
    let p := r.1
    let d := r.2.2
    let ent := match r.2.1 with | some b => d.entry die b p.dst | none => 0
    if ent = 0 then (d.modSwitch die (fun s => { s with unreachable := s.unreachable + 1 }), free)
    else
      let adm := free.filter (d.outAdmits die p.pkey)
      let prod := adm.filter (d.entryOuts die ent).contains
      match rrPick (d.switch die).rr (if prod.isEmpty then adm else prod) with
      | some o =>
        let d := if prod.isEmpty && o < 4 then d.modCount (die * 4 + o) (fun c => { c with deflect := c.deflect + 1 }) else d
        (d.sendOut die o { p with age := min 63 (p.age + 1) }, free.filter (· ≠ o))
      | none =>
        if 8 ≤ (d.switch die).detour.length then (d.modSwitch die (fun s => { s with detourDrops := s.detourDrops + 1 }), free)
        else (d.modSwitch die (fun s => { s with detour := s.detour ++ [p], detours := s.detours + 1 }), free)

/-- A packet that arrives at arbitration: expired, damaged, reserved or inadmissible ones are dropped and counted (R343, R344,
R354, R356). -/
def Dev.arbCheck (d : Dev) (die : Nat) (a : Arb) : Dev × Option Arb :=
  let port := die * 4 + a.input
  if a.p.crc ≠ a.p.hcrc || (typeClass a.p.ptype).isNone then (d.modSwitch die (fun s => { s with hcrcDrops := s.hcrcDrops + 1 }), none)
  else if expired d.time a.p then
    (if a.input < 4 then d.modCount port (fun c => { c with expired := c.expired + 1 })
     else d.modSwitch die (fun s => { s with expiredDrops := s.expiredDrops + 1 }), none)
  else if a.input < 4 && !d.portAdmits port a.p.pkey then (d.keyDrop port a.p.pkey, none)
  else (d, some a)

/-- The injection queue whose head has waited longest, 256 cycles or more, promoted (R350, R351). -/
def Dev.promote (d : Dev) (die : Nat) : Dev :=
  let s := d.switch die
  if s.promoted.isSome || !s.detour.isEmpty then d else
  let best := s.inj.foldl (fun (b : Option (Nat × Nat)) p =>
    if 256 ≤ p.2.wait && !p.2.q.isEmpty && (match b with | some x => decide (x.2 < p.2.wait) | none => true) then some (p.1, p.2.wait) else b) none
  match best with
  | some (i, _) => match (s.inj.get {} i).q with
    | p :: ps => d.modSwitch die (fun s => { s with
        promoted := some (i, { p with age := 0 }), inj := s.inj.upd {} i (fun q => { q with q := ps, wait := 0 }) })
    | [] => d
  | none => d

/-- Free outputs send the heads of their halyard queues (R368); expired copies are dropped. -/
def Dev.serveHalyards (die : Nat) (st : Dev × List Nat) (o : Nat) : Dev × List Nat :=
  let d := st.1
  match ((d.switch die).halyardQ.get [] o) with
  | p :: ps =>
    if expired d.time p then
      (d.modSwitch die (fun s => { s with halyardQ := s.halyardQ.set o ps, expiredDrops := s.expiredDrops + 1 }), st.2)
    else if (st.2.contains o || (o = 6 && !d.hubLinked die && d.hubFree die)) && d.outAdmits die p.pkey o then
      ((d.modSwitch die (fun s => { s with halyardQ := s.halyardQ.set o ps })).sendOut die o p, st.2.filter (· ≠ o))
    else st
  | [] => st

/-- One injection queue's head sent by a productive free output, or kept and counted as stalled (R350, R351). -/
def Dev.injectOne (die : Nat) (st : Dev × List Nat) (i : Nat) : Dev × List Nat :=
  let d := st.1
  match ((d.switch die).inj.get {} i).q with
  | [] => st
  | p :: ps =>
    let pop (d : Dev) : Dev := d.modSwitch die (fun s => { s with inj := s.inj.upd {} i (fun q => { q with q := ps, wait := 0 }) })
    let stall (d : Dev) : Dev := d.modSwitch die (fun s => { s with inj := s.inj.upd {} i (fun q => { q with wait := q.wait + 1, stall := q.stall + 1 }) })
    let p := { p with age := 0 }
    if p.crc ≠ p.hcrc then ((pop d).modSwitch die (fun s => { s with hcrcDrops := s.hcrcDrops + 1 }), st.2)
    else if expired d.time p then ((pop d).modSwitch die (fun s => { s with expiredDrops := s.expiredDrops + 1 }), st.2)
    else if p.ptype = 0x1A then ((pop d).halyardCopy die i p, st.2)
    else
      let r := d.routeBank die p
      let ent := match r.2.1 with | some b => d.entry die b p.dst | none => 0
      let prod := (st.2.filter (d.outAdmits die p.pkey)).filter (d.entryOuts die ent).contains
      if ent = 0 then ((pop r.2.2).modSwitch die (fun s => { s with unreachable := s.unreachable + 1 }), st.2)
      else match rrPick (d.switch die).rr prod with
        | some o => ((pop r.2.2).sendOut die o r.1, st.2.filter (· ≠ o))
        | none => (stall d, st.2)

/-- Whether a die's halyard table names the hub as the parent of a HALYARD packet's tree (R367). -/
def Dev.hubParent (d : Dev) (p : Packet) (die : Nat) : Bool :=
  let e := (d.switch die).halyardTable.get 0 (bits p.xarg 7 0 % 64)
  bit e 15 && bits e 10 8 = 6

/-- Whether the hub hands a packet to a die's switch: a HALYARD packet to one whose table names the hub as parent, where there is one;
any other to a die with a link of its own. -/
def Dev.hubGives (d : Dev) (die : Nat) (p : Packet) : Bool :=
  if p.ptype = 0x1A then d.hubParent p die || (die = 0 && !((List.range 8).any (d.hubParent p))) else d.hubLinked die

/-- Room for packets from the hub in a die's HUB injection queue, beside those on their way to it (R341). -/
def Dev.injRoom (d : Dev) (die : Nat) : Nat :=
  if d.reachesHub die then 8 - (((d.switch die).inj.get {} 6).q.length + d.coming (d.hubVia die)) else 0

/-- A packet from the hub on its way to a die's HUB injection queue, over the die's links or a ring neighbour's (R21, R25). -/
def Dev.toDie (d : Dev) (die : Nat) (p : Packet) : Dev := d.pkgQueue (d.hubVia die * 8) 8 1 0 p.stream p.flits

/-- Hub packets outside the pair order go out to a die's HUB injection queue, oldest first, as far as it has room for them and for those
on their way. -/
def Dev.fillHub (d : Dev) (die : Nat) : Dev :=
  let mine := d.fab.hubOut.takeWhile (d.hubGives die)
  let n := min (d.injRoom die) mine.length
  ((d.fab.hubOut.take n).map Packet.stamped).foldl (fun (d : Dev) p => d.toDie die p) { d with fab := { d.fab with hubOut := d.fab.hubOut.drop n } }

/-- A packet from the hub comes to a die's end of a link: into the HUB injection queue of that die, or of the cut-off die whose copy it
is (R25, R341). -/
def Dev.fromHub (d : Dev) (die : Nat) (p : Packet) : Dev :=
  let cut (t : Nat) : Bool := !d.hubLinked t && d.hubParent p t && d.hubVia t = die
  let t := if p.ptype = 0x1A && !d.hubParent p die then ((List.range 8).find? cut).getD die else die
  d.modSwitch t (fun s => { s with inj := s.inj.upd {} 6 (fun q => { q with q := q.q ++ [p], max := max q.max (q.q.length + 1) }) })

/-- Body bytes of a port's current frame. -/
def Framing.used (f : Framing) : Nat := (f.frame.map (fun p => 40 + p.payload.length)).foldl (· + ·) 0

/-- GCOUNT of a port's transmit direction at a time (R315): a group lasts 102.4 ns over the number of lanes. -/
def Port.groupNow (p : Port) (now : Time) : BitVec 32 :=
  p.fr.gcount + BitVec.ofNat 32 (nsBetween p.fr.gAt now * 10 * ((List.range 4).filter (fun i => bit p.activeLanes i)).length / 1024)

/-- The 16 header bytes of a frame (R317). -/
def Port.frameHeader (p : Port) (ftype : Nat) (fseq : BitVec 12) (nak : Bool) (len : Nat) : List Byte :=
  leBytes 16 (ftype * 2 ^ 124 + fseq.toNat * 2 ^ 112 + p.fr.fack.toNat * 2 ^ 100 + b2n nak * 2 ^ 99 + b2n p.encOn * 2 ^ 98
    + p.fr.txCount.toNat % 65536 * 2 ^ 80 + len * 2 ^ 71)

/-- Bytes as numbers, for the tag of R334. -/
def tagInput (bs : List Byte) : List Nat := bs.map BitVec.toNat

/-- The 512 bytes of a frame as sent (R316, R331, R333, R334): DATA bodies encrypted and every frame tagged with encryption on. -/
def Port.frameBytes (p : Port) (ftype : Nat) (fseq : BitVec 12) (nak : Bool) (body : List Byte) : List Byte :=
  let h := p.frameHeader ftype fseq nak body.length
  let room := if p.encOn then 476 else 492
  let plain := body ++ List.replicate (room - body.length) 0
  let iv := p.fr.txSalt * 2 ^ 64 + p.fr.txCount.toNat
  let sent := if p.encOn && ftype = 1 then Config.gcmBody p.fr.txKey iv plain else plain
  let all := h ++ sent ++ (if p.encOn then leBytes 16 (Config.gcmTag p.fr.txKey iv (tagInput (h ++ sent))).toNat else [])
  all ++ leBytes 4 (crc32c all).toNat

/-- The 10 bytes of a group's marker (R315): its count, the mask of the active lanes, their CRC. -/
def Port.markerBytes (p : Port) (g : BitVec 32) : List Byte :=
  let h := leBytes 4 g.toNat ++ leBytes 2 p.activeLanes.toNat
  h ++ leBytes 4 (crc32c h).toNat

/-- A frame's turn on a port: the marker of its group goes out before the first frame shown of it (R315), and the transmission counter
goes up by one (R333). -/
def Dev.turn (d : Dev) (port : Nat) : Dev :=
  let p := d.ports.get {} port
  let g := p.groupNow d.time
  let d := d.modPort port (fun p => { p with fr := { p.fr with txCount := p.fr.txCount + 1, sentGroup := some g } })
  if p.fr.sentGroup = some g then d else d.emit (.marker port (p.markerBytes g))

/-- A frame sent on a port. -/
def Dev.sendFrame (d : Dev) (port ftype : Nat) (fseq : BitVec 12) (nak : Bool) (body : List Byte) : Dev :=
  (d.turn port).emit (.frame port ((d.ports.get {} port).frameBytes ftype fseq nak body))

/-- A management frame sent on a port (R318, R335), shown as its fields. -/
def Dev.sendMgmt (d : Dev) (port : Nat) (o : Output) : Dev := (d.turn port).emit o

/-- The body of a DATA frame: its packets one after another (R316). -/
def frameBody (ps : List Packet) : List Byte := (ps.map Packet.bytes).flatten

/-- A port's current frame is sent, and held for replay (R316, R319). -/
def Dev.closeFrame (d : Dev) (port : Nat) : Dev :=
  let p := d.ports.get {} port
  if p.fr.frame.isEmpty || p.state ≠ .active && p.state ≠ .width || 1024 ≤ p.fr.replay.length then d
  else
    (d.modPort port (fun p => { p with fr := { p.fr with
      replay := p.fr.replay ++ [{ fseq := p.fr.nextFseq, packets := p.fr.frame }], nextFseq := p.fr.nextFseq + 1, frame := []
      ackAt := if p.fr.replay.isEmpty then d.time else p.fr.ackAt } })).sendFrame port 1 p.fr.nextFseq false (frameBody p.fr.frame)

/-- Whether a port may offer a slot (R321, R489): its module holds an ID, it is ACTIVE with no retrain agreed, its replay buffer has
a place for the frame, and the current frame has room for the largest packet. -/
def Dev.offers (d : Dev) (port : Nat) : Bool :=
  let p := d.ports.get {} port
  d.boot.moduleId ≠ 0xFFFF && p.state = .active && p.tr.switchGroup.isNone && p.fr.replay.length < 1024
    && p.fr.used + 424 ≤ (if p.encOn then 476 else 492)

/-- SWITCH_CYCLE (R350): one cycle of a die's switch; `slots` are the Maltuox ports that stay within their current
frame slot; the frame of any other port is sent. -/
def switchCycle (die : Nat) (slots : BitVec 4) (now : Time) (d : Dev) : Dev :=
  let d := ((d.advance now).fillHub die).promote die
  let d := (List.range 4).foldl (fun (d : Dev) i =>
    if bit slots i && d.offers (die * 4 + i) then d else d.closeFrame (die * 4 + i)) d
  let ports := (List.range 4).filter (fun i => bit slots i && d.offers (die * 4 + i))
  let d := ((List.range 4).filter (fun i => !ports.contains i)).foldl (fun (d : Dev) i =>
    d.modCount (die * 4 + i) (fun c => { c with noSlot := c.noSlot + 1 })) d
  let s := d.switch die
  let free := ports ++ d.innerFree die
  let arr := (List.range 6).filterMap (fun i => ((s.inputs.get [] i).head?).map (fun p => ({ input := i, p := p } : Arb)))
  let extra := match s.detour, s.promoted with
    | p :: _, _ => [({ input := 15, p := p } : Arb)]
    | [], some (i, p) => [{ input := i, p := p }]
    | [], none => []
  let d := d.modSwitch die (fun s => { s with
    inputs := s.inputs.mapv (fun _ l => l.drop 1), promoted := if s.detour.isEmpty then none else s.promoted
    detour := s.detour.drop 1, cycle := s.cycle + 1 })
  let st := (arr ++ extra).foldl (fun (st : Dev × List Arb) a =>
    let r := st.1.arbCheck die a
    (r.1, match r.2 with | some a => arbInsert now s.cycle a st.2 | none => st.2)) (d, [])
  let r := st.2.foldl (Dev.arbOne die) (st.1, free)
  let r := (List.range 7).foldl (Dev.serveHalyards die) r
  let r := ((List.range 9).map (fun i => 6 + (s.injRR + i) % 9)).foldl (Dev.injectOne die) r
  r.1.modSwitch die (fun s => { s with injRR := (s.injRR + 1) % 9 })

/-- INJECTION_PROMOTE (R351): the longest-waiting head of 256 cycles or more joins the next arbitration. -/
def injectionPromote (die : Nat) (now : Time) (d : Dev) : Dev := (d.advance now).promote die

/-! ### Routing epochs (R365) -/

/-- ROUTE_STATE: 0 STEADY, 1 ARMED, 2 DRAINING. -/
def Dev.routeState (d : Dev) : Nat := if d.fab.retireAt.isSome then 2 else if d.fab.armed.isSome then 1 else 0

/-- ROUTE_STAGE (R365): a die's idle bank takes a whole table for the next epoch; a short one leaves the bank incomplete, and
while the old bank drains there is no idle bank. -/
def routeStage (die : Nat) (table : List Byte) (now : Time) (d : Dev) : Dev :=
  let d := d.advance now
  if d.fab.retireAt.isSome then d.reply 0x0431 0 0
  else
    let whole := table.length = 16384
    let b : Bank := { loaded := whole, epoch := (d.fab.epoch + 1) % 4, table := table.zipIdx.filterMap (fun (v, i) => if v = 0 then none else some (i, v.toNat)) }
    let d := d.modSwitch die (fun s =>
      if s.bank0.loaded && s.bank0.epoch = d.fab.epoch then { s with bank1 := b, staged := whole } else { s with bank0 := b, staged := whole })
    d.reply 0 0 0

/-- ROUTE_ARM_TIME (R365); a change armed before, whose banks have not been retired, refuses it. -/
def routeArmTime (t : Time) (now : Time) (d : Dev) : Dev :=
  let d := d.advance now
  if d.fab.retireAt.isSome || d.fab.armed.isSome then d.reply 0x0431 0 0
  else if !timeAhead d.time t (ms 1) || !(List.range 8).all (fun k => (d.switch k).staged) then d.reply 0x0430 0 0
  else ({ d with fab := { d.fab with armed := some t } }).reply 0 0 0

/-- EPOCH_SWITCH (R365): at T the egress stamps the next epoch, and the old banks begin to drain. -/
def epochSwitch (now : Time) (d : Dev) : Dev :=
  let d := d.advance now
  match d.fab.armed with
  | some t =>
    if timeLe t d.time then
      { d with fab := { d.fab with epoch := (d.fab.epoch + 1) % 4, armed := none, retireAt := some (t + us (d.cfgNat 0x0C80 3 200)) } }
    else d
  | none => d

/-- EPOCH_RETIRE (R365): each switch retires its old bank. -/
def epochRetire (now : Time) (d : Dev) : Dev :=
  let d := d.advance now
  match d.fab.retireAt with
  | some t =>
    if timeLe t d.time then
      let retire (b : Bank) : Bank := if b.epoch = d.fab.epoch then b else {}
      (List.range 8).foldl (fun (d : Dev) k => d.modSwitch k (fun s => { s with bank0 := retire s.bank0, bank1 := retire s.bank1, staged := false }))
        { d with fab := { d.fab with retireAt := none } }
    else d
  | none => d

end Sys2Proof.Machine
end

