-- ==== Sys2Proof/Machine/PairOrder.lean ====
section
/-!
DEFINITION. Pair order between modules (10 R272, R273; 13 R345, R346, R357 to R364): SEND and RECV, the hub egress, the ingress
unit, acknowledgements, losses, skips and refusals.
-/
namespace Sys2Proof.Machine

/-! ### Operations and their packets -/

/-- Whether a cause is a translation's, so that TCSX holds an address (R198). -/
def xlateCause (c : Cause) : Bool := (0x0201 ≤ c.toNat && c.toNat ≤ 0x0220) || c = 0x0844

/-- A cause that one packet of an operation meets: the first one stands, with the lowest refused address (R261, R360). -/
def Completion.merge (f : Completion) (cause : Cause) (va : Word) : Completion :=
  if cause = 0 then f
  else if f.cause = 0 then { f with cause := cause, tcsx := if xlateCause cause then va else 0 }
  else if xlateCause f.cause && xlateCause cause && va.toNat < f.tcsx.toNat then { f with tcsx := va } else f

/-- One packet of a SEND or a SIGNAL is done with: the operation completes with the last one (R360). -/
def Dev.packetDone (d : Dev) (c : Nat) (e : TiqEntry) (cause : Cause) (va : Word) : Dev :=
  let w := e.waiting.drop 1
  let f := e.first.merge cause va
  let d := d.modCore c (fun k => k.modEntry e.id (fun e => { e with waiting := w, first := f }))
  if w.isEmpty && !e.waiting.isEmpty then
    (if e.transfer then d.streamDone e.stream else d).finish c e.id f
  else d

/-- A RECV's bead is done with; the RECV completes with the last one (R364). -/
def Dev.recvDone (d : Dev) (o : RecvOp) (pos : Nat) (cause : Cause) (va : Word) : Dev :=
  let rest := o.remaining.filter (· ≠ pos)
  let others := d.fab.recvs.filter (fun r => !(r.core = o.core && r.id = o.id))
  match (d.core o.core).entry? o.id with
  | none => { d with fab := { d.fab with recvs := others } }
  | some e =>
    let f := e.first.merge cause va
    let d := d.modCore o.core (fun k => k.modEntry o.id (fun e => { e with first := f }))
    if rest.isEmpty then
      (({ d with fab := { d.fab with recvs := others } }).streamDone o.stream).finish o.core o.id f
    else { d with fab := { d.fab with recvs := others ++ [{ o with remaining := rest }] } }

/-- The bead position of a RECV that a source address is. -/
def TiqEntry.recvPos (e : TiqEntry) (addr : Nat) : Option Nat := match e.instr with
  | some (.recv _ tds _) => let s := e.desc tds
    if s.base ≤ addr && (addr - s.base) % s.bstride = 0 then some ((addr - s.base) / s.bstride) else none
  | _ => none

/-- The fault of a scalar load whose request was refused or lost (R260, R261). -/
def Dev.loadFault (d : Dev) (c : Nat) (va : Word) : Dev :=
  if (match (d.core c).sc.wait with | some w => w.tag.isSome | none => false) then
    (d.modCore c (fun k => { k with sc := { k.sc with wait := none } })).exception c 5 va
  else d

/-- A cause noted with the RFLUSHes that wait for a line (R232, R273). -/
def Dev.flushLost (d : Dev) (p : Packet) (cause : Cause) (va : Word) : Dev :=
  if cause = 0 then d else
  { d with cores := d.cores.mapv (fun c k => { k with tiq := k.tiq.map (fun e => match e.instr with
      | some (.rflush ..) =>
        if e.done.isNone && !e.waiting.isEmpty && (d.keyOf c) = p.pkey && overlap p.addr 64 e.rs1v.toNat e.rs2v.toNat then
          { e with first := e.first.merge cause va } else e
      | _ => e) }) }

/-- A posted packet leaves its window acknowledged (cause 0), refused or lost: what its operation makes of it (R360, R361). -/
def Dev.settle (d : Dev) (q : Posted) (cause : Cause) (va : Word) : Dev :=
  let d := if q.p.ptype = 2 then
      (let d := d.flushLost q.p cause va
       d.cores.keys.foldl Dev.rflushAgain d)
    else d
  match q.owner with
  | .tensor c id => match (d.core c).entry? id with
    | none => d
    | some e =>
      if q.p.ptype = 3 then
        (if cause = 0 then d else match d.fab.recvs.find? (fun r => r.core = c && r.id = id), e.recvPos q.p.addr with
          | some o, some pos => d.recvDone o pos cause va
          | _, _ => d)
      else d.packetDone c e cause va
  | .entrySignal qi i => { d with fe := { d.fe with queues := d.fe.queues.upd {} qi (fun x => { x with
      flight := x.flight.map (fun f => if f.index = i then { f with sigDone := some cause } else f) }) } }
  | .load c => if cause = 0 then d else d.loadFault c va
  | .host i => (d.host.reads.filter (fun h => h.id = i && cause ≠ 0)).foldl (fun (d : Dev) h => d.hostReadFail h cause) d
  | .clasp p => d.closeFailed p cause
  | _ => d

/-! ### SEND and RECV -/

/-- A record cut into fragments of 384 bytes with their poisoned lines (R345). -/
def fragments : Nat → Nat → List Byte → List Nat → List (Nat × Bool × List Byte × BitVec 8)
  | 0, _, _, _ => []
  | n + 1, i, bs, pz =>
    let rest := bs.drop 384
    let mask : BitVec 8 := BitVec.ofNat 8 (((List.range 6).filter (fun k => pz.contains (6 * i + k))).map (2 ^ ·) |>.foldl (· + ·) 0)
    (i, rest.isEmpty, bs.take 384, mask) :: (if rest.isEmpty then [] else fragments n (i + 1) rest pz)

/-- The packets that carry one bead (R75, R345): a record, compressed where its content allows; a poisoned line of a compressed bead marks
the whole record. A bead whose sideband does not tell its own size goes raw, since no record of it could be restored (R76, R77; DESIGN
CHOICE, log entry 116). -/
def beadRecordPackets (bytes : List Byte) (word : BitVec 64) (pz : List Nat) (base : Packet) : List Packet :=
  let sb := Sideband.ofWord word
  let r := if sb.size = bytes.length then beadRecord ((Fmt.ofCode sb.fmt.toNat).getD .fp32) sb bytes else (0, bytes)
  let pz := if r.1 = 0 || pz.isEmpty then pz else List.range (r.2.length / 64)
  (fragments 22 0 r.2 pz).map (fun f => { base with
    frag := f.1, last := f.2.1, cform := r.1, xarg := base.xarg ||| sb.word, payload := f.2.2.1, pmask := f.2.2.2 })

/-- The packets of one bead as it lies at an address. -/
def Dev.beadPackets (d : Dev) (who : Accessor) (va n : Nat) (base : Packet) : List Packet :=
  beadRecordPackets (d.readVa who va n) (d.sideband (d.mpa who va)).word (d.poisonLines who va n) base

/-- The bead of tensor `x` that holds what bead `b` of tensor `s` holds, the two differing at most in STRIDE (R224). -/
def Desc.sameBead (s x : Desc) (b : Nat) : Nat := match (List.range 2048).findSome? (s.coord b) with
  | some (r, c) => (x.place r c).1
  | none => b

/-- Whether an older SEND of a core has not left (R224). -/
def Core.sendBefore (k : Core) (id : Nat) : Bool :=
  (k.older id).any (fun o => match o.instr with
    | some (.send ..) => o.waiting.isEmpty && o.done.isNone
    | _ => false)

/-- Room for one more SEND or RECV on a stream (R364). -/
def Dev.streamRoom (d : Dev) (sid : Nat) : Bool := (d.fe.streams.get {} sid).inFlight < 16

/-- One more SEND or RECV in flight on a stream. -/
def Dev.streamUse (d : Dev) (sid : Nat) : Dev :=
  { d with fe := { d.fe with streams := d.fe.streams.upd {} sid (fun s => { s with inFlight := s.inFlight + 1 }) } }

/-- The header fields that a core's transfer packets share. -/
def Dev.transferBase (d : Dev) (c : Nat) (e : TiqEntry) (ptype tc : Nat) : Packet :=
  { ptype := ptype, tc := tc, dst := (d.fe.streams.get {} e.stream).dest, pkey := d.keyOf c, stream := e.stream, gen := BitVec.ofNat 6 (bits e.rs1v 23 18) }

/-- SEND (R224): its beads are read and verified (R74, R215), then go to the egress in increasing bead index, fragments of one bead
together. A bead that does not match the descriptor ends it with nothing sent. -/
def send (c id : Nat) (errs : List EccEvent) (now : Time) (d : Dev) : Dev :=
  let w := ((d.advance now).eccHeld c id errs).working c id
  match w.2 with
  | none => w.1
  | some e => match e.instr with
    | some (.send tdd tds _) =>
      let d := w.1
      if !e.waiting.isEmpty || (d.core c).sendBefore id || !d.mayRead c e || !d.streamRoom e.stream then d
      else
        let s := e.desc tds
        let x := e.desc tdd
        let r := d.readBeads (d.who c) s s.copyBeads []
        match r.2 with
        | .error cause => r.1.finish c id { cause := cause }
        | .ok ms =>
          let d := r.1
          let base := d.transferBase c e 1 0
          let ps := ms.flatMap (fun p => beadRecordPackets (p.2.bytes s) p.2.side p.2.pz { base with addr := x.base + s.sameBead x p.1 * x.bstride })
          let n := (ms.vals.filter (·.unrec)).length
          let d := (d.streamUse e.stream).modCore c (fun k => k.modEntry id (fun e => { e with
            waiting := List.range ps.length, reads := { e.reads with retries := e.reads.retries + n } }))
          ps.foldl (fun d p => d.egress p (.tensor c id)) d
    | _ => d

/-- RECV (R224, R364): one read request per bead under a request tag. -/
def recv (c id : Nat) (now : Time) (d : Dev) : Dev :=
  let w := (d.advance now).working c id
  match w.2 with
  | none => w.1
  | some e => match e.instr with
    | some (.recv _ tds _) =>
      let d := w.1
      if !e.waiting.isEmpty || !d.mayWrite c e || !d.streamRoom e.stream then d
      else
        let s := e.desc tds
        let tag := d.fab.nextReqTag % 256
        let o : RecvOp := { core := c, id := id, stream := e.stream, tag := tag, lastReq := d.time, remaining := s.copyBeads }
        let base := d.transferBase c e 3 1
        let d := { d with fab := { d.fab with nextReqTag := tag + 1, recvs := d.fab.recvs ++ [o] } }
        let d := (d.streamUse e.stream).modCore c (fun k => k.modEntry id (fun e => { e with waiting := [0] }))
        s.copyBeads.foldl (fun d b => d.egress { base with
          addr := s.base + b * s.bstride, xarg := BitVec.ofNat 64 (s.bstride + tag * 2 ^ 24) } (.tensor c id)) d
    | _ => d

/-! ### The hub egress -/

/-- Pair state toward a module. -/
def Dev.out' (d : Dev) (m : BitVec 14) : PairOut := d.fab.out.get {} m.toNat
/-- Pair state toward a module changed. -/
def Dev.modOut (d : Dev) (m : BitVec 14) (f : PairOut → PairOut) : Dev := { d with fab := { d.fab with out := d.fab.out.upd {} m.toNat f } }
/-- Pair state from a module. -/
def Dev.inn' (d : Dev) (m : BitVec 14) : PairIn := d.fab.inn.get {} m.toNat
/-- Pair state from a module changed. -/
def Dev.modInn (d : Dev) (m : BitVec 14) (f : PairIn → PairIn) : Dev := { d with fab := { d.fab with inn := d.fab.inn.upd {} m.toNat f } }

/-- The switch and injection queue that a packet enters by (R342): a core's traffic its cluster's queue, the hub's the HUB queue of a
die. -/
def Posted.queue (q : Posted) (die : Nat) : Nat × Nat :=
  match q.owner with
  | .tensor c _ => (c / 64, 7 + c % 64 / 8)
  | .load c => (c / 64, 7 + c % 64 / 8)
  | _ => (die, 6)

/-- EGRESS_POST (R357): the first packet whose destination window has room is posted; one whose destination is unreachable from its
switch completes with 0x0405. -/
def egressPost (die : Nat) (now : Time) (d : Dev) : Dev :=
  let d := d.advance now
  match d.fab.egressWait.find? (fun q => (d.out' q.p.dst).window.length < 8192) with
  | none => d
  | some q =>
    let at' := q.queue die
    let rest := d.fab.egressWait.erase q
    let ent := match (d.switch at'.1).bank d.fab.epoch with | some b => d.entry at'.1 b q.p.dst | none => 0
    if ent = 0 then ({ d with fab := { d.fab with egressWait := rest } }).settle q 0x0405 0
    else
      let inj := (d.switch at'.1).inj.get {} at'.2
      if (if at'.2 = 6 then !d.hubLinked at'.1 || d.injRoom at'.1 = 0 else 8 ≤ inj.q.length) then d
      else
        let o := d.out' q.p.dst
        let p := ({ q.p with src := d.id, ts := BitVec.ofNat 16 (usOf d.time), pseq := o.next, epoch := d.fab.epoch, sync := o.sync, age := 0 } : Packet).stamped
        let d := { d with fab := { d.fab with egressWait := rest } }
        let d := d.modOut q.p.dst (fun o => { o with next := o.next + 1, window := o.window ++ [{ q with p := p, time := d.time }] })
        let recvs := d.fab.recvs.map (fun (r : RecvOp) => if p.ptype = 3 && q.owner = Owner.tensor r.core r.id then { r with lastReq := d.time } else r)
        let d := { d with fab := { d.fab with recvs := recvs } }
        if at'.2 = 6 then d.toDie at'.1 p
        else d.modSwitch at'.1 (fun s => { s with inj := s.inj.set at'.2 { inj with q := inj.q ++ [p], max := max inj.max (inj.q.length + 1) } })

/-! ### The ingress unit -/

/-- Whether a key may enter the module (R356): the system's, or that of a partition with rigs here. -/
def Dev.keyHere (d : Dev) (k : BitVec 16) : Bool := k = 0 || d.parts.any (fun p => p.2.key = k && p.2.rigs.any (fun r => rigModule r = d.id || 4 ≤ rigLevel r))

/-- A key drop at the ingress unit: reported as port 0x1F (R356). -/
def Dev.ingressKey (d : Dev) (k : BitVec 16) : Dev :=
  let n := d.fab.ingressKeyDrops + 1
  let due := match d.fab.ingressKeyNoticed with | some t => reached d.time t (ms 10) | none => true
  if due then
    ({ d with fab := { d.fab with ingressKeyDrops := n, ingressKeyNoted := n, ingressKeyNoticed := some d.time } }).notice 0x0402 0
      (0x1F + k.toNat * 65536) (n - d.fab.ingressKeyNoted)
  else { d with fab := { d.fab with ingressKeyDrops := n } }

/-- A packet taken from the ejection queue by the ingress unit (R342): expired or inadmissible ones go no further (R354, R356). -/
def Dev.ingress (d : Dev) (p : Packet) (now : Time) : Dev × Bool :=
  let d := (d.advance now).takeIngress (fun q => q = p)
  if expired d.time p then ({ d with fab := { d.fab with ingressExpired := d.fab.ingressExpired + 1 } }, false)
  else if !d.keyHere p.pkey then (d.ingressKey p.pkey, false)
  else (d, true)

/-- A packet outside the pair order that answers another module. -/
def Dev.answer (d : Dev) (ptype : Nat) (dst : BitVec 14) (key : BitVec 16) (pseq : BitVec 16) (addr xarg : Nat) : Dev :=
  d.hubSend { ptype := ptype, tc := 2, dst := dst, pkey := key, pseq := pseq, addr := addr, xarg := BitVec.ofNat 64 xarg }

/-- REFUSE (R358): the packet advanced the frontier and was not performed. -/
def Dev.refusePkt (d : Dev) (p : Packet) (cause : Cause) (va : Nat) : Dev := d.answer 9 p.src p.pkey p.pseq va cause.toNat

/-- Whether a memory belongs to a rig that is being reset (18 R472). -/
def Dev.absorbs (d : Dev) : MemKind → Bool
  | .stack c | .scratch c => d.inReset c
  | _ => false

/-- The home's check of one packet's lines (R255, R261, R472): the accessor, or the cause with the first faulting address. -/
def Dev.homeCheck (d : Dev) (key : BitVec 16) (need : Need) (va n : Nat) : Except (Cause × Nat) Accessor :=
  match d.partOfKey key with
  | none => .error (0x0201, va)
  | some p => match d.checkExtent { part := p } need false va n with
    | .error f => .error (f.cause, f.va.toNat)
    | .ok m => match m with
      | .remote _ => .error (0x0201, va)
      | m => if d.absorbs m then .error (0x0932, va) else .ok { part := p }

/-- A fragment taken into the beads being gathered. -/
def asmAdd (asm : List BeadAsm) (addr frag : Nat) (last : Bool) (bs : List Byte) (pm : BitVec 8) (broken : Bool) : BeadAsm :=
  let a := (asm.find? (·.addr = addr)).getD { addr := addr }
  { a with frags := a.frags.set frag bs, last := if last then some frag else a.last, broken := a.broken || broken
           poison := a.poison ++ ((List.range 6).filter (bit pm)).map (6 * frag + ·) }

/-- The record of a bead all of whose fragments are here. -/
def BeadAsm.record? (a : BeadAsm) : Option (List Byte) := match a.last with
  | some l => if (List.range (l + 1)).all (fun i => (a.frags.find? i).isSome) then some ((List.range (l + 1)).flatMap (a.frags.get [])) else none
  | none => none

/-- A bead written whole from its record (R74, R77, R102): decompressed, verified, its poisoned lines marked. -/
def Dev.landRecord (d : Dev) (who : Accessor) (va : Nat) (sb : Sideband) (cform : Nat) (rec' : List Byte) (pz : List Nat) : Dev × Cause :=
  let bytes := beadRestore ((Fmt.ofCode sb.fmt.toNat).getD .fp32) sb.mx cform rec'
  let bad := sb.chkValid && pz.isEmpty && beadCheck bytes sb.tag sb.fmt sb.mx ≠ sb.check
  let keep := if pz.isEmpty then [] else if cform = 0 then pz else List.range (bytes.length / 64)
  d.putBytes who va bytes sb bad keep

/-- A packet applied at MPA `a` of a coherent window: while reader copies of its lines are being invalidated its acknowledgement waits, since
what it wrote is not visible before (R268, R277; DEDUCED, log entry 122). -/
def Dev.owe (d : Dev) (p : Packet) (a n : Nat) : Dev :=
  let d := d.windowWrote p.pkey p.addr a n
  match (lines a n).filter (fun l => (d.coh.dir.get {} l).round.isSome) with
  | [] => d
  | ls => d.modInn p.src (fun i => { i with owed := i.owed ++ [(p.pseq, ls)] })

/-- A BEAD fragment applied (R345, R358). -/
def Dev.applyBead (d : Dev) (p : Packet) : Dev :=
  let sb := Sideband.ofWord p.xarg
  let r := if p.cform = 0 then (p.addr + 384 * p.frag, p.payload.length) else (p.addr, sb.size)
  let chk := d.homeCheck p.pkey { w := true } r.1 r.2
  let bad := match chk with | .error _ => true | .ok _ => false
  let others := (d.inn' p.src).asm.filter (·.addr ≠ p.addr)
  let a := asmAdd (if p.frag = 0 then others else (d.inn' p.src).asm) p.addr p.frag p.last p.payload p.pmask bad
  let d := match chk with | .error f => (d.homeWalk p.pkey { w := true } r.1 r.2).refusePkt p f.1 f.2 | .ok _ => d
  if p.last then
    let d := d.modInn p.src (fun i => { i with asm := others })
    match chk, a.record? with
    | .ok who, some rec' =>
      if a.broken then d
      else
        let w := d.landRecord who p.addr sb p.cform rec' a.poison
        if w.2 = 0 then w.1.owe p (w.1.mpa who p.addr) (max sb.size rec'.length) else w.1.refusePkt p w.2 p.addr
    | _, _ => d
  else d.modInn p.src (fun i => { i with asm := others ++ [a] })

/-- A LINE_WB applied (R270): the masked bytes merged into the home copy. -/
def Dev.applyLineWb (d : Dev) (p : Packet) : Dev :=
  match d.homeCheck p.pkey { w := true } p.addr 64 with
  | .error f => (d.homeWalk p.pkey { w := true } p.addr 64).refusePkt p f.1 f.2
  | .ok who =>
    let a := d.mpa who p.addr
    (d.writePlain a (maskMerge p.xarg (d.mem.mem.readBytes a 64) p.payload) (p.xarg = BitVec.allOnes 64) (p.pmask ≠ 0)).owe p a 64

/-- A READ_REQ served (R255, R364): a scalar load's line, or a whole bead with its sideband, under the request's tag. -/
def Dev.applyReadReq (d : Dev) (p : Packet) : Dev :=
  let n := bits p.xarg 23 0
  let tag := bits p.xarg 31 24
  match d.homeCheck p.pkey { r := true } p.addr n with
  | .error f => (d.homeWalk p.pkey { r := true } p.addr n).refusePkt p f.1 f.2
  | .ok who =>
    let base : Packet := { ptype := 4, tc := 1, dst := p.src, pkey := p.pkey, stream := p.stream, gen := p.gen, addr := p.addr }
    if p.stream = 0 then
      let line := p.addr / 64 * 64
      d.hubSend { base with last := true, xarg := BitVec.ofNat 64 (tag * 2 ^ 24), payload := d.readVa who line 64
                            pmask := if d.poisoned (d.mpa who line / 64) then 1 else 0 }
    else (d.beadPackets who p.addr n base).foldl (fun d q => d.hubSend { q with xarg := setBits q.xarg 31 24 tag }) d

/-- A SIGNAL applied or discarded at its home (R230, R358). -/
def Dev.applySignal (d : Dev) (p : Packet) : Dev :=
  let r := d.signalApply (BitVec.ofNat 64 p.addr) p.xarg p.pkey (BitVec.ofNat 32 (leNat p.payload))
  if r.2 = 0 then r.1 else r.1.refusePkt p r.2 p.addr

/-- A pair-order packet performed in sequence (R358). -/
def Dev.applyPair (d : Dev) (p : Packet) : Dev := match p.ptype with
  | 1 => d.applyBead p
  | 2 => d.applyLineWb p
  | 3 => d.applyReadReq p
  | _ => d.applySignal p

/-- Distance of a packet ahead of the frontier (R358). -/
def PairIn.dist (i : PairIn) (s : BitVec 16) : Nat := (s - i.frontier).toNat

/-- Bytes that a packet takes in the reorder store. -/
def Packet.size (p : Packet) : Nat := 40 + p.payload.length

/-- The frontier moves by one: a packet is performed, or a lost one passed over. -/
def Dev.advanceOne (d : Dev) (m : BitVec 14) (p : Option Packet) : Dev :=
  let d := d.modInn m (fun i => { i with frontier := i.frontier + 1, lastAdvance := some d.time, ackPending := true })
  match p with
  | some p => d.applyPair { p with src := m }
  | none => { d with fab := { d.fab with lostRx := d.fab.lostRx + 1 } }

/-- Held packets that follow in sequence are applied, lost ones passed over (R358, R361). -/
def Dev.drainHeld (m : BitVec 14) : Nat → Dev → Dev
  | 0, d => d
  | n + 1, d =>
    let i := d.inn' m
    match i.held.find? (fun p => i.dist p.pseq = 1) with
    | some p =>
      let d := d.modInn m (fun i => { i with held := i.held.erase p })
      let d := { d with fab := { d.fab with reorderBytes := d.fab.reorderBytes - p.size } }
      Dev.drainHeld m n (d.advanceOne m (some p))
    | none =>
      if i.gone.contains (i.frontier + 1).toNat then
        let d := d.modInn m (fun i => { i with gone := i.gone.remove (i.frontier + 1).toNat })
        Dev.drainHeld m n (d.advanceOne m none)
      else d

/-- Sequence numbers from a first one on, declared lost or skipped, unless they are held. -/
def Dev.markGone (d : Dev) (m : BitVec 14) (first : BitVec 16) (count : Nat) : Dev :=
  d.modInn m (fun i => { i with gone := (List.range (min count 8192)).foldl (fun g k =>
    let s := first + BitVec.ofNat 16 k
    if 1 ≤ i.dist s && i.dist s ≤ 8192 && !(i.held.any (·.pseq = s)) then NSet.insert g s.toNat else g) i.gone })

/-- PAIR_LOSS sent to a source (R361). -/
def Dev.lossSend (d : Dev) (m : BitVec 14) (key : BitVec 16) (first : BitVec 16) (count : Nat) : Dev := d.answer 7 m key first 0 count

/-- A packet that would be held while the reorder store is full (R359): its number is taken as lost. -/
def Dev.reorderFull (d : Dev) (p : Packet) : Dev :=
  let d := { d with fab := { d.fab with reorderFull := d.fab.reorderFull + 1 } }
  let due := match d.fab.fullNoticed with | some t => reached d.time t (ms 1000) | none => true
  let d := if due then ({ d with fab := { d.fab with fullNoticed := some d.time } }).notice 0x0421 1 p.src.toNat 0 else d
  (d.markGone p.src p.pseq 1).lossSend p.src p.pkey p.pseq 1

/-- A pair-order packet at the ingress unit (R358, R359, R363). -/
def Dev.pairArrive (d : Dev) (p : Packet) : Dev :=
  let m := p.src
  let d := if p.sync then
      (let i := d.inn' m
       let freed := (i.held.map Packet.size).foldl (· + ·) 0
       let d := { d with fab := { d.fab with reorderBytes := d.fab.reorderBytes - freed } }
       d.modInn m (fun i => { i with held := [], gone := [], asm := [], frontier := p.pseq - 1, synced := true, pkey := p.pkey }))
    else d
  let i := d.inn' m
  if !i.synced then d.lossSend m p.pkey (p.pseq - 8191) 16383
  else
    let dist := i.dist p.pseq
    if dist = 1 then Dev.drainHeld m 8192 ((d.modInn m (fun i => { i with pkey := p.pkey })).advanceOne m (some p))
    else if 2 ≤ dist && dist ≤ 8192 && !(i.held.any (·.pseq = p.pseq)) && !(i.gone.contains p.pseq.toNat) then
      if 8388608 < d.fab.reorderBytes + p.size then d.reorderFull p
      else
        let n := d.fab.reorderBytes + p.size
        ({ d with fab := { d.fab with reorderBytes := n, reorderMax := max d.fab.reorderMax n } }).modInn m (fun i => { i with held := i.held ++ [p] })
    else d.stale

/-- A pair-order packet of one type taken in. -/
def Dev.pairIngress (d : Dev) (p : Packet) (t : Nat) (now : Time) : Dev :=
  if p.ptype ≠ t then d
  else
    let r := d.ingress p now
    if r.2 then r.1.pairArrive p else r.1

/-- BEAD (R358). -/
def bead (p : Packet) (now : Time) (d : Dev) : Dev := d.pairIngress p 1 now
/-- LINE_WB (R270). -/
def lineWb (p : Packet) (now : Time) (d : Dev) : Dev := d.pairIngress p 2 now
/-- READ_REQ (R358). -/
def readReq (p : Packet) (now : Time) (d : Dev) : Dev := d.pairIngress p 3 now
/-- PKT_SIGNAL (R230). -/
def pktSignal (p : Packet) (now : Time) (d : Dev) : Dev := d.pairIngress p 5 now

/-- A bead of a RECV whose record is whole (R73, R74, R364): written at its local position, unless its sideband does not match the
descriptor. A raw bead's XARG has no room for the tag's high byte beside the request tag: it is taken as the descriptor's (DESIGN CHOICE,
log entry 117). -/
def Dev.recvLand (d : Dev) (o : RecvOp) (e : TiqEntry) (p : Packet) (a : BeadAsm) (rec' : List Byte) (pos : Nat) : Dev :=
  match e.instr with
  | some (.recv tdd tds _) =>
    let x := e.desc tdd
    let w : BitVec 64 := if p.cform = 0 then setBits p.xarg 31 24 (bits x.tag 15 8) else BitVec.ofNat 64 (leNat (rec'.take 8))
    let sb := Sideband.ofWord w
    let r := if sb.chkValid && (sb.tag ≠ x.tag || sb.fmt.toNat ≠ x.fmtCode || sb.mx ≠ x.mx) then (d, 0x0311)
      else d.landRecord (d.who o.core) (x.base + (e.desc tds).sameBead x pos * x.bstride) sb p.cform rec' a.poison
    r.1.recvDone { o with asm := o.asm.filter (·.addr ≠ p.addr) } pos r.2 0
  | _ => d

/-- A fragment for a RECV (R364). -/
def Dev.recvFrag (d : Dev) (p : Packet) : Dev :=
  if (d.fe.sIds.gens.get 0 p.stream) ≠ p.gen then d.stale
  else match d.fab.recvs.find? (fun r => r.stream = p.stream && r.tag = bits p.xarg 31 24) with
    | none => d.stale
    | some o => match (d.core o.core).entry? o.id with
      | none => d.stale
      | some e =>
        if d.inReset o.core then d
        else match e.recvPos p.addr with
          | none => d.stale
          | some pos =>
            if !o.remaining.contains pos then d.stale
            else
              let a := asmAdd o.asm p.addr p.frag p.last p.payload p.pmask false
              match a.record? with
              | some rec' => d.recvLand o e p a rec' pos
              | none =>
                let o' := { o with asm := o.asm.filter (·.addr ≠ p.addr) ++ [a] }
                { d with fab := { d.fab with recvs := d.fab.recvs.map (fun r => if r = o then o' else r) } }

/-- READ_RESP (R364): a RECV's fragment, or the line that a scalar load or a read of the host's waits for. -/
def readResp (p : Packet) (now : Time) (d : Dev) : Dev :=
  if p.ptype ≠ 4 then d
  else
    let r := d.ingress p now
    if !r.2 then r.1
    else if p.stream ≠ 0 then r.1.recvFrag p
    else
      let tag := bits p.xarg 31 24
      let line := p.addr / 64 * 64
      match r.1.cores.first? (fun _ k => match k.sc.wait with | some w => w.tag = some tag | none => false),
          r.1.host.reads.find? (fun h => h.lines.find? line = some (some tag)) with
      | some (c, k), _ => match k.sc.wait with
        | some w => r.1.loadFrom c w (leNat p.payload) (p.pmask ≠ 0)
        | none => r.1
      | none, some h => r.1.hostReadLine h line (leNat p.payload) (p.pmask ≠ 0)
      | none, none => r.1.stale

/-! ### Acknowledgements and losses -/

/-- The packets of a window that `f` selects leave it and are settled, oldest first. -/
def Dev.settleWindow (d : Dev) (m : BitVec 14) (f : Posted → Bool) (cause : Cause) : Dev :=
  let gone := (d.out' m).window.filter f
  let d := d.modOut m (fun o => { o with window := o.window.filter (fun q => !f q) })
  gone.foldl (fun d q => d.settle q cause (BitVec.ofNat 64 q.p.addr)) d

/-- PAIR_ACK (R360): every packet at or before the acknowledged frontier leaves the window; SYNC is no longer set (R363). -/
def pairAck (p : Packet) (now : Time) (d : Dev) : Dev :=
  if p.ptype ≠ 6 then d
  else
    let r := d.ingress p now
    if !r.2 then r.1
    else (r.1.modOut p.src (fun o => { o with sync := false })).settleWindow p.src (fun q => decide ((p.pseq - q.p.pseq).toNat < 32768)) 0

/-- PAIR_LOSS (R361, R363): the named packets leave the window with 0x0420; one that covers more than a window starts the
source again with SYNC. -/
def pairLoss (p : Packet) (now : Time) (d : Dev) : Dev :=
  if p.ptype ≠ 7 then d
  else
    let r := d.ingress p now
    if !r.2 then r.1
    else
      let n := bits p.xarg 15 0
      let d := if 8192 < n then r.1.modOut p.src (fun o => { o with sync := true }) else r.1
      d.settleWindow p.src (fun q => decide ((q.p.pseq - p.pseq).toNat < n)) 0x0420

/-- PAIR_SKIP (R361): the gap is closed at once. -/
def pairSkip (p : Packet) (now : Time) (d : Dev) : Dev :=
  if p.ptype ≠ 8 then d
  else
    let r := d.ingress p now
    if r.2 then Dev.drainHeld p.src 16384 (r.1.markGone p.src p.pseq (bits p.xarg 15 0)) else r.1

/-- REFUSE (R261, R360): the refused packet's operation learns the cause. -/
def refuseRx (p : Packet) (now : Time) (d : Dev) : Dev :=
  if p.ptype ≠ 9 then d
  else
    let r := d.ingress p now
    if !r.2 then r.1
    else
      let d := r.1
      let w := (d.out' p.src).window
      let d := d.modOut p.src (fun o => { o with window := o.window.filter (fun q => q.p.pseq ≠ p.pseq) })
      (w.filter (fun q => q.p.pseq = p.pseq)).foldl (fun d q => d.settle q (BitVec.ofNat 16 (bits p.xarg 15 0)) (BitVec.ofNat 64 p.addr)) d

/-- The number that is acknowledged: the frontier, or the last one before a packet whose write is not yet visible (R277, R360). -/
def PairIn.acked (i : PairIn) : BitVec 16 := match i.owed with
  | o :: _ => o.1 - 1
  | [] => i.frontier

/-- PAIR_ACK sent with the current frontier. -/
def Dev.ackSend (d : Dev) (m : BitVec 14) : Dev :=
  let i := d.inn' m
  (d.answer 6 m i.pkey i.acked 0 0).modInn m (fun i => { i with ackPending := false, lastAck := some d.time })

/-- PAIR_ACK_SEND (R360): advances not yet acknowledged are. -/
def pairAckSend (m : BitVec 14) (now : Time) (d : Dev) : Dev :=
  let d := d.advance now
  if (d.inn' m).ackPending then d.ackSend m else d

/-- PAIR_ACK_REPEAT (R360): every 100 µs until 1.2 ms after the last advance. -/
def pairAckRepeat (m : BitVec 14) (now : Time) (d : Dev) : Dev :=
  let d := d.advance now
  let i := d.inn' m
  match i.lastAck, i.lastAdvance with
  | some t, some a => if reached d.time t (us 100) && timeLe d.time (a + us 1200) then d.ackSend m else d
  | _, _ => d

/-- PAIR_GAP_LOST (R361): the gap before the oldest held packet is declared lost once 500 µs have passed since its posting. -/
def pairGapLost (m : BitVec 14) (now : Time) (d : Dev) : Dev :=
  let d := d.advance now
  let i := d.inn' m
  match i.held.foldl (fun (b : Option Packet) p => match b with
      | some q => if i.dist p.pseq < i.dist q.pseq then some p else b
      | none => some p) none with
  | none => d
  | some p =>
    if expired d.time p then
      let first := i.frontier + 1
      let n := i.dist p.pseq - 1
      (Dev.drainHeld m 16384 (d.markGone m first n)).lossSend m p.pkey first n
    else d

/-- SOURCE_LOSS_DECLARE (R362): packets 1,200 µs in the window are lost: PAIR_SKIP goes, then their operations complete. -/
def sourceLossDeclare (m : BitVec 14) (now : Time) (d : Dev) : Dev :=
  let d := d.advance now
  let old (q : Posted) : Bool := reached d.time q.time (us 1200)
  match (d.out' m).window.filter old with
  | [] => d
  | q :: qs =>
    let d := { d with fab := { d.fab with lostTx := d.fab.lostTx + qs.length + 1 } }
    let n := match qs.getLast? with | some l => (l.p.pseq - q.p.pseq).toNat + 1 | none => 1
    (d.answer 8 m q.p.pkey q.p.pseq 0 n).settleWindow m old 0x0420

/-- RECV_TIMEOUT (R364): responses missing 1,200 µs after the last request complete the RECV with 0x0420. -/
def recvTimeout (c id : Nat) (now : Time) (d : Dev) : Dev :=
  let d := d.advance now
  match d.fab.recvs.find? (fun r => r.core = c && r.id = id) with
  | some o =>
    if reached d.time o.lastReq (us 1200) && !(d.fab.egressWait.any (fun q => q.owner = .tensor c id)) then
      o.remaining.foldl (fun d pos => match d.fab.recvs.find? (fun r => r.core = c && r.id = id) with
        | some o => d.recvDone o pos 0x0420 0
        | none => d) d
    else d
  | none => d

end Sys2Proof.Machine
end

