-- ==== Sys2Proof/Machine/FrontEnd.lean ====
section
/-!
DEFINITION. The command front end (11 R284 to R311; 01 R36, R42 to R45): queues, rings, doorbells, dispatch and scheduling, completion,
identifiers, streams, semaphores, notice rings.
-/
namespace Sys2Proof.Machine

/-- A queue changed. -/
def Dev.modQueue (d : Dev) (i : Nat) (f : Queue → Queue) : Dev := { d with fe := { d.fe with queues := d.fe.queues.upd {} i f } }

/-- A notice of a queue's rig and partition. -/
def Dev.queueNotice (d : Dev) (q : Queue) (code : Cause) (cls arg0 arg1 : Nat) : Dev :=
  d.notify { code := code, cls := BitVec.ofNat 3 cls, rig := q.rig, part := some q.part, arg0 := BitVec.ofNat 64 arg0, arg1 := BitVec.ofNat 64 arg1 }

/-- The handle of a queue (R284). -/
def queueHandle (i : Nat) (q : Queue) : Nat := i + q.gen.toNat * 4096

/-- The hub's accessor for a queue's device rings (R250). -/
def Queue.who (q : Queue) : Accessor := { part := q.part }

/-- SQ_LOC and CQ_LOC: device memory. -/
def Queue.sqDev (q : Queue) : Bool := q.flag 0
/-- CQ_LOC: device memory. -/
def Queue.cqDev (q : Queue) : Bool := q.flag 1
/-- DB_SEM_EN. -/
def Queue.dbSem (q : Queue) : Bool := q.flag 2
/-- MSIX_EN. -/
def Queue.msixEn (q : Queue) : Bool := q.flag 3
/-- Whether a queue has a completion ring. -/
def Queue.hasCq (q : Queue) : Bool := q.field 0x08 8 ≠ 0

/-! ### Creation and destruction (R284 to R287) -/

/-- Check 1 of R286. -/
def queueDescBad (b : List Byte) : Bool :=
  let f (off n : Nat) : Nat := leNat ((b.drop off).take n)
  let cls := f 0x16 1
  let rt := cls / 128 = 1
  b.length ≠ 64 || f 0x30 16 ≠ 0 || f 0x18 2 / 16 ≠ 0 || cls / 4 % 32 ≠ 0 || (f 0x18 2 / 4 % 2 = 1 && f 0x28 8 / 2 ^ 40 ≠ 0)
    || f 0x14 1 < 4 || 16 < f 0x14 1 || f 0x15 1 < 4 || 16 < f 0x15 1 || 65535 < f 0x24 4
    || (if rt then cls % 4 ≠ 0 || f 0x17 1 = 0 || 64 < f 0x17 1 else f 0x17 1 ≠ 0)
    || f 0 8 % 4096 ≠ 0 || f 0x08 8 % 4096 ≠ 0

/-- Whether the census found a rig, and it is not retired (01 R36). -/
def Dev.rigPresent (d : Dev) (r : BitVec 32) : Bool :=
  if rigLevel r ≤ 3 then
    rigModule r = d.id && (List.range 512).any (fun c => rigHolds r d.id c && d.inService c)
  else rigHolds r d.id 0

/-- A device ring in mappable DRAM of this module with R and W (R286). -/
def Dev.ringBad (d : Dev) (part base len : Nat) : Option Cause :=
  match d.checkExtent { part := part } { r := true, w := true } false base len with
  | .error f => some f.cause
  | .ok .dram => none
  | .ok _ => some 0x0205

/-- The first check of R286 that a descriptor fails; 7 is the caller's. -/
def Dev.queueRefusal (d : Dev) (part : Nat) (q : Queue) : Option Cause :=
  let p := d.part part
  let h := SemHandle.ofWord (BitVec.ofNat 64 (q.field 0x28 8))
  if queueDescBad q.desc then some 0x0101
  else if !rigValid q.rig then some 0x0120
  else if !d.rigPresent q.rig then some 0x0121
  else if !p.rigs.any (fun r => rigEncloses r q.rig) then some 0x0102
  else match (if q.sqDev then d.ringBad part (q.field 0 8) (64 * q.sqSize) else none),
      (if q.cqDev && q.hasCq then d.ringBad part (q.field 8 8) (32 * q.cqSize + 8) else none) with
    | some c, _ => some c
    | none, some c => some c
    | none, none =>
      if q.dbSem && (h.module ≠ d.id || d.semCheck h p.key ≠ 0) then some 0x0101
      else if q.rt && ((List.range 512).any (fun c => rigHolds q.rig d.id c && 64 < d.rtSum c + q.share)
          || (d.peersOf q.rig).any (fun p => 64 < p.rtMax + q.share)) then some 0x0103
      else none

/-- The other member modules of an L4 or L5 rig that the census found. -/
def Dev.rigMembers (d : Dev) (r : BitVec 32) : List (BitVec 14) :=
  if rigLevel r < 4 then [] else (d.boot.summary.map (·.1)).filter (fun m => m ≠ d.id && rigHolds r m 0)

/-- The other modules of a rig are asked for their RCBs (01 R38), and answer by service 0x17. -/
def Dev.gather (d : Dev) (r : BitVec 32) : Dev := (d.rigMembers r).foldl (fun (d : Dev) m => d.mgmt m 0x18 [] []) d

/-- Cores that a real-time queue reaches begin to hold a balance, and the other modules of its rig learn its share (R286, R301). -/
def Dev.tellShare (d : Dev) (i : Nat) (q : Queue) (share : Nat) : Dev :=
  if !q.rt then d
  else
    let d := ((List.range 512).filter (rigHolds q.rig d.id)).foldl Dev.settleCore d
    (d.rigMembers q.rig).foldl (fun (d : Dev) m => d.mgmt m 0x19 [i, q.rig.toNat, share] []) d

/-- A queue leaves ACTIVE: what it owes is settled and its share is free again (R286, R299, R301). -/
def Dev.deactivate (d : Dev) (i : Nat) (q : Queue) (f : Queue → Queue) : Dev :=
  let d := (d.settleAll).modQueue i f
  if q.state = .active then d.tellShare i q 0 else d

/-- QUEUE_CREATE (R286): the handle, or the first check that fails. -/
def queueCreate (part func : Nat) (desc : List Byte) (now : Time) (d : Dev) : Dev :=
  let d := d.advance now
  let q : Queue := { state := .active, part := part, func := func, desc := desc, rig := BitVec.ofNat 32 (leNat ((desc.drop 0x10).take 4))
                     created := d.time, credited := d.time }
  match d.queueRefusal part q with
  | some c => d.reply c 0 0
  | none => match d.fe.qIds.pick 4096 d.time with
    | none => d.reply 0x0104 (d.fe.qIds.nextFree d.time) 0
    | some i =>
      let d := d.settleAll
      let ids := d.fe.qIds.take i
      let q := { q with gen := ids.gens.get 0 i }
      let d := { d with fe := { d.fe with qIds := ids, queues := d.fe.queues.set i q } }
      ((d.tellShare i q q.share).recheckTails (SemHandle.ofWord (BitVec.ofNat 64 (q.field 0x28 8))).sem).reply 0 (queueHandle i q) 0

/-- A draining queue whose last completion is written is free (R287); an interrupt that its interval holds back is still sent (R297). -/
def Dev.queueFree (d : Dev) (i : Nat) : Dev :=
  match d.fe.queues.find? i with
  | some q =>
    if q.state = .draining && q.flight.isEmpty then
      let late : List LateMsix := if q.msixPending then
          [{ queue := i, func := q.func, vector := q.field 0x1A 2, due := (q.lastMsix.getD d.time) + us (q.field 0x24 4) }] else []
      ({ d with fe := { d.fe with queues := d.fe.queues.del i, qIds := d.fe.qIds.free i d.time, lateMsix := d.fe.lateMsix ++ late } }).reply
        0 (queueHandle i q) 0
    else d
  | none => d

/-- QUEUE_DESTROY (R287): entries not dispatched are dropped, those in flight complete. -/
def queueDestroy (part handle : Nat) (now : Time) (d : Dev) : Dev :=
  let d := d.advance now
  let i := handle % 4096
  match d.fe.queues.find? i with
  | some q =>
    if q.part = part && queueHandle i q = handle && (q.state = .active || q.state = .error) then
      (d.deactivate i q (fun q => { q with state := .draining, ahead := [], waitStart := none })).queueFree i
    else (if queueHandle i q = handle then d else d.stale).reply 0x0105 0 0
  | none => d.stale.reply 0x0105 0 0

/-- Address of a queue's next entry in its submission ring (R289). -/
def Queue.nextEntry (q : Queue) : Nat := q.field 0 8 + 64 * (q.fetched.toNat % q.sqSize)

/-- A queue's ring read faults or returns poison (R287): the notice gives the address read. -/
def Dev.ringFault (d : Dev) (i : Nat) : Dev :=
  match d.fe.queues.find? i with
  | some q =>
    if q.state = .active then (d.deactivate i q (fun q => { q with state := .error })).queueNotice q 0x0111 3 q.nextEntry 0 else d
  | none => d

/-- A queue whose host-memory ring is out of reach enters ERROR (21 R530, R534). -/
def Dev.hostRingGone (d : Dev) (q : Nat × Queue) : Dev :=
  if q.2.state = .active && (!q.2.sqDev || (q.2.hasCq && !q.2.cqDev)) then
    (d.deactivate q.1 q.2 (fun q => { q with state := .error })).queueNotice q.2 0x0111 3 0 0
  else d

/-! ### Fetch (R289, R290) -/

/-- The fields of a submission entry (R290). -/
def SubEntry.ofBytes (b : List Byte) : SubEntry :=
  let f (off n : Nat) : Nat := leNat ((b.drop off).take n)
  { pc := BitVec.ofNat 64 (f 0 8), eflags := BitVec.ofNat 32 (f 8 4), userTag := BitVec.ofNat 32 (f 0xC 4)
    sigHandle := BitVec.ofNat 64 (f 0x10 8), sigInc := BitVec.ofNat 64 (f 0x18 8), args := (b.drop 0x20).take 32 }

/-- Whether an entry has a reserved bit set (R290). -/
def SubEntry.bad (e : SubEntry) : Bool := bits e.eflags 31 4 ≠ 0 || (bit e.eflags 1 && bits e.sigHandle 63 40 ≠ 0)

/-- The host's answer to a read that the module masters (21 R524): bytes, a fault, or poison. -/
inductive HostRead where
  | data (b : List Byte)
  | fault
  deriving DecidableEq, Repr

/-- The 64 bytes of a queue's next entry, from the device ring or from the host. -/
def Dev.fetchBytes (d : Dev) (q : Queue) (host : HostRead) : Option (List Byte) :=
  let a := q.nextEntry
  if q.sqDev then
    match d.checkExtent q.who { r := true } false a 64 with
    | .error _ => none
    | .ok _ => if d.poisonVa q.who a 64 then none else some (d.readVa q.who a 64)
  else match host with
    | .data b => some b
    | .fault => none

/-- ENTRY_FETCH (R289): up to 4 entries ahead of dispatch; a host ring waits while the function may not master the bus (21 R530). -/
def entryFetch (i : Nat) (host : HostRead) (now : Time) (d : Dev) : Dev :=
  let d := d.advance now
  match d.fe.queues.find? i with
  | none => d
  | some q =>
    if q.state ≠ .active || q.tail = q.fetched || 4 ≤ q.ahead.length || (!q.sqDev && !d.canMaster q.func) then d
    else match d.fetchBytes q host with
      | none => d.ringFault i
      | some b =>
        let e := SubEntry.ofBytes b
        let f : FlightEntry := { index := q.fetched.toNat, e := e, ended := if e.bad then some { cause := 0x0110 } else none }
        d.modQueue i (fun q => { q with fetched := q.fetched + 1, ahead := q.ahead ++ [f] })

/-! ### Doorbells (R292, R293) -/

/-- A queue that a doorbell of a generation reaches. -/
def Dev.doorQueue (d : Dev) (i : Nat) (w : Word) : Option Queue := match d.fe.queues.find? i with
  | some q => if q.gen.toNat = bits w 37 32 && q.state = .active then some q else none
  | none => none

/-- A submission doorbell (R292, R293): a stale one is counted, an impossible tail raises notice 0x0112. -/
def Dev.doorTail (d : Dev) (i : Nat) (w : Word) : Dev :=
  match d.doorQueue i w with
  | none => d.stale
  | some q =>
    let t : BitVec 32 := w.truncate 32
    if q.dbSem then d
    else if q.tailOk t then (d.modQueue i (fun q => q.setTail t d.time)).event q.part
    else d.queueNotice q 0x0112 0 t.toNat 0

/-- A completion doorbell (R292, R296): the head of a host ring moves on, never beyond the records written; a device ring takes its head
from memory. -/
def Dev.doorHead (d : Dev) (i : Nat) (w : Word) : Dev :=
  match d.doorQueue i w with
  | none => d.stale
  | some q =>
    let h : BitVec 32 := w.truncate 32
    if (h - q.cqHead).toNat ≤ (BitVec.ofNat 32 q.records - q.cqHead).toNat then
      (if q.cqDev then d else (d.modQueue i (fun q => { q with cqHead := h })).event q.part)
    else d.queueNotice q 0x0112 0 h.toNat 0

/-- Whether a function may ring a queue (21 R527): the physical one any, a virtual one its partition's. -/
def Dev.doorOf (d : Dev) (func i : Nat) : Bool :=
  func = 0 || (match d.fe.queues.find? i, d.host.binds.find? func with
    | some q, some k => decide (k ≠ 0) && decide ((d.part q.part).key.toNat = k)
    | _, _ => false)

/-- A doorbell applied here: CQ says which (R292). -/
def Dev.door (d : Dev) (i : Nat) (w : Word) : Dev := if bit w 38 then d.doorHead i w else d.doorTail i w

/-- Whether this module serves the host: it is the anchor, or no mast group is known yet (21 R533). -/
def Dev.serves (d : Dev) : Bool := d.host.isAnchor || !d.host.anchorKnown

/-- Whether a member number is this module's own. -/
def Dev.ownMember (d : Dev) (m : Nat) : Bool := d.host.mastMembers = [] || decide (m = d.id.toNat % 64)

/-- The module of a member number of this module's mast group (21 R531). -/
def Dev.memberId (d : Dev) (m : Nat) : BitVec 14 := BitVec.ofNat 14 (d.id.toNat / 64 * 64 + m)

/-- The key of the partition that a function serves (21 R526): 0 for the physical one and for a virtual one that serves none. -/
def Dev.funcKey (d : Dev) (func : Nat) : Nat := if func = 0 then 0 else d.host.binds.get 0 func

/-- A HOST_FWD packet toward a member (21 R532): the next FSEQ toward it, and that number. -/
def Dev.fwdMember (d : Dev) (m func kind : Nat) (bytes : List Byte) : Dev × Nat :=
  let s := d.host.fseqOut.get 0 m
  (({ d with host := { d.host with fseqOut := d.host.fseqOut.set m (s + 1) } }).emit (.fwd (d.memberId m) (fwdXarg s func kind) bytes), s)

/-- A doorbell written through a function's window to a member (21 R526, R527, R532, R533): applied here, carried to the member, or
discarded: at a standby anchor, for a function that serves no partition, for an absent member. -/
def Dev.ring (d : Dev) (func m i : Nat) (w : Word) : Dev :=
  if !d.host.linkUp || !d.serves || (func ≠ 0 && d.funcKey func = 0) then d
  else if d.ownMember m then (if d.doorOf func i then d.door i w else d.stale)
  else if (d.host.mastMembers.find? m).isNone then d
  else (d.fwdMember m func 1 (leBytes 2 (d.funcKey func) ++ leBytes 2 i ++ leBytes 8 w.toNat)).1

/-- DOORBELL_SQ_TAIL (R292) through a function's window. -/
def doorbellSqTail (func m i : Nat) (w : Word) (now : Time) (d : Dev) : Dev :=
  let d := d.advance now
  if bit w 38 then d else d.ring func m i w

/-- DOORBELL_CQ_HEAD (R292) through a function's window. -/
def doorbellCqHead (func m i : Nat) (w : Word) (now : Time) (d : Dev) : Dev :=
  let d := d.advance now
  if !bit w 38 then d else d.ring func m i w

/-! ### Dispatch (R42, R43, R288, R296 to R302) -/

/-- Whether a core takes another entry: idle or busy, with fewer than 2 in flight. -/
def Dev.coreOpen (d : Dev) (c : Nat) : Bool :=
  (match (d.rig c).state with | .idle | .busy => true | _ => false) && !(d.rig c).quiescing && d.coreFlight c < 2

/-- The member with the fewest entries in flight, ties to the lowest index (R42), among those that `open'` selects. -/
def fewest (load : Nat → Nat) (open' : Nat → Bool) (ms : List Nat) : Option Nat :=
  (ms.filter open').foldl (fun b m => match b with
    | some x => if load m < load x then some m else some x
    | none => some m) none

/-- The core that the dispatchers at and below a rig of this module send an entry to (R42). -/
def Dev.pickCore (d : Dev) (r : BitVec 32) : Option Nat :=
  let sum (lo n : Nat) : Nat := ((List.range n).map (fun i => d.coreFlight (lo + i))).foldl (· + ·) 0
  let any (lo n : Nat) : Bool := (List.range n).any (fun i => d.coreOpen (lo + i))
  let core (cl : Nat) : Option Nat := fewest d.coreFlight d.coreOpen ((List.range 8).map (cl * 8 + ·))
  let cluster (die : Nat) : Option Nat := (fewest (fun k => sum (k * 8) 8) (fun k => any (k * 8) 8) ((List.range 8).map (die * 8 + ·))).bind core
  match rigLevel r with
  | 0 => if d.coreOpen (bits r 14 6) then some (bits r 14 6) else none
  | 1 => core (bits r 14 9)
  | 2 => cluster (bits r 14 12)
  | _ => (fewest (fun k => sum (k * 64) 64) (fun k => any (k * 64) 64) (List.range 8)).bind cluster

/-- Members of an L4 or L5 queue's rig: modules of its partition in the rig (R288). -/
def Dev.queueMembers (d : Dev) (q : Queue) : List (BitVec 14) :=
  (d.part q.part).modules.filter (fun m => rigHolds q.rig m 0)

/-- The member module that the next entry of an L4 or L5 queue goes to (R288). -/
def Dev.pickMember (d : Dev) (q : Queue) : Option (BitVec 14) :=
  let load (m : BitVec 14) : Nat := (q.flight.filter (fun f => f.member = some m && f.ended.isNone)).length
  (d.queueMembers q).foldl (fun b m => if 1024 ≤ load m then b else match b with
    | some x => if load m < load x || (load m = load x && m.toNat < x.toNat) then some m else some x
    | none => some m) none

/-- Whether an entry may write a completion record (R294, R296). -/
def Queue.mayRecord (q : Queue) (f : FlightEntry) : Bool :=
  q.hasCq && (match f.ended with | none => true | some x => !bit f.e.eflags 2 || x.cause ≠ 0)

/-- Whether no completion slot can be reserved for an entry (R296). -/
def Queue.cqFull (q : Queue) (f : FlightEntry) : Bool :=
  q.mayRecord f && q.cqSize ≤ (BitVec.ofNat 32 q.records - q.cqHead).toNat + (q.flight.filter q.mayRecord).length

/-- Whether a rig takes no entries (01 R39, R291): it is QUIESCED, or every core of it in service is on the way there. -/
def Dev.rigQuiet (d : Dev) (r : BitVec 32) : Bool :=
  0 < d.coresActive r
  && (List.range 512).all (fun c => !(rigHolds r d.id c && d.inService c) || (d.rig c).quiescing || (d.rig c).state = .quiesced)
  && (d.peersOf r).all (fun p => p.field 4 4 / 2 ^ 28 = 4 || p.field 8 4 = 0)

/-- Why a queue's next entry is not dispatchable (R42, R43, R291, R296), by the reason codes of R300. -/
def Dev.holdReason (d : Dev) (q : Queue) : Option Nat :=
  match q.ahead with
  | [] => none
  | f :: _ =>
    if q.cqFull f then some 1
    else if bit f.e.eflags 0 && !q.flight.isEmpty then some 2
    else if 64 ≤ (q.flight.filter (·.ended.isSome)).length then some 3
    else if (d.part q.part).job.isNone || d.rigQuiet q.rig then some 4
    else if d.coresActive q.rig = 0 then some 5
    else none

/-- Whether a queue's next entry is dispatchable. -/
def Dev.ready (d : Dev) (q : Queue) : Bool := !q.ahead.isEmpty && (d.holdReason q).isNone

/-- Where the next entry of a queue would go: a core here, or another member module (R288). -/
def Dev.target (d : Dev) (q : Queue) : Option (Nat ⊕ BitVec 14) :=
  if rigLevel q.rig ≤ 3 then (d.pickCore q.rig).map .inl
  else match d.pickMember q with
    | some m => if m = d.id then (d.pickCore (moduleRig d.id)).map .inl else some (.inr m)
    | none => none

/-- One candidate of a dispatch slot (R298): a queue here, or a forwarded entry's queue at its holder. -/
structure Cand where
  key : Nat := 0
  rt : Bool := false
  credit : Int := 0
  share : Nat := 1
  urgent : Bool := false
  prio : Nat := 0
  since : Time := 0
  under : Bool := false

/-- The candidates of a core (R298). -/
def Dev.candidates (d : Dev) (c : Nat) : List Cand :=
  (d.fe.queues.filterMap (fun (i, q) =>
    if q.state = .active && rigHolds q.rig d.id c && d.ready q && d.target q = some (.inl c) then
      some { key := i, rt := q.rt, credit := q.credit, share := q.share, urgent := q.urgent, prio := q.prio
             since := q.waitStart.getD d.time, under := q.underDemand }
    else none))
  ++ d.fe.forwarded.filterMap (fun f =>
    if f.e.core.isNone && (d.part f.part).job.isSome && d.pickCore (moduleRig d.id) = some c
        && (d.fe.forwarded.find? (fun g => g.e.core.isNone && g.holder = f.holder && g.queue = f.queue)) = some f then
      some { key := forwardKey f.holder f.queue, rt := f.cls / 128 = 1, credit := f.credit, share := f.share, urgent := f.urgent
             prio := f.cls % 4, since := f.since, under := f.under }
    else none)

/-- The best of some candidates under an order, ties to the lowest queue ID. -/
def bestCand (before : Cand → Cand → Bool) : List Cand → Option Cand
  | [] => none
  | x :: xs => some (xs.foldl (fun b y => if before y b then y else b) x)

/-- Whether a candidate's wait is older. -/
def Cand.older (a b : Cand) : Bool := a.since ≠ b.since && timeLe a.since b.since
/-- Whether a candidate's credit by share is greater. -/
def Cand.richer (a b : Cand) : Bool := decide (b.credit * (a.share : Int) < a.credit * (b.share : Int))

/-- Round robin by queue ID after the last one served. -/
def nextAfter (cs : List Cand) (last : Option Nat) : Option Cand :=
  let low (l : List Cand) : Option Cand := bestCand (fun a b => decide (a.key < b.key)) l
  match last with
  | some k => match low (cs.filter (fun x => k < x.key)) with
    | some x => some x
    | none => low cs
  | none => low cs

/-- The queue that a dispatch slot takes, and whether by the borrowing branch (R302). -/
def pick (cs : List Cand) (borrow : Int) (last : KMap Nat) : Option (Cand × Bool) :=
  let r := cs.filter (fun x => x.rt && decide (0 < x.credit))
  let u := cs.filter (fun x => !x.rt && x.urgent)
  if !u.isEmpty && !r.isEmpty && 0 < borrow && r.all (·.under) then (bestCand Cand.older u).map (·, true)
  else if !r.isEmpty then (bestCand Cand.richer r).map (·, false)
  else if !u.isEmpty then (bestCand Cand.older u).map (·, false)
  else match (List.range 4).findSome? (fun p => nextAfter (cs.filter (fun x => !x.rt && x.prio = p)) (last.find? p)) with
    | some x => some (x, false)
    | none => (bestCand Cand.richer (cs.filter (·.rt))).map (·, false)

/-- The argument block of an entry (R291). -/
def argBlock (e : SubEntry) (handle index : Nat) (start : Time) : List Byte :=
  (e.args ++ List.replicate 32 0).take 32 ++ leBytes 4 handle ++ leBytes 4 index ++ leBytes 8 start.toNat ++ leBytes 4 e.userTag.toNat
    ++ List.replicate 12 0

/-- Memory whose contents are undefined: free bytes, one draw for each time. -/
def freeBytes (draw n : Nat) : List Byte := (List.range n).map (Config.freeByte draw)

/-- Bytes of a core's scratchpad that its job may reach (04 R124). -/
def Core.openScratch (k : Core) : Nat := 0x400000 - k.accGroups * 0x10000

/-- A core's near scratchpad as an entry finds it (01 R44): undefined, its beads unchecked; the sealed region stays. -/
def Dev.blurScratch (d : Dev) (c : Nat) : Dev :=
  let a := scratchBase c
  let n := (d.core c).openScratch
  { d with fresh := d.fresh + 1, mem := { d.mem with
      mem := d.mem.mem.write a (freeBytes d.fresh n)
      side := d.mem.side.keep (fun b s => let r := slotRange b s; !(a ≤ r.1 && r.1 < a + n)) } }

/-- An entry starts on a core (R191, R291, R44): registers and tensor state as at an entry's start, the argument block in the local
data store, the rest of that store and the near scratchpad undefined. -/
def Dev.startEntry (d : Dev) (c qkey handle index part : Nat) (rig : BitVec 32) (borrowed : Bool) (e : SubEntry) : Dev :=
  let d := ((d.settleQueue qkey).settleCore c).blurScratch c
  let k := d.core c
  let lds := (k.sc.lds.write 0 (freeBytes d.fresh 0x7FC0)).write 0x7FC0 (argBlock e handle index d.time)
  let sc : Scalar := { cycle := k.sc.cycle, instret := k.sc.instret, lds := lds, ldsPoison := k.sc.ldsPoison.remove 511, pc := e.pc
                       x := [(10, 0xFFFFFFFFFFFFFFC0), (11, rig.zeroExtend 64)], stores := k.sc.stores, machine := false
                       mcause := k.sc.mcause, mtval := k.sc.mtval }
  let tx : TensorRegs := { txsqcnt := k.tx.txsqcnt, txsqcyc := k.tx.txsqcyc, txarmovr := k.tx.txarmovr }
  let d := { d with fresh := d.fresh + 1 }
  let d := d.modCore c (fun k => { k with
    sc := sc, tx := tx, tiq := [], arms := [], ending := none
    run := some { queue := qkey, index := index, part := part, rig := rig, start := d.time, borrowed := borrowed } })
  d.modRig c (fun g => { g with state := .busy })

/-- A core without a running entry starts the oldest one dispatched to it (R42), once the stores of the entry before have been performed
(R294). The holder of a forwarded entry's queue learns that it has begun, and charges it from then on (R288, R298). -/
def Dev.startNext (d : Dev) (c : Nat) : Dev :=
  if (d.core c).run.isSome || !(d.core c).sc.stores.isEmpty || (match (d.rig c).state with | .idle | .busy => false | _ => true) then d else
  match d.fe.queues.findSome? (fun (i, q) => (q.flight.find? (fun f => f.core = some c && !f.running && f.ended.isNone)).map (fun f => (i, q, f))) with
  | some (i, q, f) =>
    let d := d.startEntry c i (queueHandle i q) f.index q.part q.rig f.borrowed f.e
    d.modQueue i (fun q => { q with flight := q.flight.map (fun g => if g.index = f.index then { g with running := true } else g) })
  | none => match d.fe.forwarded.find? (fun f => f.e.core = some c && !f.e.running && f.e.ended.isNone) with
    | some f =>
      let d := d.startEntry c (forwardKey f.holder f.queue) (f.queue + f.gen.toNat * 4096) f.e.index f.part f.rig f.e.borrowed f.e.e
      let d := d.mgmt f.holder 0x16 [f.queue, f.e.index, d.time.toNat] []
      { d with fe := { d.fe with forwarded := d.fe.forwarded.map (fun g => if g = f then { g with e := { g.e with running := true } } else g) } }
    | none => d

/-- A queue's bookkeeping when its next entry leaves the ring (R300). -/
def Queue.dispatched (q : Queue) (f : FlightEntry) (now : Time) : Queue :=
  let rest := q.ahead.drop 1
  { q with ahead := rest, flight := q.flight ++ [f], urgent := false, stays := 0
           waitStart := if rest.isEmpty && q.tail = q.fetched then none else some now }

/-- An entry that is not run leaves the ring: it is no dispatch (R290, R300). -/
def Queue.passed (q : Queue) (f : FlightEntry) : Queue :=
  let rest := q.ahead.drop 1
  { q with ahead := rest, flight := q.flight ++ [f], waitStart := if rest.isEmpty && q.tail = q.fetched then none else q.waitStart }

/-- Invalid entries at the front of a queue complete in their place without a core (R290), each with a completion slot reserved (R296). -/
def Dev.passInvalid (i : Nat) : Nat → Dev → Dev
  | 0, d => d
  | n + 1, d => match d.fe.queues.find? i with
    | some q => match q.ahead with
      | f :: _ =>
        if f.ended.isSome && !(bit f.e.eflags 0 && !q.flight.isEmpty) && (q.flight.filter (·.ended.isSome)).length < 64 && !q.cqFull f then
          Dev.passInvalid i n (d.modQueue i (fun q => q.passed f))
        else d
      | [] => d
    | none => d

/-- An entry of an L4 or L5 queue whose next member is another module goes there whole (R288). -/
def Dev.forward (d : Dev) (i : Nat) : Dev :=
  match d.fe.queues.find? i with
  | some q => match q.ahead, d.target q with
    | f :: _, some (.inr m) =>
      if q.state = .active && d.ready q then
        let d := d.modQueue i (fun q => q.dispatched { f with member := some m } d.time)
        d.mgmt m 0x10 [i, q.gen.toNat, q.rig.toNat, (d.part q.part).key.toNat, f.index, q.field 0x16 1, q.share, b2n q.urgent, b2n q.underDemand,
            b2n (decide (0 ≤ q.credit)), q.credit.natAbs]
          (leBytes 8 f.e.pc.toNat ++ leBytes 4 f.e.eflags.toNat ++ leBytes 4 f.e.userTag.toNat ++ leBytes 8 f.e.sigHandle.toNat
            ++ leBytes 8 f.e.sigInc.toNat ++ f.e.args)
      else d
    | _, _ => d
  | none => d

/-- A candidate's entry taken by a core (R302). -/
def Dev.take (d : Dev) (c : Nat) (x : Cand) (borrow : Bool) : Dev :=
  let mark (d : Dev) : Dev := { d with fe := { d.fe with sched := d.fe.sched.upd {} c (fun s => { s with
    last := if x.rt || x.urgent then s.last else s.last.set x.prio x.key }) } }
  match d.fe.queues.find? x.key with
  | some q => match q.ahead with
    | f :: _ => mark (d.modQueue x.key (fun q => q.dispatched { f with core := some c, borrowed := borrow, member := if rigLevel q.rig ≤ 3 then none else some d.id } d.time))
    | [] => d
  | none =>
    match d.fe.forwarded.find? (fun f => f.e.core.isNone && forwardKey f.holder f.queue = x.key) with
    | some f => mark { d with fe := { d.fe with forwarded := d.fe.forwarded.map (fun g => if g = f then { g with e := { g.e with core := some c, borrowed := borrow } } else g) } }
    | none => d

/-- DISPATCH (R298, R302): a core with room takes the entry that the pick selects; an idle core starts the oldest it holds. -/
def dispatch (c : Nat) (now : Time) (d : Dev) : Dev :=
  let d := d.advance now
  let d := d.fe.queues.keys.foldl (fun d i => (Dev.passInvalid i 4 d).forward i) (d.settleAll.settleCore c)
  let d := d.startNext c
  if d.coreOpen c then
    let s := d.fe.sched.get {} c
    match pick (d.candidates c) s.borrow s.last with
    | some (x, b) =>
      let d := (d.take c x b).startNext c
      match (d.core c).run with | some r => d.event r.part | none => d
    | none => d
  else d

/-- CREDIT_REFRESH (R288): the holder sends an L4 or L5 queue's credit and urgency to its other members, and asks for their RCBs. -/
def creditRefresh (i : Nat) (now : Time) (d : Dev) : Dev :=
  let d := (d.advance now).settleQueue i
  match d.fe.queues.find? i with
  | some q =>
    if rigLevel q.rig ≤ 3 then d
    else
      let d := (d.queueMembers q).foldl (fun d m => if m = d.id then d else
        d.mgmt m 0x12 [i, q.gen.toNat, b2n (decide (0 ≤ q.credit)), q.credit.natAbs, b2n q.urgent, b2n q.underDemand] []) d
      (d.gather q.rig).forward i
  | none => d

/-! ### Completion (R294 to R297) -/

/-- One MSI-X message of a function (R297, R528). -/
def Dev.sendMsix (d : Dev) (func vec : Nat) : Dev := d.emit (.msix func vec)

/-- A queue's interrupt request: one message per HOLDOFF_US (R297). -/
def Dev.requestMsix (d : Dev) (i : Nat) : Dev :=
  match d.fe.queues.find? i with
  | some q =>
    let due := match q.lastMsix with | some t => reached d.time t (us (q.field 0x24 4)) | none => true
    if due then (d.sendMsix q.func (q.field 0x1A 2)).modQueue i (fun q => { q with lastMsix := some d.time, msixPending := false })
    else d.modQueue i (fun q => { q with msixPending := true })
  | none => d

/-- A completion record (R295). -/
def completionRecord (i : Nat) (q : Queue) (f : FlightEntry) (e : Ending) : List Byte :=
  leBytes 4 f.e.userTag.toNat ++ leBytes 4 q.rig.toNat ++ leBytes 2 e.cause.toNat ++ leBytes 2 (f.sigDone.getD 0).toNat
    ++ leBytes 4 (b2n (q.records / q.cqSize % 2 = 0) * 2 ^ 31 + queueHandle i q) ++ leBytes 8 e.status.toNat ++ leBytes 8 e.arg1.toNat

/-- Step 1 of R294: the SIGNAL of an ended entry, at this home or posted to another. -/
def Dev.entrySignal (d : Dev) (i : Nat) (q : Queue) (f : FlightEntry) : Dev :=
  let key := (d.part q.part).key
  let set (d : Dev) (g : FlightEntry → FlightEntry) : Dev :=
    d.modQueue i (fun q => { q with flight := q.flight.map (fun x => if x.index = f.index then g x else x) })
  if (SemHandle.ofWord f.e.sigHandle).module = d.id then
    let r := d.signalApply f.e.sigHandle f.e.sigInc key (moduleRig d.id)
    set r.1 (fun g => { g with sigPosted := true, sigDone := some r.2 })
  else
    (set d (fun g => { g with sigPosted := true })).egress (signalPacket key f.e.sigHandle f.e.sigInc (moduleRig d.id)) (.entrySignal i f.index)

/-- Steps 2 and 3 of R294, and the entry leaves the queue; a host ring's record waits while it may not be written (21 R530). -/
def Dev.entryRecord (d : Dev) (i : Nat) (q : Queue) (f : FlightEntry) (e : Ending) : Dev :=
  let rec' := q.hasCq && (!bit f.e.eflags 2 || e.cause ≠ 0)
  let a := q.field 8 8 + 32 * (q.records % q.cqSize)
  let bytes := completionRecord i q f e
  if rec' && !q.cqDev && !d.canMaster q.func then d
  else
    let d := if !rec' then d
      else if q.cqDev then d.writeHub q.who a bytes true else d.emit (.hostWrite q.func a bytes false)
    let d := d.modQueue i (fun q => { q with flight := q.flight.drop 1, records := q.records + b2n rec' })
    let d := if !q.hasCq && e.cause ≠ 0 then d.queueNotice q 0x0113 0 (f.e.userTag.toNat + e.cause.toNat * 2 ^ 32) e.status.toNat else d
    let d := if bit f.e.eflags 3 && q.msixEn then d.requestMsix i else d
    let d := ((d.event q.part).replayEnded i f.index).queueFree i
    if rigFatal e.cause then d.journalAuto q.part else d

/-- ENTRY_END (R294): the oldest entry of a queue, once it has ended, takes its next completion step. -/
def entryEnd (i : Nat) (now : Time) (d : Dev) : Dev :=
  let d := d.advance now
  match d.fe.queues.find? i with
  | none => d
  | some q => match q.flight with
    | [] => d
    | f :: _ => match f.ended with
      | none => d
      | some e =>
        let stores := match f.core with | some c => !(d.core c).sc.stores.isEmpty && (d.core c).run.isNone | none => false
        let d := match f.core with | some c => d.startNext c | none => d
        if bit f.e.eflags 1 && f.sigDone.isNone then
          (if f.sigPosted || stores then d
           else
             let d := d.entrySignal i q f
             match d.fe.queues.find? i with
             | some q => match q.flight with
               | f :: _ => if f.sigDone.isSome then d.entryRecord i q f e else d
               | [] => d
             | none => d)
        else d.entryRecord i q f e

/-- MSIX_HOLDOFF_EXPIRE (R297): also of an interrupt that a queue now freed had still to send. -/
def msixHoldoffExpire (i : Nat) (now : Time) (d : Dev) : Dev :=
  let d := d.advance now
  match d.fe.queues.find? i with
  | some q => if q.msixPending then d.requestMsix i else d
  | none => match d.fe.lateMsix.find? (fun x => x.queue = i && timeLe x.due d.time) with
    | some x => ({ d with fe := { d.fe with lateMsix := d.fe.lateMsix.erase x } }).sendMsix x.func x.vector
    | none => d

/-- CQ_HEAD_POLL (R296): a full device ring's head word, at most every 10 µs. -/
def cqHeadPoll (i : Nat) (now : Time) (d : Dev) : Dev :=
  let d := d.advance now
  match d.fe.queues.find? i with
  | some q =>
    let full := d.holdReason q = some 1
    let due := match q.lastPoll with | some t => reached d.time t (us 10) | none => true
    if q.cqDev && q.hasCq && full && due then
      let h := leNat (d.readVa q.who (q.field 8 8 + 32 * q.cqSize) 8)
      d.modQueue i (fun q => { q with cqHead := BitVec.ofNat 32 h, lastPoll := some d.time })
    else d
  | none => d

/-! ### Scheduling windows and waits (R299, R300) -/

/-- SCHED_WINDOW_END (R299): each real-time queue is under-demand when its charges in the whole window were less than its cap. -/
def schedWindowEnd (now : Time) (d : Dev) : Dev :=
  let d := (d.advance now).settleAll
  if !reached d.time d.fe.windowStart (ns d.fe.window) then d
  else
    let start := d.fe.windowStart
    let w := d.fe.window
    let qs := d.fe.queues.mapv (fun _ q =>
      let cap := q.share * 16 * d.coresActive q.rig * w
      { q with underDemand := q.rt && timeLe q.created start && q.windowCharge * 1024 < cap, windowCharge := 0 })
    { d with fe := { d.fe with queues := qs, windowStart := ns (nsOf d.time / w * w) } }

/-- Whether a queue waits (R300): a submitted entry has not been dispatched. -/
def Queue.waits (q : Queue) : Bool := (q.state = .active || q.state = .error) && (q.tail ≠ q.fetched || !q.ahead.isEmpty)

/-- T_urgent of a queue in nanoseconds. -/
def Dev.tUrgent (d : Dev) (q : Queue) : Nat := if q.field 0x1C 4 = 0 then d.fe.tUrgent else q.field 0x1C 4 * 1000
/-- T_stay of a queue in nanoseconds. -/
def Dev.tStay (d : Dev) (q : Queue) : Nat := if q.field 0x20 4 = 0 then d.fe.tStay else q.field 0x20 4 * 1000

/-- QUEUE_URGENT (R300). -/
def queueUrgent (i : Nat) (now : Time) (d : Dev) : Dev :=
  let d := d.advance now
  match d.fe.queues.find? i with
  | some q => match q.waitStart with
    | some t => if q.waits && !q.rt && d.tUrgent q < nsBetween t d.time then d.modQueue i (fun q => { q with urgent := true }) else d
    | none => d
  | none => d

/-- FE_QUEUE_STAY (R300): each multiple of T_stay raises the notice with the reason that holds the queue. -/
def feQueueStay (i : Nat) (now : Time) (d : Dev) : Dev :=
  let d := d.advance now
  match d.fe.queues.find? i with
  | some q => match q.waitStart with
    | some t =>
      let w := nsBetween t d.time
      if q.waits && (q.stays + 1) * d.tStay q ≤ w then
        (d.modQueue i (fun q => { q with stays := q.stays + 1 })).queueNotice q 0x0150 0
          (queueHandle i q + (d.holdReason q).getD 0 * 2 ^ 20) w
      else d
    | none => d
  | none => d

/-! ### Identifiers, streams, semaphores, notices (R303 to R311) -/

/-- The kinds of identifier (R303). -/
inductive IdKind where
  | queue | stream | sem
  deriving DecidableEq, Repr

/-- ID_QUARANTINE_END (R304). -/
def idQuarantineEnd (k : IdKind) (n : Nat) (now : Time) (d : Dev) : Dev :=
  let d := d.advance now
  let out (t : IdTable) : IdTable :=
    let t := { t with allSince := t.allHeld d.time }
    if t.held n d.time then t else { t with quarantine := t.quarantine.del n }
  match k with
  | .queue => { d with fe := { d.fe with qIds := out d.fe.qIds } }
  | .stream => { d with fe := { d.fe with sIds := out d.fe.sIds } }
  | .sem => { d with fe := { d.fe with semIds := out d.fe.semIds } }

/-- STREAM_OPEN (R306): the destination must hold rigs of the partition. -/
def streamOpen (part : Nat) (dest : BitVec 14) (now : Time) (d : Dev) : Dev :=
  let d := d.advance now
  if !(d.part part).modules.contains dest then d.reply 0x0106 0 0
  else match d.fe.sIds.pick 262144 d.time with
    | none => d.reply 0x0104 (d.fe.sIds.nextFree d.time) 0
    | some i =>
      let ids := d.fe.sIds.take i
      let d := { d with fe := { d.fe with sIds := ids, streams := d.fe.streams.set i { part := part, dest := dest, open' := true } } }
      d.reply 0 (i + (ids.gens.get 0 i).toNat * 2 ^ 18) 0

/-- STREAM_CLOSE (R306): no new transfer; it completes when those in flight have. -/
def streamClose (part : Nat) (handle : Word) (now : Time) (d : Dev) : Dev :=
  let d := d.advance now
  let i := bits handle 17 0
  match d.streamOk part handle with
  | none => (if d.streamStale handle then d.stale else d).reply 0x0140 0 0
  | some s =>
    if s.inFlight = 0 then
      ({ d with fe := { d.fe with streams := d.fe.streams.del i, sIds := d.fe.sIds.free i d.time } }).reply 0 i 0
    else { d with fe := { d.fe with streams := d.fe.streams.set i { s with closing := true } } }

/-- A semaphore's slot written (R276, R307). -/
def Dev.semWrite (d : Dev) (n : Nat) (v : Nat) (key : BitVec 16) (gen : Nat) (alloc : Bool) : Dev :=
  d.writePlain (semSlot n) (leBytes 8 v ++ leBytes 2 key.toNat ++ leBytes 1 gen ++ leBytes 1 (b2n alloc)) false false

/-- SEM_ALLOC (R304, R307). -/
def semAlloc (part : Nat) (init : Word) (now : Time) (d : Dev) : Dev :=
  let d := d.advance now
  match d.fe.semIds.pick 1048576 d.time with
  | none => d.reply 0x0104 (d.fe.semIds.nextFree d.time) 0
  | some i =>
    let ids := d.fe.semIds.take i
    let g := (ids.gens.get 0 i).toNat
    let d := { d with fe := { d.fe with semIds := ids } }
    (d.semWrite i init.toNat (d.part part).key g true).reply 0 (i + g * 2 ^ 20 + d.id.toNat * 2 ^ 26) 0

/-- SEM_FREE (R307): pending WAITs complete with 0x0141, the slot is cleared, the identifier quarantined. -/
def semFree (part : Nat) (handle : Word) (now : Time) (d : Dev) : Dev :=
  let d := d.advance now
  let h := SemHandle.ofWord handle
  let key := (d.part part).key
  match (if h.module ≠ d.id then 0x0141 else d.semCheck h key) with
  | 0 =>
    let ws := d.coh.waits.filter (·.sem = h.sem)
    let d := { d with coh := { d.coh with waits := d.coh.waits.filter (·.sem ≠ h.sem) } }
    let d := ws.foldl (fun (d : Dev) w => d.finish w.core w.id { cause := 0x0141 }) d
    let d := d.semWrite h.sem 0 (d.semKey h.sem) (d.semGen h.sem).toNat false
    ({ d with fe := { d.fe with semIds := d.fe.semIds.free h.sem d.time } }).reply 0 0 0
  | 0x0142 => (d.semForeign handle key (moduleRig d.id)).reply 0x0142 0 0
  | c => d.stale.reply c 0 0

/-- Held notices of a ring written while it has room, oldest first (R311). -/
def Dev.drainNotices (ring : Nat) : Nat → Dev → Dev
  | 0, d => d
  | n + 1, d =>
    if !d.ringReady ring then d
    else if 0 < (d.fe.rings.get {} ring).lost then
      let r := d.fe.rings.get {} ring
      Dev.drainNotices ring n (({ d with fe := { d.fe with rings := d.fe.rings.set ring { r with lost := 0 } } }).writeRing ring
        { code := 0x0151, rig := moduleRig d.id, time := d.time, lost := true, arg0 := BitVec.ofNat 64 r.lost
          part := if ring < 4097 then none else some (ring - 4097) })
    else match d.fe.held.find? (·.ring = ring) with
      | some h => Dev.drainNotices ring n (({ d with fe := { d.fe with held := d.fe.held.erase h } }).writeRing ring h.n)
      | none => d

/-- NOTICE_FLUSH (R311). -/
def noticeFlush (ring : Nat) (now : Time) (d : Dev) : Dev := Dev.drainNotices ring 257 (d.advance now)

end Sys2Proof.Machine
end

