-- ==== Sys2Proof/Machine/Rigs.lean ====
section
/-!
DEFINITION. Rigs (01 R33 to R45): their states and control blocks, the reset verbs and how they overlap, POWER_REQ; the drain and
the end of a reset (18 R468 to R473, R480).
-/
namespace Sys2Proof.Machine

/-- The cores of this module, by logical index, that a rig holds. -/
def Dev.coresOf (d : Dev) (r : BitVec 32) : List Nat := (List.range 512).filter (rigHolds r d.id)

/-- A rig's state from its code (R38). -/
def RigState.ofCode : Nat → RigState
  | 1 => .offline | 2 => .idle | 3 => .busy | 4 => .quiesced | 5 => .resetting | 6 => .retired | _ => .absent

/-- Whether a reset of a rig itself is in progress (R38, R40): its own, one of a rig or partition that holds it, or one of an L4 or L5 rig. -/
def Dev.rigResetting (d : Dev) (r : BitVec 32) : Bool :=
  d.rst.running.any (fun x => x.groups.contains r || (match x.part with
    | some p => (d.part p).rigs.any (fun g => rigEncloses g r)
    | none => rigEncloses x.rig r))

/-- State of a rig as RIG_STATUS shows it (R38): a core's own, a group's derived from its members in service; those of an L4 or L5 rig
that lie on other modules stand as they were last reported. -/
def Dev.rigState (d : Dev) (r : BitVec 32) : RigState :=
  if rigLevel r = 0 then (d.rig (rigIndex r)).state
  else
    let ms := (d.coresOf r).map (fun c => (d.rig c).state) ++ (d.peersOf r).map (fun p => RigState.ofCode (p.field 4 4 / 2 ^ 28))
    let live := ms.filter (fun s => match s with | .idle | .busy | .quiesced | .resetting => true | _ => false)
    if d.rigResetting r then .resetting
    else if ms.all (fun s => match s with | .absent | .offline => true | _ => false) then .offline
    else if live.isEmpty then .retired
    else if live.all (· = .quiesced) then .quiesced
    else if live.any (· = .busy) then .busy
    else .idle

/-- Why a Rig ID is refused (R36): 0x0120 invalid, 0x0121 absent or retired; 0 when it names a rig here. A request here that names a rig of
another module, which the system's census did find, is answered 0x0121 too: the manual gives no cause for it (DESIGN CHOICE, log entry
123). -/
def Dev.rigCheck (d : Dev) (r : BitVec 32) : Cause :=
  if !rigValid r then 0x0120
  else if rigLevel r ≤ 3 && rigModule r ≠ d.id then 0x0121
  else match d.rigState r with
    | .absent | .offline | .retired => 0x0121
    | _ => 0

/-! ### Quiesce and resume (R39, R480) -/

/-- A core stops taking entries, and is QUIESCED once none is in flight; during a reset it will be. -/
def Dev.quiesceCore (d : Dev) (c : Nat) : Dev :=
  d.modRig c (fun g => { g with
    quiescing := true
    state := if g.state = .idle && d.coreFlight c = 0 then .quiesced else g.state })

/-- QUIESCE of a rig on this module. -/
def Dev.quiesceRig (d : Dev) (r : BitVec 32) : Dev :=
  let d := (d.coresOf r).foldl Dev.quiesceCore (d.modRig (rigIndex r) (fun g => { g with quiescing := true }))
  { d with rst := { d.rst with running := d.rst.running.map (fun (x : RigReset) => if x.part.isNone && x.rig = r then { x with pendingQuiesce := true } else x) } }

/-- A verb sent on to the member modules of a group rig. -/
def Dev.verbForward (d : Dev) (r : BitVec 32) (verb : Nat) : Dev :=
  (d.rigMembers r).foldl (fun (d : Dev) m => d.mgmt m 0x30 [verb, r.toNat] []) d

/-- The part of a rig that lies on this module: the rig, or the module of an L4 or L5 rig. -/
def Dev.localRig (d : Dev) (r : BitVec 32) : BitVec 32 := if 4 ≤ rigLevel r then moduleRig d.id else r

/-- QUIESCE (R39). -/
def quiesce (r : BitVec 32) (now : Time) (d : Dev) : Dev :=
  let d := d.advance now
  match d.rigCheck r with
  | 0 => (((d.verbForward r 1).quiesceRig (d.localRig r))).reply 0 0 0
  | c => d.reply c 0 0

/-- The group rigs of this module that lie inside a rig, by table index. -/
def Dev.groupsIn (d : Dev) (r : BitVec 32) : List Nat :=
  ((List.range 64).filter (fun k => rigEncloses r (clusterRig d.id k))).map (512 + ·)
  ++ ((List.range 8).filter (fun k => rigEncloses r (dieRig d.id k))).map (576 + ·)
  ++ (if rigEncloses r (moduleRig d.id) then [584] else [])

/-- RESUME (R39). -/
def resume (r : BitVec 32) (now : Time) (d : Dev) : Dev :=
  let d := d.advance now
  match d.rigCheck r with
  | 0 =>
    let l := d.localRig r
    let d := (rigIndex l :: d.groupsIn l).foldl (fun (d : Dev) i => d.modRig i (fun g => { g with quiescing := false })) (d.verbForward r 2)
    let d := (d.coresOf l).foldl (fun (d : Dev) c => d.modRig c (fun g => { g with
      quiescing := false, state := if g.state = .quiesced then .idle else g.state })) d
    let d := { d with rst := { d.rst with running := d.rst.running.map (fun (x : RigReset) => if x.rig = l then { x with pendingQuiesce := false } else x) } }
    d.reply 0 0 0
  | c => d.reply c 0 0

/-! ### Resets of cores, clusters, dies and partitions (18 R471) -/

/-- Whether posted packets are a core's (18 R471 step 4). -/
def Owner.ofCore (o : Owner) (f : Nat → Bool) : Bool := match o with
  | .tensor c _ | .rflush c _ | .load c => f c
  | _ => false

/-- Steps 1 to 3 of a reset (RESET_STOP): the domain's cores enter RESETTING, their tentative work is squashed, their committed
instructions stop with 0x0931 and their entries complete with 0x0930, packets not yet posted are discarded, arm records too. -/
def Dev.resetStop (d : Dev) (cores : List Nat) : Dev :=
  (cores.foldl (fun (d : Dev) c =>
    if !d.inService c then d
    else
      let d := d.dropEntry c 0x0930
      let d := { d with fab := { d.fab with egressWait := d.fab.egressWait.filter (fun q => !q.owner.ofCore (· = c)) } }
      let d := (d.modCore c (fun k => { k with arms := [], sc := { k.sc with stores := [], wait := none, resv := none } })).reportEnded c
      d.modRig c (fun g => { g with state := .resetting })) d).pruneOnPkg

/-- Whether a reset's domain holds another's: its rig, or a rig of its partition, is or encloses the other's rigs. -/
def Dev.resetHolds (d : Dev) (x y : RigReset) : Bool :=
  let rigs (z : RigReset) : List (BitVec 32) := match z.part with | some p => (d.part p).rigs | none => [z.rig]
  (rigs y).all (fun r => (rigs x).any (fun g => rigEncloses g r))

/-- A reset begun (R40, R468): inside or at a running one it merges, and widens it to a clear; enclosing running ones it subsumes
them, and clears where one of them would have. -/
def Dev.resetStart (d : Dev) (x : RigReset) : Dev :=
  if d.rst.running.any (fun y => d.resetHolds y x) then
    { d with rst := { d.rst with running := d.rst.running.map (fun (y : RigReset) =>
        if d.resetHolds y x then { y with merged := y.merged + 1, retain := y.retain && x.retain, groups := y.groups ++ x.groups } else y) } }
  else
    let inner := d.rst.running.filter (d.resetHolds x)
    let x := { x with merged := x.merged + (inner.map (fun y => y.merged + 1)).foldl (· + ·) 0
                      retain := x.retain && inner.all (·.retain) }
    let cores := (List.range 512).filter (d.domainHolds x)
    let d := d.resetStop cores
    { d with rst := { d.rst with running := d.rst.running.filter (fun y => !inner.contains y) ++ [x] } }

/-- RESET_RETAIN (R39): accepted for cores and clusters. -/
def resetRetain (r : BitVec 32) (now : Time) (d : Dev) : Dev :=
  let d := d.advance now
  match d.rigCheck r with
  | 0 =>
    if 2 ≤ rigLevel r then d.reply 0x0911 0 0
    else (d.resetStart { rig := r, retain := true }).reply 0 0 0
  | c => d.reply c 0 0

/-- The state of a core that a reset zeroes whatever it keeps of the SRAM (18 R470): the logic, the sealed slots, the groups. -/
def Core.cleared (k : Core) : Core :=
  { k with
    sc := { k.sc with x := [], f := [], fcsr := 0, pc := 0, machine := true, mcause := 0, mtval := 0, lds := [], ldsPoison := []
                      resv := none, stores := [], wait := none }
    tx := { ({} : TensorRegs) with txsqcnt := k.tx.txsqcnt, txsqcyc := k.tx.txsqcyc, txarmovr := k.tx.txarmovr }
    tiq := [], arms := [], run := none, ending := none, mismatches := [], parityFaults := [], tcache := [], pcache := [] }

/-- A core's SRAM zero-filled (16 R431). -/
def Dev.clearSram (d : Dev) (c : Nat) : Dev := (d.zeroFill (stackBase c) 0x4000000).zeroFill (scratchBase c) 0x400000

/-- A core's sealed slots zero-filled (04 R128). -/
def Dev.clearSealed (d : Dev) (c : Nat) : Dev :=
  let n := (d.core c).accGroups * 0x10000
  if n = 0 then d else d.zeroFill (scratchBase c + 0x400000 - n) n

/-- Steps 5 and 6 of a reset for one core. -/
def Dev.resetCore (d : Dev) (retain quiesce : Bool) (c : Nat) : Dev :=
  if (d.rig c).state ≠ .resetting then d
  else
    let d := if retain then d.clearSealed c else d.clearSram c
    let d := d.modCore c Core.cleared
    d.modRig c (fun g => { g with
      state := if quiesce || g.quiescing then .quiesced else .idle, quiescing := quiesce || g.quiescing, retained := retain, resetCount := g.resetCount + 1 })

/-- Whether every pair-order packet that a domain posted has left its window (18 R471 step 4). -/
def Dev.drained (d : Dev) (x : RigReset) : Bool :=
  d.fab.out.all (fun o => o.2.window.all (fun q => !q.owner.ofCore (d.domainHolds x) &&
    (match x.part with | some p => !(q.p.ptype = 2 && q.p.pkey = (d.part p).key) | none => true)))
  && (match x.part with | some p => d.mem.egress.all (fun e => e.part ≠ p) | none => true)

/-- A job unloaded from a partition on this module (20 R521): its registrations end. -/
def Dev.dropJob (d : Dev) (p : Nat) : Dev :=
  let cores := (List.range 512).filter (fun c => (d.part p).rigs.any (fun g => rigHolds g d.id c))
  let d := cores.foldl (fun (d : Dev) c => d.modCore c (fun k => { k with accGroups := 0 })) d
  d.modPart p (fun q => { q with job := none, jrn := { q.jrn with unsetNoted := false } })

/-- Every egress line of a partition put up for write-back (18 R471 step 4, 08 R271). -/
def Dev.flushPart (d : Dev) (p : Nat) : Dev :=
  let (mine, rest) := d.mem.egress.partition (fun (e : EgressLine) => e.part = p)
  mine.foldl (fun (d : Dev) e => d.egress
    { ptype := 2, dst := e.home, pkey := e.pkey, addr := e.va, xarg := e.mask, payload := e.bytes, pmask := if e.poison then 1 else 0 } .egress)
    { d with mem := { d.mem with egress := rest } }

/-! ### POWER_REQ (R41) -/

/-- Members of a group rig one level down, by table index and Rig ID. -/
def Dev.memberRigs (d : Dev) (r : BitVec 32) : List (BitVec 32) :=
  match rigLevel r with
  | 1 => (List.range 8).map (fun i => coreRig d.id (bits r 14 9 * 8 + i))
  | 2 => (List.range 8).map (fun i => clusterRig d.id (bits r 14 12 * 8 + i))
  | 3 => (List.range 8).map (fun i => dieRig d.id i)
  | _ => []

/-- Shares of a request (R41): in proportion to CORES_ACTIVE, rounded down to 1 W; the remainder goes to the lowest-numbered members, 1 W
each. A member without a core in service is none. -/
def shares (total : Nat) (ws : List Nat) : List Nat :=
  let n := ws.foldl (· + ·) 0
  if n = 0 then ws.map (fun _ => 0)
  else
    let base := ws.map (fun w => total * w / n)
    let left := total - base.foldl (· + ·) 0
    ((base.zip ws).foldl (fun (s : List Nat × Nat) b =>
      if 0 < s.2 && b.2 ≠ 0 then (s.1 ++ [b.1 + 1], s.2 - 1) else (s.1 ++ [b.1], s.2)) ([], left)).1

end Sys2Proof.Machine
end

