-- ==== Sys2Proof/Machine/Package.lean ====
section
/-!
DEFINITION. The package links (01 R18 to R25): flits with their CRC, credits and replay on each end of each UCIe module; and the
on-package halyard (01 R26 to R28).
-/
namespace Sys2Proof.Machine

/-! ### Flits (R19, R20, R22 to R24) -/

/-- The 256 bytes of a flit (R19, R20). -/
def flitBytes (ty vc : Nat) (seq ack : BitVec 10) (crVc crCount : Nat) (sop eop poison : Bool) (payload : List Byte) : List Byte :=
  let h := ty * 2 ^ 60 + vc * 2 ^ 58 + seq.toNat * 2 ^ 48 + ack.toNat * 2 ^ 38 + crVc * 2 ^ 36 + crCount * 2 ^ 28 + b2n sop * 2 ^ 27
    + b2n eop * 2 ^ 26 + b2n poison * 2 ^ 25 + payload.length % 256 * 2 ^ 16
  let b := leBytes 8 h ++ payload.take 244 ++ List.replicate (244 - payload.length) 0
  b ++ leBytes 4 (crc32c b).toNat

/-- Credits to be returned in the next flit: a channel and a count (R20, R22). -/
def Ucie.giveBack (u : Ucie) : Nat × Nat := match u.owed with
  | (vc, n) :: _ => (vc, min 255 n)
  | [] => (0, 0)

/-- A flit sent from an end, with its acknowledgement and the credits it returns. -/
def Dev.sendFlit (d : Dev) (e ty vc : Nat) (seq : BitVec 10) (ack : Option (BitVec 10)) (sop eop poison : Bool) (payload : List Byte) : Dev :=
  let u := d.ucie e
  let g := u.giveBack
  (d.modUcie e (fun u => { u with owed := if g.2 = 0 then u.owed else
      (let left := u.owed.get 0 g.1 - g.2; if left = 0 then u.owed.del g.1 else u.owed.set g.1 left) })).emit
    (.flit e (flitBytes ty vc seq (ack.getD u.ack) g.1 g.2 sop eop poison payload))

/-- The first channel in the order VC3, VC0, VC2, VC1 that has a flit ready and, where credited, a credit (R22, R24). -/
def Ucie.ready (u : Ucie) : Option (Nat × Flit) :=
  [3, 0, 2, 1].findSome? (fun vc => match u.queue.get [] vc with
    | f :: _ => if vc = 0 || 0 < u.credits.get 0 vc then some (vc, f) else none
    | [] => none)

/-- PKG_FLIT_SEND (R22 to R24): the CREDIT_INIT flits of the link-up first; then resends, in order; then the next flit ready, held for
replay; else an IDLE flit. -/
def pkgFlitSend (e : Nat) (now : Time) (d : Dev) : Dev :=
  let d := d.advance now
  let u := d.ucie e
  if !u.up || u.retraining || u.retired then d
  else match u.inits, u.resend with
    | (vc, n) :: is, _ =>
      (d.modUcie e (fun u => { u with inits := is })).emit (.flit e (flitBytes 4 0 0 u.ack vc n false false false []))
    | [], f :: fs =>
      if 9 ≤ f.sends then d
      else
        let d := d.modUcie e (fun u => { u with
          resend := fs, replay := u.replay.map (fun (x : Flit) => if x.seq = f.seq then { x with sends := x.sends + 1 } else x) })
        d.sendFlit e 1 f.vc f.seq none f.sop f.eop f.poison f.payload
    | [], [] => match u.ready with
      | some (vc, f) =>
        if 512 ≤ u.replay.length then d.sendFlit e 0 0 0 none false false false []
        else
          let f := { f with vc := vc, seq := u.nextSeq, sends := 1 }
          let d := d.modUcie e (fun u => { u with
            queue := u.queue.upd [] vc (·.drop 1), credits := if vc = 0 then u.credits else u.credits.upd 0 vc (· - 1)
            replay := u.replay ++ [f], nextSeq := u.nextSeq + 1, heardAt := if u.replay.isEmpty then d.time else u.heardAt })
          d.sendFlit e 1 vc f.seq none f.sop f.eop f.poison f.payload
      | none => d.sendFlit e 0 0 0 none false false false []

/-- A flit is discarded and a NAK names the next SEQ expected (R23): each time where its CRC fails; once per gap where its CRC holds and
its SEQ is not the next, of which the spec does not speak (DESIGN CHOICE, log 127). -/
def Dev.pkgDiscard (d : Dev) (e : Nat) (crcFails : Bool) : Dev :=
  let u := d.ucie e
  if u.nakSent && !crcFails then d
  else (d.modUcie e (fun u => { u with nakSent := true })).sendFlit e 3 0 0 (some u.expect) false false false []

/-- PKG_NAK_RX (R23): resending starts at the named SEQ, in order. -/
def pkgNakRx (e : Nat) (seq : BitVec 10) (now : Time) (d : Dev) : Dev :=
  let d := d.advance now
  d.modUcie e (fun u =>
    let u := u.acked (seq - 1) d.time
    { u with resend := u.replay, heardAt := d.time })

/-- PKG_CREDIT_INIT_RX (R22): the receiver announces its credits at link-up. -/
def pkgCreditInitRx (e vc n : Nat) (now : Time) (d : Dev) : Dev :=
  let d := d.advance now
  if vc = 0 then d else d.modUcie e (fun u => { u with credits := u.credits.set vc n })

/-- A copy of an on-package halyard packet goes on to root's children or ring neighbours (R26): from the hub to the die over whose links
each target die is reached; from a die to the neighbour that a cut-off target die is reached by. -/
def Dev.onPkgForward (d : Dev) (from' : Option Nat) (targets : List Nat) (bs : List Byte) : Dev :=
  let fs := packetFlits 35 3 0 false true bs
  match from' with
  | none => ((targets.filterMap (fun t => (d.hubPath t).bind List.getLast?)).eraseDups).foldl (fun (d : Dev) k => d.pkgQueue (k * 8) 8 1 3 0 fs) d
  | some die =>
    let next (t : Nat) : Option Nat := match d.hubPath t with
      | some p => ((p.zip (p.drop 1)).find? (fun x => x.2 = die)).map (·.1)
      | none => none
    ((targets.filterMap next).eraseDups).foldl (fun (d : Dev) k => d.pkgQueue (ringSide die k).1 4 (ringSide die k).2 3 0 fs) d

/-- The dies that a copy's DIE_MASK names (R27). -/
def copyDies (bs : List Byte) : List Nat := (List.range 8).filter (fun k => leNat (bs.take 16) / 2 ^ (80 + k) % 2 = 1)

/-- The HSEQ of a copy (R27). -/
def copySeq (bs : List Byte) : BitVec 32 := BitVec.ofNat 32 (leNat (bs.take 16) / 2 ^ 96)

/-- A copy reaches a die's switch: its cores may take it, and it goes on toward cut-off dies (R26). -/
def Dev.onPkgArrive (d : Dev) (die : Nat) (bs : List Byte) : Dev :=
  let d := { d with pkg := { d.pkg with onpkg := d.pkg.onpkg.map (fun (p : OnPkg) =>
    if p.hseq = copySeq bs then { p with reached := p.reached.insert die } else p) } }
  d.onPkgForward (some die) (copyDies bs) bs

/-- A whole packet handed on by an end (R21): on VC3 to the die's switch as a halyard copy; on VC0 to the hub's ingress unit, to the HUB
injection queue, or to the neighbour's transit input. The packets of VC1 and VC2, memory requests and responses, have no layout in the
spec, and none is sent (log 127). -/
def Dev.pkgDeliver (d : Dev) (e vc : Nat) (bs : List Byte) : Dev :=
  let low := (e - 128) / 8
  let die := if e < 128 then e / 16 else (low + e % 2) % 8
  if vc = 3 then (if e < 128 && e % 2 = 1 then d else d.onPkgArrive die bs)
  else if vc ≠ 0 then d
  else match parsePackets 1 bs with
    | p :: _ =>
      if 128 ≤ e then d.modSwitch die (fun s => { s with inputs := s.inputs.upd [] (4 + e % 2) (· ++ [p]) })
      else if e % 2 = 0 then d.fromHub die p
      else d.modSwitch die (fun s => { s with ingress := s.ingress ++ [p] })
    | [] => d

/-- A DATA flit taken in order: its buffer's credit is owed back, and with EOP its packet is handed on. -/
def Dev.pkgAccept (d : Dev) (e : Nat) (f : Flit) : Dev :=
  let whole := ((d.ucie e).arrived ++ [f]).filter (fun (x : Flit) => x.vc = f.vc)
  let d := d.modUcie e (fun u => { u with
    expect := u.expect + 1, ack := f.seq, nakSent := false
    owed := if f.vc = 0 then u.owed else u.owed.upd 0 f.vc (· + 1)
    arrived := if f.eop then u.arrived.filter (fun (x : Flit) => x.vc ≠ f.vc) else u.arrived ++ [f] })
  if f.eop then d.pkgDeliver e f.vc (flitsBytes whole) else d

/-- Credits that a flit returns (R20, R22). -/
def Ucie.credited (u : Ucie) (vc n : Nat) : Ucie := if vc = 0 || n = 0 then u else { u with credits := u.credits.upd 0 vc (· + n) }

/-- PKG_FLIT_RX (R19, R20, R22, R23): 256 bytes arrive at an end. A reserved TYPE counts as a CRC error. What a reserved LEN above 244
means the spec does not say: the flit is taken with its 244 payload bytes (DESIGN CHOICE, log 127). -/
def pkgFlitRx (e : Nat) (bs : List Byte) (now : Time) (d : Dev) : Dev :=
  let d := d.advance now
  let u := d.ucie e
  let h := leNat (bs.take 8)
  let f (hi lo : Nat) : Nat := h / 2 ^ lo % 2 ^ (hi + 1 - lo)
  if !u.up || u.retraining || u.retired then d
  else if bs.length ≠ 256 || (crc32c (bs.take 252)).toNat ≠ leNat (bs.drop 252) || 4 < f 63 60 then d.pkgDiscard e true
  else if f 63 60 = 4 then pkgCreditInitRx e (f 37 36) (f 35 28) now d
  else
    let d := d.modUcie e (fun u => u.credited (f 37 36) (f 35 28))
    if f 63 60 = 3 then pkgNakRx e (BitVec.ofNat 10 (f 47 38)) now d
    else
      let d := d.modUcie e (fun u => u.acked (BitVec.ofNat 10 (f 47 38)) d.time)
      if f 63 60 ≠ 1 then d
      else
        let seq := BitVec.ofNat 10 (f 57 48)
        if seq ≠ u.expect then d.pkgDiscard e false
        else d.pkgAccept e { vc := f 59 58, seq := seq, sop := bit (BitVec.ofNat 64 h) 27, eop := bit (BitVec.ofNat 64 h) 26
                             poison := bit (BitVec.ofNat 64 h) 25, payload := (bs.drop 8).take (min 244 (f 23 16)) }

/-- PKG_REPLAY_TIMEOUT (R23): unacknowledged flits, and no ACK or NAK for 1 µs. -/
def pkgReplayTimeout (e : Nat) (now : Time) (d : Dev) : Dev :=
  let d := d.advance now
  let u := d.ucie e
  if u.up && !u.retraining && !u.replay.isEmpty && reached d.time u.heardAt (us 1) then
    d.modUcie e (fun u => { u with resend := u.replay, heardAt := d.time })
  else d

/-- PKG_REPLAY_EXHAUSTED (R23): a flit has been resent 8 times without acknowledgement; the UCIe module retrains. -/
def pkgReplayExhausted (e : Nat) (now : Time) (d : Dev) : Dev :=
  let d := d.advance now
  let u := d.ucie e
  if u.up && !u.retraining && u.replay.any (fun f => 9 ≤ f.sends) then
    (d.modUcie e (fun u => { u with retraining := true, resend := [] })).modUcie (farEnd e) (fun u => { u with retraining := true, resend := [] })
  else d

/-! ### Retirement of UCIe modules and dies (R18, R23, R25) -/

/-- A die that fails: its rigs are RETIRED, 0x0952 is raised (18 R475). -/
def Dev.retireDie (d : Dev) (die : Nat) : Dev :=
  let d := d.settleAll
  let d := ((List.range 64).map (die * 64 + ·)).foldl (fun (d : Dev) c =>
    if d.inService c then (d.dropEntry c 0x0930).modRig c (fun g => { g with state := .retired }) else d.modRig c (fun g => { g with state := .retired })) d
  ({ d with pkg := { d.pkg with diesOut := d.pkg.diesOut.insert die } }).pruneOnPkg.notify { code := 0x0952, cls := 2, rig := dieRig d.id die }

/-- Flits cut into the packets they make up. -/
def cutFlits : List Flit → List Flit → List (List Flit)
  | acc, [] => if acc.isEmpty then [] else [acc]
  | acc, f :: fs => if f.eop then (acc ++ [f]) :: cutFlits [] fs else cutFlits (acc ++ [f]) fs

/-- Packets of a channel that an end has not yet brought across, oldest first, each whole: what the far end holds of the first one, then
the flits it has not accepted. -/
def Dev.heldPackets (d : Dev) (e vc : Nat) : List (List Flit) :=
  cutFlits [] (((d.ucie (farEnd e)).arrived.filter (fun (f : Flit) => f.vc = vc)) ++ d.unaccepted e vc)

/-- A halyard copy is posted again for the target dies it has not reached. -/
def Dev.onPkgAgain (d : Dev) (bs : List Byte) : Dev :=
  match d.pkg.onpkg.find? (fun (p : OnPkg) => p.hseq = copySeq bs) with
  | some p => d.onPkgForward none ((copyDies bs).filter (fun k => !p.reached.contains k)) bs
  | none => d

/-- Packets of a channel taken from a retired link's end to the die pair's other links by R21; where none is left, packets to the hub go
by the ring, packets from the hub back to the hub's queue, packets of the ring back to the switch that sent them, and halyard copies
by another path (R25, R26). Each goes whole, on one link, from its first flit (R21; DEDUCED, log 127). -/
def Dev.pkgMove (d : Dev) (e vc : Nat) (held : List (List Flit)) : Dev :=
  let pair := pairLinks (e / 2)
  if !(d.workingLinks pair.1 pair.2).isEmpty then
    held.foldl (fun (d : Dev) fs => d.pkgQueue pair.1 pair.2 (e % 2) vc ((fs.getLast?.getD {}).key)
      (fs.map (fun f => { f with key := (fs.getLast?.getD {}).key, sends := 0 }))) d
  else
    let whole := held.map flitsBytes
    let ps := whole.flatMap (parsePackets 1)
    if vc = 3 then whole.foldl Dev.onPkgAgain d
    else if vc ≠ 0 then d
    else if 128 ≤ e then
      let die := ((e - 128) / 8 + e % 2) % 8
      d.modSwitch die (fun s => { s with inputs := s.inputs.upd [] (4 + e % 2) (· ++ ps) })
    else if e % 2 = 1 then { d with fab := { d.fab with hubOut := ps ++ d.fab.hubOut } }
    else match d.hubPath (e / 16) with
      | some (_ :: n :: _) => ps.foldl (fun (d : Dev) p => d.ringSend (e / 16) n p) d
      | _ => d

/-- A UCIe module retired (R18, R23, R25): what its ends held goes on over the remaining ones, in order. -/
def Dev.retireUcie (d : Dev) (link : Nat) : Dev :=
  let d := d.notice 0x0531 2 0 0
  let held := ([0, 1] : List Nat).flatMap (fun i => ([3, 0, 2, 1] : List Nat).map (fun vc => (2 * link + i, vc, d.heldPackets (2 * link + i) vc)))
  let d := ([0, 1] : List Nat).foldl (fun (d : Dev) i => d.modUcie (2 * link + i) (fun _ => { retired := true })) d
  let d := held.foldl (fun (d : Dev) x => d.pkgMove x.1 x.2.1 x.2.2) d
  ((List.range 8).filter (fun k => !d.reachesHub k && !d.pkg.diesOut.contains k)).foldl Dev.retireDie d

/-- A UCIe module up after training: both ends start from their reset numbers, and their receivers have their credits to announce (R18,
R22). -/
def Dev.ucieUp (d : Dev) (link rate : Nat) : Dev :=
  (List.range 2).foldl (fun (d : Dev) i =>
    d.modUcie (2 * link + i) (fun u => { u with up := true, rate := rate }.fresh)) d

/-- UCIE_RETRAIN_DONE (R18, R23): `rate` is 32 or 16 where the retrain succeeded, 0 where it failed at both. -/
def ucieRetrainDone (link rate : Nat) (now : Time) (d : Dev) : Dev :=
  let d := d.advance now
  if !(d.ucie (2 * link)).retraining then d
  else if rate = 0 then d.retireUcie link
  else (List.range 2).foldl (fun (d : Dev) i => d.modUcie (2 * link + i) (fun u =>
    let again := u.replay.map (fun (f : Flit) => { f with sends := 1 })
    { u with retraining := false, rate := rate, replay := again, resend := again, nakSent := false, heardAt := d.time })) d

/-! ### The on-package halyard (R26 to R28) -/

/-- ONPKG_HALYARD_POST (R26 to R28): the hub posts a packet; one copy goes to each child of the root that leads to target dies. A reserved
KIND is discarded by its targets and counted. -/
def onpkgHalyardPost (kind : Nat) (dies clusters : BitVec 8) (payload : List Byte) (now : Time) (d : Dev) : Dev :=
  let d := d.advance now
  if 8192 < payload.length then d
  else
    let cores := d.onPkgCores dies clusters
    let seq := d.pkg.hseq
    let h := seq.toNat * 2 ^ 96 + kind % 256 * 2 ^ 88 + dies.toNat * 2 ^ 80 + clusters.toNat * 2 ^ 72 + payload.length * 2 ^ 48 + (crc32c payload).toNat
    let p : OnPkg := { hseq := seq, kind := kind, payload := payload, targets := cores, cores := cores
                       clusters := (cores.map (· / 8)).eraseDups, dies := (cores.map (· / 64)).eraseDups }
    let d := { d with pkg := { d.pkg with hseq := seq + 1, onpkg := if cores.isEmpty then d.pkg.onpkg else d.pkg.onpkg ++ [p] } }
    d.onPkgForward none ((List.range 8).filter (fun k => bit dies k)) (leBytes 16 h ++ payload)

/-- ONPKG_HALYARD_DELIVER (R27, R28): a target core takes the oldest packet it has not received, once a copy has reached its die: its monitor takes firmware,
configuration, test packs, census; its translation unit drops what it caches; a reserved KIND is discarded and counted. -/
def onpkgHalyardDeliver (c : Nat) (now : Time) (d : Dev) : Dev :=
  let d := d.advance now
  match d.pkg.onpkg.find? (fun (p : OnPkg) => p.cores.contains c) with
  | none => d
  | some p =>
    if !p.reached.contains (c / 64) then d else
    let d := { d with pkg := { d.pkg with
      onpkg := d.pkg.onpkg.map (fun (q : OnPkg) => if q.hseq = p.hseq then { q with cores := q.cores.remove c } else q)
      discardedKinds := d.pkg.discardedKinds + b2n (p.kind = 0 || 6 < p.kind) } }
    if p.kind = 2 then d.modCore c (fun k => { k with tcache := [], pcache := [] }) else d

/-- ONPKG_HALYARD_ACK (R28): a cluster's merged acknowledgement goes up; a die acknowledges when its last cluster has, and the packet is
complete when its last die has. -/
def onpkgHalyardAck (seq : BitVec 32) (cluster : Nat) (now : Time) (d : Dev) : Dev :=
  let d := (d.advance now).pruneOnPkg
  let upd (p : OnPkg) : OnPkg :=
    if p.hseq ≠ seq || p.cores.any (fun c => c / 8 = cluster) then p
    else
      let cl := p.clusters.remove cluster
      { p with clusters := cl, dies := if cl.any (fun k => k / 8 = cluster / 8) then p.dies else p.dies.remove (cluster / 8) }
  { d with pkg := { d.pkg with onpkg := (d.pkg.onpkg.map upd).filter (fun (p : OnPkg) => !p.dies.isEmpty) } }

end Sys2Proof.Machine
end

