-- ==== Sys2Proof/Machine/Links.lean ====
section
/-!
DEFINITION. The Maltuox links (12 R313 to R334): frames with their CRC, tag and replay, codeword groups, lane errors, training, key
agreement, retrains and width changes, and the module ID that training brings (19 R489, R490).
-/
namespace Sys2Proof.Machine

/-- A port. -/
def Dev.port (d : Dev) (p : Nat) : Port := d.ports.get {} p

/-- Lanes of a mask. -/
def laneCount (m : BitVec 4) : Nat := ((List.range 4).filter (fun i => bit m i)).length

/-- LINK_ENC of a port in force (R331). -/
def Dev.linkEnc (d : Dev) (p : Nat) : Bool := d.cfgNat (0x0C20 + p) 2 0 = 1
/-- LINK_PEER_ALLOW of a port in force. -/
def Dev.peerAllow (d : Dev) (p : Nat) : Nat := d.cfgNat (0x0C20 + p) 4 0
/-- LINK_MIN_WIDTH of a port in force. -/
def Dev.minWidth (d : Dev) (p : Nat) : Nat := d.cfgNat (0x0C20 + p) 5 1
/-- LINK_SER_LIMIT of a port in force; its default is the FP32 number 1.0 × 10^-4. -/
def Dev.serLimit (d : Dev) (p : Nat) : Ext := Fmt.fp32.value (d.cfgNat (0x0C20 + p) 6 0x38D1B717)

/-- Reasons of a retrain as RETRAIN_REQ and LINK_RETRAINED carry them; the numbers are the model's own (DESIGN CHOICE, log entry
68). -/
def reasonReplay : Nat := 1
/-- Uncorrectable codewords (R323). -/
def reasonFec : Nat := 2
/-- Group lock lost (R323). -/
def reasonLock : Nat := 3
/-- Tag failures (R334). -/
def reasonAuth : Nat := 4
/-- LINK_CMD (R338). -/
def reasonCmd : Nat := 5
/-- A module ID gained (R489). -/
def reasonCensus : Nat := 6
/-- No lane would be left by a width change (R329). -/
def reasonWidth : Nat := 7

/-! ### In-flight frames, retrains and failures -/

/-- Unacknowledged frames of a port are discarded and their count reported (R327). -/
def Dev.discardFrames (d : Dev) (port : Nat) : Dev :=
  let p := d.port port
  let n := p.fr.replay.length + b2n (!p.fr.frame.isEmpty)
  let d := d.modPort port (fun p => { p with framesLost := p.framesLost + n, fr := { p.fr with replay := [], frame := [] } })
  if n = 0 then d else d.notice 0x0520 0 n 0

/-- What a port drops of a negotiation when it leaves ACTIVE or WIDTH. -/
def Training.cleared (t : Training) : Training :=
  { t with reqOutstanding := none, reqResends := 0, switchGroup := none, widthGroup := none, proposal := none, newLanes := 0 }

/-- Whether a port has lost its link: it neither carries frames nor is being retrained (R324). -/
def Port.lost (p : Port) : Bool := p.state ≠ .active && p.state ≠ .width && p.state ≠ .retrain && !p.tr.retraining

/-- A module that has lost every link drops its reader copies and its records of those evicted (10 R281). -/
def Dev.unlinked (d : Dev) : Dev :=
  if (List.range 32).all (fun p => (d.port p).lost) then { d with coh := { d.coh with copies := [], evicted := [], snooped := [] } } else d

/-- Lanes retired, each with its notice (R323). -/
def Dev.retireLanes (d : Dev) (port : Nat) (m : BitVec 4) : Dev :=
  (List.range 4).foldl (fun (d : Dev) i =>
    if bit m i && !bit (d.port port).retiredLanes i then
      (d.modPort port (fun p => { p with retiredLanes := p.retiredLanes ||| BitVec.ofNat 4 (2 ^ i) })).notice 0x0502 2 (port * 4 + i) 0
    else d) d

/-- The lanes that a port's width proposal would remove are retired, and the proposal is dropped (R328). -/
def Dev.retireProposed (d : Dev) (port : Nat) : Dev :=
  let p := d.port port
  let d := match p.tr.proposal with | some l => d.retireLanes port (p.activeLanes &&& ~~~l) | none => d
  d.modPort port (fun p => { p with tr := { p.tr with proposal := none, widthGroup := none } })

/-- A port stops framing and enters RETRAIN (R324, R327); lanes that it had proposed to remove are retired first (R328). -/
def Dev.enterRetrain (d : Dev) (port reason : Nat) : Dev :=
  let d := (d.discardFrames port).retireProposed port
  (d.modPort port (fun p => { p with
    state := .retrain
    encOn := false, fr := { p.fr with locked := false }
    tr := { p.tr.cleared with retraining := true, retrainReason := reason, peerIdent := none, passed := 0 } })).emit (.training port)

/-- A port goes DOWN (R323). -/
def Dev.goDown (d : Dev) (port : Nat) : Dev :=
  let d := d.discardFrames port
  (d.modPort port (fun p => { p with
    state := .down, activeLanes := 0, encOn := false
    tr := { p.tr.cleared with retraining := false, failedAt := d.time, peerIdent := none } })).unlinked.notice 0x0503 2 0 0

/-- A port enters FAILED (R324, R326): `stuck` where it does not retry on its own; a plain failure is reported once per run. -/
def Dev.fail (d : Dev) (port : Nat) (stuck : Bool) (code : Cause) (arg0 : Nat) : Dev :=
  let plain := code = 0x0504 && arg0 = 0
  let quiet := plain && (d.port port).tr.failReported
  let d := d.modPort port (fun p => { p with
    state := .failed, activeLanes := 0
    tr := { p.tr.cleared with stuck := stuck, fault := if code = 0x0506 then 4 else if code = 0x0505 then 2 else 0, failedAt := d.time, retraining := false, failReported := p.tr.failReported || plain } })
  let d := d.unlinked
  if quiet then d else d.notice code 0 arg0 0

/-- A retrain is asked for (R328), where none is outstanding. -/
def Dev.requestRetrain (d : Dev) (port reason : Nat) : Dev :=
  let p := d.port port
  if (p.state = .active || p.state = .width) && p.tr.reqOutstanding.isNone && p.tr.switchGroup.isNone then
    (d.modPort port (fun p => { p with tr := { p.tr with reqOutstanding := some reason, reqResends := 0, reqAt := d.time } })).sendMgmt port (.retrainReq port d.boot.serial reason)
  else d

/-! ### Frames received (R315 to R320, R333, R334) -/

/-- A frame as received: its header fields, its body, and what the tag was taken over. -/
structure RxFrame where
  ftype : Nat := 0
  fseq : BitVec 12 := 0
  fack : BitVec 12 := 0
  nak : Bool := false
  enc : Bool := false
  count : Nat := 0
  len : Nat := 0
  head : List Byte := []
  body : List Byte := []
  tag : Nat := 0
  deriving DecidableEq, Repr

/-- The frame that 512 bytes hold; none where the CRC fails, an FTYPE that is reserved counting as a failure (R316, R317). -/
def parseFrame (bs : List Byte) : Option RxFrame :=
  let h := leNat (bs.take 16)
  let ft := h / 2 ^ 124
  if bs.length ≠ 512 || (crc32c (bs.take 508)).toNat ≠ leNat (bs.drop 508) || 2 < ft then none
  else
    let enc := h / 2 ^ 98 % 2 = 1
    some { ftype := ft, fseq := BitVec.ofNat 12 (h / 2 ^ 112), fack := BitVec.ofNat 12 (h / 2 ^ 100), nak := h / 2 ^ 99 % 2 = 1
           enc := enc, count := h / 2 ^ 80 % 65536, len := h / 2 ^ 71 % 512, head := bs.take 16
           body := (bs.drop 16).take (if enc then 476 else 492), tag := leNat ((bs.drop 492).take 16) }

/-- The transmission counter that 16 bits name: the least value not below the next one expected (R333). -/
def rebuildCount (next : BitVec 64) (low : Nat) : BitVec 64 :=
  next + BitVec.ofNat 64 ((low + 65536 - next.toNat % 65536) % 65536)

/-- Whether a frame's tag passes (R331, R334); with encryption on a frame without one fails. -/
def Port.tagOk (p : Port) (f : RxFrame) : Bool :=
  !p.encOn || (f.enc && (Config.gcmTag p.fr.rxKey (p.fr.rxSalt * 2 ^ 64 + (rebuildCount p.fr.rxCount f.count).toNat)
    (tagInput (f.head ++ f.body))).toNat = f.tag)

/-- A tag failure counted; the 3rd within 1 ms is reported and asks for a retrain (R334). -/
def Dev.tagFail (d : Dev) (port : Nat) : Dev :=
  let ts := ((d.port port).fr.tagFails.filter (fun t => !reached d.time t (ms 1))) ++ [d.time]
  let full := decide (3 ≤ ts.length)
  let d := d.modPort port (fun p => { p with tagFailures := p.tagFailures + 1, fr := { p.fr with tagFails := if full then [] else ts } })
  if full then (d.notice 0x0507 0 0 0).requestRetrain port reasonAuth else d

/-- Frames of the replay buffer sent again from the oldest (R320); a 9th sending asks for a retrain instead. -/
def Dev.resendFrames (d : Dev) (port : Nat) : Dev :=
  let p := d.port port
  if p.fr.replay.any (fun f => 8 ≤ f.sends) then
    if p.tr.reqOutstanding.isSome || p.tr.switchGroup.isSome then d
    else (d.modPort port (fun p => { p with exhausted := p.exhausted + 1 })).requestRetrain port reasonReplay
  else
    let d := p.fr.replay.foldl (fun (d : Dev) f => d.sendFrame port 1 f.fseq false (frameBody f.packets)) d
    d.modPort port (fun p => { p with
      replays := p.replays + p.fr.replay.length
      fr := { p.fr with replay := p.fr.replay.map (fun (f : HeldFrame) => { f with sends := f.sends + 1 }), ackAt := d.time } })

/-- FACK and NAK of a received frame applied (R319, R320). -/
def Dev.applyAck (d : Dev) (port : Nat) (fack : BitVec 12) (nak : Bool) : Dev :=
  let p := d.port port
  let n := match p.fr.replay with
    | f :: _ => let n := (fack - f.fseq + 1).toNat; if n ≤ p.fr.replay.length then n else 0
    | [] => 0
  let d := if n = 0 then d else d.modPort port (fun p => { p with
    fr := { p.fr with replay := p.fr.replay.drop n, peerAck := fack, ackAt := d.time } })
  if nak && !(d.port port).fr.replay.isEmpty then d.resendFrames port else d

/-- A DATA frame discarded (R320): NAK goes out once per gap. -/
def Dev.discardRx (d : Dev) (port : Nat) : Dev :=
  if (d.port port).fr.nakSent then d
  else (d.modPort port (fun p => { p with fr := { p.fr with nakSent := true } })).sendFrame port 0 0 true []

/-- Whether a port frames (R324). -/
def LinkState.framing : LinkState → Bool
  | .identify | .keyAgree | .active | .width => true
  | _ => false

/-- Packets of a frame handed to the port's switch and counted (R319, R371). -/
def Dev.rxPackets (d : Dev) (port : Nat) (ps : List Packet) : Dev :=
  let d := ps.foldl (fun (d : Dev) p => d.modCount port (fun c => { c with
    rxPkts := c.rxPkts.upd 0 p.tc (· + 1), rxBytes := c.rxBytes.upd 0 p.tc (· + 40 + p.payload.length) })) d
  d.modSwitch (port / 4) (fun s => { s with inputs := s.inputs.upd [] (port % 4) (· ++ ps) })

/-- Whether a port takes frames of the peer: it is ACTIVE or changing width, and the group's marker was good (R315, R324). -/
def Port.hears (p : Port) : Bool := (p.state = .active || p.state = .width) && p.fr.locked

/-- LINK_DATA_FRAME (R319, R320, R333, R334): 512 bytes arrive in a DATA slot of a port. -/
def linkDataFrame (port : Nat) (bs : List Byte) (now : Time) (d : Dev) : Dev :=
  let d := d.advance now
  let p := d.port port
  if p.state ≠ .active && p.state ≠ .width then d
  else if !p.fr.locked then d.discardRx port
  else match parseFrame bs with
    | none => d.discardRx port
    | some f =>
      if f.ftype ≠ 1 then d
      else if !p.tagOk f then (d.tagFail port).discardRx port
      else
        let iv := rebuildCount p.fr.rxCount f.count
        let d := (d.modPort port (fun p => { p with fr := { p.fr with rxCount := iv + 1 } })).applyAck port f.fack f.nak
        if f.fseq ≠ p.fr.fack + 1 then d.discardRx port
        else
          let body := if p.encOn then Config.gcmBody p.fr.rxKey (p.fr.rxSalt * 2 ^ 64 + iv.toNat) f.body else f.body
          let ps := parsePackets 12 (body.take f.len)
          let d := d.modPort port (fun p => { p with fr := { p.fr with fack := f.fseq, nakSent := false } })
          let d := d.rxPackets port ps
          if (d.port port).fr.frame.isEmpty then d.sendFrame port 0 0 false [] else d

/-- LINK_IDLE_FRAME (R319): 512 bytes arrive in an IDLE slot of a port; a damaged frame is dropped. -/
def linkIdleFrame (port : Nat) (bs : List Byte) (now : Time) (d : Dev) : Dev :=
  let d := d.advance now
  let p := d.port port
  if !p.hears then d
  else match parseFrame bs with
    | none => d
    | some f =>
      if f.ftype ≠ 0 then d
      else if !p.tagOk f then d.tagFail port
      else (d.modPort port (fun p => { p with fr := { p.fr with rxCount := rebuildCount p.fr.rxCount f.count + 1 } })).applyAck port f.fack f.nak

/-- GROUP_MARKER (R315): the 10 bytes of a marker arrive; a group whose marker fails its CRC is discarded. -/
def groupMarker (port : Nat) (bs : List Byte) (now : Time) (d : Dev) : Dev :=
  let d := d.advance now
  let ok := bs.length = 10 && (crc32c (bs.take 6)).toNat = leNat (bs.drop 6)
  if (d.port port).state.framing then d.modPort port (fun p => { p with fr := { p.fr with
    locked := ok, rxGcount := if ok then BitVec.ofNat 32 (leNat (bs.take 4)) else p.fr.rxGcount
    rxLanes := if ok then BitVec.ofNat 4 (leNat ((bs.drop 4).take 1)) else p.fr.rxLanes } })
  else d

/-- LINK_REPLAY_TIMEOUT (R320): FACK has advanced by nothing for 4 µs while frames are unacknowledged. -/
def linkReplayTimeout (port : Nat) (now : Time) (d : Dev) : Dev :=
  let d := d.advance now
  let p := d.port port
  if (p.state = .active || p.state = .width) && !p.fr.replay.isEmpty && reached d.time p.fr.ackAt (us 4) then d.resendFrames port else d

/-! ### Lane errors (R322, R323) -/

/-- Whether a lane's symbol error ratio of a window exceeds a limit (R322): corrected symbols over 21.25 × 10^9 symbols a second of
service. -/
def serOver (limit : Ext) (corrected servedNs : Nat) : Bool :=
  servedNs ≠ 0 && (limit.mul (Ext.ofInt ((85 * servedNs : Nat) : Int) (-2) false)).lt (Ext.ofInt (corrected : Int) 0 false)

/-- A width without some lanes is proposed (R329, R330); where none would be left a retrain is requested, the lanes retired. -/
def Dev.proposeWidth (d : Dev) (port : Nat) (remove : BitVec 4) : Dev :=
  let p := d.port port
  let new := p.activeLanes &&& ~~~remove
  if remove &&& p.activeLanes = 0 || p.state ≠ .active then d
  else if new = 0 then
    (d.retireLanes port p.activeLanes).requestRetrain port reasonWidth
  else (d.modPort port (fun p => { p with state := .width, tr := { p.tr with proposal := some new } })).sendMgmt port (.widthPropose port new)

/-- LANE_SER_WINDOW_END (R322, R323): a one-second window ends, with what each lane corrected and how long it served, and the port's
uncorrectable codewords of all it received. -/
def laneSerWindowEnd (port : Nat) (lanes : List (Nat × Nat)) (bad total : Nat) (now : Time) (d : Dev) : Dev :=
  let d := d.advance now
  let p := d.port port
  if p.state ≠ .active && p.state ≠ .width || nsOf d.time % 1000000000 ≠ 0 then d
  else
    let above := (List.range 4).map (fun i => let x := lanes.getD i (0, 0)
      if bit p.activeLanes i && serOver (d.serLimit port) x.1 x.2 then p.tr.laneOver.get 0 i + 1 else 0)
    let cw := if total < bad * 1000000000 then p.tr.codewordOver + 1 else 0
    let d := d.modPort port (fun p => { p with tr := { p.tr with
      laneOver := above.zipIdx.filterMap (fun (n, i) => if n = 0 then none else some (i, n)), codewordOver := if 3 ≤ cw then 0 else cw } })
    let gone : BitVec 4 := BitVec.ofNat 4 ((above.zipIdx.map (fun (n, i) => if 3 ≤ n then 2 ^ i else 0)).foldl (· + ·) 0)
    let d := d.proposeWidth port gone
    if 3 ≤ cw then (d.modPort port (fun p => { p with exhausted := p.exhausted + 1 })).requestRetrain port reasonFec else d

/-- LINK_LOCK_LOST (R323): group lock has been lost for 1 µs. -/
def linkLockLost (port : Nat) (now : Time) (d : Dev) : Dev :=
  let d := d.advance now
  let p := d.port port
  if p.state = .active || p.state = .width then
    (d.modPort port (fun p => { p with lockLosses := p.lockLosses + 1 })).enterRetrain port (p.tr.reqOutstanding.getD reasonLock)
  else d

/-! ### Training (R324 to R326, R331, R332) -/

/-- PEER_SIGNAL_DETECT (R324). -/
def peerSignalDetect (port : Nat) (now : Time) (d : Dev) : Dev :=
  let d := d.advance now
  if (d.port port).state = .detect then (d.modPort port (fun p => { p with state := .equalize })).emit (.training port) else d

/-- EQUALIZE_DONE (R324): equalisation, from saved coefficients in a retrain, completes or has taken 12 ms. -/
def equalizeDone (port : Nat) (ok : Bool) (now : Time) (d : Dev) : Dev :=
  let d := d.advance now
  let p := d.port port
  if p.state ≠ .equalize && p.state ≠ .retrain then d
  else if ok then (d.modPort port (fun p => { p with state := .laneTest })).emit (.pattern port)
  else d.fail port false 0x0504 0

/-- The IDENT frame of a port (R326), with a nonce and the lanes that passed its receive test. -/
def Dev.identOf (d : Dev) (port : Nat) (nonce : BitVec 256) (passed : BitVec 4) : Ident :=
  { serial := d.boot.serial, module := d.id, unassigned := d.boot.moduleId = 0xFFFF, port := BitVec.ofNat 5 port
    enc := d.linkEnc port, lanes := passed, pubKey := d.sec.identityKey, nonce := nonce }

/-- LANE_TEST_DONE (R323, R324): the lanes that passed this end's receive test, and those that passed the peer's. -/
def laneTestDone (port : Nat) (own peer : BitVec 4) (now : Time) (d : Dev) : Dev :=
  let d := d.advance now
  if (d.port port).state ≠ .laneTest then d
  else
    let tested := ~~~(d.port port).retiredLanes
    let d := d.retireLanes port (tested &&& ~~~own)
    let both := tested &&& own &&& peer
    if (d.port port).retiredLanes = 0xF then d.goDown port
    else if both = 0 then d.fail port false 0x0504 0
    else if laneCount both < d.minWidth port then d.goDown port
    else
      let r := d.draw
      let d := r.2.modPort port (fun p => { p with
        state := .identify, activeLanes := both
        tr := { p.tr with passed := tested &&& own, myIdent := r.2.identOf port r.1 (tested &&& own), peerIdent := none, identAt := d.time }
        fr := { ({} : Framing) with gAt := d.time, locked := true } })
      d.sendMgmt port (.ident port (d.port port).tr.myIdent)

/-- IDENT_RESEND (R335): every 2 µs until the peer's IDENT arrives. -/
def identResend (port : Nat) (now : Time) (d : Dev) : Dev :=
  let d := d.advance now
  let p := d.port port
  if p.state = .identify && reached d.time p.tr.identAt (us 2) then
    (d.modPort port (fun p => { p with tr := { p.tr with identAt := d.time } })).sendMgmt port (.ident port p.tr.myIdent)
  else d

/-! ### Module ID and cables (19 R489, R490) -/

/-- A coordinate moved one step round a ring. -/
def ringStep (n x : Nat) (pos : Bool) : Nat := if n = 0 then x else if pos then (x + 1) % n else (x + n - 1) % n

/-- Coordinates one step away in a direction (R348). -/
def stepCoords (dm c : Nat × Nat × Nat) (dir : Nat × Bool) : Nat × Nat × Nat :=
  match dir.1 with
  | 0 => (ringStep dm.1 c.1 dir.2, c.2.1, c.2.2)
  | 1 => (c.1, ringStep dm.2.1 c.2.1 dir.2, c.2.2)
  | _ => (c.1, c.2.1, ringStep dm.2.2 c.2.2 dir.2)

/-- The module ID of coordinates (R347). -/
def idOf (c : Nat × Nat × Nat) : BitVec 14 := BitVec.ofNat 14 (c.1 + c.2.1 * 16 + c.2.2 * 512)

/-- The ID that a port's peer implies for this module (R489). -/
def Dev.impliedId (d : Dev) (port : Nat) : Option (BitVec 14) :=
  let p := d.port port
  match p.tr.peerIdent, portDir d.auxDir port with
  | some b, some dir => if b.unassigned then none else some (idOf (stepCoords d.dims (coords b.module) (dir.1, !dir.2)))
  | _, _ => none

/-- Entry of halyard 0 in a die's switch (13 R367, 19 R491): the tree enters at die `root` by input `up`, goes round the ring both ways, and
leaves by the ports of the children and, on a module that is not the time root, to the hub. -/
def halyard0Entry (root up : Nat) (hub : Bool) (kids : NSet) (die : Nat) : BitVec 16 :=
  let i := (die + 8 - root) % 8
  let parent := if i = 0 then up else if i ≤ 4 then 5 else 4
  let ports := ((List.range 4).map (fun k => if kids.contains (die * 4 + k) then 2 ^ k else 0)).foldl (· + ·) 0
  let ring := (if i < 4 then 2 ^ 4 else 0) + (if i = 0 || 5 < i then 2 ^ 5 else 0)
  BitVec.ofNat 16 (2 ^ 15 + parent * 256 + ports + ring + (if i = 0 && hub then 2 ^ 6 else 0))

/-- Halyard tables as the configuration and the census give them (R367, R370, 19 R491). -/
def Dev.applyHalyards (d : Dev) : Dev :=
  let p := d.boot.parentPort
  let root := match p with | some x => x / 4 | none => 0
  let up := match p with | some x => x % 4 | none => 6
  let kids := d.boot.childPorts.filter (fun k => !(d.port k).cableBad)
  (List.range 8).foldl (fun (d : Dev) die =>
    let bs := (d.cfg.force.values.find? (0x0C83 * 256 + 1 + die)).getD []
    let t : KMap (BitVec 16) := (List.range 63).foldl (fun (t : KMap (BitVec 16)) i =>
      let e : BitVec 16 := BitVec.ofNat 16 (leNat ((bs.drop (2 * (i + 1))).take 2))
      if bit e 15 then t ++ [(i + 1, e)] else t) [(0, halyard0Entry root up p.isSome kids die)]
    d.modSwitch die (fun s => { s with halyardTable := t })) d

/-- A port's cable checked against its peer's ID (R490); halyard 0 leaves a port out that fails. -/
def Dev.cableCheck (d : Dev) (port : Nat) : Dev :=
  let p := d.port port
  match p.tr.peerIdent, portDir d.auxDir port with
  | some b, some dir =>
    if b.unassigned || d.boot.moduleId = 0xFFFF || p.state ≠ .active then d
    else
      let bad := idOf (stepCoords d.dims (coords d.id) dir) ≠ b.module
      let d' := d.modPort port (fun p => { p with cableBad := bad })
      let d' := if bad = p.cableBad then d' else d'.applyHalyards
      if bad && !p.cableBad then d'.notice 0x0961 0 port b.module.toNat else d'
  | _, _ => d

/-- An ID gained (R489): retrains with reason CENSUS toward unassigned peers, and every cable checked (R490). -/
def Dev.gainId (d : Dev) (m : Nat) : Dev :=
  let d := { d with boot := { d.boot with moduleId := BitVec.ofNat 16 m, censusState := 1 } }
  let d := (List.range 32).foldl (fun (d : Dev) p =>
    if (d.port p).state = .active && (d.port p).facesUnassigned then d.requestRetrain p reasonCensus else d) d
  (List.range 32).foldl Dev.cableCheck d

/-- A module without an ID takes the one that its ACTIVE ports' peers imply; two different ones are a conflict (R489, R490). -/
def Dev.deriveId (d : Dev) : Dev :=
  if d.boot.moduleId ≠ 0xFFFF then d
  else
    let ids := (List.range 32).filterMap (fun p => if (d.port p).state = .active then d.impliedId p else none)
    match ids with
    | [] => d
    | m :: ms => if ms.all (· = m) then d.gainId m.toNat else d.notice 0x0962 0 0 0

/-- IDENT (R326): the peer's IDENT frame arrives. -/
def ident (port : Nat) (b : Ident) (now : Time) (d : Dev) : Dev :=
  let d := d.advance now
  let p := d.port port
  if p.state ≠ .identify || !p.fr.locked then d
  else
    let lanes := p.tr.passed &&& b.lanes
    let dig := Config.sha384 (leBytes 96 b.pubKey.toNat)
    let allow := d.peerAllow port
    let d := d.modPort port (fun p => { p with activeLanes := lanes })
    if !Config.validPoint b.pubKey || (allow ≠ 0 && dig.toNat ≠ allow) then d.fail port true 0x0506 0
    else if b.enc ≠ p.tr.myIdent.enc then d.fail port true 0x0505 0
    else if b.serial = d.boot.serial then d.fail port true 0x0504 1
    else if lanes = 0 then d.fail port false 0x0504 0
    else d.modPort port (fun p => { p with
      state := .keyAgree, peerPort := b.port, peerModule := b.module, peerAssigned := !b.unassigned, peerSerial := b.serial
      peerKey := dig, cableBad := false, tr := { p.tr with peerIdent := some b } })

/-- The bytes of an IDENT body (R326), in the order that the rule lists its fields. -/
def Ident.bytes (b : Ident) : List Byte :=
  leBytes 8 b.serial.toNat ++ leBytes 2 (b.module.toNat + b2n b.unassigned * 2 ^ 15) ++ leBytes 1 b.port.toNat ++ leBytes 1 (b2n b.enc)
  ++ leBytes 1 b.lanes.toNat ++ leBytes 96 b.pubKey.toNat ++ leBytes 32 b.nonce.toNat

/-- The configuration seal in force, as bytes. -/
def Dev.sealBytes (d : Dev) : List Byte := leBytes 48 d.cfg.force.sealDigest.toNat

/-- A key put in its place among sorted keys. -/
def keyInsert (k : Nat) : List Nat → List Nat
  | [] => [k]
  | x :: xs => if k ≤ x then k :: x :: xs else x :: keyInsert k xs

/-- The link seal of a port (19 R495). -/
def Dev.linkSeal (d : Dev) (port : Nat) : BitVec 384 :=
  let keys := (d.port port).keyTable.foldl (fun ks e => keyInsert e.2.toNat ks) []
  Config.sha384 (d.sealBytes ++ (keys.map (leBytes 2)).flatten)

/-- A SEAL frame goes out (R337). -/
def Dev.sendSeal (d : Dev) (port : Nat) : Dev :=
  (d.modPort port (fun p => { p with tm := { p.tm with sealSentAt := some d.time } })).sendMgmt port (.sealFrame port d.cfg.force.epoch d.cfg.force.sealDigest (d.linkSeal port))

/-- Whether a port's neighbour counts for fabric time: it is trained and its beacon has come. -/
def Port.timed (p : Port) : Bool := (p.state = .active || p.state = .width) && p.tm.beaconAt.isSome

/-- The lowest module ID heard of as a root, starting with this module's own (19 R491). -/
def Dev.bestRoot (d : Dev) : BitVec 14 :=
  d.ports.foldl (fun (m : BitVec 14) q => if q.2.timed && q.2.tm.root.toNat < m.toNat then q.2.tm.root else m) d.id

/-- A BEACON frame goes out (R336). -/
def Dev.sendBeacon (d : Dev) (port : Nat) : Dev :=
  let t := (d.port port).tm
  (d.modPort port (fun p => { p with tm := { p.tm with bseq := p.tm.bseq + 1, sentAt := some d.time } })).sendMgmt port (.beacon port (t.bseq + 1) d.time t.echoSeq t.echoRx d.bestRoot
      (if d.bestRoot = d.id then 0 else BitVec.ofNat 8 d.tm.hops) d.tm.wraps)

/-- KEY_AGREE_DONE (R324, R325, R331 to R333): session keys are in place, counters start at 0, the port is ACTIVE and its first beacon
and seal frames go out. -/
def keyAgreeDone (port : Nat) (now : Time) (d : Dev) : Dev :=
  let d := d.advance now
  let p := d.port port
  match p.tr.peerIdent with
  | none => d
  | some b =>
    if p.state ≠ .keyAgree then d
    else
      let mine := p.tr.myIdent
      let low := decide (mine.serial.toNat < b.serial.toNat)
      let ctx := Config.sha384 (if low then mine.bytes ++ b.bytes else b.bytes ++ mine.bytes)
      let k := leBytes 72 (Config.deriveKey [d.sec.secret, b.pubKey.toNat, ctx.toNat])
      let part (a n : Nat) : Nat := leNat ((k.drop a).take n)
      let d := d.modPort port (fun p => { p with
        state := .active, encOn := mine.enc
        tr := { p.tr.cleared with failReported := false, stuck := false, laneOver := [], codewordOver := 0 }
        tm := { p.tm with lastSeal := some d.time, sealMiss := 0, sealNoticed := none }
        fr := { p.fr with
          replay := [], nextFseq := 0, fack := 0xFFF, peerAck := 0xFFF, nakSent := false, txCount := 0, rxCount := 0, tagFails := []
          txKey := if low then part 0 32 else part 36 32, txSalt := if low then part 32 4 else part 68 4
          rxKey := if low then part 36 32 else part 0 32, rxSalt := if low then part 68 4 else part 32 4 } })
      let d := if d.boot.firstActive.isNone then { d with boot := { d.boot with firstActive := some d.time } } else d
      let d := if b.unassigned then d else { d with rst := { d.rst with
        failed := d.rst.failed.remove b.module.toNat, watch := d.rst.watch.set b.module.toNat { lastSeal := d.time, announced := none } } }
      let d := ((d.deriveId).cableCheck port)
      (d.sendBeacon port).sendSeal port

/-- LINK_RETRY_TIMEOUT (R324): a port in FAILED or DOWN returns to DETECT after 1 s, but for the three causes of R326. -/
def linkRetryTimeout (port : Nat) (now : Time) (d : Dev) : Dev :=
  let d := d.advance now
  let p := d.port port
  if ((p.state = .failed && !p.tr.stuck) || p.state = .down) && reached d.time p.tr.failedAt (ms 1000) then
    (d.modPort port (fun p => { p with state := .detect })).emit (.training port)
  else d

/-! ### Retrain and width change (R328 to R330) -/

/-- A retrain request is answered: both ends leave ACTIVE after group G, this end's count plus 256 (R328). -/
def Dev.acceptRetrain (d : Dev) (port reason : Nat) : Dev :=
  let g := (d.port port).groupNow d.time + 256
  (d.modPort port (fun p => { p with tr := { p.tr with reqOutstanding := none, switchGroup := some g, retrainReason := reason } })).sendMgmt port (.retrainAccept port g)

/-- RETRAIN_REQ (R328). -/
def retrainReq (port : Nat) (serial : BitVec 64) (reason : Nat) (now : Time) (d : Dev) : Dev :=
  let d := d.advance now
  let p := d.port port
  if !p.hears then d
  else if p.tr.reqOutstanding.isSome && d.boot.serial.toNat < serial.toNat then d
  else
    ((d.retireProposed port).modPort port (fun p => { p with state := .active })).acceptRetrain port reason

/-- RETRAIN_ACCEPT (R328). -/
def retrainAccept (port : Nat) (group : BitVec 32) (now : Time) (d : Dev) : Dev :=
  let d := d.advance now
  match if (d.port port).hears then (d.port port).tr.reqOutstanding else none with
  | some r => d.modPort port (fun p => { p with tr := { p.tr with reqOutstanding := none, switchGroup := some group, retrainReason := r } })
  | none => d

/-- RETRAIN_REQ_RESEND (R328): every 10 µs, and after 10 resends the requester stops framing. -/
def retrainReqResend (port : Nat) (now : Time) (d : Dev) : Dev :=
  let d := d.advance now
  let p := d.port port
  match p.tr.reqOutstanding with
  | none => d
  | some r =>
    if !reached d.time p.tr.reqAt (us 10) then d
    else if 10 ≤ p.tr.reqResends then d.enterRetrain port r
    else (d.modPort port (fun p => { p with tr := { p.tr with reqResends := p.tr.reqResends + 1, reqAt := d.time } })).sendMgmt port (.retrainReq port d.boot.serial r)

/-- RETRAIN_SWITCH_GROUP (R327, R328): the agreed group has passed. -/
def retrainSwitchGroup (port : Nat) (group : BitVec 32) (now : Time) (d : Dev) : Dev :=
  let d := d.advance now
  let p := d.port port
  if p.tr.switchGroup = some group && (p.state = .active || p.state = .width) then (d.closeFrame port).enterRetrain port p.tr.retrainReason else d

/-- RETRAIN_DONE (R325): a retrain has reached ACTIVE. -/
def retrainDone (port : Nat) (now : Time) (d : Dev) : Dev :=
  let d := d.advance now
  let p := d.port port
  if p.state = .active && p.tr.retraining then
    (d.modPort port (fun p => { p with tr := { p.tr with retraining := false } })).notice 0x0511 0 p.tr.retrainReason 0
  else d

/-- A width change is accepted (R330): the new set, with the switch group; an empty set asks for a retrain (R329). -/
def Dev.acceptWidth (d : Dev) (port : Nat) (new : BitVec 4) : Dev :=
  if new = 0 then
    ((d.retireLanes port (d.port port).activeLanes).modPort port (fun p => { p with state := .active, tr := { p.tr with proposal := none } })).requestRetrain
      port reasonWidth
  else
    let g := (d.port port).groupNow d.time + 256
    (d.modPort port (fun p => { p with state := .width, tr := { p.tr with newLanes := new, widthGroup := some g } })).sendMgmt port (.widthAccept port new g)

/-- WIDTH_PROPOSE (R330): when proposals cross, the end with the lower serial number answers and the other waits. -/
def widthPropose (port : Nat) (lanes : BitVec 4) (now : Time) (d : Dev) : Dev :=
  let d := d.advance now
  let p := d.port port
  if !p.hears then d else
  match p.state, p.tr.proposal with
  | .active, _ => d.acceptWidth port (p.activeLanes &&& lanes)
  | .width, some mine =>
    if d.boot.serial.toNat < p.peerSerial.toNat then d.acceptWidth port (p.activeLanes &&& mine &&& lanes)
    else d.modPort port (fun p => { p with tr := { p.tr with proposal := some (mine &&& lanes) } })
  | _, _ => d

/-- WIDTH_ACCEPT (R330). -/
def widthAccept (port : Nat) (lanes : BitVec 4) (group : BitVec 32) (now : Time) (d : Dev) : Dev :=
  let d := d.advance now
  let p := d.port port
  if p.hears && p.state = .width && p.tr.proposal.isSome then
    d.modPort port (fun p => { p with tr := { p.tr with newLanes := p.activeLanes &&& lanes, widthGroup := some group } })
  else d

/-- WIDTH_SWITCH_GROUP (R327, R330, R323): both ends change lanes; unacknowledged frames are sent again, newly encrypted. -/
def widthSwitchGroup (port : Nat) (group : BitVec 32) (now : Time) (d : Dev) : Dev :=
  let d := d.advance now
  let p := d.port port
  if p.state ≠ .width || p.tr.widthGroup ≠ some group then d
  else
    let g := p.groupNow d.time
    let d := d.retireLanes port (p.activeLanes &&& ~~~p.tr.newLanes)
    let d := d.modPort port (fun p => { p with
      state := .active, activeLanes := p.tr.newLanes, fr := { p.fr with gcount := g, gAt := d.time }
      tr := { p.tr with proposal := none, widthGroup := none, laneOver := [] }, tm := { p.tm with skipNext := true } })
    let d := d.notice 0x0512 0 p.tr.newLanes.toNat 0
    if laneCount p.tr.newLanes < d.minWidth port then d.goDown port
    else if p.fr.replay.isEmpty then d else d.resendFrames port

/-! ### LINK_CMD (R338) -/

/-- A port that waits in FAILED for a command, or for a change of the object at fault, starts again (R326). -/
def Dev.unstick (d : Dev) (port : Nat) : Dev :=
  if (d.port port).state = .failed then
    (d.modPort port (fun p => { p with state := .detect, tr := { p.tr with stuck := false } })).emit (.training port)
  else d

/-- Ports in FAILED that wait for an object whose value in force has changed start again (R326). -/
def Dev.unstickChanged (d : Dev) (old : ConfigImage) : Dev :=
  (List.range 32).foldl (fun (d : Dev) p =>
    let f := (d.port p).tr.fault
    let key := (0x0C20 + p) * 256 + f
    if f ≠ 0 && (d.port p).tr.stuck && old.values.find? key ≠ d.cfg.force.values.find? key then d.unstick p else d) d

/-- LINK_CMD 1, RETRAIN. -/
def linkCmdRetrain (port : Nat) (now : Time) (d : Dev) : Dev := ((d.advance now).unstick port).requestRetrain port reasonCmd

/-- LINK_CMD 2, FULL_TRAIN: every lane is tested again, the retired ones too (R323). -/
def linkCmdFullTrain (port : Nat) (now : Time) (d : Dev) : Dev :=
  let d := d.advance now
  if (d.port port).state = .disabled then d
  else
    let d := d.discardFrames port
    (d.modPort port (fun p => { p with
      state := .detect, retiredLanes := 0, activeLanes := 0, encOn := false
      tr := { p.tr.cleared with stuck := false, retraining := false, peerIdent := none } })).unlinked.emit (.training port)

/-- LINK_CMD 3, DISABLE. -/
def linkCmdDisable (port : Nat) (now : Time) (d : Dev) : Dev :=
  let d := (d.advance now).discardFrames port
  (d.modPort port (fun p => { p with
    state := .disabled, activeLanes := 0, encOn := false, tr := { p.tr.cleared with stuck := false, retraining := false, peerIdent := none } })).unlinked

/-- LINK_CMD 4, ENABLE. -/
def linkCmdEnable (port : Nat) (now : Time) (d : Dev) : Dev :=
  let d := d.advance now
  if (d.port port).state = .disabled then (d.modPort port (fun p => { p with state := .detect })).emit (.training port) else d.unstick port

/-! ### Beacons and fabric time (12 R336, 15 R419, 19 R491) -/

/-- Whether port `a` goes before port `b` as the reference: fewest HOPS, then lowest module ID, then lowest port (R336, R491). -/
def refBefore (a b : Nat × Port) : Bool :=
  if a.2.tm.hops ≠ b.2.tm.hops then a.2.tm.hops.toNat < b.2.tm.hops.toNat
  else if a.2.peerModule ≠ b.2.peerModule then a.2.peerModule.toNat < b.2.peerModule.toNat else a.1 < b.1

/-- The port of the reference neighbour, none at a time root (R336); a port that fails its cable check is left out of halyard 0 (R490). -/
def Dev.reference (d : Dev) : Option Nat :=
  let root := d.bestRoot
  if root = d.id then none
  else (d.ports.foldl (fun (best : Option (Nat × Port)) q =>
    if q.2.timed && !q.2.cableBad && q.2.tm.root = root then (match best with | some b => if refBefore q b then some q else best | none => some q) else best)
    none).map (·.1)

/-- The fabric-time unit's state changes; leaving LOCKED raises 0x0640 (R419). -/
def Dev.setTimeState (d : Dev) (st : Nat) : Dev :=
  let d' := { d with tm := { d.tm with state := st } }
  if d.tm.state = 2 && st ≠ 2 then d'.notice 0x0640 0 st 0 else d'

/-- CENSUS_STATE becomes COMPLETE (R492). For the time root, which has no parent and follows no reference, the conditions that name one hold
of themselves. -/
def Dev.censusCheck (d : Dev) : Dev :=
  let b := d.boot
  let root := b.parentPort.isNone && decide (d.tm.root = d.id)
  if b.moduleId ≠ 0xFFFF && b.summarySeen && (root || (d.tm.state = 2 && b.claimAcked && b.parentMatch)) then
    { d with boot := { b with censusState := 2 } } else d

/-- Steering after a beacon of a port (R336, R419): root, hops and wraps are taken from the reference neighbour; |θ| below 5 ns for 10
consecutive beacons is LOCKED; the rate moves by at most 50 ppm either way, by how much is left open (free, log entry 73). A new parent is sent a CENSUS_CLAIM (19 R491). -/
def Dev.steer (d : Dev) (port : Nat) (theta : Option Int) : Dev :=
  match d.reference with
  | none =>
    ({ d with tm := { d.tm with root := d.id, hops := 0, good := 0 }, boot := { d.boot with parentPort := none } }).applyHalyards.setTimeState 0
  | some r =>
    let t := (d.port r).tm
    let moved := decide (d.boot.parentPort ≠ some r)
    let d := { d with
      tm := { d.tm with root := t.root, hops := t.hops.toNat + 1, wraps := t.wraps, good := if moved then 0 else d.tm.good }
      boot := { d.boot with parentPort := some r, parentMatch := d.boot.parentMatch && !moved, claimAcked := d.boot.claimAcked && !moved } }
    let d := if moved then d.applyHalyards else d
    let d := if d.tm.state = 0 || moved then d.setTimeState 1 else d
    let d := if moved then d.mgmt (d.port r).peerModule 0x14 [(d.port r).peerPort.toNat] [] else d
    if r ≠ port then d
    else
      let x := d.draw
      let d := { x.2 with tm := { x.2.tm with lastBeacon := d.time, rate := (x.1.toNat % 101 : Nat) - 50 } }
      match theta with
      | none => d
      | some th =>
        let small := decide (th.natAbs < 5 * 65536)
        let good := if small then d.tm.good + 1 else 0
        let d := { d with tm := { d.tm with good := good, offset := th } }
        (d.setTimeState (if 10 ≤ good then 2 else 1)).censusCheck

/-- A time in TIME64 units, halved, as picoseconds (R336). -/
def halfPs (x : Int) : Int := x * 1000 / 131072

/-- BEACON (R336): delay and offset from the exchange, then steering. -/
def beacon (port : Nat) (bseq : BitVec 16) (ttx : Time) (echoSeq : BitVec 16) (echoRx : Time) (root : BitVec 14) (hops : BitVec 8)
    (wraps : BitVec 16) (now : Time) (d : Dev) : Dev :=
  let d := d.advance now
  let p := d.port port
  if !p.hears then d
  else
    let use := match p.tm.sentAt with
      | some t1 => if p.tm.bseq = echoSeq && !p.tm.skipNext then some t1 else none
      | none => none
    let dd (t1 : Time) : Int := ((d.time - t1) - (ttx - echoRx)).toInt
    let th2 (t1 : Time) : Int := ((echoRx - t1) - (d.time - ttx)).toInt
    let d := d.modPort port (fun p => { p with tm := { p.tm with
      delay := match use with | some t1 => BitVec.ofInt 32 (halfPs (dd t1)) | none => p.tm.delay
      offset := match use with | some t1 => BitVec.ofInt 32 (halfPs (th2 t1)) | none => p.tm.offset
      skipNext := if p.tm.bseq = echoSeq then false else p.tm.skipNext
      echoSeq := bseq, echoRx := d.time, root := root, hops := hops, wraps := wraps, beaconAt := some d.time } })
    d.steer port (use.map (fun t1 => th2 t1 / 2))

/-- TIME_HOLDOVER (R419): LOCKED, and no usable beacon for 1 ms. -/
def timeHoldover (now : Time) (d : Dev) : Dev :=
  let d := d.advance now
  if d.tm.state = 2 && reached d.time d.tm.lastBeacon (ms 1) then
    ({ d with tm := { d.tm with good := 0 } }).setTimeState 3
  else d

/-- Whether a period's boundary of fabric time lies between a last sending and now. -/
def periodDue (last : Option Time) (now : Time) (period : Nat) : Bool := match last with
  | some t => nsOf t / period ≠ nsOf now / period
  | none => true

/-- BEACON_SEND (R335): after each 64 µs of fabric time. -/
def beaconSend (port : Nat) (now : Time) (d : Dev) : Dev :=
  let d := d.advance now
  let p := d.port port
  if (p.state = .active || p.state = .width) && periodDue p.tm.sentAt d.time 64000 then d.sendBeacon port else d

/-- SEAL_SEND (R335): after each 10 ms of fabric time. -/
def sealSend (port : Nat) (now : Time) (d : Dev) : Dev :=
  let d := d.advance now
  let p := d.port port
  if (p.state = .active || p.state = .width) && periodDue p.tm.sealSentAt d.time 10000000 then d.sendSeal port else d

/-- Whether a difference of configurations is excused (R337). -/
def ConfigState.excused (c : ConfigState) (epoch : Nat) (cfg : BitVec 384) (ttx : Time) : Bool :=
  let holds (i : Option ConfigImage) : Bool := match i with | some i => i.epoch = epoch && i.sealDigest = cfg | none => false
  let near (t : Time) : Bool := timeLe (t - ms 1) ttx && timeLe ttx (t + ms 1)
  (epoch = c.force.epoch + 1 && holds c.staged && (match c.armed with | some t => near t | none => false)) ||
  (epoch + 1 = c.force.epoch && holds c.previous && near c.switchTime)

/-- SEAL (R337): the peer's epoch, configuration seal and link seal, sent at `ttx`. -/
def sealFrame (port epoch : Nat) (cfg link : BitVec 384) (ttx now : Time) (d : Dev) : Dev :=
  let d := d.advance now
  let p := d.port port
  if !p.hears then d
  else
    let same := decide (epoch = d.cfg.force.epoch) && decide (cfg = d.cfg.force.sealDigest)
    let ok := if same then decide (link = d.linkSeal port) else d.cfg.excused epoch cfg ttx
    let d := d.modPort port (fun p => { p with tm := { p.tm with
      lastSeal := some d.time, peerEpoch := BitVec.ofNat 64 epoch
      sealMiss := if ok then 0 else p.tm.sealMiss + 1, sealNoticed := if ok then none else p.tm.sealNoticed } })
    let d := if p.peerAssigned then { d with rst := { d.rst with
        watch := d.rst.watch.upd {} p.peerModule.toNat (fun (w : Watch) => { w with lastSeal := d.time }) } } else d
    let t := (d.port port).tm
    let due := !ok && 3 ≤ t.sealMiss && (match t.sealNoticed with | some x => reached d.time x (ms 1000) | none => true)
    let d := if due then (d.modPort port (fun p => { p with tm := { p.tm with sealNoticed := some d.time } })).notice 0x0510 0
        (port + p.peerModule.toNat * 2 ^ 14 + b2n same * 2 ^ 31) epoch
      else d
    if d.boot.parentPort ≠ some port then d
    else if same then ({ d with boot := { d.boot with parentMatch := true } }).censusCheck
    else if d.cfg.excused epoch cfg ttx then d
    else ({ d with boot := { d.boot with parentMatch := false } }).mgmt p.peerModule 0x13 [d.cfg.force.epoch] []

end Sys2Proof.Machine
end

