-- ==== Sys2Proof/Machine/Power.lean ====
section
/-!
DEFINITION. Power, measurement and cooling (15 R398 to R421, 01 R31, R41): the envelope and the pool, reef levels, grants and wakes,
droop, enforcement, temperatures, sensors, coolant and the valve, the wrap of fabric time. Costs are in units of 1/8 W.
-/
namespace Sys2Proof.Machine

/-! ### Reef levels (R400 to R403) -/

/-- Cost of a part at a level, in 1/8 W (R400): part 0 base, 1 matrix, 2 vector; level 8 stands for boost. -/
def reefCost (level part : Nat) : Nat :=
  let row := match level with
    | 0 => (4, 20, 6) | 1 => (4, 17, 5) | 2 => (3, 14, 4) | 3 => (3, 9, 4) | 4 => (3, 6, 2) | 5 => (2, 4, 2)
    | 6 => (2, 2, 1) | 7 => (2, 1, 1) | _ => (5, 28, 8)
  match part with | 0 => row.1 | 1 => row.2.1 | _ => row.2.2

/-- Core clock of a level in MHz (R400). -/
def reefClock : Nat → Nat
  | 0 => 1750 | 1 => 1600 | 2 => 1400 | 3 => 1200 | 4 => 1000 | 5 => 800 | 6 => 600 | 7 => 600 | _ => 2100

/-- Full cost of a core at a level. -/
def reefFull (level : Nat) : Nat := reefCost level 0 + reefCost level 1 + reefCost level 2

/-- A core's power state. -/
def Dev.corePower (d : Dev) (c : Nat) : CorePower := d.power.cores.get {} c
/-- A core's power state changed. -/
def Dev.modCorePower (d : Dev) (c : Nat) (f : CorePower → CorePower) : Dev :=
  { d with power := { d.power with cores := d.power.cores.upd {} c f } }
/-- A cluster's power state. -/
def Dev.clusterPower (d : Dev) (k : Nat) : ClusterPower := d.power.clusters.get {} k
/-- A cluster's power state changed. -/
def Dev.modClusterPower (d : Dev) (k : Nat) (f : ClusterPower → ClusterPower) : Dev :=
  { d with power := { d.power with clusters := d.power.clusters.upd {} k f } }

/-- The level whose costs a core pays: 8 at boost. -/
def CorePower.row (p : CorePower) : Nat := if p.boost then 8 else p.reef

/-- A whole number as an exact value. -/
def extNat (n : Nat) : Ext := Ext.ofInt (n : Int) 0 false

/-- An FP32 object of the configuration in force (R422). -/
def Dev.cfgF32 (d : Dev) (index sub : Nat) (dflt : BitVec 32) : Ext := ofF32 (BitVec.ofNat 32 (d.cfgNat index sub dflt.toNat))

/-- T_REEF. -/
def Dev.tReef (d : Dev) : Ext := d.cfgF32 0x1003 1 0x42BE0000

/-- A sensor's last value. -/
def Dev.sensor (d : Dev) (s : Nat) : Ext := ofF32 (d.power.sensors.get {} s).value

/-- The whole part of a value that is not negative. -/
def extFloor (x : Ext) : Nat := match x with
  | .fin false m e => if 0 ≤ e then m * 2 ^ e.toNat else m / 2 ^ (-e).toNat
  | _ => 0

/-- POWER_BUDGET_EFF in whole watts (R399, R415, R416). -/
def Dev.budgetEff (d : Dev) : Nat :=
  let b := d.cfgNat 0x1000 1 3000
  let ti := d.sensor 244
  let q := d.sensor 246
  let hot := if (extNat 50).lt ti then 1200
    else if (extNat 40).lt ti then extFloor ((extNat 3000).sub ((extNat 60).mul (ti.sub (extNat 40)))) else 3000
  let dry := if d.power.flowLow then max 1200 (extFloor ((extNat 1500).mul q)) else 3000
  let cap := if d.power.coolantFailed then 2400 else 3000
  min b (min hot (min dry cap))

/-- The pool in watts: what the fixed reserve of 872 W leaves (R399). -/
def Dev.pool (d : Dev) : Nat := d.budgetEff - 872

/-- Cores in service (R37). -/
def Dev.coresIn (d : Dev) : Nat := ((List.range 512).filter d.inService).length

/-- The budget floor (R403): the lowest level at which every core in service, at full cost, fits within the pool. -/
def Dev.floorFor (d : Dev) : Nat :=
  let n := d.coresIn
  ((List.range 8).find? (fun l => n * reefFull l ≤ 8 * d.pool)).getD 7

/-- The budget floor worked out again; a change is reported (R403). -/
def Dev.refloor (d : Dev) : Dev :=
  let f := d.floorFor
  if f = d.power.budgetFloor then d
  else ({ d with power := { d.power with budgetFloor := f } }).notice 0x0604 0 f 0

/-- A core's POWER_CLASS (R403): the smaller of POWER_CLASS_DEFAULT and its partition's PART_POWER_CLASS. -/
def Dev.powerClass (d : Dev) (c : Nat) : Nat :=
  let dflt := d.cfgNat 0x1001 1 2
  match d.parts.first? (fun _ p => p.key ≠ 0 && p.rigs.any (fun g => rigHolds g d.id c)) with
  | some (i, _) => min dflt (d.cfgNat (0x2000 + 16 * i + 0xE) 1 3)
  | none => dflt

/-- The lowest level that a power class allows (R403). -/
def classFloor : Nat → Nat
  | 0 => 5 | 1 => 3 | _ => 0

/-- Floors of the coolant and of the input (R413, R415). -/
def Dev.inputFloor (d : Dev) : Nat := if d.power.undervolt then 7 else if d.power.inputFailed then 3 else 0

/-- The level that a core's sources ask for: the highest of them (R401). -/
def Dev.levelAsked (d : Dev) (c : Nat) : Nat :=
  let k := d.clusterPower (c / 8)
  [d.power.reefFloor, d.power.budgetFloor, classFloor (d.powerClass c), k.thermal, k.droopLevel, d.power.enforcement, d.inputFloor,
   if k.sensorFailed then 3 else 0].foldl max 0

/-- Whether every source lets a core run at boost (R401), the grant apart. -/
def Dev.boostAsked (d : Dev) (c : Nat) : Bool := d.powerClass c = 3 && d.cfgNat 0x1001 3 0 = 1 && d.levelAsked c = 0

/-! ### Grants and wakes (R404 to R407) -/

/-- Cost that a core holds now: its base while in service, its engines while awake. -/
def Dev.coreCost (d : Dev) (c : Nat) : Nat :=
  let p := d.corePower c
  if d.inService c then
    reefCost p.row 0 + (if p.matrixOn then reefCost p.row 1 else 0) + (if p.vectorOn then reefCost p.row 2 else 0)
  else 0

/-- Cost that the cores of a range hold. -/
def Dev.costOf (d : Dev) (cs : List Nat) : Nat := (cs.map d.coreCost).foldl (· + ·) 0

/-- Cores of a cluster. -/
def clusterCores (k : Nat) : List Nat := (List.range 8).map (k * 8 + ·)

/-- A cluster's grant in watts: what it holds, never less than what its cores hold in whole watts (R404). -/
def Dev.clusterGrant (d : Dev) (k : Nat) : Nat := max (d.clusterPower k).grant (ceilDiv (d.costOf (clusterCores k)) 8)

/-- POWER_POOL_GRANTED (R422). -/
def Dev.poolGranted (d : Dev) : Nat := ((List.range 64).map d.clusterGrant).foldl (· + ·) 0

/-- Watts of the pool not granted; below zero after a budget cut. -/
def Dev.poolRoom (d : Dev) : Int := (d.pool : Int) - d.poolGranted

/-- The default POWER_REQ of a rig with some cores in service: its full cost at level 0, in whole watts (R407). -/
def defaultReq (cores : Nat) : Nat := ceilDiv (cores * reefFull 0) 8

/-- Rigs of this module that hold a core, with their cores. -/
def rigsWith (c : Nat) : List (Nat × List Nat) :=
  [(c, [c]), (512 + c / 8, clusterCores (c / 8)), (576 + c / 64, (List.range 64).map (c / 64 * 64 + ·)), (584, List.range 512)]

/-- POWER_REQ of a rig by table index: as written or shared out, or its default while neither. -/
def Dev.powerReq (d : Dev) (i : Nat) (cores : List Nat) : Nat :=
  (d.rig i).powerReq.getD (defaultReq (cores.filter d.inService).length)

/-- Whether a cost fits under the POWER_REQ of every rig that holds a core (R405). -/
def Dev.reqRoom (d : Dev) (c cost : Nat) : Bool :=
  (rigsWith c).all (fun r => d.costOf r.2 + cost ≤ 8 * d.powerReq r.1 r.2)

/-- Watts by which a cluster's grant must rise to cover a further cost, in whole watts (R405). -/
def Dev.grantRaise (d : Dev) (k cost : Nat) : Nat := ceilDiv (d.costOf (clusterCores k) + cost) 8 - d.clusterGrant k

/-- A request granted (R405, R406). -/
def Dev.grantWake (d : Dev) (q : WakeReq) : Dev :=
  let k := q.core / 8
  let g := d.clusterGrant k + d.grantRaise k q.cost
  let d := d.modClusterPower k (fun p => { p with grant := g })
  let d := d.modCore q.core (fun k => if q.unit ≤ 1 then { k with worked := k.worked.set q.unit d.time } else k)
  let d := d.modCorePower q.core (fun p => match q.unit with
    | 0 => { p with matrixOn := true }
    | 1 => { p with vectorOn := true }
    | 2 => { p with reef := q.level, fll := reefClock q.level }
    | _ => { p with boost := true, fll := reefClock 8 })
  { d with power := { d.power with wakes := d.power.wakes.filter (· ≠ q) } }

/-- Whether a request goes before another in a tick (R406). -/
def wakeBefore (start : Nat) (a b : WakeReq) : Bool :=
  let key (q : WakeReq) : Nat × Nat × Nat × Nat :=
    (if q.unit = 3 then 1 else 0, nsOf q.time / 100, (q.core / 64 + 8 - start) % 8, q.core)
  let x := key a
  let y := key b
  if x.1 ≠ y.1 then x.1 < y.1 else if x.2.1 ≠ y.2.1 then x.2.1 < y.2.1 else if x.2.2.1 ≠ y.2.2.1 then x.2.2.1 < y.2.2.1 else x.2.2.2 ≤ y.2.2.2

/-- A request put in its place. -/
def wakeInsert (start : Nat) (q : WakeReq) : List WakeReq → List WakeReq
  | [] => [q]
  | x :: xs => if wakeBefore start q x then q :: x :: xs else x :: wakeInsert start q xs

/-- What is left of a tick's allowance, in 1/8 W, and the dies that may take no more of it (R406). -/
structure TickRoom where
  mod : Nat := 480
  die : List Nat := List.replicate 8 96
  held : NSet := []
  stop : Bool := false

/-- One request looked at in a tick (R406). -/
def arbiterOne (st : Dev × TickRoom) (q : WakeReq) : Dev × TickRoom :=
  let d := st.1
  let t := st.2
  let k := q.core / 64
  if t.stop || !d.reqRoom q.core q.cost || t.held.contains k then st
  else if t.die.getD k 0 < q.cost then (d, { t with held := t.held.insert k })
  else if t.mod < q.cost || d.poolRoom < (d.grantRaise (q.core / 8) q.cost : Int) then (d, { t with stop := true })
  else (d.grantWake q, { t with mod := t.mod - q.cost, die := t.die.set k (t.die.getD k 0 - q.cost) })

/-- ARBITER_TICK (R406): every 100 ns of fabric time. -/
def arbiterTick (now : Time) (d : Dev) : Dev :=
  let d := d.advance now
  if nsOf d.time % 100 ≠ 0 then d
  else
    let start := nsOf d.time / 100 % 8
    let order := d.power.wakes.foldl (fun ws q => wakeInsert start q ws) []
    (order.foldl arbiterOne (d, {})).1

/-- A request joins the wake queue (R406): one per engine, and one per cluster for a level change. -/
def Dev.askWake (d : Dev) (q : WakeReq) : Dev :=
  let taken := d.power.wakes.any (fun x =>
    if q.unit ≤ 1 then x.unit = q.unit && x.core = q.core else 2 ≤ x.unit && x.core / 8 = q.core / 8)
  if taken then d else { d with power := { d.power with wakes := d.power.wakes ++ [q] } }

/-- ENGINE_WAKE (R405): the matrix engine (0) or the vector engine (1) of a core has work and sleeps. -/
def engineWake (c unit : Nat) (now : Time) (d : Dev) : Dev :=
  let d := d.advance now
  let p := d.corePower c
  if !d.inService c || (if unit = 0 then p.matrixOn else p.vectorOn) || 2 ≤ unit then d
  else d.askWake { core := c, unit := unit, cost := reefCost p.row (unit + 1), time := d.time }

/-- Whether a core's engine has an instruction waiting or at work. -/
def Core.engineWork (k : Core) (unit : Nat) : Bool := k.tiq.any (fun e => e.done.isNone && (match e.unit with
  | .matrix => unit = 0 | .vector => unit = 1 | _ => false))

/-- A cluster keeps its grant while a core of it releases cost; watts that were not unused before are so from now on (R404). -/
def Dev.keepGrant (d : Dev) (k : Nat) : Dev :=
  let g := d.clusterGrant k
  let used := decide (g ≤ ceilDiv (d.costOf (clusterCores k)) 8)
  d.modClusterPower k (fun p => { p with grant := g, unusedAt := if used then d.time else p.unusedAt })

/-- ENGINE_SLEEP (R404): an engine has had no work for POWER_HOLD_US; its cost goes back to the cluster. -/
def engineSleep (c unit : Nat) (now : Time) (d : Dev) : Dev :=
  let d := d.advance now
  if (d.core c).engineWork unit || !reached d.time ((d.core c).worked.get 0 unit) (us d.power.holdUs) then d
  else
    (d.keepGrant (c / 8)).modCorePower c (fun p =>
      if unit = 0 then { p with matrixOn := false } else { p with vectorOn := false })

/-- GRANT_RETURN (R404): whole watts of a cluster have stayed unused for POWER_HOLD_US. -/
def grantReturn (k : Nat) (now : Time) (d : Dev) : Dev :=
  let d := d.advance now
  if !reached d.time (d.clusterPower k).unusedAt (us d.power.holdUs) then d
  else d.modClusterPower k (fun p => { p with grant := ceilDiv (d.costOf (clusterCores k)) 8 })

/-- REEF_CHANGE (R402, R31): a core moves toward the level its sources ask for; to save power at once, the cluster keeping the watts it
saved; to take more power, and for boost, by way of the wake queue. -/
def reefChange (c : Nat) (now : Time) (d : Dev) : Dev :=
  let d := d.advance now
  let p := d.corePower c
  let want := d.levelAsked c
  let engines (l : Nat) : Nat := reefCost l 0 + (if p.matrixOn then reefCost l 1 else 0) + (if p.vectorOn then reefCost l 2 else 0)
  if p.boost && !d.boostAsked c then
    (d.keepGrant (c / 8)).modCorePower c (fun p => { p with boost := false, fll := reefClock p.reef })
  else if p.reef < want then
    (d.keepGrant (c / 8)).modCorePower c (fun p => { p with reef := want, fll := reefClock want })
  else if want < p.reef then
    d.askWake { core := c, unit := 2, level := want, cost := engines want - engines p.reef, time := d.time }
  else if d.boostAsked c && !p.boost then
    d.askWake { core := c, unit := 3, level := 0, cost := engines 8 - engines 0, time := d.time }
  else d

/-- Base cost of the cores of a range in service (R407). -/
def Dev.baseCost (d : Dev) (cores : List Nat) : Nat := ((cores.filter d.inService).map (fun c => reefCost (d.corePower c).row 0)).foldl (· + ·) 0

/-- The highest engine cost of one core of a range at its level (R407). -/
def Dev.engineCost (d : Dev) (cores : List Nat) : Nat :=
  ((cores.filter d.inService).map (fun c => reefCost (d.corePower c).row 1 + reefCost (d.corePower c).row 2)).foldl max 0

/-- The least POWER_REQ of a rig (R407): its base cost and one core's engines at their level. -/
def Dev.leastReq (d : Dev) (cores : List Nat) : Nat := ceilDiv (d.baseCost cores + d.engineCost cores) 8

/-- POWER_REQ of a rig and the shares of its members set (R41), down to the cores. -/
def Dev.setReq : Nat → Nat → BitVec 32 → Dev → Dev
  | 0, _, _, d => d
  | n + 1, w, r, d =>
    let d := d.modRig (rigIndex r) (fun g => { g with powerReq := some w })
    let ms := d.memberRigs r
    let ws := shares w (ms.map d.coresActive)
    (ms.zip ws).foldl (fun (d : Dev) m => if d.coresActive m.1 = 0 then d else Dev.setReq n m.2 m.1 d) d

/-- A write to POWER_REQ of one rig of this module (R41, R407): raised to the rig's least value, then shared out. -/
def Dev.writeReq (d : Dev) (w : Nat) (r : BitVec 32) : Dev :=
  Dev.setReq 4 (max w (d.leastReq ((List.range 512).filter (rigHolds r d.id)))) r d

/-- The least POWER_REQ of an L4 or L5 rig (R407), the other modules' part as they last reported it. -/
def Dev.leastGroupReq (d : Dev) (r : BitVec 32) : Nat :=
  let ps := d.peersOf r
  ceilDiv (d.baseCost ((List.range 512)) + (ps.map (·.base)).foldl (· + ·) 0 + (ps.map (·.engine)).foldl max (d.engineCost (List.range 512))) 8

/-- CORES_ACTIVE of a module: this one's own, another's as it last reported it, or as the root's last summary has it (01 R41, 19 R491). -/
def Dev.moduleCores (d : Dev) (m : BitVec 14) : Nat :=
  if m = d.id then d.coresIn
  else match d.fe.peers.find? m.toNat, d.boot.summary.find? (fun x => x.1 = m) with
    | some p, _ => p.field 8 4
    | none, some x => x.2.2
    | none, none => 0

/-- A list without repeats, in increasing order. -/
def sortedNats (l : List Nat) : List Nat := l.foldl (fun s x => if s.contains x then s else s.takeWhile (· < x) ++ x :: s.dropWhile (· < x)) []

/-- The shares of the modules of an L4 or L5 rig (R41): a mast group's among its modules, the system's among its mast groups first. -/
def Dev.moduleShares (d : Dev) (r : BitVec 32) (w : Nat) : List (BitVec 14 × Nat) :=
  let ms := sortedNats (d.id.toNat :: (d.rigMembers r).map BitVec.toNat)
  let group (ms : List Nat) (w : Nat) : List (BitVec 14 × Nat) :=
    (ms.zip (shares w (ms.map (fun m => d.moduleCores (BitVec.ofNat 14 m))))).map (fun x => (BitVec.ofNat 14 x.1, x.2))
  if rigLevel r = 4 then group ms w
  else
    let gs := (sortedNats (ms.map (· / 64))).map (fun g => ms.filter (fun m => m / 64 = g))
    (gs.zip (shares w (gs.map (fun g => (g.map (fun m => d.moduleCores (BitVec.ofNat 14 m))).foldl (· + ·) 0)))).flatMap (fun x => group x.1 x.2)

/-- POWER_REQ_WRITE (R41, R407). -/
def powerReqWrite (r : BitVec 32) (w : Nat) (now : Time) (d : Dev) : Dev :=
  let d := d.advance now
  match d.rigCheck r with
  | 0 =>
    if rigLevel r ≤ 3 then (d.writeReq w r).reply 0 0 0
    else
      let w := max w (d.leastGroupReq r)
      let d := d.modRig (rigIndex r) (fun g => { g with powerReq := some w })
      ((d.moduleShares r w).foldl (fun (d : Dev) m => if m.1 = d.id then Dev.setReq 4 m.2 (moduleRig d.id) d
        else d.mgmt m.1 0x31 [m.2] []) d).reply 0 0 0
  | c => d.reply c 0 0

/-! ### Droop (R409, R410) -/

/-- A notice of a die, at most once per second (R410, R412). -/
def Dev.dieNotice (d : Dev) (die : Nat) (code : Cause) (last : Option Time) : Dev × Bool :=
  let due := match last with | some t => reached d.time t (ms 1000) | none => true
  if due then (d.notify { code := code, rig := dieRig d.id die }, true) else (d, false)

/-- DROOP_TRIP (R409). -/
def droopTrip (k : Nat) (now : Time) (d : Dev) : Dev :=
  let d := d.advance now
  d.modClusterPower k (fun p => if p.stretched then p else { p with
    stretched := true, stretchSince := d.time
    droopTimes := p.droopTimes.filter (fun t => !reached d.time t (ms 1)) ++ [d.time] })

/-- DROOP_RELEASE (R409). -/
def droopRelease (k : Nat) (now : Time) (d : Dev) : Dev :=
  let d := d.advance now
  d.modClusterPower k (fun p => { p with stretched := false })

/-- DROOP_REEF (R410): more than 32 stretches in 1 ms, or one of 5 µs without a break. -/
def droopReef (k : Nat) (now : Time) (d : Dev) : Dev :=
  let d := d.advance now
  let p := d.clusterPower k
  let often := decide (32 < (p.droopTimes.filter (fun t => !reached d.time t (ms 1))).length)
  if !(often || (p.stretched && reached d.time p.stretchSince (us 5))) then d
  else
    let d := d.modClusterPower k (fun p => { p with
      droopLevel := min 7 (p.droopLevel + 1), escalated := d.time, droopTimes := if often then [] else p.droopTimes, stretchSince := d.time })
    let r := d.dieNotice (k / 8) 0x0620 (d.power.droopNoticed.find? (k / 8))
    if r.2 then { r.1 with power := { r.1.power with droopNoticed := r.1.power.droopNoticed.set (k / 8) d.time } } else r.1

/-- DROOP_LEVEL_DECAY (R410): 10 ms without escalation. -/
def droopLevelDecay (k : Nat) (now : Time) (d : Dev) : Dev :=
  let d := d.advance now
  d.modClusterPower k (fun p => if 0 < p.droopLevel && reached d.time p.escalated (ms 10) then
    { p with droopLevel := p.droopLevel - 1, escalated := d.time } else p)

/-! ### Sensors (R414, R415, R420) and temperatures (R412) -/

/-- Sample period of a sensor in ns (R414): 0 and 1 the input, 2 to 9 the core rails, 10 to 17 the SRAM rails, 18 the hub rail, 19 to 26
the SerDes rails, 27 to 30 the DRAM rails, 31 standby, 32 to 95 and 96 to 223 the die temperatures, 224 to 227 the hub's, 228 to 243
the DRAM devices', 244 and 245 the coolant's, 246 its flow, 247 the valve. -/
def sensorPeriod (s : Nat) : Nat :=
  if s ≤ 1 then 1000 else if s ≤ 30 then 10000 else if s = 31 then 1000000 else if s ≤ 227 then 100000 else if s ≤ 243 then 32000000 else 10000000

/-- Sensors of a cluster: its compute-die one and the two of the SRAM dies above (R412). -/
def clusterSensors (k : Nat) : List Nat := [32 + k, 96 + k, 160 + k]

/-- The highest reading of some temperature sensors; those marked failed give none (R412, R415). -/
def Dev.hottestOf (d : Dev) (ss : List Nat) : Ext :=
  ((ss.filter (fun s => !(d.power.sensors.get {} s).failed)).map d.sensor).foldl (fun t x => if t.lt x then x else t) (extNat 0)

/-- A cluster's temperature (R412): its highest reading. -/
def Dev.clusterTemp (d : Dev) (k : Nat) : Ext := d.hottestOf (clusterSensors k)

/-- The cluster that a temperature sensor belongs to. -/
def sensorCluster (s : Nat) : Option Nat := if 32 ≤ s && s < 224 then some ((s - 32) % 64) else none

/-- A sensor's failure (R415): notice, and its fallback action, until the next module reset. -/
def Dev.sensorFault (d : Dev) (s : Nat) : Dev :=
  let d := d.notice 0x0641 2 s 0
  let d := match sensorCluster s with
    | some k => d.modClusterPower k (fun p => { p with sensorFailed := true })
    | none => d
  let d := if 244 ≤ s && s ≤ 246 then { d with power := { d.power with coolantFailed := true, valveCmd := 0x42C80000 } } else d
  if s ≤ 1 then { d with power := { d.power with inputFailed := true } } else d

/-- A quotient by a whole number, in FP32. -/
def meanF32 (sum : Ext) (n : Nat) : BitVec 32 := match sum with
  | .fin s m e => toF32 (.fin s (m * 2 ^ 64 / n) (e - 64))
  | x => toF32 x

/-- One sample more of a window of `n` samples; the window's end forms its average. -/
def Average.add (a : Average) (x : Ext) (n : Nat) (atEnd : Bool) : Average :=
  let sum := a.sum.add x
  if atEnd then { sum := .fin false 0 0, count := 0, last := meanF32 sum (a.count + 1) } else if n ≤ a.count then a else { a with sum := sum, count := a.count + 1 }

/-- Input power of one sample instant taken into the averages (R398, R411, R420). -/
def Dev.inputSample (d : Dev) : Dev :=
  let x := (d.sensor 0).mul (d.sensor 1)
  let t := nsOf d.time
  let p := d.power
  let a100 := p.avg100.add x 100 (t % 100000 = 0)
  let above := (extNat d.budgetEff).lt (ofF32 a100.last)
  { d with power := { p with
      avg10 := p.avg10.add x 10 (t % 10000 = 0), avg100 := a100, avg1s := p.avg1s.add x 1000000 (t % 1000000000 = 0)
      overSince := if above then some (p.overSince.getD d.time) else none } }

/-- Notices of the coolant's state as it changes, and when the flow fell or came back (R416). -/
def Dev.coolantSample (d : Dev) : Dev :=
  let q := d.sensor 246
  let known := d.power.sensors.find? 246 |>.isSome
  let low := known && q.lt (extNat 2) && d.power.valveCmd = 0x42C80000
  let hot := (extNat 40).lt (d.sensor 244)
  let half : Ext := .fin false 1 (-1)
  let dry := known && q.lt half
  let wet := known && !q.lt (extNat 1)
  let d' := { d with power := { d.power with
    flowLow := low, inletHot := hot
    dryFrom := if dry then some (d.power.dryFrom.getD d.time) else none, wetFrom := if wet then some (d.power.wetFrom.getD d.time) else none } }
  let d' := if hot && !d.power.inletHot then d'.notice 0x0630 0 0 0 else d'
  if low && !d.power.flowLow then d'.notice 0x0631 0 0 0 else d'

/-- THERMAL_CRITICAL (R412): a cluster at or above 110 °C; its die recovers as a failed die. -/
def Dev.thermalCritical (d : Dev) (k : Nat) : Dev :=
  if (d.clusterTemp k).lt (extNat 110) then d
  else
    let die := k / 8
    let r : Recovery := { domain := dieRig d.id die, kind := 5, cause := 0x0611 }
    if d.rel.running.any (fun (x : Recovery) => rigEncloses x.domain r.domain) || d.rel.waiting.any (fun (x : Recovery) => rigEncloses x.domain r.domain) then d
    else (d.notify { code := 0x0611, cls := 4, rig := dieRig d.id die }).detect r

/-- SENSOR_SAMPLE (R414, R415, R420): a sensor's value at a multiple of its period; `ok` is false where its self-check fails or the
reading lies outside its physical range. -/
def sensorSample (s : Nat) (v : BitVec 32) (ok : Bool) (now : Time) (d : Dev) : Dev :=
  let d := d.advance now
  if nsOf d.time % sensorPeriod s ≠ 0 then d
  else
    let old := d.power.sensors.get {} s
    if !ok then
      let d := { d with power := { d.power with sensors := d.power.sensors.set s { old with time := d.time, failed := true } } }
      if old.failed then d else (d.sensorFault s).refloor
    else
      let d := { d with power := { d.power with sensors := d.power.sensors.set s { old with value := v, time := d.time } } }
      let x := ofF32 v
      let d := if s = 0 then { d with power := { d.power with
          lowSince := if x.lt (extNat 40) then some (d.power.lowSince.getD d.time) else none
          highSince := if (extNat 41).lt x then some (d.power.highSince.getD d.time) else none } }
        else d
      let d := if s = 1 then d.inputSample else d
      let d := if s = 244 || s = 246 then (d.coolantSample).refloor else d
      let d := if s = 247 then
          (let off := (extNat 10).lt ((x.sub (ofF32 d.power.valveCmd)).abs)
           { d with power := { d.power with valveOffSince := if off then some (d.power.valveOffSince.getD d.time) else none } })
        else d
      match sensorCluster s with
      | some k => (d.modClusterPower k (fun p => { p with hot := p.hot && d.tReef.lt (d.clusterTemp k) })).thermalCritical k
      | none => d

/-- THERMAL_REEF (R412): a cluster above T_REEF: one level at once, then one every 1 ms. -/
def thermalReef (k : Nat) (now : Time) (d : Dev) : Dev :=
  let d := d.advance now
  let p := d.clusterPower k
  if !(d.tReef.lt (d.clusterTemp k)) || (p.hot && !reached d.time p.thermalAt (ms 1)) then d
  else
    let d := d.modClusterPower k (fun p => { p with thermal := min 7 (p.thermal + 1), thermalAt := d.time, hot := true })
    let r := d.dieNotice (k / 8) 0x0610 (d.power.thermalNoticed.find? (k / 8))
    if r.2 then { r.1 with power := { r.1.power with thermalNoticed := r.1.power.thermalNoticed.set (k / 8) d.time } } else r.1

/-- THERMAL_DECAY (R412): a cluster below T_REEF − 5 °C, every 10 ms. -/
def thermalDecay (k : Nat) (now : Time) (d : Dev) : Dev :=
  let d := d.advance now
  let p := d.clusterPower k
  if (d.clusterTemp k).lt (d.tReef.sub (extNat 5)) && 0 < p.thermal && reached d.time p.thermalAt (ms 10) then
    d.modClusterPower k (fun p => { p with thermal := p.thermal - 1, thermalAt := d.time })
  else d

/-! ### Enforcement (R411), the input (R413) -/

/-- The enforcement level goes up. -/
def Dev.enforce (d : Dev) (n : Nat) : Dev :=
  { d with power := { d.power with enforcement := min 7 (d.power.enforcement + n), raisedAt := some d.time, loweredAt := d.time } }

/-- POWER_ENVELOPE_EXCEEDED (R411): the 100 µs average has stayed above the budget for 2 ms, then every 1 ms. -/
def powerEnvelopeExceeded (now : Time) (d : Dev) : Dev :=
  let d := d.advance now
  match d.power.overSince with
  | none => d
  | some t =>
    let again := match d.power.raisedAt with | some r => if timeLe t r then some r else none | none => none
    let due := match again with | some r => reached d.time r (ms 1) | none => reached d.time t (ms 2)
    if due then (d.enforce 1).notice 0x0601 1 0 0 else d

/-- POWER_PEAK_EXCEEDED (R411): the last 10 µs average is above 3,600 W; two levels for each 10 µs. -/
def powerPeakExceeded (now : Time) (d : Dev) : Dev :=
  let d := d.advance now
  let due := match d.power.peakAt with | some t => reached d.time t (us 10) | none => true
  if (extNat 3600).lt (ofF32 d.power.avg10.last) && due then
    (({ d with power := { d.power with peakAt := some d.time } }).enforce 2).notice 0x0602 1 0 0
  else d

/-- ENFORCEMENT_DECAY (R411): every 10 ms while both averages are low enough. -/
def enforcementDecay (now : Time) (d : Dev) : Dev :=
  let d := d.advance now
  let low := !(((extNat (95 * d.budgetEff)).lt ((extNat 100).mul (ofF32 d.power.avg100.last)))) && !((extNat d.budgetEff).lt (ofF32 d.power.avg1s.last))
  if low && 0 < d.power.enforcement && reached d.time d.power.loweredAt (ms 10) then
    { d with power := { d.power with enforcement := d.power.enforcement - 1, loweredAt := d.time } }
  else d

/-- POWER_INPUT_UNDERVOLT (R413). -/
def powerInputUndervolt (now : Time) (d : Dev) : Dev :=
  let d := d.advance now
  match d.power.lowSince with
  | some t => if reached d.time t (ms 1) && !d.power.undervolt then ({ d with power := { d.power with undervolt := true } }).notice 0x0603 0 0 0 else d
  | none => d

/-- UNDERVOLT_CLEAR (R413). -/
def undervoltClear (now : Time) (d : Dev) : Dev :=
  let d := d.advance now
  match d.power.highSince with
  | some t => if reached d.time t (ms 100) then { d with power := { d.power with undervolt := false } } else d
  | none => d

/-! ### Coolant and the valve (R416 to R418) -/

/-- COOLANT_HOLD (R416): every entry ends with 0x0632, the compute dies are held in reset, DRAM enters self-refresh. -/
def coolantHold (now : Time) (d : Dev) : Dev :=
  let d := d.advance now
  match d.power.dryFrom with
  | none => d
  | some t =>
    if d.power.coolantHold || !reached d.time t (ms 1000) then d
    else
      let d := (List.range 512).foldl (fun (d : Dev) c =>
        if d.inService c then (d.dropEntry c 0x0632).modRig c (fun g => { g with state := .resetting }) else d) d
      let d := { d with power := { d.power with coolantHold := true }, mem := { d.mem with selfRefresh := true } }
      d.notice 0x0632 4 0 0

/-- COOLANT_HOLD_RELEASE (R416): flow at or above 1.0 L/min for 5 s; the dies recover as after a die reset. -/
def coolantHoldRelease (now : Time) (d : Dev) : Dev :=
  let d := d.advance now
  match d.power.wetFrom with
  | none => d
  | some t =>
    if !d.power.coolantHold || !reached d.time t (ms 5000) then d
    else
      let d := { d with power := { d.power with coolantHold := false }, mem := { d.mem with selfRefresh := false } }
      (List.range 8).foldl (fun (d : Dev) k =>
        if ((List.range 64).any (fun i => (d.rig (k * 64 + i)).state = .resetting)) then
          d.resetStart { rig := dieRig d.id k, cause := 0x0632 }
        else d) d

/-- Highest die temperature. -/
def Dev.hottest (d : Dev) : Ext := d.hottestOf ((List.range 192).map (32 + ·))

/-- A value kept between two others. -/
def extClamp (lo hi x : Ext) : Ext := if x.lt lo then lo else if hi.lt x then hi else x

/-- VALVE_CONTROL (R417): every 100 ms; each operation of the controller is rounded to FP32. -/
def valveControl (now : Time) (d : Dev) : Dev :=
  let d := d.advance now
  if nsOf d.time % 100000000 ≠ 0 then d
  else
    let p := d.power
    let hot := if !(d.hottest.lt (d.tReef.sub (extNat 10))) then true else if d.hottest.lt (d.tReef.sub (extNat 15)) then false else p.valveHot
    let e := f32 ((d.sensor 245).sub (ofF32 p.outletSet))
    let u1 := f32 ((ofF32 p.valveCmd).add (f32 ((extNat 2).mul (f32 (e.sub (ofF32 p.ePrev))))))
    let u2 := f32 (u1.add (f32 ((ofF32 0x3D4CCCCD).mul e)))
    let auto := toF32 (extClamp (ofF32 p.valveMin) (extNat 100) u2)
    let forced := hot || p.coolantFailed || p.valveFaulty
    let cmd := if forced then 0x42C80000 else if p.coolMode = 1 then p.valveFixed else auto
    { d with power := { p with valveHot := hot, valveCmd := cmd, ePrev := if p.coolMode = 0 then toF32 e else p.ePrev } }

/-- VALVE_FAULT (R418): the position has differed from the command by more than 10 points for 5 s; the command goes to 100% and stays there
until the next module reset (DEDUCED, log 128). -/
def valveFault (now : Time) (d : Dev) : Dev :=
  let d := d.advance now
  match d.power.valveOffSince with
  | some t =>
    if reached d.time t (ms 5000) then
      ({ d with power := { d.power with valveCmd := 0x42C80000, valveOffSince := none, valveFaulty := true } }).notice 0x0633 2 0 0
    else d
  | none => d

/-- FABRIC_TIME_WRAP (R421): the nanosecond field wraps to zero; a time root counts its own wraps. -/
def fabricTimeWrap (now : Time) (d : Dev) : Dev :=
  if timeLe d.time now && now.toNat < d.time.toNat then
    { d with time := now, tm := { d.tm with wraps := if d.reference.isNone then d.tm.wraps + 1 else d.tm.wraps } }
  else d

end Sys2Proof.Machine
end

