-- ==== Sys2Proof/Machine/Mapping.lean ====
section
/-!
DEFINITION. Page tables, key slots and jobs (09 R250 to R258, R263 to R265; 16 R425 to R431, R434; 20 R521): map and unmap
requests, crypto-erase, loading and unloading a job.
-/
namespace Sys2Proof.Machine

/-! ### Who owns memory (R256, R425) -/

/-- Whether another partition than `p` holds a core of this module. -/
def Dev.coreForeign (d : Dev) (p c : Nat) : Bool :=
  d.parts.any (fun q => q.1 ≠ p && q.2.key ≠ 0 && q.2.rigs.any (fun g => rigHolds g d.id c))

/-- Whether a slot is assigned to a partition and not retired (R425, R427). -/
def Dev.slotOf (d : Dev) (p slot : Nat) : Bool :=
  (d.part p).keySlots.contains slot && !(d.sec.slots.get {} slot).worn

/-- Bytes of DRAM that the channels of the map leave mappable (R247, R249). -/
def Dev.mappableTop (d : Dev) : Nat := 0x7600000000 / 16 * (16 - d.mem.mapOut.length)

/-- Whether a partition may map a local page of `n` bytes under a slot (R256): no other partition owns a byte of it, the slot is the
partition's, and no 64 KiB page of DRAM takes two slots. -/
def Dev.mayMap (d : Dev) (p mpa n slot : Nat) : Bool := match memKind mpa with
  | .dram => d.slotOf p slot && mpa + n ≤ d.mappableTop
      && (pages64 mpa n).all (fun k => match d.mem.pages.find? k with
          | some r => r.refs = 0 || (r.part = p && r.slot = slot)
          | none => true)
  | .stack c | .scratch c => !d.coreForeign p c
  | .window _ => (pages64 mpa n).all (fun k => !d.parts.any (fun q => q.1 ≠ p && q.2.windowPages.contains k))
  | _ => false

/-! ### Map and unmap (R256, R258, R430, R434) -/

/-- Whether a re-entry of the protection set-up is in progress, so that map, unmap and erase requests wait (R434). -/
def Dev.reentering (d : Dev) : Bool := d.sec.reentry.isSome

/-- A request held until the re-entry ends. -/
def Dev.hold (d : Dev) (r : HeldReq) : Dev := { d with sec := { d.sec with held := d.sec.held ++ [r] } }

/-- Whether an instruction's checked extents touch a range (R258, R259). -/
def TiqEntry.touches (e : TiqEntry) (va n : Nat) : Bool := match e.instr with
  | some (.rflush ..) => overlap e.rs1v.toNat e.rs2v.toNat va n
  | some (.arm _ td _) => overlap (e.desc td).base (e.desc td).bytes va n
  | _ => e.refs.any (fun o => overlap o.va o.len va n)

/-- Invalidation of a range of a partition's addresses over every core's translation unit (R258): a tentative instruction that holds a
translation of it checks again if it commits. -/
def Dev.invalidate (d : Dev) (p va n : Nat) : Dev :=
  let keep (e : TcEntry) : Bool := !(e.part = p && e.page < va + n && va < e.page + e.size)
  let drop (e : TiqEntry) : TiqEntry := if e.begun && !e.committed && e.touches va n then { e with recheck := true } else e
  { d with cores := d.cores.mapv (fun _ (k : Core) => { k with
      tcache := k.tcache.filter keep, pcache := k.pcache.filter (·.part ≠ p)
      tiq := if (match k.run with | some r => decide (r.part = p) | none => false) then k.tiq.map drop else k.tiq }) }

/-- The page that a size code of MAP_REQ names is mapped at this level (R521): 0 64 KiB, 1 2 MiB, 2 1 GiB. -/
def sizeLevel (size : Nat) : Option Nat := if size ≤ 2 then some size else none

/-- Whether a map request creates a valid leaf for memory that the partition may map, where nothing is mapped (R256). -/
def Dev.mapValid (d : Dev) (p va target slot level : Nat) (remote : Bool) (leaf : Word) : Bool :=
  let n := 2 ^ pageBits level
  (d.part p).root ≠ 0 && va % n = 0 && 0x10000000 ≤ va && va < 2 ^ 57 && slot < 1024 && leafValid leaf level &&
  (if remote then decide (target < 16384) && target ≠ d.id.toNat && slot = 0
   else decide (target < 2 ^ 48) && target % n = 0 && d.mayMap p target n slot) &&
  !d.mapped va level 4 (d.part p).root

/-- The memory of a local page on its mapping: records of the pages, the zero-fill of R430, coherent-window pages held (R275). -/
def Dev.takePage (d : Dev) (p mpa n slot : Nat) (keep : Bool) : Dev := match memKind mpa with
  | .dram =>
    let gen := (d.sec.slots.get {} slot).gen
    let ks := pages64 mpa n
    let kept := keep && ks.all (fun k => match d.mem.pages.find? k with | some r => r.slot = slot && r.gen = gen | none => false)
    let d := { d with mem := { d.mem with pages := ks.foldl (fun (m : KMap PageRec) k =>
      m.upd {} k (fun r => { slot := slot, gen := gen, part := p, refs := r.refs + 1 })) d.mem.pages } }
    if kept then d else d.zeroFill mpa n
  | .window _ =>
    let ks := pages64 mpa n
    let d := { d with mem := { d.mem with pages := ks.foldl (fun (m : KMap PageRec) k =>
      m.upd {} k (fun r => { r with part := p, refs := r.refs + 1 })) d.mem.pages } }
    d.modPart p (fun q => { q with windowPages := ks.foldl NSet.insert q.windowPages })
  | _ => d

/-- A map request served (R256, R430). A REMOTE leaf waits until its home holds a LOCAL one, and a new LOCAL leaf is made known to the
partition's other modules (service 0x45, log entry 16). -/
def Dev.serveMap (d : Dev) (p va target slot size flags : Nat) (home : Option Bool) : Dev :=
  let remote := flags / 8 % 2 = 1
  match sizeLevel size with
  | none => d.reply 0x0712 0 0
  | some level =>
    let leaf := leafEntry remote (flags % 2 = 1) (flags / 2 % 2 = 1) (flags / 4 % 2 = 1) slot target
    let n := 2 ^ pageBits level
    if !d.mapValid p va target slot level remote leaf then d.reply 0x0712 0 0
    else
      let place (d : Dev) : Dev := Dev.placeLeaf va level leaf 4 (d.part p).root d
      if remote then match home with
        | none => { d with sec := { d.sec with waiting := d.sec.waiting ++ [.map p va target slot size flags none] } }
        | some w =>
          let d := if w then d.modPart p (fun q => { q with remoteWindow := (pages64 va n).foldl NSet.insert q.remoteWindow }) else d
          (place d).reply 0 0 0
      else
        let window := match memKind target with | .window _ => true | _ => false
        ((place (d.takePage p target n slot (flags / 16 % 2 = 1))).tellPart p 0x45 [va, size, b2n window]).reply 0 0 0

/-- MAP_REQ (R256, R434, R521). `home` is what the home module of a REMOTE page has told: it holds a LOCAL leaf for the page, of a
coherent window where true; with none the request waits (R256). -/
def mapReq (p va target slot size flags : Nat) (home : Option Bool) (now : Time) (d : Dev) : Dev :=
  let d := d.advance now
  if d.reentering then d.hold (.map p va target slot size flags home) else d.serveMap p va target slot size flags home

/-- Committed tensor instructions, by core and number, that were checked under the mapping of a page and have not ended (R258). -/
def Dev.pageUsers (d : Dev) (p va n : Nat) : List (Nat × Nat) :=
  d.cores.flatMap (fun k => match k.2.run with
    | some r => if r.part = p then (k.2.tiq.filter (fun e => e.committed && e.begun && e.done.isNone && e.touches va n)).map (fun e => (k.1, e.id)) else []
    | none => [])

/-- An unmap request served (R256, R258): the translations of the page are dropped at once and no further access is checked under its
leaf, which goes once those checked before have ended. While REMOTE leaves of a page homed here stand at other modules the request waits. -/
def Dev.serveUnmap (d : Dev) (p va size : Nat) (remote : List (BitVec 14)) : Dev :=
  match sizeLevel size with
  | none => d.reply 0x0712 0 0
  | some level =>
    let n := 2 ^ pageBits level
    let at' := if (d.part p).root ≠ 0 && va % n = 0 && va < 2 ^ 57 && !d.leaving { part := p } va then d.leafAt va level 4 (d.part p).root else none
    match at' with
    | none => d.reply 0x0712 0 0
    | some a =>
      if !remote.isEmpty && !leafRemote (d.pte a) then { d with sec := { d.sec with waiting := d.sec.waiting ++ [.unmap p va size remote] } }
      else
        let d := d.invalidate p va n
        let l : Leaving := { part := p, va := va, size := n, entry := a, level := level, users := d.pageUsers p va n }
        ({ d with sec := { d.sec with leaving := d.sec.leaving ++ [l] } }).unmapAgain

/-- UNMAP_REQ (R256, R258, R434, R521). `remote`: the other modules that hold a REMOTE leaf of the page. -/
def unmapReq (p va size : Nat) (remote : List (BitVec 14)) (now : Time) (d : Dev) : Dev :=
  let d := d.advance now
  if d.reentering then d.hold (.unmap p va size remote) else d.serveUnmap p va size remote

/-! ### What the home and the other modules of a partition tell each other (R256) -/

/-- The home has a LOCAL leaf for a page: the REMOTE mappings that wait for it are served. -/
def Dev.homeMapped (d : Dev) (home : BitVec 14) (p va size : Nat) (window : Bool) : Dev :=
  let due (r : HeldReq) : Bool := match r with
    | .map q v target _ s _ _ => q = p && v = va && s = size && target = home.toNat
    | _ => false
  let rs := d.sec.waiting.filter due
  rs.foldl (fun (d : Dev) r => match r with
    | .map q v target slot s flags _ => d.serveMap q v target slot s flags (some window)
    | _ => d) { d with sec := { d.sec with waiting := d.sec.waiting.filter (fun r => !due r) } }

/-- Another module has removed its REMOTE leaf of a page homed here: an unmap that waits for the last one is served. -/
def Dev.remoteUnmapped (d : Dev) (m : BitVec 14) (p va size : Nat) : Dev :=
  let less (r : HeldReq) : HeldReq := match r with
    | .unmap q v s remote => if q = p && v = va && s = size then .unmap q v s (remote.filter (· ≠ m)) else r
    | r => r
  let free (r : HeldReq) : Bool := match r with | .unmap _ _ _ [] => true | _ => false
  let rs := d.sec.waiting.map less
  (rs.filter free).foldl (fun (d : Dev) r => match r with
    | .unmap q v s _ => d.serveUnmap q v s []
    | _ => d) { d with sec := { d.sec with waiting := rs.filter (fun r => !free r) } }

/-! ### Crypto-erase (R427, R429) -/

/-- Steps 3 and 4 of a crypto-erase: the slot's hub-cache lines dropped, its generation advanced; a generation at its end retires the
slot instead, and 0x0719 says so. -/
def Dev.cryptoErase (d : Dev) (slot : Nat) : Dev :=
  let d := { d with mem := { d.mem with hub := d.mem.hub.keep (fun _ (h : HcLine) => h.keySlot ≠ slot) } }
  let k := d.sec.slots.get {} slot
  if k.gen < 0xFFFFFFFF then { d with sec := { d.sec with slots := d.sec.slots.set slot { k with gen := k.gen + 1 } } }
  else ({ d with sec := { d.sec with slots := d.sec.slots.set slot { k with worn := true } } }).notice 0x0719 2 0 0

/-- A KEY_ERASE served (R429): of the partition's own slots, and only when no leaf names the slot. -/
def Dev.serveErase (d : Dev) (p slot : Nat) : Dev :=
  if !(d.part p).keySlots.contains slot then d.reply 0x0712 0 0
  else if d.mem.pages.any (fun r => r.2.slot = slot && r.2.refs ≠ 0) then d.reply 0x0718 0 0
  else (d.cryptoErase slot).reply 0 0 0

/-- KEY_ERASE (R429, R434). -/
def keyErase (p slot : Nat) (now : Time) (d : Dev) : Dev :=
  let d := d.advance now
  if d.reentering then d.hold (.erase p slot) else d.serveErase p slot

/-! ### Jobs (R48, R49, R263, R264, R492, R521) -/

/-- A footprint record (R263). -/
structure Footprint where
  version : Nat := 0
  groups : Nat := 0
  cls : Nat := 0
  scratch : Nat := 0
  stack : Nat := 0
  queues : Nat := 0
  slots : Nat := 0
  cores : Nat := 0
  reserved : Nat := 0
  deriving DecidableEq, Repr

/-- The record that a job image begins with. -/
def footprint (h : List Byte) : Footprint :=
  let f (o n : Nat) : Nat := leNat ((h.drop o).take n)
  { version := f 0 2, groups := f 2 1, cls := f 3 1, scratch := f 4 4, stack := f 8 4, queues := f 0xC 2, slots := f 0xE 2
    cores := f 0x10 4, reserved := f 0x14 12 }

/-- A check of a load that fails: cause, required, available, the rig (R264). -/
abbrev Short := Option LoadReport

/-- The first core of a partition, in Rig ID order, whose capacity falls short of what a job needs. -/
def Dev.coreShort (d : Dev) (cores : List Nat) (cause : Cause) (need : Nat) (have' : Nat → Nat) : Short :=
  (cores.find? (fun c => have' c < need)).map (fun c => { module := d.id, cause := cause, need := need, have' := have' c, rig := coreRig d.id c })

/-- Retired pairs of a core's stack bank (R244). -/
def Core.pairsOut (k : Core) : Nat := ((List.range 32).filter (fun i => bit k.retiredPairs i)).length

/-- Cores of a partition on this module, in Rig ID order, that are in service. -/
def Dev.partCores (d : Dev) (p : Nat) : List Nat :=
  (List.range 512).filter (fun c => d.inService c && (d.part p).rigs.any (fun g => rigHolds g d.id c))

/-- The lowest rig of a partition on this module. -/
def Dev.firstRig (d : Dev) (p : Nat) : BitVec 32 := match (d.part p).rigs with
  | [] => moduleRig d.id
  | r :: rs => rs.foldl (fun a b => if b.toNat < a.toNat then b else a) r

/-- The checks of R264 on this module, in order; the counts of the partition's other modules are `cores` and `queues`. -/
def Dev.loadChecks (d : Dev) (p : Nat) (f : Footprint) (len cores queues : Nat) : Short :=
  let mine := d.partCores p
  let one (cause : Cause) (bad : Bool) (need have' : Nat) : Short :=
    if bad then some { module := d.id, cause := cause, need := need, have' := have', rig := d.firstRig p } else none
  let total := mine.length + cores
  let bound := (d.fe.queues.vals.filter (fun (q : Queue) => q.part = p && q.state ≠ .free)).length + queues
  [one 0x0A20 (decide (len < 32) || f.version ≠ 1 || f.groups = 0 || decide (8 < f.groups) || f.reserved ≠ 0) 1 f.version,
   one 0x0A21 (decide (total < f.cores)) f.cores total,
   d.coreShort mine 0x0A22 f.scratch (fun _ => 0x400000 - f.groups * 0x10000),
   d.coreShort mine 0x0A23 f.stack (fun c => 0x4000000 - 0x200000 * (d.core c).pairsOut),
   one 0x0A24 (decide (bound < f.queues)) f.queues bound,
   d.coreShort mine 0x0A25 f.cls d.powerClass,
   one 0x0A26 (decide ((d.part p).keySlots.length < f.slots)) f.slots (d.part p).keySlots.length].findSome? (fun (x : Short) => x)

/-- Place of a load's refusal among the checks (R48, R5, R264, R492). -/
def loadRank (c : Cause) : Nat := match c with
  | 0x0A30 => 0 | 0x0A01 => 1 | 0x0411 => 2 | 0x0A10 => 3 | c => c.toNat

/-- The first failing check over the modules of a partition, at one check the lowest rig (R264). -/
def firstShort (l : List LoadReport) : Short :=
  l.foldl (fun (best : Short) r => if r.cause = 0 then best else match best with
    | none => some r
    | some b => if loadRank r.cause < loadRank b.cause || (loadRank r.cause = loadRank b.cause && r.rig.toNat < b.rig.toNat) then some r
                else best) none

/-- A refusal of this module with no amounts. -/
def Dev.loadRefused (d : Dev) (cause : Cause) (p : Bool) : Short :=
  if p then some { module := d.id, cause := cause, rig := moduleRig d.id } else none

/-- What this module says of a load of its partition (R48, R5, R6, R264, R439, R492): the job's program uses pair mode where `pair`, a
4-bit format where `four`, each under its own signet. -/
def Dev.loadSelf (d : Dev) (p : Nat) (f : Footprint) (len cores queues : Nat) (pair four : Bool) : Short :=
  [d.loadRefused 0x0A30 (d.boot.censusState ≠ 2), d.loadRefused 0x0A01 (d.part p).job.isSome,
   d.loadRefused 0x0411 d.overSignet,
   d.loadRefused 0x0A10 ((pair && !bit d.signetMask 0) || (four && !bit d.signetMask 1)),
   d.loadChecks p f len cores queues].findSome? (fun (x : Short) => x)

/-- A job loaded on this module (R4, R119, R128, R188, R194, R244, R264): every core's groups are set and EMPTY, its sealed region and its
local data store zero-filled, its local window repacked; the signets it begins under stay those it runs under. -/
def Dev.applyLoad (d : Dev) (p groups : Nat) (digest : BitVec 384) : Dev :=
  let d := (d.partCores p).foldl (fun (d : Dev) c =>
    (d.modCore c (fun k => { k with
      accGroups := groups, windowOut := k.retiredPairs, tx := { k.tx with accState := [] }
      sc := { k.sc with lds := [], ldsPoison := [] } })).clearSealed c) d
  (d.modPart p (fun q => { q with
    job := some { accGroups := groups, digest := digest, loadTime := d.time, signets := d.signetMask }, jobCause := 0, jrn := { q.jrn with lost := false, unsetNoted := false } })).refloor

/-- A refused load's answer: required, available and the rig, as R521 lays them out. -/
def Dev.replyShort (d : Dev) (r : LoadReport) : Dev :=
  d.emit (.reply r.cause (BitVec.ofNat 64 r.need) (BitVec.ofNat 64 r.have') (leBytes 8 r.need ++ leBytes 8 r.have' ++ leBytes 4 r.rig.toNat))

/-- Whether a partition is being reset (R471, R480). -/
def Dev.partResetting (d : Dev) (p : Nat) : Bool := d.rst.running.any (fun (x : RigReset) => x.part = some p)

/-- A job load served (R264): checked on every module of the partition, refused whole or accepted on all. A load that has been held is
judged by the signets installed when it is served: the manual does not say when a held load begins (R4; DESIGN CHOICE, log entry 120). -/
def Dev.serveLoad (d : Dev) (p va len : Nat) (pair four : Bool) (others : List LoadReport) : Dev :=
  let who : Accessor := { part := p }
  match d.checkExtent who { r := true } false va (max len 1) with
  | .error f => ((d.modPart p (fun q => { q with jobCause := f.cause })).walkNotice who f).reply f.cause 0 0
  | .ok _ =>
    let f := footprint (d.readVa who va (min len 32))
    let sum (g : LoadReport → Nat) : Nat := (others.map g).foldl (· + ·) 0
    let mine := match d.loadSelf p f len (sum (·.cores)) (sum (·.queues)) pair four with | some r => [r] | none => []
    match firstShort (mine ++ others) with
    | some r => (d.modPart p (fun q => { q with jobCause := r.cause })).replyShort r
    | none =>
      let digest := Config.sha384 (d.readVa who va len)
      let d := d.applyLoad p f.groups digest
      let d := ((d.part p).modules.filter (· ≠ d.id)).foldl (fun (d : Dev) m =>
        d.mgmt m 0x40 [(d.part p).key.toNat, f.groups] (leBytes 48 digest.toNat)) d
      d.reply 0 0 0

/-- JOB_LOAD (R5, R6, R48, R264, R434, R480, R492, R521). `pair`, `four`: the job's program uses pair mode, a 4-bit format; `others`: what the
partition's other modules answer. A load waits while a re-entry changes its partition, or a reset of the partition runs. -/
def jobLoad (p va len : Nat) (pair four : Bool) (others : List LoadReport) (now : Time) (d : Dev) : Dev :=
  let d := d.advance now
  if (match d.sec.reentry with | some r => r.changed.contains p | none => false) || d.partResetting p then
    d.hold (.load p va len pair four others)
  else d.serveLoad p va len pair four others

/-- A job unloaded on this module (R45, R128, R521): entries in flight complete with 0x0930, sealed regions are zero-filled. -/
def Dev.applyUnload (d : Dev) (p : Nat) : Dev :=
  let d := (d.partCores p).foldl (fun (d : Dev) c =>
    let d := if (match (d.core c).run with | some r => decide (r.part = p) | none => false) then d.dropEntry c 0x0930 else d
    (d.clearSealed c).modCore c (fun k => { k with tx := { k.tx with accState := [] } })) d
  d.dropJob p

/-- JOB_UNLOAD (R521). -/
def jobUnload (p value : Nat) (now : Time) (d : Dev) : Dev :=
  let d := d.advance now
  if value ≠ 1 then d.reply 0x0163 0 0
  else
    let d := d.applyUnload p
    (((d.part p).modules.filter (· ≠ d.id)).foldl (fun (d : Dev) m => d.mgmt m 0x41 [(d.part p).key.toNat] []) d).reply 0 0 0

end Sys2Proof.Machine
end

