-- ==== Sys2Proof/Machine/Train.lean ====
section
/-!
DEFINITION. Training support (14 R373 to R396) and the delivery of halyards (13 R367 to R369): the journal region, journal recovery,
replica digests, fills.
-/
namespace Sys2Proof.Machine

/-! ### The journal region (R381, R396) -/

/-- Whether a journal region breaks R381: alignment, size, mapping, or a job loaded. A base of 0 disables the journal. -/
def Dev.regionBad (d : Dev) (p : Nat) (base bytes : Word) : Bool :=
  (d.part p).job.isSome ||
  decide (base.toNat % 65536 ≠ 0) ||
  ((base ≠ 0 || bytes ≠ 0) && (decide (bytes.toNat % 65536 ≠ 0) || decide (bytes.toNat < 196608))) ||
  (base ≠ 0 &&
    (match d.checkExtent { part := p } { r := true, w := true } false base.toNat bytes.toNat with
     | .ok .dram => false
     | _ => true))

/-- JRN_REGION_WRITE (R381): JRN_BASE and JRN_BYTES registered, or refused with 0x0944. -/
def jrnRegionWrite (p : Nat) (base bytes : Word) (now : Time) (d : Dev) : Dev :=
  let d := d.advance now
  if d.regionBad p base bytes then d.reply 0x0944 0 0
  else (d.modPart p (fun q => { q with jrn := { q.jrn with base := base, bytes := bytes } })).reply 0 0 0

/-- JRN_CMD_RECOVER (R388): recovery starts at the coordinator. -/
def jrnCmdRecover (p : Nat) (now : Time) (d : Dev) : Dev := ((d.advance now).journalStart p).reply 0 0 0

/-! ### The decision (R389 to R391) -/

/-- A member's slot that is valid for a step (R387, R389). -/
def JrnReport.slotFor (r : JrnReport) (n : Nat) : Option JrnSlot :=
  let s := if n % 2 = 0 then r.slot0 else r.slot1
  if s.valid && s.step = n then some s else none

/-- The highest step for which some member holds a valid slot (R388 step 3). -/
def highestStep (rs : List JrnReport) : Nat :=
  (rs.flatMap (fun r => [r.slot0, r.slot1])).foldl (fun n s => if s.valid && n < s.step then s.step else n) 0

/-- The reports of a member's replica peers, lowest ID first. -/
def peersOf (rs : List JrnReport) (r : JrnReport) : List JrnReport :=
  let put (x : JrnReport) (l : List JrnReport) : List JrnReport :=
    l.takeWhile (fun y => y.module.toNat < x.module.toNat) ++ x :: l.dropWhile (fun y => y.module.toNat < x.module.toNat)
  (rs.filter (fun x => r.peers.contains x.module && x.module ≠ r.module)).foldr put []

/-- A member's reference table (R390): its own, else that of its lowest peer with a valid slot. -/
def refTable (rs : List JrnReport) (n : Nat) (r : JrnReport) : Option Nat :=
  match r.slotFor n with
  | some s => some s.table
  | none => (peersOf rs r).findSome? (fun p => (p.slotFor n).map (·.table))

/-- The lowest peer whose matching slot's beads verify (R390). -/
def peerWith (rs : List JrnReport) (n : Nat) (r : JrnReport) (ok : JrnSlot → Bool) : Option JrnReport :=
  match refTable rs n r with
  | none => none
  | some t => (peersOf rs r).find? (fun p => match p.slotFor n with | some s => s.table = t && ok s | none => false)

/-- Where a member's gradient beads come from (R390): none where grad_ok of R389 is false. -/
def gradSrc (rs : List JrnReport) (n : Nat) (r : JrnReport) : Option JrnReport :=
  match r.slotFor n with
  | some s => if s.grad then some r else peerWith rs n r (·.grad)
  | none => peerWith rs n r (·.grad)

/-- Where a member's pre-update beads come from, and whether from the stack bank (R389, R390): none where pre_ok is false. -/
def preSrc (rs : List JrnReport) (n : Nat) (r : JrnReport) : Option (JrnReport × Bool) :=
  match r.slotFor n with
  | none => if !r.lost then some (r, true) else (peerWith rs n r (·.pre)).map (fun p => (p, false))
  | some s => if s.pre then some (r, false) else (peerWith rs n r (·.pre)).map (fun p => (p, false))

/-- PRE_SRC of a replay entry (R390): as `preSrc`, and last the lowest peer that is not lost and holds no valid slot, whose stack bank is
read. -/
def preFrom (rs : List JrnReport) (n : Nat) (r : JrnReport) : Option (JrnReport × Bool) :=
  match preSrc rs n r with
  | some x => some x
  | none => ((peersOf rs r).find? (fun p => !p.lost && (p.slotFor n).isNone)).map (fun p => (p, true))

/-- fwd of R389. -/
def JrnReport.fwd (r : JrnReport) (n : Nat) : Bool := r.lost || (match r.slotFor n with | some s => decide (s.state < 3) | none => true)

/-- back of R389. -/
def JrnReport.back (r : JrnReport) (n : Nat) : Bool := r.lost || (r.slotFor n).isSome

/-- The decision of R389: 1 forward, 2 back, 3 unrecoverable. -/
def decideStep (rs : List JrnReport) (n : Nat) : Nat :=
  let grad (r : JrnReport) : Bool := (gradSrc rs n r).isSome
  let pre (r : JrnReport) : Bool := (preSrc rs n r).isSome
  if rs.all (fun r => !r.fwd n || (grad r && pre r)) then 1
  else if rs.all (fun r => !r.back n || pre r) then 2
  else 3

/-- The 32 bytes of a replay entry's arguments (R391); a source that the action does not use is the member itself. -/
def replayArgs (rs : List JrnReport) (n action : Nat) (r : JrnReport) : List Byte :=
  let g := (gradSrc rs n r).getD r
  let p := (preFrom rs n r).getD (r, false)
  leBytes 8 n ++ [BitVec.ofNat 8 action, BitVec.ofNat 8 (n % 2)] ++ leBytes 2 g.module.toNat ++ leBytes 2 p.1.module.toNat ++ leBytes 2 0
    ++ leBytes 8 g.base ++ leBytes 8 (if p.2 then 0 else p.1.base)

/-- The 64 bytes of a submission entry (R290) with a PC and arguments. -/
def entryBytes (pc : Word) (args : List Byte) : List Byte := leBytes 8 pc.toNat ++ List.replicate 24 0 ++ args

/-- A member's replay entry submitted on its JRN_REPLAY_QUEUE (R388 step 4): written to the ring at the tail, which moves on. -/
def Dev.submitReplay (d : Dev) (p : Nat) (coord : BitVec 14) (args : List Byte) : Dev :=
  let j := (d.part p).jrn
  let i := bits j.replayQueue 11 0
  match d.fe.queues.find? i with
  | none => d
  | some q =>
    if q.state ≠ .active || q.part ≠ p || q.gen.toNat ≠ bits j.replayQueue 17 12 then d
    else
      let a := q.field 0 8 + 64 * (q.tail.toNat % q.sqSize)
      let b := entryBytes j.replayPc args
      let d := if q.sqDev then d.writeHub q.who a b true else d.emit (.hostWrite q.func a b false)
      (d.modQueue i (fun (q : Queue) => q.setTail (q.tail + 1) d.time)).modPart p (fun x => { x with
        jrn := { x.jrn with mine := some (i, q.tail.toNat, coord) } })

/-- JOURNAL_DECIDE (R388 steps 3 and 4, R389 to R391): once every member has reported. -/
def journalDecide (p : Nat) (now : Time) (d : Dev) : Dev :=
  let d := d.advance now
  let j := (d.part p).jrn
  let all := (d.part p).modules.all (fun m => j.reports.any (fun r => r.module = m))
  if j.phase ≠ 1 || !all then d
  else
    let rs := j.reports
    let n := highestStep rs
    let dec := decideStep rs n
    let act := if dec = 1 then rs.filter (·.fwd n) else if dec = 2 then rs.filter (·.back n) else []
    let act := act.filter (fun r => !d.rst.failed.contains r.module.toNat)
    let d := d.modPart p (fun q => { q with jrn := { q.jrn with
      phase := 2, decision := dec, step := n, acted := act.length, replays := act.map (·.module) } })
    act.foldl (fun (d : Dev) r =>
      let args := replayArgs rs n dec r
      if r.module = d.id then d.submitReplay p d.id args
      else d.mgmt r.module 0x23 [(d.part p).key.toNat] args) d

/-- STATE of a slot written by a management pair (R388 step 5). -/
def Dev.setSlotState (d : Dev) (p slot state : Nat) : Dev :=
  let j := (d.part p).jrn
  if j.base = 0 then d else d.writeHub { part := p } (j.header slot + 0x40) [BitVec.ofNat 8 state] false

/-- JOURNAL_FINISH (R388 step 5): after every replay entry, the slots are CLOSED or ABORTED and the decision's notice is raised. -/
def journalFinish (p : Nat) (now : Time) (d : Dev) : Dev :=
  let d := d.advance now
  let j := (d.part p).jrn
  if j.phase ≠ 2 || !j.replays.isEmpty then d
  else
    let state := if j.decision = 1 then 4 else 5
    let d := if j.decision = 3 then d.modPart p (fun q => { q with job := q.job.map (fun x => { x with contained := true }) })
      else
        let d := d.setSlotState p (j.step % 2) state
        ((d.part p).modules.filter (· ≠ d.id)).foldl (fun (d : Dev) m => d.mgmt m 0x25 [(d.part p).key.toNat, j.step % 2, state] []) d
    let d := d.modPart p (fun q => { q with jrn := { q.jrn with phase := 3, lastStep := j.step, reports := [] } })
    d.notify { code := BitVec.ofNat 16 (0x093F + j.decision), cls := if j.decision = 3 then 3 else 0, part := some p
               rig := moduleRig d.id, arg0 := BitVec.ofNat 64 j.step, arg1 := BitVec.ofNat 64 j.acted }

/-! ### Replica digests (R393, R394) -/

/-- The last step CLOSED here: of the valid slots, the highest in STATE CLOSED (R393). -/
def Dev.lastClosed (d : Dev) (p : Nat) : Option Nat :=
  let ss := [(d.readSlot p 0).1, (d.readSlot p 1).1].filter (fun s => s.valid && s.state = 4)
  match ss with
  | [] => none
  | s :: rest => some (rest.foldl (fun n t => max n t.step) s.step)

/-- WDIGEST_POST of a step's slot. -/
def Dev.digestPost (d : Dev) (p n : Nat) : Word :=
  BitVec.ofNat 64 (leNat (d.readVa { part := p } ((d.part p).jrn.header (n % 2) + 0x48) 8))

/-- Whether this module compares the digests of its replica set: it has peers and the lowest ID of them (R393). -/
def Dev.isComparer (d : Dev) (p : Nat) : Bool :=
  let peers := ((d.part p).jrn.peers).filter (· ≠ d.id)
  !peers.isEmpty && peers.all (fun m => d.id.toNat < m.toNat)

/-- A comparison over the peers' answers for this module's newest closed step (R393, R394); an answer of none: no slot valid for it. -/
def Dev.compareDigests (d : Dev) (p n : Nat) (answers : List (BitVec 14 × Option Word)) : Dev :=
  let j := (d.part p).jrn
  let peers := j.peers.filter (· ≠ d.id)
  let vals := peers.map (fun m => (m, (answers.find? (·.1 = m)).bind (·.2)))
  let counted (d : Dev) (f : Journal → Journal) : Dev :=
    d.modPart p (fun q => { q with jrn := { f q.jrn with comparedStep := n, lastCompare := d.time, tries := 0, tryAt := none } })
  if vals.any (·.2.isNone) then
    if 10 ≤ j.tries then (counted d (fun x => x)).notify { code := 0x0861, part := some p, rig := moduleRig d.id }
    else d.modPart p (fun q => { q with jrn := { q.jrn with tryAt := some d.time } })
  else
    let own := d.digestPost p n
    let bad := (vals.filter (fun v => v.2 ≠ some own)).map (·.1)
    match lowestId bad with
    | none => counted d (fun x => { x with digestLast := n })
    | some m =>
      let arg1 := BitVec.ofNat 64 (d.id.toNat + m.toNat * 65536)
      let d := (counted d (fun x => x)).notify { code := 0x0860, part := some p, rig := moduleRig d.id, arg0 := BitVec.ofNat 64 n, arg1 := arg1 }
      if j.digestAction = 1 then
        let d := (d.part p).rigs.foldl (fun (d : Dev) r => d.quiesceRig (d.localRig r)) d
        ((d.part p).modules.filter (· ≠ d.id)).foldl (fun (d : Dev) m => d.mgmt m 0x42 [(d.part p).key.toNat] []) d
      else d

/-- DIGEST_COMPARE (R393): due by steps closed or by time since the last comparison. -/
def digestCompare (p : Nat) (answers : List (BitVec 14 × Option Word)) (now : Time) (d : Dev) : Dev :=
  let d := d.advance now
  let j := (d.part p).jrn
  match d.lastClosed p with
  | none => d
  | some n =>
    let due := (j.digestSteps ≠ 0 && decide (j.comparedStep + j.digestSteps ≤ n))
      || (j.digestSeconds ≠ 0 && reached d.time j.lastCompare (ms (1000 * j.digestSeconds)))
    if !d.isComparer p || !due || j.tryAt.isSome then d else d.compareDigests p n answers

/-- DIGEST_COMPARE_RETRY (R393): every 10 ms with the newest closed step, 10 times. -/
def digestCompareRetry (p : Nat) (answers : List (BitVec 14 × Option Word)) (now : Time) (d : Dev) : Dev :=
  let d := d.advance now
  match (d.part p).jrn.tryAt, d.lastClosed p with
  | some t, some n =>
    if reached d.time t (ms 10) then
      (d.modPart p (fun q => { q with jrn := { q.jrn with tries := q.jrn.tries + 1 } })).compareDigests p n answers
    else d
  | _, _ => d

/-! ### Fills (R374) and halyards (R368, R369, R375) -/

/-- A packet posted on a halyard by its root: the next HSEQ, kept for repair (R369). -/
def Dev.halyardPost (d : Dev) (h : Nat) (p : Packet) : Dev :=
  let o := d.fab.halyOut.get {} h
  let p := { p with ptype := 0x1A, tc := 5, src := d.id, xarg := BitVec.ofNat 64 (h + o.nextSeq.toNat * 256) }
  let d := { d with fab := { d.fab with halyOut := d.fab.halyOut.set h { nextSeq := o.nextSeq + 1, sent := o.sent ++ [p] } } }
  d.hubSend p

/-- One bead of a fill as HALYARD packets: its record under R345 and its sideband after it, in fragments; ADDR is the bead's
destination. The places of the address and of the sideband are the model's own (DESIGN CHOICE, log entry 19). -/
def Dev.fillBead (d : Dev) (who : Accessor) (src dst n : Nat) (key : BitVec 16) : List Packet :=
  let ps := d.beadPackets who src n {}
  let rec' := ps.flatMap (·.payload)
  let pz := ps.flatMap (fun p => ((List.range 6).filter (bit p.pmask)).map (6 * p.frag + ·))
  let sb := (d.sideband (d.mpa who src)).word
  (fragments 23 0 (rec' ++ leBytes 8 sb.toNat) pz).map (fun f => {
    pkey := key, addr := dst, frag := f.1, last := f.2.1, cform := (ps.head?.map (·.cform)).getD 0, payload := f.2.2.1, pmask := f.2.2.2 })

/-- FILL_REQ (R374): 32 bytes; the beads of a range are posted on a halyard under the partition's key, after a packet that names the
destination extent and the stride. -/
def fillReq (p : Nat) (req : List Byte) (now : Time) (d : Dev) : Dev :=
  let d := d.advance now
  let f (o n : Nat) : Nat := leNat ((req.drop o).take n)
  let h := f 0 1
  let src := f 8 8
  let len := f 16 8
  let dst := f 24 8
  let who : Accessor := { part := p }
  let n := (d.sideband (d.mpa who src)).size
  if 64 ≤ h || len = 0 || len % n ≠ 0 then d.reply 0x0162 0 0
  else match d.checkExtent who { r := true } false src len with
    | .error e => (d.walkNotice who e).reply e.cause 0 0
    | .ok _ =>
      let key := (d.part p).key
      let d := d.halyardPost h { pkey := key, stream := 1, addr := dst, last := true, payload := leBytes 8 len ++ leBytes 8 n }
      let d := (List.range (len / n)).foldl (fun (d : Dev) i =>
        (d.fillBead who (src + i * n) (dst + i * n) n key).foldl (fun (d : Dev) q => d.halyardPost h q) d) d
      d.reply 0 0 0

/-- Delivery state of a halyard. -/
def Dev.haly (d : Dev) (h : Nat) : HalyardIn := d.fab.halyIn.get {} h
/-- Delivery state of a halyard changed. -/
def Dev.modHaly (d : Dev) (h : Nat) (f : HalyardIn → HalyardIn) : Dev := { d with fab := { d.fab with halyIn := d.fab.halyIn.upd {} h f } }

/-- HSEQ of a HALYARD packet (R344). -/
def Packet.hseq (p : Packet) : BitVec 32 := BitVec.ofNat 32 (bits p.xarg 39 8)

/-- A fill's first packet (R374): the whole destination extent is checked; a refusal raises 0x0451. -/
def Dev.fillBegin (d : Dev) (h : Nat) (p : Packet) : Dev :=
  match d.partOfKey p.pkey with
  | none => d
  | some i =>
    let len := leNat (p.payload.take 8)
    let who : Accessor := { part := i }
    let start (ok : Bool) (d : Dev) : Dev := d.modHaly h (fun x => { x with
      fill := some { part := i, dst := p.addr, bytes := len, stride := leNat (p.payload.drop 8), next := p.addr, ok := ok }, asm := [] })
    match d.checkExtent who { w := true } false p.addr len with
    | .error e => ((start false d).walkNotice who e).notify
        { code := 0x0451, part := some i, rig := moduleRig d.id, arg0 := e.cause.zeroExtend 64 }
    | .ok _ => start true d

/-- A fragment of a fill's bead (R74, R102, R374): the bead is written once it is whole. -/
def Dev.fillFragment (d : Dev) (h : Nat) (p : Packet) : Dev :=
  match (d.haly h).fill with
  | none => d
  | some f =>
    let a := asmAdd (d.haly h).asm p.addr p.frag p.last p.payload p.pmask false
    let d := d.modHaly h (fun x => { x with asm := [a] })
    match a.record? with
    | none => d
    | some r =>
      let sb := Sideband.ofWord (BitVec.ofNat 64 (leNat (r.drop (r.length - 8))))
      let d := d.modHaly h (fun x => { x with asm := [], fill := some { f with next := p.addr + sb.size } })
      if !f.ok then d
      else
        let w := d.landRecord { part := f.part } p.addr sb p.cform (r.take (r.length - 8)) a.poison
        if w.2 = 0 then w.1.modPart f.part (fun q => { q with jrn := { q.jrn with fillBytes := q.jrn.fillBytes + sb.size } }) else w.1

/-- A packet of a halyard delivered in order to its consumer (R369): a fill's packets carry a partition's key; a module without rigs of
the partition discards them and counts them (R374). Packets under the system key are the management services'. -/
def Dev.halyardDeliver (d : Dev) (h : Nat) (p : Packet) : Dev :=
  if p.pkey = 0 then d
  else if !d.keyHere p.pkey then { d with fab := { d.fab with ingressKeyDrops := d.fab.ingressKeyDrops + 1 } }
  else if p.stream = 1 then d.fillBegin h p
  else d.fillFragment h p

/-- Held packets that are next in order are delivered. -/
def Dev.halyardDrain (h : Nat) : Nat → Dev → Dev
  | 0, d => d
  | k + 1, d =>
    let x := d.haly h
    match x.held.find? (fun p => p.hseq = x.nextSeq) with
    | none => if x.held.isEmpty then d.modHaly h (fun x => { x with gapSince := none, repairs := 0 }) else d
    | some p =>
      let d := d.modHaly h (fun x => { x with
        nextSeq := x.nextSeq + 1, held := x.held.filter (fun q => q.hseq ≠ p.hseq), gapSince := none, repairs := 0 })
      Dev.halyardDrain h k (d.halyardDeliver h p)

/-- A packet of a halyard reaches the hub (R369): delivered in HSEQ order; behind a gap it is held. -/
def Dev.halyardArrive (d : Dev) (p : Packet) : Dev :=
  let h := bits p.xarg 7 0 % 64
  let x := d.haly h
  if 2 ^ 31 ≤ (p.hseq - x.nextSeq).toNat || x.held.any (fun q => q.hseq = p.hseq) then d
  else
    let d := d.modHaly h (fun x => { x with held := x.held ++ [p], root := p.src })
    let d := Dev.halyardDrain h (x.held.length + 2) d
    if (d.haly h).held.isEmpty then d
    else d.modHaly h (fun x => { x with gapSince := match x.gapSince with | some t => some t | none => some d.time })

/-- HALYARD (R368, R369, R374): a packet arrives at a die's switch from an input, which copies it to its children; or, with no place
given, the hub takes it from an ejection queue. -/
def halyard (at' : Option (Nat × Nat)) (p : Packet) (now : Time) (d : Dev) : Dev :=
  match at' with
  | some (die, input) => match (d.advance now).arbCheck die { input := input, p := p } with
    | (d, some a) => d.halyardCopy die input a.p
    | (d, none) => d
  | none =>
    let d := (d.advance now).takeIngress (fun q => q = p)
    if expired d.time p then { d with fab := { d.fab with ingressExpired := d.fab.ingressExpired + 1 } } else d.halyardArrive p

/-- The nearest held packet of a halyard. -/
def HalyardIn.nearest (x : HalyardIn) : Option Packet := match x.held with
  | [] => none
  | p :: ps => some (ps.foldl (fun a b => if (b.hseq - x.nextSeq).toNat < (a.hseq - x.nextSeq).toNat then b else a) p)

/-- HALYARD_GAP_REPAIR (R369, R375): a gap open for 100 µs is asked of the root; after 4 requests it is reported, the packets behind it
are delivered, and a fill's gap raises 0x0450. -/
def halyardGapRepair (h : Nat) (now : Time) (d : Dev) : Dev :=
  let d := d.advance now
  let x := d.haly h
  match x.gapSince, x.nearest with
  | some t, some p =>
    if !reached d.time t (us 100) then d
    else if x.repairs < 4 then
      (d.modHaly h (fun x => { x with repairs := x.repairs + 1, gapSince := some d.time })).hubSend
        { ptype := 0x18, tc := 4, dst := x.root, pkey := p.pkey, xarg := BitVec.ofNat 64 (0x50 + 3 * 256)
          payload := leBytes 8 h ++ leBytes 8 x.nextSeq.toNat ++ leBytes 8 (p.hseq - x.nextSeq).toNat }
    else
      let d := d.modHaly h (fun x => { x with nextSeq := p.hseq, gapSince := none, repairs := 0 })
      let d := match x.fill with
        | some f =>
          let upTo := if p.stream = 1 || p.addr < f.next then f.dst + f.bytes else if p.frag = 0 then p.addr else p.addr + f.stride
          (d.modPart f.part (fun q => { q with jrn := { q.jrn with fillGaps := q.jrn.fillGaps + 1 } })).notify
            { code := 0x0450, part := some f.part, rig := moduleRig d.id
              arg0 := BitVec.ofNat 64 (f.next - f.dst), arg1 := BitVec.ofNat 64 (upTo - f.next) }
        | none => d
      let d := d.modHaly h (fun x => { x with asm := [] })
      Dev.halyardDrain h (x.held.length + 1) d
  | _, _ => d

/-- The words of a management message about one packet, and the packet read back (R369: repairs travel as unicast MGMT). -/
def Packet.repairWords (p : Packet) : List Nat :=
  [p.xarg.toNat, p.addr, p.stream, p.frag + 256 * b2n p.last + 65536 * p.cform, p.pmask.toNat]

/-- A packet read back from a repair. -/
def packetOfRepair (src : BitVec 14) (key : BitVec 16) (w : List Nat) (payload : List Byte) : Packet :=
  let g (i : Nat) : Nat := w.getD i 0
  { ptype := 0x1A, tc := 5, src := src, pkey := key, xarg := BitVec.ofNat 64 (g 0), addr := g 1, stream := g 2, frag := g 3 % 256
    last := g 3 / 256 % 256 = 1, cform := g 3 / 65536, pmask := BitVec.ofNat 8 (g 4), payload := payload }

/-- HALYARD_REPAIR_REQUEST (R369, R374): the root sends the missing packets again as unicast MGMT under their own key. -/
def halyardRepairRequest (src : BitVec 14) (h : Nat) (first : BitVec 32) (count : Nat) (now : Time) (d : Dev) : Dev :=
  let d := d.advance now
  let o := d.fab.halyOut.get {} h
  (o.sent.filter (fun p => decide ((p.hseq - first).toNat < count))).foldl (fun (d : Dev) p =>
    d.hubSend { ptype := 0x18, tc := 4, dst := src, pkey := p.pkey, xarg := BitVec.ofNat 64 (0x51 + 5 * 256)
                payload := (p.repairWords.map (leBytes 8)).flatten ++ p.payload }) d

end Sys2Proof.Machine
end

