-- ==== Sys2Proof/Machine/Security.lean ====
section
/-!
DEFINITION. Security and tenancy (16 R424 to R442): the protection set-up, consent, hallmarks, signets.
-/
namespace Sys2Proof.Machine

/-! ### The canonical encoding (R432) -/

/-- The 64-byte entry of a partition (R432). -/
def SetupPart.entry (s : SetupPart) : List Byte :=
  leBytes 2 s.pkey.toNat ++ leBytes 2 s.slotFirst ++ leBytes 2 s.slotCount ++ [if s.debugAllowed then 1 else 0, 0] ++ leBytes 8 s.root
    ++ leBytes 48 s.rigsDigest.toNat

/-- The partition that a set-up gives a key slot to (R425, R432). -/
def Setup.slotOwner (s : Setup) (slot : Nat) : Option SetupPart :=
  s.parts.find? (fun p => p.slotFirst ≤ slot && slot < p.slotFirst + p.slotCount)

/-- KEY_SLOT_MAP of a set-up (R441): 1,024 partition keys. -/
def Setup.slotMap (s : Setup) : List Byte :=
  (List.range 1024).flatMap (fun i => leBytes 2 (match s.slotOwner i with | some p => p.pkey.toNat | none => 0))

/-- PARTITION_TABLE of a set-up (R441): 512 entries, zeros for a free index. -/
def Setup.table (s : Setup) : List Byte :=
  (List.range 512).flatMap (fun i => match s.parts.find? (·.index = i) with | some p => p.entry | none => List.replicate 64 0)

/-- The canonical encoding of a set-up (R432): partition entries, rig lists, key-slot map, tenant keys, port key tables in port order. The
form of a rig list, its length and then its Rig IDs, is the model's own (DESIGN CHOICE, log entry 34). -/
def Setup.bytes (s : Setup) : List Byte :=
  s.table ++ s.parts.flatMap (fun p => leBytes 4 p.rigs.length ++ p.rigs.flatMap (fun r => leBytes 4 r.toNat)) ++ s.slotMap
    ++ s.parts.flatMap (·.tenantKey)
    ++ (List.range 32).flatMap (fun i => (List.range 64).flatMap (fun k => leBytes 4 (match (s.ports.get [] i).find? k with
        | some v => 65536 + v.toNat | none => 0)))

/-! ### Checks of a commit (R5, R46, R256, R425, R434, R480) -/

/-- Whether two rigs overlap: one is or encloses the other (R46). -/
def rigsMeet (a b : BitVec 32) : Bool := rigEncloses a b || rigEncloses b a

/-- Whether a list of rigs overlaps anywhere. -/
def rigsOverlap : List (BitVec 32) → Bool
  | [] => false
  | r :: rs => rs.any (rigsMeet r) || rigsOverlap rs

/-- Whether a list repeats an element. -/
def repeats {α : Type} [DecidableEq α] : List α → Bool
  | [] => false
  | x :: xs => xs.contains x || repeats xs

/-- Whether a set-up gives an invalid partition, root or key slot (R252, R256, R425, R432). -/
def Setup.invalid (s : Setup) : Bool :=
  repeats (s.parts.map (·.index)) || repeats (s.parts.map (·.pkey)) || repeats (s.parts.map (·.root)) ||
  s.parts.any (fun p => p.pkey = 0 || p.root % 4096 ≠ 0 || memKind p.root ≠ .system || (p.slotCount ≠ 0 && p.slotFirst = 0)
    || decide (1024 < p.slotFirst + p.slotCount)) ||
  (List.range 1024).any (fun k => decide (1 < (s.parts.filter (fun p => p.slotFirst ≤ k && k < p.slotFirst + p.slotCount)).length))

/-- Key of the partition that holds a core now, 0 for none. -/
def Dev.coreKey (d : Dev) (c : Nat) : BitVec 16 :=
  match d.parts.first? (fun _ p => p.key ≠ 0 && p.rigs.any (fun g => rigHolds g d.id c)) with
  | some (_, p) => p.key
  | none => 0

/-- Key of the partition that a set-up gives a core to, 0 for none. -/
def Setup.coreKey (s : Setup) (m : BitVec 14) (c : Nat) : BitVec 16 :=
  match s.parts.find? (fun p => p.rigs.any (fun g => rigHolds g m c)) with
  | some p => p.pkey
  | none => 0

/-- Cores that change partition (R431). -/
def Dev.movedCores (d : Dev) (s : Setup) : List Nat := (List.range 512).filter (fun c => d.coreKey c ≠ s.coreKey d.id c)

/-- Whether a core that changes partition holds a loaded job or a live queue, or is being reset (R434, R480). -/
def Dev.moveBusy (d : Dev) (c : Nat) : Bool :=
  d.parts.any (fun p => p.2.job.isSome && p.2.rigs.any (fun g => rigHolds g d.id c)) ||
  d.fe.queues.any (fun q => q.2.state ≠ .free && rigHolds q.2.rig d.id c) || d.inReset c

/-- Partitions allowed here (R2, R47): 512 with the PARTITIONS_512 signet, else 64. -/
def Dev.partLimit (d : Dev) : Nat := if bit d.signetMask 3 then 512 else 64

/-- Whether a partition's entry, rigs or key differ under a set-up. -/
def Dev.partChanged (d : Dev) (s : Setup) (i : Nat) : Bool :=
  d.sec.setup.parts.find? (·.index = i) ≠ s.parts.find? (·.index = i)

/-- Why a set-up's rigs are refused (R36), the first one's cause, 0 when none is. -/
def Dev.setupRigs (d : Dev) (s : Setup) : Cause := (((s.parts.flatMap (·.rigs)).map d.rigCheck).find? (· ≠ 0)).getD 0

/-- Why a commit is refused on validation (R433 step 2), 0 when it is not. The rigs it names are checked after the signets' limit: the spec
gives R36's check no place in the order (DESIGN CHOICE, log 123). -/
def Dev.setupRefusal (d : Dev) (s : Setup) : Cause :=
  if decide (d.partLimit < s.parts.length) || s.parts.any (fun p => decide (d.partLimit ≤ p.index)) then 0x0710
  else if d.setupRigs s ≠ 0 then d.setupRigs s
  else if rigsOverlap (s.parts.flatMap (·.rigs)) then 0x0711
  else if s.invalid then 0x0712
  else if (d.movedCores s).any d.moveBusy then 0x0714
  else 0

/-! ### Repartitioning (R431, R433) -/

/-- PROTECT_STAGE (R433). -/
def protectStage (s : Setup) (now : Time) (d : Dev) : Dev :=
  ({ d.advance now with sec := { (d.advance now).sec with staged := some s } }).reply 0 0 0

/-- What R431 clears of a core beside its SRAM: registers of the tensor side, the local data store, records, translation caches. -/
def Core.wiped (k : Core) : Core :=
  { k with
    sc := { k.sc with lds := [], ldsPoison := [] }
    tx := { k.tx with td := [], cr := [], crUnchecked := [], accState := [], tcs := [], tcsx := [], owner := [], txfault := 0
                      txfaultpc := 0, vxRecord := 0, svRecord := [] }
    arms := [], tcache := [], pcache := [] }

/-- PROTECT_COMMIT (R433 steps 1 to 4, R434): checked, and the rigs that change partition cleared. `expected` is the digest it expects to
replace; `t` the switch time, 0 at once. -/
def protectCommit (expected : BitVec 384) (t : Time) (now : Time) (d : Dev) : Dev :=
  let d := d.advance now
  let refuse (c : Cause) : Dev := ({ d with sec := { d.sec with lastCause := c } }).reply c 0 0
  if d.reentering then refuse 0x0715
  else if expected ≠ d.sec.tableDigest then refuse 0x0713
  else match d.sec.staged with
    | none => refuse 0x0712
    | some s =>
      match d.setupRefusal s with
      | 0 =>
        let moved := d.movedCores s
        let changed := (List.range 512).filter (d.partChanged s)
        let d := moved.foldl (fun (d : Dev) c => (d.clearSram c).modCore c Core.wiped) d
        let d := { d with rel := { d.rel with testing := d.rel.testing.keep (fun c _ => !moved.contains c) } }
        ({ d with sec := { d.sec with staged := none, lastCause := 0, reentry := some { setup := s, at' := t, changed := changed } } }).reply 0 0 0
      | c => refuse c

/-- Leaves that a partition may keep under the set-up that is now in force: those that name no slot it has lost and no memory that
another partition owns (R256, R433). The others are taken out of a table and of the tables below it. -/
def Dev.pruneEntry (p : Nat) (below : Nat → Dev → Dev) (level a : Nat) (d : Dev) : Dev :=
  let e := d.pte a
  if !bit e 63 then d
  else if bit e 62 then
    let m := leafMpa e
    let keep := leafRemote e || (match memKind m with
      | .dram => (d.part p).keySlots.contains (leafSlot e)
      | .stack c | .scratch c => !d.coreForeign p c
      | _ => true)
    if keep then d else (d.setPte a 0).dropPage m (2 ^ pageBits level)
  else below (nextTable e) d

/-- A table pruned, and the tables below it. -/
def Dev.prune (p : Nat) : Nat → Nat → Dev → Dev
  | 0, t, d => (List.range 32).foldl (fun (d : Dev) i => Dev.pruneEntry p (fun _ d => d) 0 (t + 8 * i) d) d
  | l + 1, t, d => (List.range 512).foldl (fun (d : Dev) i => Dev.pruneEntry p (fun n d => Dev.prune p l n d) (l + 1) (t + 8 * i) d) d

/-- Consent set aside (R436): debug mode goes off on every core of the partition. -/
def Dev.revoke (d : Dev) (p : Nat) : Dev :=
  let d := (d.partCores p).foldl (fun (d : Dev) c => d.modCore c (fun k => { k with dbg := false })) d
  d.modPart p (fun q => { q with consent := { q.consent with set := false, scope := 0, digest := 0, notAfter := 0 } })

/-- A new CONSENT_NONCE (R436). -/
def Dev.newNonce (d : Dev) (p : Nat) : Dev :=
  let r := d.draw
  r.2.modPart p (fun q => { q with consent := { q.consent with nonce := r.1 } })

/-- A partition released (R431): its coherent-window pages zero-filled, its semaphores freed under R307, requests of it that wait refused. -/
def Dev.releasePart (d : Dev) (p : Nat) : Dev :=
  let q := d.part p
  let d := q.windowPages.foldl (fun (d : Dev) k => d.zeroFill (k * 65536) 65536) d
  let sems := d.fe.semIds.used.filter (fun n => d.semAlloc n && d.semKey n = q.key)
  let d := sems.foldl (fun (d : Dev) n =>
    let ws := d.coh.waits.filter (·.sem = n)
    let d := { d with coh := { d.coh with waits := d.coh.waits.filter (·.sem ≠ n) } }
    let d := ws.foldl (fun (d : Dev) w => d.finish w.core w.id { cause := 0x0141 }) d
    let d := d.semWrite n 0 (d.semKey n) (d.semGen n).toNat false
    { d with fe := { d.fe with semIds := d.fe.semIds.free n d.time } }) d
  let of (r : HeldReq) : Bool := match r with | .map q .. | .unmap q .. => q = p | _ => false
  let d := (d.sec.waiting.filter of).foldl (fun (d : Dev) _ => d.reply 0x0712 0 0) d
  let d := { d with sec := { d.sec with
    waiting := d.sec.waiting.filter (fun r => !of r), leaving := d.sec.leaving.filter (fun l => l.part ≠ p) } }
  { d with parts := d.parts.del p, mem := { d.mem with pages := d.mem.pages.mapv (fun _ (r : PageRec) => if r.part = p then { r with refs := 0 } else r) } }

/-- A partition's entry put in force (R433 step 5): a partition that goes on keeps what it holds, another begins afresh with an empty root
table. -/
def Dev.installPart (d : Dev) (s : SetupPart) : Dev :=
  let old := d.parts.find? s.index
  let going := match old with | some p => p.key = s.pkey | none => false
  let base : Part := if going then d.part s.index else {}
  let d := if going && base.root = s.root then d
    else if going then d.writePlain s.root (d.mem.mem.readBytes base.root 4096) false false
    else d.zeroFill s.root 4096
  { d with parts := d.parts.set s.index { base with
      key := s.pkey, rigs := s.rigs, root := s.root, keySlots := (List.range s.slotCount).map (s.slotFirst + ·), modules := s.modules
      tenantKey := s.tenantKey, debugAllowed := s.debugAllowed, rigsDigest := s.rigsDigest } }

/-- A held request served (R434). -/
def Dev.serveReq (d : Dev) : HeldReq → Dev
  | .map p va target slot size flags home => d.serveMap p va target slot size flags home
  | .unmap p va size remote => d.serveUnmap p va size remote
  | .erase p slot => d.serveErase p slot
  | .load p va len pair four others =>
    if d.partResetting p then d.hold (.load p va len pair four others) else d.serveLoad p va len pair four others
  | .hallmark _ | .hallmarkPart _ _ => d

/-! ### Hallmarks (R437, R438) -/

/-- Whether a stored image may run: it was accepted, and its SVN is not below the fused floor (19 R484). -/
def BringUp.imageOk (b : BringUp) (stage : Nat) (i : FwImage) : Bool := i.valid && decide (b.svn.get 0 stage ≤ i.svn)

/-- The image that a stage runs (19 R484, R485): that of the active bank, else that of the other; the ROM's is stage 0 of bank A. -/
def BringUp.stageImage (b : BringUp) (stage : Nat) : Option FwImage :=
  let a := (if b.activeB then b.bankB else b.bankA).get {} stage
  let o := (if b.activeB then b.bankA else b.bankB).get {} stage
  if stage = 0 then some (b.bankA.get {} 0) else if b.imageOk stage a then some a else if b.imageOk stage o then some o else none

/-- Digests of the four boot stages in the banks in use (R437, 19 R484). -/
def Dev.bootDigests (d : Dev) : List (BitVec 384) :=
  (List.range 4).map (fun i => ((d.boot.stageImage i).getD {}).digest)

/-- A signet that the module ships with (R439): its signature is not stated (free bytes, log entry 11). -/
def Dev.factorySignet (d : Dev) (f : Nat) : List Byte :=
  leBytes 4 0x544E4753 ++ leBytes 2 1 ++ leBytes 2 f ++ leBytes 8 d.boot.serial.toNat ++ leBytes 16 0 ++ (List.range 96).map (Config.freeByte f)

/-- The signet store in order (R439, R440): a GKY-25A-F ships with all four. -/
def Dev.signetStore (d : Dev) : List (List Byte) := (if d.full then [1, 2, 3, 4].map d.factorySignet else []) ++ d.sec.signets

/-- A partition entry of a hallmark (R438). -/
def Dev.hallmarkEntry (d : Dev) (i : Nat) : List Byte :=
  let p := d.part i
  let j := p.job.getD {}
  leBytes 2 p.key.toNat ++ leBytes 2 i ++ leBytes 4 (b2n p.job.isSome + 2 * b2n p.consent.set + 4 * p.consent.scope.toNat)
    ++ leBytes 8 (p.digestAcc.get 0 0).toNat ++ leBytes 8 j.loadTime.toNat ++ leBytes 48 j.digest.toNat
    ++ leBytes 48 p.consent.digest.toNat ++ leBytes 8 0

/-- Everything of a hallmark before its signature (R437). -/
def Dev.hallmarkBody (d : Dev) (scope : Nat) (parts : List Nat) (nonce : BitVec 256) : List Byte :=
  let store := d.signetStore
  leBytes 4 0x4B4D4C48 ++ leBytes 2 1 ++ leBytes 2 parts.length ++ leBytes 4 (0x240 + 128 * parts.length + 96) ++ leBytes 4 scope
    ++ leBytes 8 d.boot.serial.toNat ++ leBytes 2 d.id.toNat ++ leBytes 6 0
    ++ List.replicate 25 0x10 ++ List.replicate 7 0
    ++ leBytes 96 d.sec.identityKey.toNat ++ d.bootDigests.flatMap (fun x => leBytes 48 x.toNat)
    ++ leBytes 4 d.signetMask.toNat ++ leBytes 2 store.length ++ leBytes 2 0 ++ leBytes 48 (Config.sha384 store.flatten).toNat
    ++ leBytes 8 d.cfg.force.epoch ++ leBytes 48 d.cfg.force.sealDigest.toNat ++ leBytes 48 d.sec.tableDigest.toNat
    ++ leBytes 32 nonce.toNat ++ leBytes 8 d.time.toNat ++ leBytes 24 0 ++ parts.flatMap d.hallmarkEntry

/-- A hallmark with its signature under IK (R437). -/
def Dev.hallmarkOf (d : Dev) (scope : Nat) (parts : List Nat) (nonce : BitVec 256) : List Byte :=
  let b := d.hallmarkBody scope parts nonce
  b ++ ((Config.sign (leBytes 96 d.sec.identityKey.toNat) (leBytes 48 (Config.sha384 b).toNat)) ++ List.replicate 96 0).take 96

/-- A module-scope hallmark produced: every partition entry (R437). -/
def Dev.serveHallmark (d : Dev) (nonce : BitVec 256) : Dev :=
  ({ d with sec := { d.sec with hallmark := d.hallmarkOf 0 d.parts.keys nonce } }).reply 0 0 0

/-- A partition-scope hallmark produced: that partition's entry only (R437). -/
def Dev.serveHallmarkPart (d : Dev) (p : Nat) (nonce : BitVec 256) : Dev :=
  (d.modPart p (fun q => { q with hallmark := d.hallmarkOf 1 [p] nonce })).reply 0 0 0

/-- HALLMARK_REQ (R437): held while a re-entry runs (R434). -/
def hallmarkReq (nonce : BitVec 256) (now : Time) (d : Dev) : Dev :=
  let d := d.advance now
  if d.reentering then d.hold (.hallmark nonce) else d.serveHallmark nonce

/-- HALLMARK_REQ_P (R437). -/
def hallmarkReqP (p : Nat) (nonce : BitVec 256) (now : Time) (d : Dev) : Dev :=
  let d := d.advance now
  if d.reentering then d.hold (.hallmarkPart p nonce) else d.serveHallmarkPart p nonce

/-! ### The switch (R433 steps 5 and 6) -/

/-- Held requests served in order. -/
def Dev.serveHeld (d : Dev) : Dev :=
  d.sec.held.foldl (fun (d : Dev) r => match r with
    | .hallmark n => d.serveHallmark n
    | .hallmarkPart p n => d.serveHallmarkPart p n
    | r => d.serveReq r) { d with sec := { d.sec with held := [] } }

/-- Slots whose assignment a set-up takes away (R429). -/
def Dev.releasedSlots (d : Dev) (s : Setup) : List Nat :=
  (d.sec.slots.filter (fun k => k.2.key ≠ 0 && (match s.slotOwner k.1 with | some p => decide (p.pkey.toNat ≠ k.2.key) | none => true))).map (·.1)

/-- PROTECT_SWITCH (R433): at T, or at once, the new set-up is in force in one step; translations are invalidated, port key tables
installed, released slots crypto-erased, consent of every changed partition ended, held requests served. -/
def protectSwitch (now : Time) (d : Dev) : Dev :=
  let d := d.advance now
  match d.sec.reentry with
  | none => d
  | some r =>
    if r.at' ≠ 0 && !timeLe r.at' d.time then d
    else
      let s := r.setup
      let released := d.releasedSlots s
      let gone := d.parts.keys.filter (fun i => match s.parts.find? (·.index = i) with | some p => p.pkey ≠ (d.part i).key | none => true)
      let d := gone.foldl Dev.releasePart d
      let d := s.parts.foldl Dev.installPart d
      let d := { d with
        sec := { d.sec with setup := s, reentry := none, tableDigest := Config.sha384 s.bytes }
        cores := d.cores.mapv (fun _ (k : Core) => { k with tcache := [], pcache := [] })
        ports := (List.range 32).foldl (fun (ps : KMap Port) i => ps.upd {} i (fun (p : Port) => { p with keyTable := s.ports.get [] i })) d.ports }
      let d := s.parts.foldl (fun (d : Dev) p => if r.changed.contains p.index then Dev.prune p.index 4 p.root d else d) d
      let d := released.foldl Dev.cryptoErase d
      let d := { d with sec := { d.sec with slots := (List.range 1024).foldl (fun (m : KMap KeySlot) i => match s.slotOwner i with
        | some p => m.upd {} i (fun (k : KeySlot) => { k with key := p.pkey.toNat })
        | none => if (m.find? i).isSome then m.upd {} i (fun (k : KeySlot) => { k with key := 0 }) else m) d.sec.slots } }
      let d := (s.parts.filter (fun p => r.changed.contains p.index)).foldl (fun (d : Dev) p => (d.revoke p.index).newNonce p.index) d
      d.serveHeld

/-- PROTECT_ABORTED (R433): a fault stops the security pair before the switch; the old set-up stays in force, the staged image is
discarded, and 0x0716 is raised. -/
def Dev.protectAbort (d : Dev) : Dev :=
  if d.reentering then
    (({ d with sec := { d.sec with reentry := none, staged := none, lastCause := 0x0716 } }).notice 0x0716 0 0 0).serveHeld
  else d

/-! ### Consent (R435, R436) -/

/-- Whether a consent token holds (R435, R436). -/
def Dev.tokenOk (d : Dev) (p : Nat) (t : List Byte) : Bool :=
  let q := d.part p
  let f (o n : Nat) : Nat := leNat ((t.drop o).take n)
  t.length = 160 && q.debugAllowed && Config.verifySig q.tenantKey (leBytes 48 (Config.sha384 (t.take 0x40)).toNat) (t.drop 0x40)
    && f 0 4 = 0x544E5343 && f 4 2 = 1 && f 6 2 = q.key.toNat && f 0x38 8 = d.boot.serial.toNat && f 0x18 32 = q.consent.nonce.toNat
    && f 8 4 < 8 && f 0xC 4 = 0 && timeAhead d.time (BitVec.ofNat 64 (f 0x10 8)) 1

/-- CONSENT_TOKEN (R436): consent set or revoked, or 0x0730; a new nonce is drawn whatever the outcome. -/
def consentToken (p : Nat) (t : List Byte) (now : Time) (d : Dev) : Dev :=
  let d := d.advance now
  if d.tokenOk p t then
    let scope := leNat ((t.drop 8).take 4)
    let d := if scope = 0 then d.revoke p
      else d.modPart p (fun q => { q with consent := { q.consent with
        set := true, scope := BitVec.ofNat 3 scope, digest := Config.sha384 t, notAfter := BitVec.ofNat 64 (leNat ((t.drop 0x10).take 8)) } })
    (d.newNonce p).reply 0 0 0
  else (d.newNonce p).reply 0x0730 0 0

/-- CONSENT_EXPIRED (R436): NOT_AFTER is reached. -/
def consentExpired (p : Nat) (now : Time) (d : Dev) : Dev :=
  let d := d.advance now
  let c := (d.part p).consent
  if c.set && timeLe c.notAfter d.time then
    (d.revoke p).notify { code := 0x0731, part := some p, rig := moduleRig d.id }
  else d

/-! ### Signets (R439, R440) -/

/-- FEATURE of a signet that verifies, by its signature, MAGIC, VERSION and FEATURE (R440). -/
def Dev.signetFeature (d : Dev) (b : List Byte) : Option Nat :=
  let f (o n : Nat) : Nat := leNat ((b.drop o).take n)
  if b.length = 128 && f 0 4 = 0x544E4753 && f 4 2 = 1 && 1 ≤ f 6 2 && f 6 2 ≤ 4
      && Config.verifySig d.sec.vendorKey (leBytes 48 (Config.sha384 (b.take 0x20)).toNat) (b.drop 0x20) then some (f 6 2) else none

/-- SIGNET_INSTALL (R440). -/
def signetInstall (b : List Byte) (now : Time) (d : Dev) : Dev :=
  let d := d.advance now
  match d.signetFeature b with
  | none => d.reply 0x0720 0 0
  | some f =>
    if leNat ((b.drop 8).take 8) ≠ d.boot.serial.toNat then d.reply 0x0721 0 0
    else if bit d.signetMask (f - 1) then d.reply 0 0 0
    else if 16 ≤ d.signetStore.length then d.reply 0x0722 0 0
    else ({ d with signetMask := d.signetMask ||| BitVec.ofNat 32 (2 ^ (f - 1)), sec := { d.sec with signets := d.sec.signets ++ [b] } }).reply 0 0 0

/-- The stored signets verified again at power-on (R440): one that fails is ignored and reported with its store index. -/
def Dev.checkSignets (d : Dev) : Dev :=
  let base := if d.full then 4 else 0
  let d := { d with signetMask := if d.full then 0xF else 0 }
  (List.range d.sec.signets.length).foldl (fun (d : Dev) i => match d.signetFeature (d.sec.signets.getD i []) with
    | some f => { d with signetMask := d.signetMask ||| BitVec.ofNat 32 (2 ^ (f - 1)) }
    | none => d.notice 0x0720 0 (base + i) 0) d

end Sys2Proof.Machine
end

