-- ==== Sys2Proof/Machine/VectorUnit.lean ====
section
/-!
DEFINITION. The vector engine over the device (06 R157 to R186): one output bead at a time of a vector run, a compress or an
expand; index maps and their check; poison; the arrival limit.
-/
namespace Sys2Proof.Machine

/-- What the next step of a vector instruction is: nothing yet, the reading of its map's header, its end with a cause and TCSX, or one
output bead that draws on beads of these tensors. -/
inductive VNext where
  | wait
  | header
  | stop (cause : Cause) (tcsx : Word) (f : Option Finding)
  | bead (b : Nat) (draws : List (Desc × List Nat))
  deriving DecidableEq, Repr

/-- A region's first byte for a bead, and its bytes there (R169, R177, R178). -/
structure Region where
  va : Nat := 0
  len : Nat := 0

/-- A vector instruction ends; RESULT is VX_RECORD (R174, R197). -/
def Dev.vEnd (d : Dev) (c : Nat) (e : TiqEntry) (cause : Cause) (tcsx : Word) : Dev :=
  d.finish c e.id (e.reads.completion cause tcsx (vxRecord e.special e.reads.poison))

/-- An entry's progress by one bead. -/
def Dev.vFormed (d : Dev) (c id : Nat) (reads : Reads) (special : Option (Nat × Ext × Bool)) : Dev :=
  d.modCore c (fun k => k.modEntry id (fun e => { e with
      beads := e.beads + 1, staged := none, reads := reads, progress := d.time
      special := match e.special with | some v => some v | none => special }))

/-- Poison of a region's bytes seen as a read (R173). -/
def Dev.seeRegion (d : Dev) (who : Accessor) (r : Reads) (g : Region) : Reads :=
  if g.len ≠ 0 && d.poisonVa who g.va g.len then
    r.join { poison := true, va := d.firstPoison who g.va g.len }
  else r

/-- Part of the lanes that run at a core's level: all, a half or a quarter (R400). -/
def CorePower.laneDiv (p : CorePower) : Nat := if p.boost then 1 else match p.reef with | 4 | 5 => 2 | 6 | 7 => 4 | _ => 1

/-! ### Index maps -/

/-- COUNT and BEADS of a map's header (R178). -/
def Dev.mapHeader (d : Dev) (who : Accessor) (va : Nat) : Nat × Nat :=
  let bs := d.readVa who va 8
  (leNat (bs.take 4), leNat (bs.drop 4))

/-- The entries of a map (R178). -/
def Dev.mapEntries (d : Dev) (who : Accessor) (va n : Nat) : List MapEntry :=
  (List.range n).map (fun b =>
    let bs := d.readVa who (va + 0x40 + 320 * b) 260
    { mask := leNat (bs.take 256), before := leNat (bs.drop 256) })

/-- The padding positions of a bead as mask bits. -/
def padMask (x : Desc) (b : Nat) : Nat :=
  (List.range 2048).foldl (fun m i => if (x.coord b i).isNone then m + 2 ^ i else m) 0

/-- The entries before the first failing one, and whether the map fails its check (R181). -/
def mapCheck (pad : Nat → Nat) (es : List MapEntry) (count : Nat) : List MapEntry × Bool :=
  match mapFirstBad pad 0 0 es with
  | some b => (es.take b, true)
  | none => (es, decide (mapActive es ≠ count))

/-! ### Vector runs -/

/-- A vector run's operands as latched. -/
structure VRun where
  ctl : VCtl := {}
  ch : BitVec 1024 := 0
  s0 : Desc := {}
  d : Desc := {}

/-- The element space's descriptor (R159). -/
def VRun.space (u : VRun) : Desc := if u.ctl.dOff then u.s0 else u.d

/-- Base of M. -/
def VRun.mBase (u : VRun) (e : TiqEntry) : Nat := (e.desc u.ctl.m).base

/-- COUNT of the map in force under LEN_FROM_MAP, as the run read it at its start (R182). -/
def TiqEntry.mapCount (e : TiqEntry) : Nat := (e.hdr.getD (0, 0)).1

/-- Beads of the element space: of the map's COUNT under LEN_FROM_MAP (R159, R182). A PLAIN tensor has none, so a run over one forms
no bead (DESIGN CHOICE, log entry 107). -/
def VRun.beads (u : VRun) (e : TiqEntry) : Nat :=
  if vLenFromMap u.ch then ceilDiv e.mapCount 2048 else u.space.beads

/-- Whether a position is padding (R159, R182). -/
def VRun.pad (u : VRun) (count b i : Nat) : Bool :=
  (vLenFromMap u.ch && decide (count ≤ 2048 * b + i)) || (u.space.coord b i).isNone

/-- Beads of a source that bead `b` draws on: its own, or those of a repeating source (R159). -/
def sourceBeads (x : Desc) (rep : Bool) (b : Nat) : List Nat :=
  if rep then ((List.range 2048).map (fun i => (2048 * b + i) % x.elems / 2048)).eraseDups else [b]

/-- The tensor sources that bead `b` draws on: S0, then S1 and S2 where a stage reads them as tensors (R157). -/
def VRun.draws (u : VRun) (e : TiqEntry) (b : Nat) : List (Desc × List Nat) :=
  let src (on rep : Bool) (n reg : Nat) : List (Desc × List Nat) :=
    if on && vReads u.ch n then [(e.desc reg, sourceBeads (e.desc reg) rep b)] else [({}, [])]
  [(u.s0, [b])] ++ src u.ctl.s1On u.ctl.s1Rep 1 u.ctl.s1 ++ src u.ctl.s2On u.ctl.s2Rep 2 u.ctl.s2

/-- What a LEN_FROM_MAP run finds, its header read, before it writes anything (R182, R183): the map's whole extent passes steps 5 to 7 of
R215, then its entries are checked. -/
def Dev.vMapStart (d : Dev) (c : Nat) (e : TiqEntry) (u : VRun) (h : Nat × Nat) : Option Finding :=
  let n := ceilDiv h.1 2048
  let short (x : Desc) : Bool := decide (x.beads < n)
  if h.1 = 0 then some {}
  else if short u.s0 || (!u.ctl.dOff && short u.d) || (u.ctl.s1On && vTensor u.ch 1 && short (e.desc u.ctl.s1))
    || (u.ctl.s2On && vTensor u.ch 2 && short (e.desc u.ctl.s2)) then some { cause := 0x0323 }
  else (d.placeCheck c false [regionRef (e.desc u.ctl.m) (64 + 320 * h.2) { r := true }]).orElse (fun _ =>
    refuse 0x0324 (mapCheck (fun _ => 0) (d.mapEntries (d.who c) (u.mBase e) h.2) h.1).2)

/-- The next step of a vector run. -/
def Dev.vrunNext (d : Dev) (c : Nat) (e : TiqEntry) (u : VRun) : VNext :=
  let go : VNext := if u.beads e ≤ e.beads then .stop 0 0 none else .bead e.beads (u.draws e e.beads)
  if !vLenFromMap u.ch then go
  else match e.hdr with
    | none => .header
    | some h =>
      if e.beads ≠ 0 || e.staged.isSome then go
      else if !d.mayRead c e then .wait
      else match d.vMapStart c e u h with
        | some f => .stop f.cause (if f.xlate then f.va else 0) (some f)
        | none => go

/-- Regions that bead `b` of a run reads: the scale operands, the mask, the map (R169, R173, R177). -/
def VRun.regions (u : VRun) (e : TiqEntry) (b : Nat) : List Region :=
  (if u.ctl.s1On && vScaleRegion u.ch 1 then [{ va := (e.desc u.ctl.s1).base + 64 * b, len := 64 }] else [])
    ++ (if u.ctl.s2On && vScaleRegion u.ch 2 then [{ va := (e.desc u.ctl.s2).base + 64 * b, len := 64 }] else [])
    ++ (if vMaskIn u.ch then [{ va := u.mBase e + 256 * b, len := 256 }] else [])
    ++ (if vLenFromMap u.ch then [{ va := u.mBase e, len := 64 + 320 * (e.hdr.getD (0, 0)).2 }] else [])

/-- Engine cycles of one bead (R185). -/
def Dev.vrunCycles (d : Dev) (c : Nat) (u : VRun) (e : TiqEntry) : Nat :=
  let w (x : Desc) : Nat := 4 * x.fmt.width + b2n x.mx
  let src (on : Bool) (n reg : Nat) : Nat :=
    if !on then 0 else (if vReads u.ch n then w (e.desc reg) else 0) + b2n (vScaleRegion u.ch n)
  let ef := (vStages u.ch).any (fun s => s.op = 0x20 && s.ef)
  let rb := w u.s0 + src u.ctl.s1On 1 u.ctl.s1 + src u.ctl.s2On 2 u.ctl.s2 + 4 * b2n (vMaskIn u.ch)
  let wb := (if u.ctl.dOff then 0 else w u.d) + (if ef then 128 else 0) + 4 * b2n (vMaskOut u.ch)
  let rs := (if (vStages u.ch).all (fun s => s.op = 0x20) then 256 else 128) / (d.power.cores.get {} c).laneDiv
  ceilDiv 2048 (max 1 (vxRate rs rb wb))

/-- Element of a source that element `i` of bead `b` reads (R159). -/
def sourceElem (x : Desc) (rep : Bool) (b i : Nat) : Nat := if rep then (2048 * b + i) % x.elems else 2048 * b + i

/-- What bead `b` of a run reads (R169, R173): its tensors' beads, its scale bytes and mask bits, and what those reads met. -/
def Dev.vrunGather (d : Dev) (c : Nat) (e : TiqEntry) (u : VRun) (b : Nat) (draws : List (Desc × List Nat)) : Dev × Except Cause Staging :=
  let who := d.who c
  let r := d.readAll who draws
  (r.1, match r.2 with
    | .error cause => .error cause
    | .ok ms =>
      let d := r.1
      let need (x : Desc) (rep : Bool) (k i' : Nat) : Bool := (List.range 2048).any (fun i =>
        sourceElem x rep b i = 2048 * k + i' && !u.pad e.mapCount b i)
      let see (r : Reads) (n : Nat) (x : Desc) (rep : Bool) : Reads :=
        (ms.getD n []).foldl (fun r p => r.seeOf x (fun i => need x rep p.1 i) p.2) r
      let reads := see (see (see {} 0 u.s0 false) 1 (e.desc u.ctl.s1) u.ctl.s1Rep) 2 (e.desc u.ctl.s2) u.ctl.s2Rep
      let bytes (on : Bool) (va n : Nat) : List Byte := if on then d.readVa who va n else []
      .ok { beads := ms, reads := (u.regions e b).foldl (d.seeRegion who) reads
            scale1 := (bytes (vScaleRegion u.ch 1) ((e.desc u.ctl.s1).base + 64 * b) 64).map (·.toNat)
            scale2 := (bytes (vScaleRegion u.ch 2) ((e.desc u.ctl.s2).base + 64 * b) 64).map (·.toNat)
            mask := leNat (bytes (vMaskIn u.ch) (u.mBase e + 256 * b) 256) })

/-- Bead `b` of a run through its chain (R167 to R170), from what it has read. -/
def VRun.form (u : VRun) (e : TiqEntry) (b : Nat) (g : Staging) : VBead × VecOps :=
  let pad := u.pad e.mapCount b
  let src (rep : Bool) (reg n i : Nat) : Ext :=
    if pad i then Ext.zero else linearValue (e.desc reg) (g.beads.getD n []) (sourceElem (e.desc reg) rep b i)
  let o : VecOps :=
    { s1 := src u.ctl.s1Rep u.ctl.s1 1, s2 := src u.ctl.s2Rep u.ctl.s2 2
      scaleByte := fun n k => (if n = 1 then g.scale1 else g.scale2).getD k 0, freg := fun i => e.f.get 0 i
      seed := chainSeed u.ch, tag := u.space.tag, bead := b }
  let m0 := g.beads.headD []
  let canon := vCanon u.s0.fmt u.s0.mx pad ((List.range 2048).map (beadCode u.s0 m0 b)) (m0.get {} b).scales
  let es := canon.1.zipIdx.map (fun (code, i) =>
    let x := if pad i then Ext.zero else linearValue u.s0 m0 (2048 * b + i)
    { x := x, code := code, k := !vMaskIn u.ch || g.mask.testBit i, pad := pad i, first := if x.special then some x else none : VElem })
  (vChainBead u.ch o { es := es, fmt := u.s0.fmt, mx := u.s0.mx, scales := canon.2 }, o)

/-- The bead and the mask bits written (R171, R173): a poisoned bead as zeros with every line poisoned. -/
def Dev.vrunWrite (d : Dev) (c : Nat) (e : TiqEntry) (u : VRun) (b : Nat) (v : VBead × VecOps) (poison : Bool) :
    Dev × Option (Nat × Ext × Bool) × Cause :=
  let who := d.who c
  let resReg (n : Nat) : Option Nat := if vResidual u.ch n then some (if n = 1 then u.ctl.s1 else u.ctl.s2) else none
  let putRes (d : Dev) (n : Nat) (r : Option (List Nat)) : Dev :=
    match resReg n with
    | none => d
    | some reg =>
      let x := e.desc reg
      if poison then (d.pieces who 3 (x.base + b * x.bstride) x.bstride).foldl (fun d p => d.poison p.1 p.2) d
      else match r with
        | some codes => (d.mergePut who x b (fun i => if (x.coord b i).isSome then codes[i]? else some 0) (fun _ => none) false).1
        | none => d
  let mask : List Byte := leBytes 256 (v.1.es.zipIdx.foldl (fun m (el, i) => if el.k && !el.pad then m + 2 ^ i else m) 0)
  let putMask (d : Dev) : Dev :=
    if !vMaskOut u.ch then d
    else if poison then d.writeVa who (u.mBase e + 256 * b) (leBytes 256 0) true true
    else d.writeVa who (u.mBase e + 256 * b) mask true false
  let zeros := List.replicate 2048 0
  let old := d.oldBead who u.d b
  let w := vWriteCodes u.ch v.2 v.1 old.1 old.2.1
  let put := if u.ctl.dOff then (d, 0)
    else if poison then d.putBead who u.d b zeros (List.replicate 64 0) true []
    else if vMerge u.ch && !u.d.mx then
      d.putBead who u.d b w.1 w.2 false (keptPoison u.d.fmt false (fun i => match v.1.es[i]? with
        | some el => el.pad || !el.k
        | none => true) old.2.2)
    else if vMerge u.ch then
      d.putBead who u.d b w.1 w.2 false (keptPoison u.d.fmt true (fun i => match v.1.es[i]? with
        | some el => el.pad || !el.k
        | none => true) old.2.2)
    else d.putBead who u.d b w.1 w.2 false []
  let special := if poison || u.ctl.dOff then none
    else (vFirstSpecial u.ch v.1 w.1 w.2).map (fun (i, x, r) => (2048 * b + i, x, r))
  (putMask (putRes (putRes put.1 1 v.1.res1) 2 v.1.res2), special, put.2)

/-- One bead of a vector run formed and written (R183). A destination bead that meets 0x0311 or 0x0315 at an armed position ends the
run at once (DESIGN CHOICE, log entry 108). -/
def Dev.vrunBead (d : Dev) (c : Nat) (e : TiqEntry) (u : VRun) (b : Nat) (g : Staging) : Dev :=
  let w := d.vrunWrite c e u b (u.form e b g) g.reads.poison
  let reads := e.reads.join g.reads
  let d := w.1.vFormed c e.id reads w.2.1
  if w.2.2 ≠ 0 then d.vEnd c { e with reads := reads, special := e.special.or w.2.1 } w.2.2 0 else d

/-! ### Compress and expand -/

/-- A compress or an expand as latched (R179, R180). -/
structure VPack where
  expand : Bool := false
  /-- REUSE of a compress, KEEP of an expand -/
  alt : Bool := false
  s : Desc := {}
  x : Desc := {}
  map : Nat := 0
  mask : Nat := 0
  fill : BitVec 32 := 0

/-- The bead count of the tensor that a pack's map describes: S of a compress, X of an expand. -/
def VPack.covered (u : VPack) : Desc := if u.expand then u.x else u.s

/-- The entries of the map in force that pass their check, and whether one fails or the total does (R179 to R181); COUNT, where the map
is an existing one, as the header gave it. -/
def Dev.packMap (d : Dev) (c : Nat) (e : TiqEntry) (u : VPack) : List MapEntry × Bool × Nat :=
  let who := d.who c
  let pad := padMask u.covered
  if !u.expand && !u.alt then
    let es := mapBuild 0 ((List.range u.s.beads).map (fun b =>
      let m := leNat (d.readVa who (u.mask + 256 * b) 256)
      m - (m &&& pad b)))
    (es, false, mapActive es)
  else
    let h := e.hdr.getD (0, 0)
    let r := mapCheck pad (d.mapEntries who u.map h.2) h.1
    (r.1, r.2, h.1)

/-- Output beads that the entries determine (R179 to R181). -/
def VPack.total (u : VPack) (es : List MapEntry) (bad : Bool) (entries : Nat) : Nat :=
  if u.expand then es.length
  else if bad && es.length < entries then mapActive es / 2048 else ceilDiv (mapActive es) 2048

/-- The dense element that position `i` of an expand's bead takes, where it is one that is read (R180): active, with a rank below COUNT.
An active position of a higher rank, in a map whose total is found wrong only at its end, stays as a position that is not active
(DESIGN CHOICE, log entry 109). -/
def VPack.rank (count : Nat) (m : MapEntry) (i : Nat) : Option Nat :=
  let r := m.before + popCount m.mask i
  if m.mask.testBit i && r < count then some r else none

/-- Whether an active position of entry `m` goes to output bead `b` of a compress. -/
def MapEntry.feeds (m : MapEntry) (b i : Nat) : Bool := m.mask.testBit i && (m.before + popCount m.mask i) / 2048 = b

/-- Source beads that output bead `b` draws on, with the last map entry that it takes (R179, R180). -/
def VPack.draws (u : VPack) (es : List MapEntry) (count b : Nat) : List Nat × Nat :=
  if u.expand then
    match es[b]? with
    | some m => (((List.range m.active).map (m.before + ·)).filter (fun r => r < count && r < u.s.elems) |>.map (· / 2048) |>.eraseDups, b)
    | none => ([], b)
  else
    let bs := (List.range es.length).filter (fun k => match es[k]? with
      | some m => m.active ≠ 0 && m.before < 2048 * (b + 1) && 2048 * b < m.before + m.active
      | none => false)
    (bs, bs.getLast?.getD 0)

/-- The next step of a compress or an expand. -/
def Dev.packNext (d : Dev) (c : Nat) (e : TiqEntry) (u : VPack) : VNext :=
  let n := u.covered.beads
  let build := !u.expand && !u.alt
  match (if build then some (0, n) else e.hdr) with
  | none => .header
  | some h =>
    if h.2 ≠ n then .stop 0x0324 0 none
    else
      let m := d.packMap c e u
      let total := u.total m.1 m.2.1 n
      if e.beads < total then .bead e.beads [(u.s, (u.draws m.1 m.2.2 e.beads).1)]
      else if m.2.1 then .stop 0x0324 (BitVec.ofNat 64 total) none
      else .stop 0 (if u.expand then 0 else BitVec.ofNat 64 m.2.2) none

/-- Poison of what tells output bead `b` its elements: the map's header and entry, or the masks before it (R173). -/
def VPack.regions (u : VPack) (b last : Nat) : List Region :=
  if u.expand then [{ va := u.map, len := 64 }, { va := u.map + 0x40 + 320 * b, len := 320 }]
  else if u.alt then [{ va := u.map, len := 64 + 320 * (last + 1) }]
  else [{ va := u.mask, len := 256 * (last + 1) }]

/-- What output bead `b` of a compress or an expand reads (R173, R179, R180). -/
def Dev.packGather (d : Dev) (c : Nat) (e : TiqEntry) (u : VPack) (b : Nat) (draws : List (Desc × List Nat)) : Dev × Except Cause Staging :=
  let who := d.who c
  let m := d.packMap c e u
  let r := d.readAll who draws
  (r.1, match r.2 with
    | .error cause => .error cause
    | .ok ms =>
      let need (k i : Nat) : Bool :=
        if u.expand then (List.range 2048).any (fun j => VPack.rank m.2.2 (m.1.getD b {}) j = some (2048 * k + i))
        else (m.1.getD k {}).feeds b i
      let reads := (ms.headD []).foldl (fun (r : Reads) p => r.seeOf u.s (need p.1) p.2) {}
      .ok { beads := ms, entries := m.1, reads := (u.regions b (u.draws m.1 m.2.2 b).2).foldl (r.1.seeRegion who) reads })

/-- One output bead of a compress or an expand (R179, R180, R173). A dense element beyond the source's own is padding, which reads as
zero (R159). -/
def Dev.packBead (d : Dev) (c : Nat) (e : TiqEntry) (u : VPack) (b : Nat) (g : Staging) : Dev :=
  let who := d.who c
  let ms := g.beads.headD []
  let code (r : Nat) : Nat := if r < u.s.elems then beadCode u.s ms (r / 2048) (r % 2048) else 0
  let fillCode := u.x.fmt.convert .rne true (ofF32 u.fill)
  let old := d.oldBead who u.x b
  let w : Dev × Cause :=
    if g.reads.poison then d.putBead who u.x b (List.replicate 2048 0) (List.replicate 64 0) true []
    else if u.expand then
      let en := g.entries.getD b {}
      let other (i : Nat) : Nat := if u.alt then old.1.getD i 0 else if (u.x.coord b i).isNone then 0 else fillCode
      let dense := VPack.rank (e.hdr.getD (0, 0)).1 en
      let codes := (List.range 2048).map (fun i => ((dense i).map code).getD (other i))
      d.putBead who u.x b codes [] false (if u.alt then keptPoison u.x.fmt false (fun i => (dense i).isNone) old.2.2 else [])
    else
      let codes := g.entries.zipIdx.flatMap (fun (m, k) => if m.active = 0 || m.before + m.active ≤ 2048 * b || 2048 * (b + 1) ≤ m.before then []
        else (List.range 2048).filterMap (fun i => if m.feeds b i then some (beadCode u.s ms k i) else none))
      d.putBead who u.x b (codes ++ List.replicate (2048 - codes.length) 0) [] false []
  let reads := e.reads.join g.reads
  let d := w.1.vFormed c e.id reads none
  if w.2 ≠ 0 then d.vEnd c { e with reads := reads } w.2 0 else d

/-- Engine cycles of `n` beads of positions that a pack takes (R185): 256 positions per cycle within the port limits. -/
def Dev.packCycles (d : Dev) (c : Nat) (u : VPack) (n : Nat) : Nat :=
  let map := if u.expand || u.alt then 5 else 4
  ceilDiv (2048 * n) (max 1 (vxRate (256 / (d.power.cores.get {} c).laneDiv) (4 * u.s.fmt.width + map) (4 * u.x.fmt.width)))

/-- BUILD's index map written (R179): where a mask line is poisoned its header and its entries from the first poisoned mask on are
poisoned, of which the manual says nothing (DESIGN CHOICE, log entry 110). -/
def Dev.putMap (d : Dev) (c : Nat) (e : TiqEntry) (u : VPack) : Dev :=
  let who := d.who c
  let es := (d.packMap c e u).1
  let bs := mapBytes es
  let d' := d.writeVa who u.map bs true false
  match (List.range es.length).find? (fun b => d.poisonVa who (u.mask + 256 * b) 256) with
  | none => d'
  | some b =>
    ((d'.pieces who (bs.length / 65536 + 2) (u.map + 0x40 + 320 * b) (320 * (es.length - b))).foldl (fun d p => d.poison p.1 p.2)
      (d'.poison (d.mpa who u.map) 64))

/-! ### Steps -/

/-- The operands of a vector instruction. -/
inductive VOp where
  | run (u : VRun)
  | pack (u : VPack)

/-- The vector instruction of an entry. -/
def TiqEntry.vop? (e : TiqEntry) : Option VOp :=
  let ctl := VCtl.ofWord e.rs1v
  match e.instr with
  | some (.vrun _ _ tds0 tdd) => some (.run { ctl := ctl, ch := e.chain, s0 := e.desc tds0, d := e.desc tdd })
  | some (.compress _ tds tdd) => some (.pack
      { alt := ctl.s1Rep, s := e.desc tds, x := e.desc tdd, map := (e.desc ctl.s2).base, mask := (e.desc ctl.m).base })
  | some (.expand _ tds tdd) => some (.pack
      { expand := true, alt := ctl.s1Rep, s := e.desc tds, x := e.desc tdd, map := (e.desc ctl.s2).base, fill := e.f.get 0 ctl.freg })
  | _ => none

/-- First byte of the index map that an instruction reads. -/
def VOp.mapBase (e : TiqEntry) : VOp → Nat
  | .run u => u.mBase e
  | .pack u => u.map

/-- The next step of an entry. -/
def Dev.vNext (d : Dev) (c : Nat) (e : TiqEntry) : VOp → VNext
  | .run u => d.vrunNext c e u
  | .pack u => d.packNext c e u

/-- Whether the next output bead may be formed (R160, R183): its extents are free and every bead it draws on has landed. One held in staging
waits for its destination alone. -/
def Dev.vReady (d : Dev) (c : Nat) (e : TiqEntry) (draws : List (Desc × List Nat)) : Bool :=
  (!e.committed || d.mayWrite c e)
    && (e.staged.isSome || (d.mayRead c e && draws.all (fun p => p.2.all (d.beadReady (d.who c) p.1))))

/-- What the next output bead reads. -/
def Dev.vGather (d : Dev) (c : Nat) (e : TiqEntry) (o : VOp) (b : Nat) (draws : List (Desc × List Nat)) : Dev × Except Cause Staging :=
  match o with
  | .run u => d.vrunGather c e u b draws
  | .pack u => d.packGather c e u b draws

/-- Engine cycles of the next output bead; a compress counts its cycles at its end, by the positions it has taken. -/
def Dev.vCycles (d : Dev) (c : Nat) (e : TiqEntry) : VOp → Nat
  | .run u => d.vrunCycles c u e
  | .pack u => if u.expand then d.packCycles c u 1 else 0

/-- The next output bead: read, or taken from staging, and written; of a tentative instruction it is held in staging (R184, R202). -/
def Dev.vBead (d : Dev) (c : Nat) (e : TiqEntry) (o : VOp) (b : Nat) (draws : List (Desc × List Nat)) : Dev :=
  let r : Dev × Except Cause Staging := match e.staged with
    | some g => (d, .ok g)
    | none => let r := d.vGather c e o b draws
              (r.1.modCore c (fun k => k.spend e.id (d.vCycles c e o)), r.2)
  match r.2 with
  | .error cause => r.1.vEnd c e cause 0
  | .ok g =>
    if !e.committed then r.1.modCore c (fun k => k.modEntry e.id (fun e => { e with staged := some g }))
    else match o with
      | .run u => r.1.vrunBead c e u b g
      | .pack u => r.1.packBead c e u b g

/-- One step of a vector instruction: the reading of its map's header, its next bead where it may be formed, or its end once
committed. -/
def Dev.vStep (d : Dev) (c : Nat) (e : TiqEntry) (o : VOp) : Dev :=
  match d.vNext c e o with
  | .wait => d
  | .header =>
    if d.mayRead c e then d.modCore c (fun k => k.modEntry e.id (fun e => { e with hdr := some (d.mapHeader (d.who c) (o.mapBase e)) })) else d
  | .stop cause tcsx f =>
    if !e.committed || !d.mayRead c e || !d.mayWrite c e then d
    else
      let d := match f with | some f => d.walkNotice (d.who c) f | none => d
      match o with
      | .pack u =>
        let d := if cause = 0 && !u.expand then d.modCore c (fun k => k.spend e.id (d.packCycles c u u.s.beads)) else d
        let d := if cause = 0 && !u.expand && !u.alt then d.putMap c e u else d
        d.vEnd c e cause tcsx
      | .run _ => d.vEnd c e cause tcsx
  | .bead b draws => if !d.vReady c e draws || (!e.committed && e.staged.isSome) then d else d.vBead c e o b draws

/-- Steps of a vector instruction one after another while it goes on. -/
def Dev.vSteps (d : Dev) (c id : Nat) (o : VOp) : Nat → Dev
  | 0 => d
  | n + 1 => match (d.core c).entry? id with
    | some e =>
      if e.done.isSome then d
      else match d.vNext c e o with
        | .bead _ draws => if d.vReady c e draws then (d.vStep c e o).vSteps c id o n else d
        | .header => if d.mayRead c e then (d.vStep c e o).vSteps c id o n else d
        | _ => d.vStep c e o
    | none => d

/-- A bound on the steps of an entry: its map's header, its output beads and its end. -/
def VOp.bound : VOp → Nat
  | .run u => max u.s0.beads u.d.beads + 2
  | .pack u => max u.x.beads u.s.beads + 2

/-- A committed vector instruction that `sel` selects, run as far as its operands allow. -/
def Dev.vectorRun (d : Dev) (c id : Nat) (sel : VOp → Bool) : Dev :=
  let w := d.working c id
  match w.2 with
  | some e => match e.vop? with
    | some o => if sel o then w.1.vSteps c id o o.bound else d
    | none => d
  | none => d

/-- VRUN (R157). -/
def vrun (c id : Nat) (now : Time) (d : Dev) : Dev :=
  (d.advance now).vectorRun c id (fun o => match o with | .run _ => true | _ => false)
/-- COMPRESS_BUILD (R179). -/
def compressBuild (c id : Nat) (now : Time) (d : Dev) : Dev :=
  (d.advance now).vectorRun c id (fun o => match o with | .pack u => !u.expand && !u.alt | _ => false)
/-- COMPRESS_REUSE (R179). -/
def compressReuse (c id : Nat) (now : Time) (d : Dev) : Dev :=
  (d.advance now).vectorRun c id (fun o => match o with | .pack u => !u.expand && u.alt | _ => false)
/-- EXPAND_FILL (R180). -/
def expandFill (c id : Nat) (now : Time) (d : Dev) : Dev :=
  (d.advance now).vectorRun c id (fun o => match o with | .pack u => u.expand && !u.alt | _ => false)
/-- EXPAND_KEEP (R180). -/
def expandKeep (c id : Nat) (now : Time) (d : Dev) : Dev :=
  (d.advance now).vectorRun c id (fun o => match o with | .pack u => u.expand && u.alt | _ => false)

/-- VECTOR_BEAD_FORM (R183, R202, R444): the next output bead of an instruction that the engine has begun, with the errors that its
reads find; a pipeline parity error has it formed again, and the core's 4th within 1 s retires it. -/
def vectorBeadForm (c id : Nat) (parity : Bool) (errs : List EccEvent) (now : Time) (d : Dev) : Dev :=
  let d := (d.advance now).eccHeld c id errs
  match (d.core c).entry? id with
  | some e => match e.vop? with
    | some o =>
      if !e.begun || e.done.isSome then d
      else if parity then
        let h := fourth d.time (d.core c).parityFaults
        let d := d.modCore c (fun k => { k with parityFaults := h.1 }.modEntry id (fun e =>
          { e with reads := { e.reads with retries := e.reads.retries + 1 } }))
        if h.2 then d.retireCore c 0x0833 else d
      else d.vStep c e o
    | none => d
  | none => d

/-- VECTOR_ARRIVAL_STAY_EXPIRE (R183): the next output bead is not ready within ARRIVAL_STAY: 0x0317, the beads written stay,
and the completion reports how many. -/
def vectorArrivalStayExpire (c id : Nat) (now : Time) (d : Dev) : Dev :=
  let d := d.advance now
  match (d.core c).entry? id with
  | some e => match e.vop? with
    | some o => match d.vNext c e o with
      | .bead _ draws =>
        if e.begun && e.done.isNone && d.stayed c e && !draws.all (fun p => p.2.all (d.beadReady (d.who c) p.1)) then
          d.vEnd c e 0x0317 (BitVec.ofNat 64 e.beads)
        else d
      | _ => d
    | none => d
  | none => d

end Sys2Proof.Machine
end

