-- ==== Sys2Proof/Machine/Reset.lean ====
section
/-!
DEFINITION. Reset, failed modules and hangs (18 R468 to R482): the end of a reset and of a die recovery, partition and module resets,
modules declared failed, hang detection; cores spared or lost (17 R455).
-/
namespace Sys2Proof.Machine

/-- The module census is taken (19 R488), and with it the budget floor (15 R403). -/
def Dev.census (d : Dev) : Dev := ({ d with boot := { d.boot with censusCount := d.boot.censusCount + 1 } }).refloor

/-! ### Spares (17 R455) -/

/-- The memories of a core zero-filled with every line poisoned (R455). -/
def Dev.poisonCore (d : Dev) (c : Nat) : Dev :=
  let d := d.clearSram c
  let pz := (d.mem.poison.insertRange (stackBase c / 64) 0x100000).insertRange (scratchBase c / 64) 0x10000
  ({ d with mem := { d.mem with poison := pz } }).modCore c (fun k => { k with sc := { k.sc with ldsPoison := List.range 512 } })

/-- Accumulation groups of the job that the partition of a core runs (R119, R124). -/
def Dev.jobGroups (d : Dev) (c : Nat) : Nat :=
  match d.parts.first? (fun _ p => p.job.isSome && p.rigs.any (fun g => rigHolds g d.id c)) with
  | some (_, p) => (p.job.getD {}).accGroups
  | none => 0

/-- A spare enters service in a retired core's place (R17, R455), its sealed region, of the partition's job, empty (R124, R128). -/
def Dev.spareCore (d : Dev) (c : Nat) : Dev :=
  let d := d.settleAll
  let old := d.physical c
  let new := 64 + c % 64 / 16
  let d := d.modCore c (fun k => { k.cleared with offline := false, finding := 0, retiredPairs := 0, windowOut := 0, accGroups := d.jobGroups c })
  let d := (d.poisonCore c).clearSealed c
  let d := { d with pkg := { d.pkg with physical := d.pkg.physical.set c new, sparesUsed := d.pkg.sparesUsed.insert (spareOf c) } }
  let d := d.modRig c (fun g => { g with state := if g.quiescing then .quiesced else .idle })
  (d.coreNotice c 0x0841 2 none (new + old * 256) 0).refloor.census

/-- No spare is free: the core's rig enters RETIRED and its cluster shrinks (R455). -/
def Dev.loseCore (d : Dev) (c : Nat) : Dev :=
  ((d.modRig c (fun g => { g with state := .retired })).coreNotice c 0x0840 2 none (d.core c).finding.toNat 0).refloor.census

/-- Whether a core is out of service and waits for a spare. -/
def Dev.awaitsSpare (d : Dev) (c : Nat) : Bool := (d.core c).offline && decide ((d.rig c).state = .offline)

/-- A core that waits gets its spare, or is lost. -/
def Dev.spareOrLose (d : Dev) (c : Nat) : Dev :=
  if !d.awaitsSpare c then d else if d.spareFree c then d.spareCore c else d.loseCore c

/-- The running recovery has ended: the waiting one becomes the running one (R461). -/
def Dev.finishRecovery (d : Dev) : Dev := { d with rel := { d.rel with running := d.rel.waiting, waiting := none } }

/-! ### Resets of cores, clusters, dies and partitions (R468 to R473, R475) -/

/-- Rigs of a reset's domain. -/
def Dev.domainRigs (d : Dev) (x : RigReset) : List (BitVec 32) := match x.part with
  | some p => (d.part p).rigs
  | none => [x.rig]

/-- The partitions of this module whose job state in SRAM a clearing reset takes (R389). -/
def Dev.loseStacks (d : Dev) (x : RigReset) : Dev :=
  if x.retain then d
  else { d with parts := d.parts.mapv (fun _ (p : Part) =>
    if (List.range 512).any (fun c => d.domainHolds x c && p.rigs.any (fun g => rigHolds g d.id c)) then { p with jrn := { p.jrn with lost := true } } else p) }

/-- RESET_DONE of a reset (R471 step 6). -/
def Dev.resetDone (d : Dev) (x : RigReset) : Dev :=
  let n : Notice := { code := 0x0901, rig := x.rig, arg0 := if x.retain then 3 else 4, arg1 := x.cause.zeroExtend 64 }
  d.notify (match x.part with | some p => { n with rig := moduleRig d.id, part := some p } | none => n)

/-- Whether a die-level recovery fails (R475): one of its steps does, or the die reaches the hub by no path. -/
def Dev.dieFails (d : Dev) (x : RigReset) : Bool := x.dieTest && (x.fails || !d.reachesHub (bits x.rig 14 12))

/-- Steps 5 and 6 of a reset whose domain has drained (R470, R471, R475). -/
def Dev.endReset (d : Dev) (x : RigReset) : Dev :=
  let d := { d with rst := { d.rst with running := d.rst.running.filter (fun (y : RigReset) => !(y.part = x.part && y.rig = x.rig)) } }
  let mine := d.rel.running.any (fun (r : Recovery) => x.part.isNone && r.started && r.domain = x.rig)
  let d := if d.dieFails x then d.retireDie (bits x.rig 14 12)
    else
      let cores := (List.range 512).filter (d.domainHolds x)
      let d := cores.foldl (Dev.resetCore · x.retain x.pendingQuiesce) d
      let bad := if x.dieTest then x.bist.filter (fun c => d.domainHolds x c && !(d.core c).offline) else []
      let d := bad.foldl (fun (d : Dev) c => d.offlineCore c x.cause) d
      let d := if mine then cores.foldl Dev.spareOrLose d else d
      if x.dieTest then d.census else d
  let groups := ((d.domainRigs x).flatMap d.groupsIn).eraseDups
  let d := groups.foldl (fun (d : Dev) g => d.modRig g (fun g => { g with resetCount := g.resetCount + 1, retained := x.retain })) d
  let d := d.loseStacks x
  let d := match x.part with | some p => d.dropJob p | none => d
  let d := if d.dieFails x then d else d.resetDone x
  let d := if mine then d.finishRecovery else d
  ((List.range x.merged).foldl (fun (d : Dev) _ => d.reply 0 1 0) d).serveHeld

/-- RESET_DRAIN_DONE (R470, R471, R475): the packets of the domain of a rig `r`, or of a partition, have left their windows; its logic is
reset, its SRAM kept or cleared, the monitors reloaded, RESET_COUNT goes up and RESET_DONE is raised; verbs that merged complete and say
so (R40). The module's own reset ends with MODULE_RESET. -/
def resetDrainDone (r : BitVec 32) (part : Option Nat) (now : Time) (d : Dev) : Dev :=
  let d := d.advance now
  match d.rst.running.find? (fun (x : RigReset) => x.part = part && (part.isSome || x.rig = r)) with
  | none => d
  | some x => if !d.drained x || (x.part.isNone && x.rig = moduleRig d.id) then d else d.endReset x

/-- A module reset begins (R474 steps 1 and 2): the announcement goes out over halyard 0, every rig stops, every egress line is put up for
write-back. -/
def Dev.moduleResetStart (d : Dev) (cause : Cause) (groups : List (BitVec 32)) : Dev :=
  let x : RigReset := { rig := moduleRig d.id, groups := groups, cause := cause }
  if d.rst.running.any (fun y => d.resetHolds y x) then d.resetStart x
  else
    let d := (d.resetStart x).emit (.halyard0 1 [d.id.toNat] [])
    let d := (d.mem.egress.map (·.part)).eraseDups.foldl Dev.flushPart d
    { d with rst := { d.rst with lastCause := cause, lastTime := d.time } }

/-- A reset of a rig of this module begun, at any level up to the module's (R468, R469). -/
def Dev.rigResetStart (d : Dev) (r : BitVec 32) (cause : Cause) : Dev :=
  if 3 ≤ rigLevel r then d.moduleResetStart cause (if rigLevel r = 3 then [] else [r]) else d.resetStart { rig := r, cause := cause }

/-- RESET_CLEAR, and every value of RESET_VERB that is no other verb (R39): the reset with SRAM zero-filled at every level. -/
def resetClear (r : BitVec 32) (value : Nat) (now : Time) (d : Dev) : Dev :=
  if value = 1 then quiesce r now d
  else if value = 2 then resume r now d
  else if value = 3 then resetRetain r now d
  else
    let d := d.advance now
    if value ≠ 4 then d.reply 0x0910 0 0
    else match d.rigCheck r with
      | 0 => ((d.verbForward r 4).rigResetStart r 0).reply 0 0 0
      | c => d.reply c 0 0

/-- A partition's reset begun on this module (R471, R480): every rig of it, its egress lines put up for write-back; a journal recovery of
it starts again. -/
def Dev.partResetStart (d : Dev) (p : Nat) (cause : Cause) : Dev :=
  let d := (d.resetStart { rig := moduleRig d.id, part := some p, cause := cause }).flushPart p
  let ph := (d.part p).jrn.phase
  if ph = 1 || ph = 2 then d.journalStart p else d

/-- A partition's reset begun on every module of it. -/
def Dev.partResetAll (d : Dev) (p : Nat) (cause : Cause) : Dev :=
  let d := d.partResetStart p cause
  ((d.part p).modules.filter (· ≠ d.id)).foldl (fun (d : Dev) m => d.mgmt m 0x44 [(d.part p).key.toNat, cause.toNat] []) d

/-- PART_RESET (R471, R481). -/
def partReset (p value : Nat) (now : Time) (d : Dev) : Dev :=
  let d := d.advance now
  if value ≠ 1 then d.reply 0x0163 0 0 else (d.partResetAll p 0).reply 0 0 0

/-! ### Module reset (R474) -/

/-- Whether everything the hub still had to send has left (R471 step 4, R474 step 2). -/
def Dev.hubDrained (d : Dev) : Bool :=
  d.fab.egressWait.isEmpty && d.mem.egress.isEmpty && d.fab.out.all (fun o => o.2.window.isEmpty)

/-- Steps 3 to 5 for the memories: dirty hub lines reach DRAM, SRAM is zero-filled, reader copies are dropped; DRAM with its poison and
sidebands is kept. -/
def Dev.resetMemories (d : Dev) : Dev :=
  let d := d.mem.hub.keys.foldl Dev.hubWriteBack d
  { d with
    mem := { d.mem with
      mem := d.mem.mem.filter (fun c => decide (c.1 < 0x8000000000))
      poison := d.mem.poison.filter (fun l => decide (l * 64 < 0x8000000000))
      side := d.mem.side.keep (fun b _ => decide (b * 512 < 0x8000000000)), selfRefresh := false }
    coh := { d.coh with copies := [], evicted := [], snooped := [], waits := [] } }

/-- A core after a module reset: cleared, no job, no debug mode, its window laid out afresh at the next load; counters are kept. -/
def Core.rebooted (k : Core) : Core :=
  { k.cleared with accGroups := 0, dbg := false, sc := { k.cleared.sc with cycle := 0, instret := 0 } }

/-- Power state after a module reset: floors and sensors' failures begin anew (R415); measurements and settings stay. -/
def PowerState.rebooted (p : PowerState) : PowerState :=
  { p with cores := [], clusters := [], wakes := [], overSince := none, lowSince := none, highSince := none, raisedAt := none, peakAt := none
           enforcement := 0, undervolt := false, inputFailed := false, coolantFailed := false, valveFaulty := false, valveOffSince := none
           sensors := p.sensors.mapv (fun _ (s : Sensor) => { s with failed := false }) }

/-- A port after a module reset: full training from DETECT (R474 step 9); its key table and its counts of events stay. -/
def Port.rebooted (p : Port) : Port :=
  { keyTable := p.keyTable, replays := p.replays, framesLost := p.framesLost, exhausted := p.exhausted, lockLosses := p.lockLosses
    tagFailures := p.tagFailures }

/-- Pair order, switches and halyards after a module reset (R363, R470); counters and the default routes stay. -/
def FabricState.rebooted (f : FabricState) : FabricState :=
  { lostRx := f.lostRx, lostTx := f.lostTx, reorderFull := f.reorderFull, reorderMax := f.reorderMax, ports := f.ports
    ingressKeyDrops := f.ingressKeyDrops, ingressKeyNoted := f.ingressKeyNoted, ingressExpired := f.ingressExpired }

/-- Partitions after a module reset (R470): the job is unloaded, stack banks are lost to the journal, consent is set aside. -/
def Dev.resetPart (d : Dev) (p : Nat) : Dev :=
  let d := d.dropJob p
  (d.modPart p (fun q => { q with
    jrn := { q.jrn with lost := true, mine := none, phase := 0, reports := [], replays := [] }
    hang := { q.hang with closed := false, blocked := 0, lastRound := none, declared := false }
    consent := { q.consent with set := false, scope := 0, digest := 0, notAfter := 0 } })).newNonce p

/-- Entries in flight complete with 0x0930 after restart (R470, R474 step 11), and free identifiers begin a fresh quarantine (R304): those forwarded to other modules keep running there. -/
def Dev.resetQueues (d : Dev) : Dev :=
  { d with fe := { d.fe with
    forwarded := []
    qIds := d.fe.qIds.requarantine 4096 d.time
    sIds := d.fe.sIds.requarantine 262144 d.time
    semIds := d.fe.semIds.requarantine 1048576 d.time
    queues := d.fe.queues.mapv (fun _ (q : Queue) => { q with
      flight := q.flight.map (fun (f : FlightEntry) => if f.member.isNone && f.ended.isNone then { f with ended := some { cause := 0x0930 }, running := false } else f) }) } }

/-- The management pairs, recoveries and test packs after a module reset. -/
def Reliability.rebooted (r : Reliability) : Reliability :=
  let back (p : Pair) : Pair := { p with inService := !p.retired, unchecked := false, restarting := false, rotate := 0 }
  { r with
    security := back r.security, system := back r.system
    secRole := !r.security.retired, sysRole := r.system.retired, running := none, waiting := none, testing := [], transients := [] }

/-- The ID that a module starts with (19 R489): a configured one of 0 to 16,383, else none. -/
def BringUp.startId (b : BringUp) : BitVec 16 := if b.moduleIdCfg.toNat < 16384 then b.moduleIdCfg else 0xFFFF

/-- The boot stages run (19 R484, R485): an image of the active bank that fails is recorded and the other bank's is tried; without a B1 or a
B2 the module enters ROM recovery. -/
def Dev.bootStages (d : Dev) : Dev :=
  let b := d.boot
  let active := if b.activeB then b.bankB else b.bankA
  let bad := [1, 2, 3].any (fun s => !b.imageOk s (active.get {} s))
  let rom := (b.stageImage 1).isNone || (b.stageImage 2).isNone
  { d with boot := { b with fwCause := if bad then 0x0740 else b.fwCause, romRecovery := rom, phase := if rom then 4 else 3 } }

/-- The configuration in force takes effect where the state keeps what it says in another form (11 R302, R370). -/
def Dev.applyConfig (d : Dev) : Dev :=
  ({ d with fe := { d.fe with
      window := d.cfgNat 0x0410 1 1000 * 1000, tUrgent := d.cfgNat 0x0410 2 2000 * 1000, tStay := d.cfgNat 0x0410 3 50000 * 1000 } }).refloor.applyHalyards

/-- Bring-up state as a module reset leaves it (19 R486, R489): the bank chosen for the next boot is in use, the census begins again. -/
def BringUp.rebooted (b : BringUp) : BringUp :=
  { b with activeB := b.nextB, moduleId := b.startId, censusState := if b.startId = 0xFFFF then 0 else 1
           systemModules := 0, children := [], childPorts := [], parentPort := none, parentMatch := false, claimAcked := false
           summarySeen := false, summary := [], firstActive := none }

/-- Rigs after a module reset (R474 step 11): those in service or that a die recovery had given up are IDLE, the module rig's reset counts. -/
def Dev.resetRigs (d : Dev) : Dev :=
  let d := { d with pkg := { d.pkg with diesOut := [], onpkg := [] } }
  let d := (List.range 512).foldl (fun (d : Dev) c =>
    if (d.core c).offline || decide ((d.rig c).state = .absent) then d
    else d.modRig c (fun g => { g with
      state := if g.quiescing then .quiesced else .idle, retained := false, resetCount := g.resetCount + 1 })) d
  ((List.range 73).map (512 + ·)).foldl (fun (d : Dev) g => d.modRig g (fun g => { g with resetCount := g.resetCount + 1, retained := false })) d

/-- Channels whose retrain fails retire (R247, R454). -/
def Dev.retireChannel (d : Dev) (k : Nat) : Dev :=
  if d.mem.chanRetired.contains k || d.mem.mapOut.contains k then d
  else ({ d with mem := { d.mem with chanRetired := d.mem.chanRetired.insert k } }).census.notice 0x0850 2 k 0

/-- MODULE_RESET (R474): the module reset that is under way has drained: steps 3 to 11. `badChans` are the DRAM channels whose retrain
fails. -/
def moduleReset (badChans : List (Fin 16)) (now : Time) (d : Dev) : Dev :=
  let d := d.advance now
  match d.rst.running.find? (fun (x : RigReset) => x.part.isNone && x.rig = moduleRig d.id) with
  | none => d
  | some x =>
    if !d.hubDrained then d
    else
      let old := d.id
      let d := d.resetMemories
      let d := { d with
        cores := d.cores.mapv (fun _ (k : Core) => k.rebooted)
        ports := d.ports.mapv (fun _ (p : Port) => p.rebooted)
        fab := d.fab.rebooted
        pkg := { d.pkg with ucie := d.pkg.ucie.mapv (fun _ (u : Ucie) => u.fresh) }
        power := d.power.rebooted
        tm := { d.tm with state := 3, good := 0 }
        sec := { d.sec with staged := none, reentry := none, held := [] }
        rel := d.rel.rebooted
        boot := d.boot.rebooted
        dict := { d.dict with opens := [], kept := [], sent := [], delayed := [] }
        rst := { d.rst with running := [], watch := [], failed := [] } }
      let d := d.resetQueues
      let d := d.parts.keys.foldl Dev.resetPart d
      let d := d.applyConfig.bootStages
      let d := if (d.boot.stageImage 3).isSome then (List.range 512).foldl Dev.spareOrLose d.resetRigs else d
      let d := (badChans.map (·.val)).foldl Dev.retireChannel d
      let d := d.checkSignets.census
      let d := if d.boot.romRecovery then d else (List.range 32).foldl (fun (d : Dev) p => d.emit (.training p)) d
      let d := x.groups.eraseDups.foldl (fun (d : Dev) r => d.modRig (rigIndex r) (fun g => { g with resetCount := g.resetCount + 1, retained := false })) d
      let d := d.notify { code := 0x0901, rig := moduleRig old, arg0 := 4, arg1 := x.cause.zeroExtend 64 }
      let d := if x.cause = 0x0891 then d.notify { code := x.cause, cls := 5, rig := moduleRig old } else d
      let d := (List.range x.merged).foldl (fun (d : Dev) _ => d.reply 0 1 0) d
      d.parts.keys.foldl Dev.journalAuto d

/-- What this module knew of another one's rig and queues goes with that module's reset or failure (01 R38, 11 R301). -/
def Dev.forgetPeer (d : Dev) (m : BitVec 14) : Dev :=
  let d := d.settleAll
  { d with fe := { d.fe with peers := d.fe.peers.del m.toNat, peerRt := d.fe.peerRt.filter (·.holder ≠ m) } }

/-- RESET_ANNOUNCE (R474, R476): a home drops the announcing module's directory entries; its watcher notes the time. -/
def resetAnnounce (m : BitVec 14) (now : Time) (d : Dev) : Dev :=
  let d := ((d.advance now).cohForget m).forgetPeer m
  { d with rst := { d.rst with watch := d.rst.watch.upd {} m.toNat (fun (w : Watch) => { w with announced := some d.time }) } }

/-! ### Modules declared failed (R476) -/

/-- The torus neighbours of a module (R347, R348). -/
def Dev.torusNeighbours (d : Dev) (m : BitVec 14) : List (BitVec 14) :=
  let c := (bits m 3 0, bits m 8 4, bits m 13 9)
  ([(0, true), (0, false), (1, true), (1, false), (2, true), (2, false)].map (fun dir => idOf (stepCoords d.dims c dir))).filter (· ≠ m)

/-- Whether this module watches another: it has the lowest ID among its torus neighbours. -/
def Dev.watches (d : Dev) (m : BitVec 14) : Bool := lowestId (d.torusNeighbours m) = some d.id

/-- Whether a watched module has failed (R476): no SEAL frame for MODULE_FAIL_MS and no announcement in the last 8 s; or announced, and not
trained for 10 s. -/
def Dev.failDue (d : Dev) (m : BitVec 14) : Bool :=
  match d.rst.watch.find? m.toNat with
  | none => false
  | some w => match w.announced with
    | some t => reached d.time t (ms 10000) || (reached d.time t (ms 8000) && reached d.time w.lastSeal (ms (d.cfgNat 0x0700 3 200)))
    | none => reached d.time w.lastSeal (ms (d.cfgNat 0x0700 3 200))

/-- The notices that this module held for the rings go to the anchor, once that is another module (11 R310, R311); what was dropped before
them is told first. A copy held for a partition's ring alone goes with the one of the physical function's. -/
def Dev.passHeld (d : Dev) : Dev :=
  if d.serves then d
  else
    let lost := (d.fe.rings.get {} 0).lost
    let hs := d.fe.held.filter (·.ring = 0)
    let d := { d with fe := { d.fe with held := [], rings := d.fe.rings.mapv (fun _ (r : NoticeRing) => { r with lost := 0 }) } }
    let d := if lost = 0 then d
      else d.forwardNotice { code := 0x0151, rig := moduleRig d.id, time := d.time, lost := true, arg0 := BitVec.ofNat 64 lost }
    hs.foldl (fun (d : Dev) h => d.forwardNotice h.n) d

/-- The anchor of the mast group changes (21 R534): every member raises 0x0174; queues whose host rings the old anchor's link reached enter
ERROR, unless the manager has declared that the new anchor reaches the same memory; what the old anchor was carrying ends. -/
def Dev.anchorTo (d : Dev) (new : BitVec 14) : Dev :=
  let old := d.host.anchor
  if new = old then d
  else
    let back := d.host.mastMembers.get false (old.toNat % 64)
    let d := { d with host := { d.host with
      anchor := new, isAnchor := decide (new = d.id), standby := if back then old else new, fseqOut := [], fseqIn := 0, fwds := []
      downSince := none } }
    let d := { d with dict := { d.dict with
      sent := [], boxes := if old = d.id then d.dict.boxes.mapv (fun _ (b : Mailbox) => { b with busy := false }) else d.dict.boxes } }
    let d := if d.dictNat 0x0300 8 0 = 1 then d else d.fe.queues.foldl Dev.hostRingGone d
    d.passHeld.notice 0x0174 0 old.toNat new.toNat

/-- What a module does on MODULE_FAILED (R281, R363, R476): the failed module's directory entries go, its pair order is reset, what it was
serving completes with 0x0420, the standby anchor takes over from it (21 R534), and journal recovery starts for the partitions it holds
rigs of. -/
def Dev.moduleFailed (d : Dev) (m : BitVec 14) : Dev :=
  let d := (d.cohForget m).forgetPeer m
  let d := { d with rst := { d.rst with failed := d.rst.failed.insert m.toNat }, fab := { d.fab with inn := d.fab.inn.del m.toNat } }
  let d := d.settleWindow m (fun _ => true) 0x0420
  let mine := d.fab.egressWait.filter (fun q => q.p.dst = m)
  let d := { d with fab := { d.fab with egressWait := d.fab.egressWait.filter (fun q => q.p.dst ≠ m) } }
  let d := mine.foldl (fun (d : Dev) q => d.settle q 0x0420 (BitVec.ofNat 64 q.p.addr)) d
  let gone := d.fab.recvs.filter (fun (r : RecvOp) => (d.fe.streams.get {} r.stream).dest = m)
  let d := gone.foldl (fun (d : Dev) o => o.remaining.foldl (fun (d : Dev) pos =>
    match d.fab.recvs.find? (fun (r : RecvOp) => r.core = o.core && r.id = o.id) with
    | some r => d.recvDone r pos 0x0420 0
    | none => d) d) d
  let lost := d.fe.queues.mapv (fun _ (q : Queue) => { q with flight := q.flight.map (fun (f : FlightEntry) =>
    if f.member = some m && f.ended.isNone then { f with ended := some { cause := 0x0420 } } else f) })
  let d := { d with fe := { d.fe with queues := lost } }
  let d := if d.host.anchorKnown && d.host.anchor = m && d.host.standby ≠ m then d.anchorTo d.host.standby else d
  d.parts.keys.foldl (fun (d : Dev) p => if (d.part p).modules.contains m then d.journalAuto p else d) d

/-- MODULE_FAIL_TIMEOUT (R476): the watcher broadcasts MODULE_FAILED over halyard 0, and acts on it itself. -/
def moduleFailTimeout (m : BitVec 14) (now : Time) (d : Dev) : Dev :=
  let d := d.advance now
  if !d.watches m || d.rst.failed.contains m.toNat || !d.failDue m then d
  else ((d.emit (.halyard0 2 [m.toNat] [])).notice 0x0951 0 m.toNat 0).moduleFailed m

/-- MODULE_FAILED_RECEIVE (R476). -/
def moduleFailedReceive (m : BitVec 14) (now : Time) (d : Dev) : Dev :=
  let d := d.advance now
  if d.rst.failed.contains m.toNat then d else d.moduleFailed m

/-! ### Hang detection (R477 to R479) -/

/-- Whether an instruction that an engine has begun waits for a bead to land (R103, R183). -/
def Dev.awaitsArrival (d : Dev) (c : Nat) (e : TiqEntry) : Bool :=
  match e.mma? with
  | some u => if e.groups < u.count then !d.groupReady c u e.groups else e.closing && !d.epiReady c e u
  | none => match e.vop? with
    | some o => match d.vNext c e o with
      | .bead _ draws => draws.any (fun p => p.2.any (fun b => !d.beadReady (d.who c) p.1 b))
      | _ => false
    | none => false

/-- Whether the entry that a core runs is stalled (R477): the core is held at a WAIT, or its engines wait only for arrivals. -/
def Dev.entryStalled (d : Dev) (c : Nat) : Bool :=
  let begun := (d.core c).tiq.filter (fun e => e.begun && e.done.isNone)
  d.coh.waits.any (·.core = c) || (!begun.isEmpty && begun.all (d.awaitsArrival c))

/-- Whether a queue has an entry that could be dispatched now: fetched and free to go, or submitted and still to be fetched. -/
def Dev.couldDispatch (d : Dev) (q : Queue) : Bool :=
  (d.ready q || (q.state = .active && q.ahead.isEmpty && q.tail ≠ q.fetched)) && (d.target q).isSome

/-- State of a queue for hang detection (R477): 0 EMPTY, 1 RUNNING, 2 BLOCKED. -/
def Dev.hangState (d : Dev) (q : Queue) : Nat :=
  let runs := (q.flight.filter (·.ended.isNone)).any (fun (f : FlightEntry) => match f.core with
    | some c => f.running && !d.entryStalled c
    | none => false)
  if runs || d.couldDispatch q then 1
  else if q.tail = q.fetched && q.ahead.isEmpty && q.flight.isEmpty then 0
  else 2

/-- Queues of a partition on this module, in handle order. -/
def Dev.partQueues (d : Dev) (p : Nat) : List (Nat × Queue) :=
  d.fe.queues.filter (fun x => x.2.part = p && decide (x.2.state ≠ .free))

/-- The semaphore handle on which a queue's first stalled entry waits, 0 for an arrival wait (R478). -/
def Dev.waitedSem (d : Dev) (q : Queue) : Nat :=
  match q.flight.find? (fun (f : FlightEntry) => f.ended.isNone) with
  | some f => match f.core with
    | some c => match (d.core c).tiq.find? (fun (e : TiqEntry) => e.done.isNone && (match decodeTensor e.word with | some (.wait ..) => true | _ => false)) with
      | some e => e.rs1v.toNat % 2 ^ 40
      | none => 0
    | none => 0
  | none => 0

/-- A module's report to the hang coordinator: closed, its event count, BLOCKED queues, and ARG1 of the notice for its lowest one. -/
structure HangReport where
  module : BitVec 14 := 0
  closed : Bool := false
  events : Nat := 0
  blocked : Nat := 0
  arg1 : Nat := 0
  deriving DecidableEq, Repr

/-- This module's share of a partition's wait-for graph (R478). -/
def Dev.hangReport (d : Dev) (p : Nat) : HangReport :=
  let qs := (d.partQueues p).map (fun x => (x, d.hangState x.2))
  let h := (d.part p).hang
  let blocked := qs.filter (fun x => x.2 = 2)
  let key := (d.part p).key
  let clear := d.fab.out.all (fun o => o.2.window.all (fun q => q.p.pkey ≠ key))
  let guests := d.fe.forwarded.all (fun (f : ForwardedEntry) => f.part ≠ p || (match f.e.core with | some c => !f.e.running || d.entryStalled c | none => false))
  { module := d.id
    closed := qs.all (fun x => x.2 ≠ 1) && guests && clear && reached d.time h.lastEvent (us h.quietUs)
    events := h.events, blocked := blocked.length
    arg1 := match blocked with
      | (x, _) :: _ => queueHandle x.1 x.2 + d.waitedSem x.2 * 2 ^ 18
      | [] => 0 }

/-- The lowest blocked queue over the reports: by its module, then by its handle (R478). -/
def hangArg1 (rs : List HangReport) : Nat :=
  match rs.filter (fun r => r.blocked ≠ 0) with
  | [] => 0
  | r :: ss => (ss.foldl (fun (a b : HangReport) => if b.arg1 % 2 ^ 18 < a.arg1 % 2 ^ 18 then b else a) r).arg1

/-- A hang declared (R478, R479): the notice, and a partition reset where HANG_ACTION asks for one and no event has come since. -/
def Dev.declareHang (d : Dev) (p : Nat) (rs : List HangReport) (unchanged : Bool) : Dev :=
  let total := (rs.map (·.blocked)).foldl (· + ·) 0
  let d := d.modPart p (fun q => { q with hang := { q.hang with declared := true } })
  let d := d.notify { code := 0x0950, part := some p, rig := moduleRig d.id, arg0 := BitVec.ofNat 64 total, arg1 := BitVec.ofNat 64 (hangArg1 rs) }
  if (d.part p).hang.action = 1 && unchanged then d.partResetAll p 0x0950 else d

/-- HANG_REPORT_ROUND (R478, R479): at a whole millisecond of fabric time. At the coordinator `others` are the other members' reports, and
`unchanged` is what its second look at the event counts shows; a member sends its report. -/
def hangReportRound (p : Nat) (others : List HangReport) (unchanged : Bool) (now : Time) (d : Dev) : Dev :=
  let d := d.advance now
  if nsOf d.time % 1000000 ≠ 0 then d
  else
    let r := d.hangReport p
    let d := d.modPart p (fun q => { q with hang := { q.hang with closed := r.closed, blocked := r.blocked } })
    let ms' := (d.part p).modules
    match lowestId ms' with
    | none => d
    | some c =>
      if c ≠ d.id then d.mgmt c 0x47 [(d.part p).key.toNat, b2n r.closed, r.events, r.blocked, r.arg1] []
      else
        let rs := r :: others.filter (fun x => ms'.contains x.module && x.module ≠ d.id)
        let whole := ms'.all (fun m => rs.any (fun x => x.module = m))
        let closed := whole && rs.all (·.closed) && rs.any (fun x => x.blocked ≠ 0)
        let counts : KMap Nat := rs.foldl (fun (m : KMap Nat) x => m.set x.module.toNat x.events) []
        let h := (d.part p).hang
        let again := closed && h.lastRound = some counts
        let d := d.modPart p (fun q => { q with hang := { q.hang with
          lastRound := if closed then some counts else none, declared := q.hang.declared && again } })
        if again && !h.declared then d.declareHang p rs unchanged else d

end Sys2Proof.Machine
end

