-- ==== Sys2Proof/Machine/Reliability.lean ====
section
/-!
DEFINITION. Reliability (17 R443 to R467): the scrubber, contained jobs, retirements and spares, lockstep pairs, recoveries, test packs.
-/
namespace Sys2Proof.Machine

/-! ### The scrubber (R447) -/

/-- A poisoned SRAM line after the scrubber's patterns: zero data with the poison bit set. -/
def Dev.scrubbed (d : Dev) (s : EccSite) : Dev :=
  let line (d : Dev) (a n : Nat) : Dev :=
    ({ d with mem := { d.mem with mem := d.mem.mem.zero (a / 64 * 64) n, side := uncheckRange d.mem.side (a / 64 * 64) n } }).poison a n
  match s with
  | .mem a => line d a 64
  | .hub _ a => line d a 64
  | .side b => line d (b * 512) 512
  | .lds c off => d.modCore c (fun k => { k with sc := { k.sc with
      lds := k.sc.lds.zero (off / 64 * 64) 64, ldsPoison := k.sc.ldsPoison.insert (off / 64) } })

/-- SCRUB_VISIT (R447): errors that the visited lines show are corrected or poisoned; then every SRAM line just poisoned is tested, and one
of `fails` retires its bank. -/
def scrubVisit (errs : List EccEvent) (fails : List EccSite) (now : Time) (d : Dev) : Dev :=
  let d := errs.foldl Dev.ecc (d.advance now)
  let sites := d.rel.toTest
  let d := { d with rel := { d.rel with toTest := [] } }
  sites.foldl (fun (d : Dev) s =>
    let d := d.scrubbed s
    if fails.contains s then d.permanent (d.eccChannel s).2 else d) d

/-! ### Contained jobs (R451) -/

/-- The entries of a contained job end on this module, and it is unloaded: an entry that ends for the poison it consumed keeps its cause,
every other one ends with 0x0823. -/
def Dev.containLocal (d : Dev) (p : Nat) : Dev :=
  let cs := (List.range 512).filter (fun c => match (d.core c).run with | some r => decide (r.part = p) | none => false)
  let d := cs.foldl (fun (d : Dev) c =>
    let d := d.dropWaiting c 0x0823
    match (d.core c).ending with
    | some e => d.dropWith c (if e.cause = 0x0821 || e.cause = 0x0822 then e else { cause := 0x0823 })
    | none => d.dropWith c { cause := 0x0823 }) d
  d.applyUnload p

/-- JOB_CONTAINED_END (R451): every other entry of the job ends with 0x0823, the job is unloaded on every module, 0x0822 is raised. -/
def jobContainedEnd (p : Nat) (now : Time) (d : Dev) : Dev :=
  let d := d.advance now
  match (d.part p).job with
  | none => d
  | some j =>
    if !j.contained then d
    else
      let d := d.containLocal p
      let d := ((d.part p).modules.filter (· ≠ d.id)).foldl (fun (d : Dev) m => d.mgmt m 0x43 [(d.part p).key.toNat] []) d
      match j.consumer with
      | some (r, va) => d.notify { code := 0x0822, cls := 3, rig := r, part := some p, arg0 := va }
      | none => d

/-! ### Retirements (R242 to R247, R454, R455) -/

/-- A stack-bank pair retires (R244, R454). -/
def Dev.retirePair (d : Dev) (c pair : Nat) : Dev :=
  (d.modCore c (fun k => { k with retiredPairs := k.retiredPairs ||| BitVec.ofNat 32 (2 ^ pair) })).census.coreNotice c 0x0842 2 none
    (coreRig d.id c).toNat pair

/-- A hub-cache bank retires (R454): its lines are written back, poisoned ones with their poison; no new line is placed in it. -/
def Dev.retireHubBank (d : Dev) (bank : Nat) : Dev :=
  let d := (d.mem.hub.keys.filter (fun l => hubBank l = bank)).foldl Dev.hubWriteBack d
  ({ d with mem := { d.mem with hubRetired := d.mem.hubRetired.insert bank } }).census.notice 0x0843 2 bank 0

/-- One retirement made: a core for which no spare is free leaves its cluster; another waits for its spare. -/
def Dev.retire (d : Dev) (w : Nat × Nat) : Dev := match w.1 with
  | 0 => if d.awaitsSpare w.2 && !d.spareFree w.2 then d.loseCore w.2 else d
  | 1 => d.retirePair (w.2 / 32) (w.2 % 32)
  | 2 => d.retireHubBank w.2
  | _ => d.retireChannel w.2

/-- RECOVERY_START (R461): the oldest pending recovery starts, or starts again on a wider domain. `bist` and `fails` are what a die-level
recovery finds: cores that fail the logic test, and whether one of its steps fails (R475). -/
def recoveryStart (bist : List (Fin 512)) (fails : Bool) (now : Time) (d : Dev) : Dev :=
  let d := d.advance now
  match d.rel.running with
  | none => d
  | some r =>
    let d := r.works.foldl Dev.retire { d with rel := { d.rel with running := some { r with works := [] } } }
    if r.started then d
    else
      let begun := { d with rel := { d.rel with running := some { r with works := [], started := true } } }
      match r.kind with
      | 0 => if d.awaitsSpare r.arg && d.spareFree r.arg then begun else (d.retire (0, r.arg)).finishRecovery
      | 1 | 2 | 3 => (d.retire (r.kind, r.arg)).finishRecovery
      | 4 => begun
      | _ =>
        if rigLevel r.domain = 2 then
          begun.resetStart { rig := r.domain, cause := r.cause, dieTest := true, bist := bist.map (·.val), fails := fails }
        else begun.rigResetStart r.domain r.cause

/-- CORE_SPARED (R17, R455): the spare that a retired core waits for enters service. -/
def coreSpared (c : Nat) (now : Time) (d : Dev) : Dev :=
  let d := d.advance now
  if d.awaitsSpare c && d.spareFree c then
    let d := d.spareCore c
    if d.rel.running.any (fun (r : Recovery) => r.kind = 0 && r.arg = c) then d.finishRecovery else d
  else d

/-! ### Lockstep pairs (R457 to R460) -/

/-- A pair: the security pair where `s`, else the system pair. -/
def Dev.pair (d : Dev) (s : Bool) : Pair := if s then d.rel.security else d.rel.system

/-- A pair changed. -/
def Dev.modPair (d : Dev) (s : Bool) (f : Pair → Pair) : Dev :=
  if s then { d with rel := { d.rel with security := f d.rel.security } } else { d with rel := { d.rel with system := f d.rel.system } }

/-- The roles of a pair that fails go to its twin (R460): requests in hand complete with 0x0883, a re-entry aborts, journal recovery starts
again. A pair that holds both roles leaves nobody to take over: the module is reset (R461). -/
def Dev.takeover (d : Dev) (s : Bool) : Dev :=
  let sec := d.rel.secRole == s
  let sys := d.rel.sysRole == s
  if sec && sys then d.moduleResetStart 0x0891 []
  else
    let d := { d with rel := { d.rel with secRole := if sec then !s else d.rel.secRole, sysRole := if sys then !s else d.rel.sysRole } }
    let d := if sec then
        ((d.sec.held.foldl (fun (d : Dev) _ => d.reply 0x0883 0 0) { d with sec := { d.sec with held := [] } })).protectAbort
      else d
    let d := if sys then { d with dict := { d.dict with opens := d.dict.opens.map (fun (w : OpenWrite) => { w with ended := true }) } } else d
    if sys then d.parts.keys.foldl (fun (d : Dev) p =>
      let ph := (d.part p).jrn.phase
      if ph = 1 || ph = 2 then d.journalStart p else d) d
    else d

/-- A finding of a pair recorded; whether it is the 3rd within 24 h (R458). -/
def Dev.finding (d : Dev) (s : Bool) : Dev × Bool :=
  let fs := (d.pair s).findings.filter (fun t => !reached d.time t (ms 86400000)) ++ [d.time]
  (d.modPair s (fun p => { p with findings := fs }), decide (3 ≤ fs.length))

/-- A pair leaves service to restart, or for good (R458, R460). -/
def Dev.pairOut (d : Dev) (s gone : Bool) (cause : Cause) : Dev :=
  if gone then (d.modPair s (fun p => { p with inService := false, unchecked := false, restarting := false, retired := true })).notice 0x0882 2 (b2n (!s)) 0
  else
    (d.modPair s (fun p => { p with inService := false, unchecked := false, restarting := true })).detect
      { domain := moduleRig d.id, kind := 4, cause := cause, arg := b2n (!s) }

/-- Whether a pair runs and is checked. -/
def Dev.pairRuns (d : Dev) (s : Bool) : Bool := (d.pair s).inService && !(d.pair s).unchecked

/-- LOCKSTEP_MISMATCH (R458): the cycle is blocked, the pair stops, its twin takes over, it restarts or retires. -/
def lockstepMismatch (s : Bool) (now : Time) (d : Dev) : Dev :=
  let d := d.advance now
  if !d.pairRuns s then d
  else
    let f := ((d.relCount 0x22 1).notice 0x0880 1 (b2n (!s)) 0).finding s
    ((f.1).takeover s).pairOut s f.2 0x0880

/-- LOCKSTEP_CHECKER_FAULT (R458, R459): the pair runs on unchecked for what cannot be broken off, while its twin takes over. -/
def lockstepCheckerFault (s : Bool) (now : Time) (d : Dev) : Dev :=
  let d := d.advance now
  if !d.pairRuns s then d
  else
    let f := ((d.relCount 0x23 1).notice 0x0881 1 (b2n (!s)) 0).finding s
    let d := f.1.takeover s
    d.modPair s (fun p => { p with unchecked := true, uncheckedSince := d.time, retired := f.2 })

/-- LOCKSTEP_SELFTEST (R457): the comparator must report the inverted bit as unequal. -/
def lockstepSelftest (s unequal : Bool) (now : Time) (d : Dev) : Dev :=
  let d := d.advance now
  if !d.pairRuns s then d
  else if unequal then (d.relCount 0x24 1).modPair s (fun p => { p with rotate := p.rotate + 1 })
  else lockstepCheckerFault s now d

/-- UNCHECKED_PAIR_EXIT (R459): the pair's unbreakable operations have ended, or 100 ms have passed. -/
def uncheckedPairExit (s done : Bool) (now : Time) (d : Dev) : Dev :=
  let d := d.advance now
  let p := d.pair s
  if p.unchecked && (done || reached d.time p.uncheckedSince (ms 100)) then d.pairOut s p.retired 0x0881 else d

/-- PAIR_RESTART_DONE (R460): the pair takes its role back, or is retired where its restart fails. -/
def pairRestartDone (s ok : Bool) (now : Time) (d : Dev) : Dev :=
  let d := d.advance now
  if !(d.pair s).restarting then d
  else
    let d := if ok then
        let d := d.modPair s (fun p => { p with restarting := false, inService := true })
        if s then { d with rel := { d.rel with secRole := true } } else { d with rel := { d.rel with sysRole := false } }
      else d.pairOut s true 0x0882
    if d.rel.running.any (fun (r : Recovery) => r.kind = 4 && r.arg = b2n (!s)) then d.finishRecovery else d

/-! ### Test packs (R462 to R465) -/

/-- A little-endian field of a test pack's header. -/
def packField (h : List Byte) (off n : Nat) : Nat := leNat ((h.drop off).take n)

/-- Whether a pack verifies (R462, R463). -/
def Dev.packOk (d : Dev) (b : List Byte) : Bool :=
  let f := packField b
  decide (256 ≤ b.length) && f 0 4 = 0x4B435054 && f 4 2 = 1 && f 6 1 ≤ 1 && f 0x12 2 = 0 && f 0x1C 4 = 0 && f 0x80 32 = 0
    && decide (f 0x14 4 ≤ 0x200000) && f 0x14 4 + 256 = b.length && decide (f 0x18 4 ≤ 65536)
    && BitVec.ofNat 384 (f 0x20 48) = Config.sha384 (b.drop 256)
    && Config.verifySig d.rel.packKey (leBytes 48 (Config.sha384 (b.take 0xA0)).toNat) ((b.drop 0xA0).take 96)

/-- The slot that a valid pack goes to (R463): that of its PACK_ID where its revision is higher, a free one, the one stored earliest. -/
def Dev.packSlot (d : Dev) (b : List Byte) : Option Nat :=
  match d.rel.packs.first? (fun _ p => packField p.header 8 4 = packField b 8 4) with
  | some (k, p) => if packField p.header 0xC 2 < packField b 0xC 2 then some k else none
  | none => match d.rel.packs.freeKey 0 8 with
    | some k => some k
    | none => match d.rel.packs with
      | [] => some 0
      | x :: xs => some (xs.foldl (fun (a b : Nat × TestPack) => if b.2.serial < a.2.serial then b else a) x).1

/-- TESTPACK_PUSH (R463): a pack written here (`pushed`) is checked, stored and broadcast over halyard 0; one that arrives by the broadcast
is checked and stored. -/
def testpackPush (pushed : Bool) (b : List Byte) (now : Time) (d : Dev) : Dev :=
  let d := d.advance now
  if !d.packOk b then (if pushed then d.reply 0x0871 0 0 else d)
  else
    let d := match d.packSlot b with
      | some k => { d with rel := { d.rel with
          packSerial := d.rel.packSerial + 1
          packs := d.rel.packs.set k { header := b.take 256, image := b.drop 256, serial := d.rel.packSerial } } }
      | none => d
    if pushed then (d.emit (.halyard0 3 [] b)).reply 0 0 0 else d

/-- Whether a core may run a pack now (R463, R464). -/
def Dev.packEligible (d : Dev) (t : TestPack) (c idleMs : Nat) : Bool :=
  let step := packField t.header 7 1
  d.dictNat 0x1810 3 1 = 1 && (step = 0xFF || step = 0x10) && decide ((d.rig c).state = .idle) && d.coreKey c = 0
    && (d.rel.testing.find? c).isNone && decide (packField t.header 0xE 2 ≤ idleMs)
    && (match t.coreRun.find? c with | some x => reached d.time x (ms (1000 * d.dictNat 0x1810 2 86400)) | none => true)

/-- TESTPACK_RUN (R464): an eligible core, idle for `idleMs`, is zero-filled and begins the pack's image. -/
def testpackRun (slot c idleMs : Nat) (now : Time) (d : Dev) : Dev :=
  let d := d.advance now
  match d.rel.packs.find? slot with
  | none => d
  | some t =>
    if !d.packEligible t c idleMs then d
    else
      let d := (d.clearSram c).modCore c Core.wiped
      { d with rel := { d.rel with testing := d.rel.testing.set c { slot := slot, since := d.time } } }

/-- TESTPACK_RUN_END (R464, R465): the run passes by its ECALL with a0 = 0 in time, no finding, and the expected result. -/
def testpackRunEnd (c : Nat) (ecall0 : Bool) (result : BitVec 384) (finding : Cause) (now : Time) (d : Dev) : Dev :=
  let d := d.advance now
  match d.rel.testing.find? c with
  | none => d
  | some r =>
    let t := d.rel.packs.get {} r.slot
    let f := packField t.header
    let pass := ecall0 && finding = 0 && result = BitVec.ofNat 384 (f 0x50 48) && decide (nsBetween r.since d.time ≤ f 0x10 2 * 1000000)
    let d := (d.clearSram c).modCore c Core.wiped
    let t := { t with runs := t.runs + 1, lastRun := d.time, coreRun := t.coreRun.set c d.time }
    let t := if pass then t else { t with fails := t.fails + 1, lastFail := coreRig d.id c }
    let d := { d with rel := { d.rel with testing := d.rel.testing.del c, packs := d.rel.packs.set r.slot t } }
    if pass then d
    else
      let act := f 6 1 = 1
      let d := d.coreNotice c 0x0870 (if act then 2 else 0) none (f 8 4 + f 0xC 2 * 2 ^ 32) finding.toNat
      if act then d.retireCore c 0x0870 else d

end Sys2Proof.Machine
end

