-- ==== Sys2Proof/Machine/Objects.lean ====
section
/-!
DEFINITION. The objects of the dictionary (20 R502 to R506, R517 to R522, and the tables of the other chapters): their types, rights and
persistence, and the values that they show.
-/
namespace Sys2Proof.Machine

/-- Types of R503. -/
inductive ObjTy where
  | bool | u8 | u16 | u32 | u64 | i32 | f32 | str | blob | digest | time
  deriving DecidableEq, Repr

/-- Access rights of R504; `sl` stands for SEAL. -/
inductive ObjAcc where
  | ro | rw | wo | sl | boot
  deriving DecidableEq, Repr

/-- Persistence classes of R505. -/
inductive ObjPers where
  | fused | flash | system | volatile
  deriving DecidableEq, Repr

/-- An object, with all its entries: `count` indices `stride` apart, and `subs` subindices (R502). The default is a number in the object's own
type. -/
structure ObjDef where
  index : Nat
  count : Nat := 1
  stride : Nat := 1
  sub : Nat
  subs : Nat := 1
  name : String
  numbered : Bool := false
  units : String := ""
  ty : ObjTy
  acc : ObjAcc := .ro
  pers : ObjPers := .volatile
  dflt : Nat := 0
  /-- maximum length of a BLOB or STR; whether its rule fixes that length -/
  max : Nat := 0
  fixed : Bool := false
  range : Option (Nat × Nat) := none
  /-- selector kind (R506) -/
  sel : Nat := 0
  deriving DecidableEq, Repr

/-- Objects of the dictionary in index order, part 1. -/
def objects1 : List ObjDef := [
  { index := 0x0000, sub := 1, name := "DICT_VERSION", ty := .u16, pers := .fused, dflt := 1 },
  { index := 0x0000, sub := 2, name := "DICT_OBJECTS", units := "instances", ty := .u32 },
  { index := 0x0010, sub := 1, name := "CONFIG_EPOCH", ty := .u64, pers := .flash },
  { index := 0x0010, sub := 2, name := "CONFIG_SEAL", ty := .digest, pers := .flash },
  { index := 0x0010, sub := 3, name := "CONFIG_STAGED_EPOCH", ty := .u64, pers := .flash },
  { index := 0x0010, sub := 4, name := "CONFIG_STAGED_SEAL", ty := .digest, pers := .flash },
  { index := 0x0010, sub := 5, name := "CONFIG_PREV_EPOCH", ty := .u64, pers := .flash },
  { index := 0x0010, sub := 6, name := "CONFIG_PUSH", ty := .blob, acc := .wo, max := 16777216 },
  { index := 0x0010, sub := 7, name := "CONFIG_ARM", ty := .blob, acc := .wo, max := 65, fixed := true },
  { index := 0x0010, sub := 8, name := "CONFIG_CANCEL", ty := .u8, acc := .wo, range := some (1, 1) },
  { index := 0x0010, sub := 9, name := "CONFIG_DISCARD", ty := .u8, acc := .wo, range := some (1, 1) },
  { index := 0x0010, sub := 10, name := "CONFIG_STATUS", ty := .u32 },
  { index := 0x0010, sub := 11, name := "CONFIG_SWITCH_TIME", ty := .time },
  { index := 0x0020, sub := 1, name := "MGMT_UDP_PORT", ty := .u16, acc := .rw, pers := .flash, dflt := 50212, range := some (1024, 65535) },
  { index := 0x0020, sub := 2, name := "MGMT_UDP_MODE", ty := .u8, acc := .rw, pers := .flash, range := some (0, 1) },
  { index := 0x0020, sub := 3, name := "MGMT_PLCA_ID", ty := .u8, acc := .rw, pers := .flash, dflt := 255 },
  { index := 0x0020, sub := 4, name := "MGMT_PLCA_NODES", units := "nodes", ty := .u8, acc := .rw, pers := .flash, dflt := 8, range := some (2, 255) },
  { index := 0x0020, sub := 5, name := "MGMT_MAC", ty := .blob, pers := .fused, max := 6 },
  { index := 0x0020, sub := 6, name := "MGMT_RX_DISCARDS", units := "datagrams", ty := .u64, pers := .system },
  { index := 0x0100, sub := 1, name := "SERIAL", ty := .u64, pers := .fused },
  { index := 0x0100, sub := 2, name := "ORDERING_CODE", ty := .str, pers := .fused, max := 16 },
  { index := 0x0100, sub := 3, name := "STEPPINGS", ty := .blob, pers := .fused, max := 32 },
  { index := 0x0110, sub := 1, name := "SIGNET_INSTALL", ty := .blob, acc := .wo, max := 128, fixed := true },
  { index := 0x0110, sub := 2, name := "SIGNET_MASK", ty := .u32, pers := .flash },
  { index := 0x0111, sub := 1, subs := 16, name := "SIGNET_", numbered := true, ty := .blob, pers := .flash, max := 128 },
  { index := 0x0120, sub := 1, name := "FW_PUSH", ty := .blob, acc := .wo, max := 33554593 },
  { index := 0x0120, sub := 2, name := "FW_ACTIVATE", ty := .u8, acc := .wo, range := some (0, 1) },
  { index := 0x0120, sub := 3, name := "FW_SVN_COMMIT", ty := .u8, acc := .wo, range := some (1, 1) } ]

/-- Objects of the dictionary in index order, part 2. -/
def objects2 : List ObjDef := [
  { index := 0x0120, sub := 4, name := "FW_STATUS", ty := .u32 },
  { index := 0x0120, sub := 5, name := "FW_VERSION", ty := .blob, pers := .flash, max := 36 },
  { index := 0x0200, sub := 1, name := "PCIE_LINK_STATUS", ty := .u32 },
  { index := 0x0210, sub := 1, name := "NOTICE_RING_BASE", ty := .u64, acc := .rw, pers := .system },
  { index := 0x0210, sub := 2, name := "NOTICE_RING_LOG2", ty := .u8, acc := .rw, pers := .system, dflt := 8, range := some (6, 16) },
  { index := 0x0210, sub := 3, name := "NOTICE_RING_VECTOR", ty := .u16, acc := .rw, pers := .system },
  { index := 0x0210, sub := 4, name := "NOTICE_RING_TAIL", units := "records", ty := .u32 },
  { index := 0x0210, sub := 5, name := "NOTICE_DROPS", units := "notices", ty := .u64, pers := .system },
  { index := 0x0220, sub := 1, name := "VF_BIND", ty := .blob, acc := .rw, pers := .system, max := 8192, fixed := true },
  { index := 0x0300, sub := 1, name := "MAST_ROLE", ty := .u8 },
  { index := 0x0300, sub := 2, name := "ANCHOR_PRIORITY", ty := .u8, acc := .rw, pers := .flash, dflt := 128 },
  { index := 0x0300, sub := 3, name := "MAST_ANCHOR", ty := .u16, dflt := 65535 },
  { index := 0x0300, sub := 4, name := "MAST_STANDBY", ty := .u16, dflt := 65535 },
  { index := 0x0300, sub := 5, name := "MAST_MEMBERS", ty := .u64, pers := .system },
  { index := 0x0300, sub := 6, name := "MAST_LINKUP", ty := .u64, pers := .system },
  { index := 0x0300, sub := 7, name := "ANCHOR_TAKEOVER", ty := .u8, acc := .wo, range := some (1, 1) },
  { index := 0x0300, sub := 8, name := "MAST_SHARED_HOST", ty := .bool, acc := .rw, pers := .flash },
  { index := 0x0400, sub := 1, name := "RCB", ty := .blob, max := 128, sel := 1 },
  { index := 0x0400, sub := 2, name := "POWER_REQ", units := "W", ty := .u32, acc := .rw, pers := .system, sel := 1 },
  { index := 0x0400, sub := 3, name := "RESET_VERB", ty := .u32, acc := .wo, sel := 1 },
  { index := 0x0410, sub := 1, name := "SCHED_WINDOW", units := "us", ty := .u32, acc := .sl, pers := .flash, dflt := 1000,
    range := some (100, 10000) },
  { index := 0x0410, sub := 2, name := "SCHED_T_URGENT", units := "us", ty := .u32, acc := .sl, pers := .flash, dflt := 2000,
    range := some (100, 1000000) },
  { index := 0x0410, sub := 3, name := "SCHED_T_STAY", units := "us", ty := .u32, acc := .sl, pers := .flash, dflt := 50000,
    range := some (1000, 10000000) },
  { index := 0x0420, sub := 1, name := "QUEUE_STATE", ty := .blob, max := 16, sel := 2 },
  { index := 0x0700, sub := 1, name := "RESET_LAST_CAUSE", ty := .u16 },
  { index := 0x0700, sub := 2, name := "RESET_LAST_TIME", ty := .time },
  { index := 0x0700, sub := 3, name := "MODULE_FAIL_MS", units := "ms", ty := .u32, acc := .sl, pers := .flash, dflt := 200,
    range := some (50, 2000) },
  { index := 0x0780, sub := 1, name := "MODULE_ID", ty := .u16, dflt := 65535 } ]

/-- Objects of the dictionary in index order, part 3. -/
def objects3 : List ObjDef := [
  { index := 0x0780, sub := 2, name := "MODULE_ID_CFG", ty := .u16, acc := .rw, pers := .flash, dflt := 65535 },
  { index := 0x0780, sub := 3, name := "CENSUS_ORIGIN", ty := .u8, acc := .rw, pers := .flash, range := some (0, 1) },
  { index := 0x0780, sub := 4, name := "CENSUS_STATE", ty := .u8 },
  { index := 0x0780, sub := 5, name := "SYSTEM_MODULES", units := "modules", ty := .u16 },
  { index := 0x0780, sub := 6, name := "CENSUS_COUNT", ty := .u64, pers := .system },
  { index := 0x0800, sub := 1, name := "MEM_DRAM_MAPPABLE", units := "bytes", ty := .u64, pers := .system, dflt := 506806140928 },
  { index := 0x0800, sub := 2, name := "MEM_DRAM_CHANNELS", ty := .u16, dflt := 65535 },
  { index := 0x0800, sub := 3, name := "MEM_HUB_CACHE_BYTES", units := "bytes", ty := .u32, dflt := 0x10000000 },
  { index := 0x0800, sub := 4, name := "MEM_EGRESS_BYTES", units := "bytes", ty := .u32, dflt := 0x1000000 },
  { index := 0x0C20, count := 32, sub := 1, name := "LINK_STATUS", ty := .u32 },
  { index := 0x0C20, count := 32, sub := 2, name := "LINK_ENC", ty := .u8, acc := .sl, pers := .flash, range := some (0, 1) },
  { index := 0x0C20, count := 32, sub := 3, name := "LINK_PEER_KEY", ty := .digest },
  { index := 0x0C20, count := 32, sub := 4, name := "LINK_PEER_ALLOW", ty := .digest, acc := .sl, pers := .flash },
  { index := 0x0C20, count := 32, sub := 5, name := "LINK_MIN_WIDTH", units := "lanes", ty := .u8, acc := .sl, pers := .flash, dflt := 1,
    range := some (1, 4) },
  { index := 0x0C20, count := 32, sub := 6, name := "LINK_SER_LIMIT", units := "ratio", ty := .f32, acc := .sl, pers := .flash, dflt := 0x38d1b717 },
  { index := 0x0C20, count := 32, sub := 7, name := "LINK_CMD", ty := .u8, acc := .wo, range := some (1, 4) },
  { index := 0x0C20, count := 32, sub := 8, name := "LINK_REPLAYS", units := "frames", ty := .u64, pers := .system },
  { index := 0x0C20, count := 32, sub := 9, name := "LINK_DELAY", units := "ps", ty := .u32 },
  { index := 0x0C20, count := 32, sub := 10, name := "LINK_OFFSET", units := "ps", ty := .i32 },
  { index := 0x0C20, count := 32, sub := 11, name := "LINK_FRAMES_LOST", units := "frames", ty := .u64, pers := .system },
  { index := 0x0C80, sub := 1, name := "ROUTE_EPOCH", ty := .u8 },
  { index := 0x0C80, sub := 2, name := "ROUTE_STATE", ty := .u8 },
  { index := 0x0C80, sub := 3, name := "ROUTE_DRAIN_US", units := "us", ty := .u32, acc := .sl, pers := .flash, dflt := 200,
    range := some (100, 10000) },
  { index := 0x0C80, sub := 4, name := "ROUTE_ARM_TIME", ty := .time, acc := .wo },
  { index := 0x0C81, sub := 1, subs := 8, name := "ROUTE_STAGE_D", numbered := true, ty := .blob, acc := .wo, max := 16384, fixed := true },
  { index := 0x0C82, sub := 1, name := "TORUS_DIMS", ty := .u32, acc := .sl, pers := .flash, dflt := 0x202010 },
  { index := 0x0C82, sub := 2, name := "AUX_DIR", ty := .u8, acc := .sl, pers := .flash, range := some (0, 3) },
  { index := 0x0C82, sub := 3, name := "HALYARD_RATE", units := "B/s", ty := .u64, acc := .sl, pers := .flash, dflt := 2000000000 } ]

/-- Objects of the dictionary in index order, part 4. -/
def objects4 : List ObjDef := [
  { index := 0x0C83, sub := 1, subs := 8, name := "HALYARD_TABLE_D", numbered := true, ty := .blob, acc := .sl, pers := .flash, max := 128,
    fixed := true },
  { index := 0x1000, sub := 1, name := "POWER_BUDGET", units := "W", ty := .u32, acc := .sl, pers := .flash, dflt := 3000,
    range := some (1200, 3000) },
  { index := 0x1000, sub := 2, name := "POWER_BUDGET_EFF", units := "W", ty := .u32, dflt := 3000 },
  { index := 0x1000, sub := 3, name := "POWER_POOL_GRANTED", units := "W", ty := .u32 },
  { index := 0x1000, sub := 4, name := "POWER_WAKE_WAITING", units := "requests", ty := .u16 },
  { index := 0x1000, sub := 5, name := "POWER_HOLD_US", units := "us", ty := .u32, acc := .rw, pers := .system, dflt := 10, range := some (1, 1000) },
  { index := 0x1000, sub := 6, name := "POWER_INPUT_100US", units := "W", ty := .f32 },
  { index := 0x1000, sub := 7, name := "POWER_INPUT_1S", units := "W", ty := .f32 },
  { index := 0x1001, sub := 1, name := "POWER_CLASS_DEFAULT", ty := .u8, acc := .sl, pers := .flash, dflt := 2, range := some (0, 3) },
  { index := 0x1001, sub := 2, name := "REEF_FLOOR", ty := .u8, acc := .rw, pers := .system, range := some (0, 7) },
  { index := 0x1001, sub := 3, name := "BOOST_EN", ty := .u8, acc := .sl, pers := .flash, range := some (0, 1) },
  { index := 0x1001, sub := 4, name := "REEF_FLOORS", ty := .u32 },
  { index := 0x1002, sub := 1, name := "DROOP_TRIP_PCT", units := "%", ty := .f32, acc := .sl, pers := .flash, dflt := 0x40800000,
    range := some (1073741824, 1090519040) },
  { index := 0x1003, sub := 1, name := "T_REEF", units := "C", ty := .f32, acc := .sl, pers := .flash, dflt := 0x42be0000,
    range := some (1117782016, 1120403456) },
  { index := 0x1004, sub := 1, name := "COOL_MODE", ty := .u8, acc := .rw, pers := .system, range := some (0, 1) },
  { index := 0x1004, sub := 2, name := "COOL_OUTLET_SET", units := "C", ty := .f32, acc := .rw, pers := .system, dflt := 0x42700000,
    range := some (1110704128, 1115815936) },
  { index := 0x1004, sub := 3, name := "VALVE_MIN", units := "%", ty := .f32, acc := .rw, pers := .system, dflt := 0x41a00000,
    range := some (0, 1120403456) },
  { index := 0x1004, sub := 4, name := "VALVE_FIXED", units := "%", ty := .f32, acc := .rw, pers := .system, dflt := 0x42c80000 },
  { index := 0x1004, sub := 5, name := "VALVE_POSITION", units := "%", ty := .f32, dflt := 0x42c80000 },
  { index := 0x1004, sub := 6, name := "COOL_INLET", units := "C", ty := .f32 },
  { index := 0x1004, sub := 7, name := "COOL_OUTLET", units := "C", ty := .f32 },
  { index := 0x1004, sub := 8, name := "COOL_FLOW", units := "L/min", ty := .f32 },
  { index := 0x1008, sub := 1, name := "TIME_STATE", ty := .u8 },
  { index := 0x1008, sub := 2, name := "TIME_ROOT", ty := .u16 },
  { index := 0x1008, sub := 3, name := "FABRIC_TIME_WRAPS", units := "wraps", ty := .u16 },
  { index := 0x1010, count := 248, sub := 1, name := "SENSOR_VALUE", units := "by sensor", ty := .f32 },
  { index := 0x1010, count := 248, sub := 2, name := "SENSOR_TIME", ty := .time },
  { index := 0x1400, sub := 1, name := "PROTECT_STAGE", ty := .blob, acc := .wo, max := 16777216 } ]

/-- Objects of the dictionary in index order, part 5. -/
def objects5 : List ObjDef := [
  { index := 0x1400, sub := 2, name := "PROTECT_COMMIT", ty := .blob, acc := .wo, max := 64, fixed := true },
  { index := 0x1400, sub := 3, name := "PROTECT_STATUS", ty := .u32 },
  { index := 0x1400, sub := 4, name := "PTABLE_DIGEST", ty := .digest },
  { index := 0x1401, sub := 1, name := "PARTITION_TABLE", ty := .blob, acc := .boot, pers := .system, max := 32768 },
  { index := 0x1402, sub := 1, name := "KEY_SLOT_MAP", ty := .blob, acc := .boot, pers := .system, max := 2048 },
  { index := 0x1404, sub := 1, name := "IDENTITY_PUBKEY", ty := .blob, pers := .fused, max := 96 },
  { index := 0x1410, sub := 1, name := "HALLMARK_REQ", ty := .blob, acc := .wo, max := 32, fixed := true },
  { index := 0x1410, sub := 2, name := "HALLMARK_OUT", ty := .blob, max := 66208 },
  { index := 0x1420, count := 32, sub := 1, subs := 64, name := "PORT_KEY_", numbered := true, ty := .u32, acc := .boot, pers := .system },
  { index := 0x1800, sub := 1, name := "REL_SCRUB_PERIOD_S", units := "s", ty := .u32, acc := .rw, pers := .system, dflt := 600,
    range := some (60, 86400) },
  { index := 0x1800, sub := 2, name := "REL_DRAM_SCRUB_PERIOD_S", units := "s", ty := .u32, acc := .rw, pers := .system, dflt := 86400,
    range := some (3600, 604800) },
  { index := 0x1800, sub := 3, name := "REL_SRAM_CORRECTED", units := "events", ty := .u64, pers := .system },
  { index := 0x1800, sub := 4, name := "REL_SRAM_UNCORRECTABLE", units := "lines", ty := .u64, pers := .system },
  { index := 0x1800, sub := 5, name := "REL_DRAM_CORRECTED", units := "events", ty := .u64, pers := .system },
  { index := 0x1800, sub := 6, name := "REL_DRAM_UNCORRECTABLE", units := "lines", ty := .u64, pers := .system },
  { index := 0x1800, sub := 7, name := "REL_POISON_CONSUMED", units := "entries", ty := .u64, pers := .system },
  { index := 0x1800, sub := 8, name := "REL_DRAM_REREADS", units := "events", ty := .u64, pers := .system },
  { index := 0x1801, sub := 1, name := "REL_RETIRED_CORES", ty := .blob, pers := .flash, max := 1088 },
  { index := 0x1801, sub := 2, name := "REL_RETIRED_BANKS", ty := .blob, pers := .flash, max := 66560 },
  { index := 0x1801, sub := 3, name := "REL_SPARES_FREE", ty := .u32, dflt := 0xffffffff },
  { index := 0x1802, sub := 1, name := "LOCKSTEP_STATUS", ty := .u32 },
  { index := 0x1802, sub := 2, name := "LOCKSTEP_MISMATCHES", units := "events", ty := .u64, pers := .system },
  { index := 0x1802, sub := 3, name := "LOCKSTEP_CHECKER_FAULTS", units := "events", ty := .u64, pers := .system },
  { index := 0x1802, sub := 4, name := "LOCKSTEP_SELFTESTS", units := "tests", ty := .u64, pers := .system },
  { index := 0x1803, sub := 1, name := "REC_PENDING", ty := .u8 },
  { index := 0x1810, sub := 1, name := "TESTPACK_PUSH", ty := .blob, acc := .wo, max := 2097408 },
  { index := 0x1810, sub := 2, name := "TESTPACK_PERIOD_S", units := "s", ty := .u32, acc := .rw, pers := .system, dflt := 86400,
    range := some (3600, 2592000) },
  { index := 0x1810, sub := 3, name := "TESTPACK_EN", ty := .u8, acc := .rw, pers := .system, dflt := 1, range := some (0, 1) } ]

/-- Objects of the dictionary in index order, part 6. -/
def objects6 : List ObjDef := [
  { index := 0x1811, count := 8, sub := 1, name := "TESTPACK_HDR", ty := .blob, pers := .flash, max := 256 },
  { index := 0x1811, count := 8, sub := 2, name := "TESTPACK_RUNS", units := "runs", ty := .u64, pers := .system },
  { index := 0x1811, count := 8, sub := 3, name := "TESTPACK_FAILS", units := "runs", ty := .u64, pers := .system },
  { index := 0x1811, count := 8, sub := 4, name := "TESTPACK_LAST_FAIL", ty := .u32 },
  { index := 0x1811, count := 8, sub := 5, name := "TESTPACK_LAST_RUN", ty := .time },
  { index := 0x1C20, count := 32, sub := 1, subs := 8, name := "PORT_TX_PKTS_TC", numbered := true, units := "packets", ty := .u64, pers := .system },
  { index := 0x1C20, count := 32, sub := 9, subs := 8, name := "PORT_TX_BYTES_TC", numbered := true, units := "bytes", ty := .u64, pers := .system },
  { index := 0x1C20, count := 32, sub := 17, subs := 8, name := "PORT_RX_PKTS_TC", numbered := true, units := "packets", ty := .u64, pers := .system },
  { index := 0x1C20, count := 32, sub := 25, subs := 8, name := "PORT_RX_BYTES_TC", numbered := true, units := "bytes", ty := .u64, pers := .system },
  { index := 0x1C20, count := 32, sub := 33, name := "PORT_DEFLECT_OUT", units := "packets", ty := .u64, pers := .system },
  { index := 0x1C20, count := 32, sub := 34, name := "PORT_EXPIRED", units := "packets", ty := .u64, pers := .system },
  { index := 0x1C20, count := 32, sub := 35, name := "PORT_KEY_DROPS", units := "packets", ty := .u64, pers := .system },
  { index := 0x1C20, count := 32, sub := 36, name := "PORT_NO_SLOT_CYCLES", units := "cycles", ty := .u64, pers := .system },
  { index := 0x1C40, count := 8, sub := 1, name := "SW_INJ_DEPTH_HUB", units := "packets", ty := .u8 },
  { index := 0x1C40, count := 8, sub := 2, subs := 8, name := "SW_INJ_DEPTH_C", numbered := true, units := "packets", ty := .u8 },
  { index := 0x1C40, count := 8, sub := 10, name := "SW_INJ_DEPTH_MAX_HUB", units := "packets", ty := .u8 },
  { index := 0x1C40, count := 8, sub := 11, subs := 8, name := "SW_INJ_DEPTH_MAX_C", numbered := true, units := "packets", ty := .u8 },
  { index := 0x1C40, count := 8, sub := 19, name := "SW_INJ_STALL_HUB", units := "cycles", ty := .u64, pers := .system },
  { index := 0x1C40, count := 8, sub := 20, subs := 8, name := "SW_INJ_STALL_C", numbered := true, units := "cycles", ty := .u64, pers := .system },
  { index := 0x1C40, count := 8, sub := 28, name := "SW_EJ_DEPTH_MAX", units := "packets", ty := .u8 },
  { index := 0x1C40, count := 8, sub := 29, name := "SW_DETOURS", units := "packets", ty := .u64, pers := .system },
  { index := 0x1C40, count := 8, sub := 30, name := "SW_DETOUR_DROPS", units := "packets", ty := .u64, pers := .system },
  { index := 0x1C40, count := 8, sub := 31, name := "SW_RESTAMPS", units := "packets", ty := .u64, pers := .system },
  { index := 0x1C40, count := 8, sub := 32, name := "SW_HALYARD_DROPS", units := "packets", ty := .u64, pers := .system },
  { index := 0x1C40, count := 8, sub := 33, name := "SW_HCRC_DROPS", units := "packets", ty := .u64, pers := .system },
  { index := 0x1C48, sub := 1, name := "PAIR_REORDER_BYTES", units := "bytes", ty := .u32 },
  { index := 0x1C48, sub := 2, name := "PAIR_REORDER_MAX", units := "bytes", ty := .u32 },
  { index := 0x1C48, sub := 3, name := "PAIR_LOST_RX", units := "packets", ty := .u64, pers := .system } ]

/-- Objects of the dictionary in index order, part 7. -/
def objects7 : List ObjDef := [
  { index := 0x1C48, sub := 4, name := "PAIR_LOST_TX", units := "packets", ty := .u64, pers := .system },
  { index := 0x1C48, sub := 5, name := "PAIR_REORDER_FULL", units := "packets", ty := .u64, pers := .system },
  { index := 0x2000, count := 512, stride := 16, sub := 1, name := "PART_KEY", ty := .u16 },
  { index := 0x2000, count := 512, stride := 16, sub := 2, name := "JOB_LOAD", ty := .blob, acc := .wo, max := 16, fixed := true },
  { index := 0x2000, count := 512, stride := 16, sub := 3, name := "JOB_UNLOAD", ty := .u8, acc := .wo, range := some (1, 1) },
  { index := 0x2000, count := 512, stride := 16, sub := 4, name := "JOB_STATUS", ty := .u32 },
  { index := 0x2001, count := 512, stride := 16, sub := 1, name := "MAP_REQ", ty := .blob, acc := .wo, max := 32, fixed := true },
  { index := 0x2001, count := 512, stride := 16, sub := 2, name := "UNMAP_REQ", ty := .blob, acc := .wo, max := 16, fixed := true },
  { index := 0x2002, count := 512, stride := 16, sub := 1, name := "TENANT_KEY", ty := .blob, acc := .boot, pers := .system, max := 96,
    fixed := true },
  { index := 0x2002, count := 512, stride := 16, sub := 2, name := "CONSENT_TOKEN", ty := .blob, acc := .wo, max := 160, fixed := true },
  { index := 0x2002, count := 512, stride := 16, sub := 3, name := "CONSENT_STATE", ty := .u32 },
  { index := 0x2002, count := 512, stride := 16, sub := 4, name := "CONSENT_NONCE", ty := .blob, max := 32 },
  { index := 0x2002, count := 512, stride := 16, sub := 5, name := "KEY_ERASE", ty := .u16, acc := .wo },
  { index := 0x2002, count := 512, stride := 16, sub := 6, name := "HALLMARK_REQ_P", ty := .blob, acc := .wo, max := 32, fixed := true },
  { index := 0x2002, count := 512, stride := 16, sub := 7, name := "HALLMARK_OUT_P", ty := .blob, max := 800 },
  { index := 0x2003, count := 512, stride := 16, sub := 1, name := "QUEUE_CREATE", ty := .blob, acc := .wo, max := 64, fixed := true },
  { index := 0x2003, count := 512, stride := 16, sub := 2, name := "QUEUE_DESTROY", ty := .u32, acc := .wo },
  { index := 0x2004, count := 512, stride := 16, sub := 1, name := "PART_RESET", ty := .u8, acc := .wo, range := some (1, 1) },
  { index := 0x2004, count := 512, stride := 16, sub := 2, name := "HANG_ACTION", ty := .u8, acc := .rw, pers := .system, range := some (0, 1) },
  { index := 0x2004, count := 512, stride := 16, sub := 3, name := "HANG_QUIET_US", units := "us", ty := .u32, acc := .rw, pers := .system,
    dflt := 2000, range := some (1000, 5000) },
  { index := 0x2004, count := 512, stride := 16, sub := 4, name := "HANG_STATUS", ty := .u32 },
  { index := 0x2005, count := 512, stride := 16, sub := 1, name := "STREAM_OPEN", ty := .u16, acc := .wo },
  { index := 0x2005, count := 512, stride := 16, sub := 2, name := "STREAM_CLOSE", ty := .u32, acc := .wo },
  { index := 0x2006, count := 512, stride := 16, sub := 1, name := "SEM_ALLOC", ty := .u64, acc := .wo },
  { index := 0x2006, count := 512, stride := 16, sub := 2, name := "SEM_FREE", ty := .u64, acc := .wo },
  { index := 0x2007, count := 512, stride := 16, sub := 1, subs := 8, name := "DIGEST_ACC_", numbered := true, ty := .u64, acc := .rw,
    pers := .system },
  { index := 0x2008, count := 512, stride := 16, sub := 1, name := "ARRIVAL_STAY", units := "us", ty := .u32, acc := .rw, pers := .system,
    dflt := 20000, range := some (1000, 1000000) },
  { index := 0x2009, count := 512, stride := 16, sub := 1, name := "PNOTICE_RING_BASE", ty := .u64, acc := .rw, pers := .system } ]

/-- Objects of the dictionary in index order, part 8. -/
def objects8 : List ObjDef := [
  { index := 0x2009, count := 512, stride := 16, sub := 2, name := "PNOTICE_RING_LOG2", ty := .u8, acc := .rw, pers := .system, dflt := 8,
    range := some (6, 16) },
  { index := 0x2009, count := 512, stride := 16, sub := 3, name := "PNOTICE_RING_VECTOR", ty := .u16, acc := .rw, pers := .system },
  { index := 0x200C, count := 512, stride := 16, sub := 1, name := "JRN_BASE", ty := .u64, acc := .rw, pers := .system },
  { index := 0x200C, count := 512, stride := 16, sub := 2, name := "JRN_BYTES", units := "bytes", ty := .u64, acc := .rw, pers := .system },
  { index := 0x200C, count := 512, stride := 16, sub := 3, name := "JRN_CLASP_HOME", ty := .u16, acc := .rw, pers := .system, dflt := 65535 },
  { index := 0x200C, count := 512, stride := 16, sub := 4, name := "JRN_REPLAY_QUEUE", ty := .u32, acc := .rw, pers := .system },
  { index := 0x200C, count := 512, stride := 16, sub := 5, name := "JRN_REPLAY_PC", ty := .u64, acc := .rw, pers := .system },
  { index := 0x200C, count := 512, stride := 16, sub := 6, name := "JRN_CMD", ty := .u8, acc := .wo, range := some (1, 1) },
  { index := 0x200C, count := 512, stride := 16, sub := 7, name := "JRN_STATUS", ty := .u32 },
  { index := 0x200C, count := 512, stride := 16, sub := 8, name := "JRN_LAST_STEP", ty := .u64, pers := .system },
  { index := 0x200C, count := 512, stride := 16, sub := 9, name := "JRN_VOTE_SEM", ty := .u64, acc := .rw, pers := .system },
  { index := 0x200C, count := 512, stride := 16, sub := 10, name := "JRN_CLOSE_SEM", ty := .u64, acc := .rw, pers := .system },
  { index := 0x200C, count := 512, stride := 16, sub := 11, name := "JRN_MEMBERS", units := "modules", ty := .u16, acc := .rw, pers := .system },
  { index := 0x200C, count := 512, stride := 16, sub := 12, name := "JRN_CLOSE_LIST", ty := .blob, acc := .rw, pers := .system, max := 131072 },
  { index := 0x200D, count := 512, stride := 16, sub := 1, name := "REPLICA_PEERS", ty := .blob, acc := .rw, pers := .system, max := 126 },
  { index := 0x200D, count := 512, stride := 16, sub := 2, name := "DIGEST_INTERVAL_STEPS", units := "steps", ty := .u32, acc := .rw,
    pers := .system, dflt := 1000 },
  { index := 0x200D, count := 512, stride := 16, sub := 3, name := "DIGEST_INTERVAL_S", units := "s", ty := .u32, acc := .rw,
    pers := .system, dflt := 60 },
  { index := 0x200D, count := 512, stride := 16, sub := 4, name := "DIGEST_ACTION", ty := .u8, acc := .rw, pers := .system, dflt := 1,
    range := some (0, 1) },
  { index := 0x200D, count := 512, stride := 16, sub := 5, name := "DIGEST_LAST_STEP", ty := .u64, pers := .system },
  { index := 0x200D, count := 512, stride := 16, sub := 6, name := "FILL_REQ", ty := .blob, acc := .wo, max := 32, fixed := true },
  { index := 0x200D, count := 512, stride := 16, sub := 7, name := "FILL_STATUS", ty := .u64, pers := .system },
  { index := 0x200E, count := 512, stride := 16, sub := 1, name := "PART_POWER_CLASS", ty := .u8, acc := .sl, pers := .flash, dflt := 3,
    range := some (0, 3) } ]

/-- Every object that the chapters list (20 R517), in index order. -/
def objects : List ObjDef :=
  objects1 ++ objects2 ++ objects3 ++ objects4 ++ objects5 ++ objects6 ++ objects7 ++ objects8

/-- Code of a type (R503). -/
def ObjTy.code : ObjTy → Nat
  | .bool => 1 | .u8 => 2 | .u16 => 3 | .u32 => 4 | .u64 => 5 | .i32 => 6 | .f32 => 7 | .str => 8 | .blob => 9 | .digest => 10 | .time => 11

/-- Size of a type in bytes (R503); 0 where it varies. -/
def ObjTy.size : ObjTy → Nat
  | .bool | .u8 => 1
  | .u16 => 2
  | .u32 | .i32 | .f32 => 4
  | .u64 | .time => 8
  | .digest => 48
  | .str | .blob => 0

/-- Code of an access right (R508). -/
def ObjAcc.code : ObjAcc → Nat | .ro => 0 | .rw => 1 | .wo => 2 | .sl => 3 | .boot => 4
/-- Code of a persistence class (R508). -/
def ObjPers.code : ObjPers → Nat | .fused => 0 | .flash => 1 | .system => 2 | .volatile => 3

/-- Whether an object has an entry at an index and subindex. -/
def ObjDef.has (o : ObjDef) (index sub : Nat) : Bool :=
  o.index ≤ index && (index - o.index) % o.stride = 0 && (index - o.index) / o.stride < o.count && o.sub ≤ sub && sub < o.sub + o.subs

/-- The object that an index and subindex name, if any. -/
def findObj (index sub : Nat) : Option ObjDef := objects.find? (fun (o : ObjDef) => o.has index sub)

/-- Key under which an object's stored value lies. -/
def objKey (index sub : Nat) : Nat := index * 256 + sub

/-- Whether a SEAL object is of module scope (19 R493). -/
def ObjDef.moduleScope (o : ObjDef) : Bool :=
  [("POWER_BUDGET" : String), "PART_POWER_CLASS", "LINK_PEER_ALLOW", "HALYARD_TABLE_D", "MODULE_FAIL_MS"].contains o.name

/-- Default value of an object, in its own encoding. -/
def ObjDef.dfltBytes (o : ObjDef) : List Byte := match o.ty with
  | .str => []
  | .blob => if o.fixed then List.replicate o.max 0 else []
  | t => leBytes t.size o.dflt

/-- Length check of a write (R503). -/
def ObjDef.lengthOk (o : ObjDef) (n : Nat) : Bool := match o.ty with
  | .str => decide (n ≤ o.max)
  | .blob => if o.fixed then decide (n = o.max) else decide (n ≤ o.max)
  | t => decide (n = t.size)

/-- Whether a byte continues a UTF-8 sequence. -/
def utf8Tail (b : Byte) : Bool := bits b 7 6 = 2

/-- Whether bytes are UTF-8 with no zero byte (R503). -/
def utf8Ok : Nat → List Byte → Bool
  | 0, bs => bs.isEmpty
  | n + 1, bs => match bs with
    | [] => true
    | b :: r =>
      if b = 0 then false
      else if b.toNat < 0x80 then utf8Ok n r
      else match r with
        | [] => false
        | c :: r1 =>
          if !utf8Tail c then false
          else if 0xC2 ≤ b.toNat && b.toNat < 0xE0 then utf8Ok n r1
          else match r1 with
            | [] => false
            | e :: r2 =>
              if !utf8Tail e then false
              else if bits b 7 4 = 0xE && !(b = 0xE0 && c.toNat < 0xA0) && !(b = 0xED && 0xA0 ≤ c.toNat) then utf8Ok n r2
              else match r2 with
                | [] => false
                | f :: r3 => 0xF0 ≤ b.toNat && b.toNat < 0xF5 && utf8Tail f && !(b = 0xF0 && c.toNat < 0x90) && !(b = 0xF4 && 0x90 ≤ c.toNat)
                    && utf8Ok n r3

/-- Type check of a value whose length is right (R503). -/
def ObjDef.typeOk (o : ObjDef) (v : List Byte) : Bool := match o.ty with
  | .bool => decide (leNat v ≤ 1)
  | .f32 => bits (BitVec.ofNat 32 (leNat v)) 30 23 ≠ 255
  | .str => utf8Ok v.length v
  | _ => true

/-- Range check of a value (R503, R347): TORUS_DIMS has one range per field, a notice ring's base is 4 KiB aligned (R518). -/
def ObjDef.rangeOk (o : ObjDef) (v : List Byte) : Bool :=
  let n := leNat v
  (match o.range with | some r => decide (r.1 ≤ n) && decide (n ≤ r.2) | none => true)
  && (if o.index = 0x0C82 && o.sub = 1 then
        decide (1 ≤ n % 256) && decide (n % 256 ≤ 16) && decide (1 ≤ n / 256 % 256) && decide (n / 256 % 256 ≤ 32)
          && decide (1 ≤ n / 65536) && decide (n / 65536 ≤ 32)
      else true)
  && (if o.name = "NOTICE_RING_BASE" then decide (n % 4096 = 0) else true)

/-- Why a value is refused for an object (R503), 0 when it is not. -/
def ObjDef.check (o : ObjDef) (v : List Byte) : Cause :=
  if !(o.lengthOk v.length && o.typeOk v) then 0x0162 else if !o.rangeOk v then 0x0163 else 0

/-- The subindices and indices of an object's entries, in order. -/
def ObjDef.entries (o : ObjDef) : List (Nat × Nat) :=
  (List.range o.count).flatMap (fun i => (List.range o.subs).map (fun s => (o.index + i * o.stride, o.sub + s)))

/-! ### The configuration seal (19 R494) -/

/-- Value of a SEAL entry in a configuration. -/
def ConfigImage.value (c : ConfigImage) (o : ObjDef) (index sub : Nat) : List Byte := (c.values.find? (objKey index sub)).getD o.dfltBytes

/-- The system-scope entries in increasing index, then subindex. -/
def sealEntries : List (Nat × Nat × ObjDef) :=
  let all := (objects.filter (fun (o : ObjDef) => o.acc = .sl && !o.moduleScope)).flatMap (fun o => o.entries.map (fun e => (e.1, e.2, o)))
  let put (x : Nat × Nat × ObjDef) (l : List (Nat × Nat × ObjDef)) : List (Nat × Nat × ObjDef) :=
    let before (y : Nat × Nat × ObjDef) : Bool := objKey y.1 y.2.1 < objKey x.1 x.2.1
    l.takeWhile before ++ x :: l.dropWhile before
  all.foldr put []

/-- One entry of the canonical encoding (R494). -/
def sealEntry (index sub : Nat) (v : List Byte) : List Byte :=
  leBytes 2 index ++ [BitVec.ofNat 8 sub, 0] ++ leBytes 4 v.length ++ v

/-- The configuration seal (R494). -/
def ConfigImage.seal' (c : ConfigImage) : BitVec 384 :=
  Config.sha384 (leBytes 8 c.epoch ++ sealEntries.flatMap (fun e => sealEntry e.1 e.2.1 (c.value e.2.2 e.1 e.2.1)))

/-- A configuration with its seal computed. -/
def ConfigImage.closed (c : ConfigImage) : ConfigImage := { c with sealDigest := c.seal' }

/-! ### Rig control blocks (01 R37, R38) -/

/-- The partition that a rig belongs to: its rig, or one enclosing it, is assigned (R38, R46). -/
def Dev.rigPart (d : Dev) (r : BitVec 32) : Option (Nat × Part) :=
  d.parts.first? (fun _ p => p.key ≠ 0 && p.rigs.any (fun g => rigEncloses g r))

/-- CORES_NOMINAL (R37); at L4 and L5 as many members as the last root summary counted, at least this one. -/
def Dev.coresNominal (d : Dev) (r : BitVec 32) : Nat := match rigLevel r with
  | 0 => 1
  | 1 => 8
  | 2 => 64
  | 3 => 512
  | _ => 512 * max 1 ((d.boot.summary.filter (fun m => rigHolds r m.1 0)).length)

/-- STACK_BYTES (R37, R244). -/
def Dev.stackBytes (d : Dev) (r : BitVec 32) : Nat :=
  ((d.coresOf r).map (fun c => if d.inService c then 0x4000000 - 0x200000 * (d.core c).pairsOut else 0)).foldl (· + ·) 0 + d.peerSum r 0x18 8

/-- Whether a rig shows DEGRADED (R38). -/
def Dev.degraded (d : Dev) (r : BitVec 32) : Bool :=
  decide (d.coresActive r < d.coresNominal r) || (d.peersOf r).any (fun p => p.field 4 4 / 2 ^ 27 % 2 = 1) || (d.coresOf r).any (fun c => (d.core c).retiredPairs ≠ 0)
  || (3 ≤ rigLevel r && (!d.mem.hubRetired.isEmpty || d.ports.any (fun p => p.2.retiredLanes ≠ 0) || d.pkg.ucie.any (fun u => u.2.retired)
        || !d.pkg.diesOut.isEmpty))
  || (rigLevel r = 2 && (let k := bits r 14 12
        ((List.range 4).any (fun i => (d.ports.get {} (4 * k + i)).retiredLanes ≠ 0))
          || ((List.range 8).map (8 * k + ·) ++ (List.range 4).map (64 + 4 * k + ·) ++ (List.range 4).map (64 + (k + 7) % 8 * 4 + ·)).any (fun l => !d.linkWorks l)))

/-- RIG_STATUS (R38). -/
def Dev.rigStatus (d : Dev) (r : BitVec 32) : Nat :=
  let p := d.rigPart r
  (d.rigState r).code * 2 ^ 28 + b2n (d.degraded r) * 2 ^ 27 + b2n (d.rig (rigIndex r)).retained * 2 ^ 26 + b2n p.isSome * 2 ^ 25
    + (match p with | some (_, x) => b2n x.job.isSome * 2 ^ 24 | none => 0)
    + (((d.coresOf r).filter (fun c => 64 ≤ d.physical c && d.inService c)).length
        + ((d.peersOf r).map (fun p => p.field 4 4 / 65536 % 256)).foldl (· + ·) 0) % 256 * 2 ^ 16
    + (match p with | some (i, _) => i % 512 | none => 0)

/-- POWER_GRANT of a rig in watts (R37, R404). -/
def Dev.powerGrant (d : Dev) (r : BitVec 32) : Nat := match rigLevel r with
  | 0 => ceilDiv (d.coreCost (bits r 14 6)) 8
  | 1 => d.clusterGrant (bits r 14 9)
  | 2 => ((List.range 8).map (fun i => d.clusterGrant (bits r 14 12 * 8 + i))).foldl (· + ·) 0
  | _ => d.poolGranted + d.peerSum r 0x2C 4

/-- POWER_REQ of a rig (R37, R407): as written or shared out, or its default while neither. -/
def Dev.rigReq (d : Dev) (r : BitVec 32) : Nat := (d.rig (rigIndex r)).powerReq.getD (defaultReq (d.coresActive r))

/-- A counter of a rig: the sum over its cores (R38). -/
def Dev.rigCount (d : Dev) (r : BitVec 32) (f : RigCounters → Nat) : Nat := ((d.coresOf r).map (fun c => f (d.core c).cnt)).foldl (· + ·) 0

/-- Queues bound to a rig (R37), those of an L4 or L5 rig that other modules hold as last reported. -/
def Dev.queueCount (d : Dev) (r : BitVec 32) : Nat :=
  (d.fe.queues.filter (fun q => q.2.state ≠ .free && q.2.rig = r)).length
    + ((d.peersOf r).map (fun p => if rigLevel r = 4 then p.groupQueues else p.systemQueues)).foldl (· + ·) 0

/-- The RCB of a rig (R37), 128 bytes; that of an L4 or L5 rig with what the other modules last reported (R38). -/
def Dev.rcb (d : Dev) (r : BitVec 32) : List Byte :=
  let cs := d.coresOf r
  let act := d.coresActive r
  let qs := d.fe.queues.filter (fun q => q.2.state ≠ .free && q.2.rig = r)
  let whole := 3 ≤ rigLevel r
  leBytes 4 r.toNat ++ leBytes 4 (d.rigStatus r) ++ leBytes 4 act ++ leBytes 4 (d.coresNominal r) ++ leBytes 8 (0x400000 * act)
    ++ leBytes 8 (d.stackBytes r) ++ leBytes 4 (8 * act) ++ leBytes 4 (d.queueCount r) ++ leBytes 4 (d.rigReq r) ++ leBytes 4 (d.powerGrant r)
    ++ [BitVec.ofNat 8 ((cs.map d.powerClass ++ (d.peersOf r).map (·.field 0x30 1)).foldl max 0),
        BitVec.ofNat 8 ((cs.map (fun c => (d.corePower c).reef) ++ (d.peersOf r).map (·.field 0x31 1)).foldl max 0), 0, 0]
    ++ leBytes 4 0 ++ leBytes 8 (d.rigCount r (·.busy) + d.peerSum r 0x38 8) ++ leBytes 8 (d.rigCount r (·.tileOps) + d.peerSum r 0x40 8)
    ++ leBytes 8 (d.rigCount r (·.squashed) + d.peerSum r 0x48 8)
    ++ leBytes 8 (d.rigCount r (·.stale) + (if whole then d.fe.stale else 0) + d.peerSum r 0x50 8)
    ++ leBytes 8 (d.rigCount r (·.retries) + (if whole then (d.rig 584).retries else 0) + d.peerSum r 0x58 8)
    ++ leBytes 8 (d.rig (rigIndex r)).resetCount ++ leBytes 2 (match qs with | q :: _ => q.1 | [] => 0xFFFF) ++ List.replicate 22 0

/-- QUEUE_STATE of a queue (R519). -/
def Queue.stateBytes (q : Queue) : List Byte :=
  ([match q.state with | .active => 0 | .error => 1 | _ => 2, 0, 0, 0] : List Byte) ++ leBytes 4 q.fetched.toNat ++ leBytes 4 q.tail.toNat ++ leBytes 4 q.records

/-! ### Values (R504) -/

/-- Links (12 R338, R339). -/
def Dev.linkValue (d : Dev) (p sub : Nat) : Nat :=
  let x := d.port p
  match sub with
  | 1 => x.state.code * 2 ^ 28 + x.activeLanes.toNat * 2 ^ 24 + x.retiredLanes.toNat * 2 ^ 20 + b2n x.encOn * 2 ^ 19 + x.peerPort.toNat * 2 ^ 14
      + x.peerModule.toNat
  | 3 => x.peerKey.toNat
  | 8 => x.replays
  | 9 => x.tm.delay.toNat
  | 10 => x.tm.offset.toNat
  | 11 => x.framesLost
  | _ => 0

/-- Counters of a port (13 R371). -/
def Dev.portCounter (d : Dev) (p sub : Nat) : Nat :=
  let c := d.fab.ports.get {} p
  if sub ≤ 8 then c.txPkts.get 0 (sub - 1)
  else if sub ≤ 16 then c.txBytes.get 0 (sub - 9)
  else if sub ≤ 24 then c.rxPkts.get 0 (sub - 17)
  else if sub ≤ 32 then c.rxBytes.get 0 (sub - 25)
  else match sub with
    | 33 => c.deflect
    | 34 => c.expired
    | 35 => c.keyDrops
    | _ => c.noSlot

/-- Counters of a switch (13 R371); injection queue 6 is the hub's, 7 to 14 are C0 to C7. -/
def Dev.switchCounter (d : Dev) (k sub : Nat) : Nat :=
  let s := d.switch k
  let q (i : Nat) : InjQueue := s.inj.get {} (i + 6)
  if sub ≤ 9 then (q (sub - 1)).q.length
  else if sub ≤ 18 then (q (sub - 10)).max
  else if sub ≤ 27 then (q (sub - 19)).stall
  else match sub with
    | 28 => s.ejectMax
    | 29 => s.detours
    | 30 => s.detourDrops
    | 31 => s.restamps
    | 32 => s.halyardDrops
    | _ => s.hcrcDrops

/-- Routing and pair order (13 R370, R371). -/
def Dev.fabricValue (d : Dev) (index sub : Nat) : Nat :=
  if index = 0x0C80 then (if sub = 1 then d.fab.epoch else d.routeState)
  else match sub with
    | 1 => d.fab.reorderBytes
    | 2 => d.fab.reorderMax
    | 3 => d.fab.lostRx
    | 4 => d.fab.lostTx
    | _ => d.fab.reorderFull

/-- Power, cooling and time (15 R422). -/
def Dev.powerValue (d : Dev) (index sub : Nat) : Nat :=
  let p := d.power
  match index, sub with
  | 0x1000, 2 => d.budgetEff
  | 0x1000, 3 => d.poolGranted
  | 0x1000, 4 => p.wakes.length
  | 0x1000, 5 => p.holdUs
  | 0x1000, 6 => p.avg100.last.toNat
  | 0x1000, _ => p.avg1s.last.toNat
  | 0x1001, 2 => p.reefFloor
  | 0x1001, _ => p.budgetFloor + p.enforcement * 16 + max d.inputFloor (if p.coolantHold then 7 else 0) * 256
  | 0x1004, 1 => p.coolMode
  | 0x1004, 2 => p.outletSet.toNat
  | 0x1004, 3 => p.valveMin.toNat
  | 0x1004, 4 => p.valveFixed.toNat
  | 0x1004, 5 => (p.sensors.get { value := 0x42C80000 } 247).value.toNat
  | 0x1004, 6 => (p.sensors.get {} 244).value.toNat
  | 0x1004, 7 => (p.sensors.get {} 245).value.toNat
  | 0x1004, _ => (p.sensors.get {} 246).value.toNat
  | 0x1008, 1 => d.tm.state
  | 0x1008, 2 => d.tm.root.toNat
  | 0x1008, _ => d.tm.wraps.toNat
  | _, _ => 0

/-- Reliability (17 R466). -/
def Dev.relValue (d : Dev) (index sub : Nat) : Nat :=
  let state (p : Pair) : Nat := if p.retired then 3 else if p.restarting then 2 else if p.unchecked then 1 else 0
  match index, sub with
  | 0x1801, _ => ((List.range 32).map (fun i =>
      if d.pkg.sparesUsed.contains i || d.pkg.retiredCores.contains (i / 4 * 68 + 64 + i % 4) then 0 else 2 ^ i)).foldl (· + ·) 0
  | 0x1802, 1 => state d.rel.security + state d.rel.system * 16 + b2n d.rel.sysRole * 256 + b2n (!d.rel.secRole) * 512
  | 0x1802, s => d.rel.counters.get 0 (0x20 + s)
  | 0x1803, _ => b2n d.rel.running.isSome + b2n d.rel.waiting.isSome
  | _, s => d.rel.counters.get 0 s

/-- Bring-up, configuration, memories, host link (19 R500, 20 R518, R519, 21 R535). -/
def Dev.moduleValue (d : Dev) (index sub : Nat) : Nat :=
  let c := d.cfg
  let b := d.boot
  match index, sub with
  | 0x0000, 1 => 1
  | 0x0000, _ => (objects.map (fun (o : ObjDef) => if o.stride = 16 && o.name ≠ "PART_KEY" then o.subs * (d.parts.filter (fun p => p.2.key ≠ 0)).length
      else o.count * o.subs)).foldl (· + ·) 0
  | 0x0010, 1 => c.force.epoch
  | 0x0010, 2 => c.force.sealDigest.toNat
  | 0x0010, 3 => (c.staged.map (fun (x : ConfigImage) => x.epoch)).getD 0
  | 0x0010, 4 => ((c.staged.map (fun (x : ConfigImage) => x.sealDigest)).getD 0).toNat
  | 0x0010, 5 => (c.previous.map (fun (x : ConfigImage) => x.epoch)).getD 0
  | 0x0010, 10 => (if c.armed.isSome then 2 else if c.staged.isSome then 1 else 0) * 2 ^ 28 + c.lastCause.toNat
  | 0x0010, _ => c.switchTime.toNat
  | 0x0020, _ => d.dict.udpDiscards
  | 0x0100, _ => b.serial.toNat
  | 0x0110, _ => d.signetMask.toNat
  | 0x0120, _ => b2n b.activeB + 2 * b2n b.romRecovery + 4 * b2n b.b3Fetched + b.fwCause.toNat * 65536
  | 0x0200, _ => b2n d.host.linkUp * 2 ^ 28 + Nat.log2 d.host.width * 2 ^ 24 + d.host.rate
  | 0x0210, 1 => (d.fe.rings.get {} 0).base.toNat
  | 0x0210, 2 => (d.fe.rings.get {} 0).log2.toNat
  | 0x0210, 3 => (d.fe.rings.get {} 0).vector.toNat
  | 0x0210, 4 => (d.fe.rings.get {} 0).tail % 2 ^ 32
  | 0x0210, _ => (d.fe.rings.get {} 0).drops
  | 0x0300, 1 => if d.host.isAnchor then 1 else if d.host.anchorKnown && d.host.standby = d.id then 2 else 0
  | 0x0300, 3 => if d.host.anchorKnown then d.host.anchor.toNat else 0xFFFF
  | 0x0300, 4 => if d.host.anchorKnown && d.host.standby ≠ d.host.anchor then d.host.standby.toNat else 0xFFFF
  | 0x0300, 5 => (d.host.mastMembers.map (fun m => 2 ^ m.1)).foldl (· + ·) 0
  | 0x0300, _ => (d.host.mastMembers.map (fun m => if m.2 then 2 ^ m.1 else 0)).foldl (· + ·) 0
  | 0x0700, 1 => d.rst.lastCause.toNat
  | 0x0700, _ => d.rst.lastTime.toNat
  | 0x0780, 1 => b.moduleId.toNat
  | 0x0780, 2 => b.moduleIdCfg.toNat
  | 0x0780, 3 => b2n b.censusOrigin
  | 0x0780, 4 => b.censusState
  | 0x0780, 5 => b.systemModules
  | 0x0780, _ => b.censusCount
  | 0x0800, 1 => d.mappableTop
  | 0x0800, 2 => ((List.range 16).map (fun k => if d.mem.mapOut.contains k || d.mem.chanRetired.contains k then 0 else 2 ^ k)).foldl (· + ·) 0
  | 0x0800, 3 => 0x10000000 - 0x100000 * d.mem.hubRetired.length
  | 0x0800, _ => 0x1000000 - 0x100000 * (d.mem.hubRetired.filter (240 ≤ ·)).length
  | 0x1400, 3 => b2n d.sec.reentry.isSome * 2 ^ 28 + d.sec.lastCause.toNat
  | 0x1400, _ => d.sec.tableDigest.toNat
  | _, _ => 0

/-- Whether a job load of a partition waits (JOB_STATUS LOADING; R434, R480). -/
def Dev.loadHeld (d : Dev) (i : Nat) : Bool := d.sec.held.any (fun r => match r with | .load p .. => p == i | _ => false)

/-- Numbers among a partition's objects (R396, R422, R441, R481, R521); `k` is the index within its 16. -/
def Dev.partValue (d : Dev) (i k sub : Nat) : Nat :=
  let p := d.part i
  let j := p.jrn
  let ring := d.fe.rings.get {} (4097 + i)
  match k, sub with
  | 0x0, 1 => p.key.toNat
  | 0x0, _ => (if d.loadHeld i then 1 else if p.job.isSome then 2 else 0) * 2 ^ 28 + p.jobCause.toNat
  | 0x2, _ => b2n p.consent.set + 2 * p.consent.scope.toNat
  | 0x4, 2 => p.hang.action
  | 0x4, 3 => p.hang.quietUs
  | 0x4, _ => b2n p.hang.closed * 2 ^ 31 + p.hang.blocked % 65536
  | 0x7, s => (p.digestAcc.get 0 (s - 1)).toNat
  | 0x8, _ => p.arrivalStay
  | 0x9, 1 => ring.base.toNat
  | 0x9, 2 => ring.log2.toNat
  | 0x9, _ => ring.vector.toNat
  | 0xC, 1 => j.base.toNat
  | 0xC, 2 => j.bytes.toNat
  | 0xC, 3 => j.claspHome.toNat
  | 0xC, 4 => j.replayQueue.toNat
  | 0xC, 5 => j.replayPc.toNat
  | 0xC, 7 => j.phase * 2 ^ 28 + j.decision
  | 0xC, 8 => j.lastStep
  | 0xC, 9 => j.voteSem.toNat
  | 0xC, 10 => j.closeSem.toNat
  | 0xC, _ => j.members.toNat
  | 0xD, 2 => j.digestSteps
  | 0xD, 3 => j.digestSeconds
  | 0xD, 4 => j.digestAction
  | 0xD, 5 => j.digestLast
  | 0xD, _ => j.fillBytes % 2 ^ 48 + j.fillGaps % 65536 * 2 ^ 48
  | _, _ => 0

/-- BLOBs and strings that the state holds or computes. -/
def Dev.blobValue (d : Dev) (o : ObjDef) (index sub : Nat) : List Byte :=
  let i := (index - 0x2000) / 16
  let t := d.rel.packs.get {} (index - 0x1811)
  let fw (m : KMap FwImage) : List Byte := [1, 2, 3].flatMap (fun s => leBytes 4 (m.get {} s).version ++ leBytes 2 (m.get {} s).svn)
  match o.name with
  | "MGMT_MAC" => 2 :: (leBytes 5 d.boot.serial.toNat).reverse
  | "ORDERING_CODE" => (if d.full then "GKY-25A-F" else "GKY-25A-S").toList.map (fun c => BitVec.ofNat 8 c.toNat)
  | "STEPPINGS" => List.replicate 25 0x10 ++ List.replicate 7 0
  | "SIGNET_" => d.signetStore.getD (sub - 1) []
  | "FW_VERSION" => fw d.boot.bankA ++ fw d.boot.bankB
  | "VF_BIND" => (List.range 4096).flatMap (fun v => leBytes 2 (d.host.binds.get 0 (v + 1)))
  | "PARTITION_TABLE" => d.sec.setup.table
  | "KEY_SLOT_MAP" => d.sec.setup.slotMap
  | "IDENTITY_PUBKEY" => leBytes 96 d.sec.identityKey.toNat
  | "HALLMARK_OUT" => d.sec.hallmark
  | "TENANT_KEY" => (d.part i).tenantKey
  | "CONSENT_NONCE" => leBytes 32 (d.part i).consent.nonce.toNat
  | "HALLMARK_OUT_P" => (d.part i).hallmark
  | "REL_RETIRED_CORES" => d.pkg.retiredCores.flatMap (fun n => leBytes 2 (n % 68 + n / 68 * 256))
  | "REL_RETIRED_BANKS" =>
      (List.range 512).flatMap (fun c => ((List.range 32).filter (bit (d.core c).retiredPairs)).flatMap (fun p => leBytes 4 ((coreRig d.id c).toNat + p)))
        ++ d.mem.hubRetired.flatMap (fun b => leBytes 4 (0xFFFFFF00 + b))
  | "TESTPACK_HDR" => t.header
  | "JRN_CLOSE_LIST" => (d.part i).jrn.closeList.flatMap (fun w => leBytes 8 w.toNat)
  | "REPLICA_PEERS" => (d.part i).jrn.peers.flatMap (fun m => leBytes 2 m.toNat)
  | _ => []

/-- Value of a port key entry (13 R355, R370). -/
def Dev.portKeyValue (d : Dev) (p k : Nat) : Nat := match (d.port p).keyTable.find? k with
  | some v => 65536 + v.toNat
  | none => 0

/-- Value of a stored test pack's objects (17 R466). -/
def TestPack.value (t : TestPack) (sub : Nat) : Nat := match sub with
  | 2 => t.runs
  | 3 => t.fails
  | 4 => t.lastFail.toNat
  | _ => t.lastRun.toNat

/-- Value of a numeric object that is not stored as bytes. -/
def Dev.numValue (d : Dev) (index sub : Nat) : Nat :=
  if 0x2000 ≤ index then d.partValue ((index - 0x2000) / 16) (index % 16) sub
  else if 0x0C20 ≤ index && index < 0x0C40 then d.linkValue (index - 0x0C20) sub
  else if 0x1420 ≤ index && index < 0x1440 then d.portKeyValue (index - 0x1420) (sub - 1)
  else if 0x1C20 ≤ index && index < 0x1C40 then d.portCounter (index - 0x1C20) sub
  else if 0x1C40 ≤ index && index < 0x1C48 then d.switchCounter (index - 0x1C40) sub
  else if index = 0x0C80 || index = 0x1C48 then d.fabricValue index sub
  else if 0x1010 ≤ index && index < 0x1110 then
    (let s := d.power.sensors.get {} (index - 0x1010)
     if sub = 1 then s.value.toNat else s.time.toNat)
  else if 0x1811 ≤ index && index < 0x1819 then (d.rel.packs.get {} (index - 0x1811)).value sub
  else if 0x1000 ≤ index && index < 0x1010 then d.powerValue index sub
  else if 0x1800 ≤ index && index < 0x1804 && (index ≠ 0x1800 || 3 ≤ sub) then d.relValue index sub
  else d.moduleValue index sub

/-- Objects that are plain storage: their value lies in the dictionary (R505). -/
def ObjDef.stored (o : ObjDef) : Bool :=
  [("MGMT_UDP_PORT" : String), "MGMT_UDP_MODE", "MGMT_PLCA_ID", "MGMT_PLCA_NODES", "REL_SCRUB_PERIOD_S", "REL_DRAM_SCRUB_PERIOD_S", "TESTPACK_PERIOD_S",
   "TESTPACK_EN", "ANCHOR_PRIORITY", "MAST_SHARED_HOST"].contains o.name

/-- The value of an object that a read returns (R504), in its own encoding. -/
def Dev.objValue (d : Dev) (o : ObjDef) (index sub : Nat) (select : BitVec 32) : List Byte :=
  if o.acc = .sl then d.cfg.force.value o index sub
  else if o.stored then (d.dict.values.find? (objKey index sub)).getD o.dfltBytes
  else if o.name = "RCB" then d.rcb select
  else if o.name = "POWER_REQ" then leBytes 4 (d.rigReq select)
  else if o.name = "QUEUE_STATE" then (d.fe.queues.get {} (bits select 11 0)).stateBytes
  else match o.ty with
    | .blob | .str => d.blobValue o index sub
    | t => leBytes t.size (d.numValue index sub)

end Sys2Proof.Machine
end

