-- ==== Sys2Proof/Machine/Bringup.lean ====
section
/-!
DEFINITION. Bring-up, firmware and configuration (19 R483 to R501), power sequencing and the pins (21 R537 to R540, 00 R13), the system
census.
-/
namespace Sys2Proof.Machine

/-! ### Loss of module power (R13, R538, R540) -/

/-- What is left of a core when its power goes: its retirement records (17 R454). -/
def Core.cold (k : Core) : Core := { retiredPairs := k.retiredPairs, offline := k.offline, finding := k.finding }

/-- What is left of the module when its power goes: fuses, firmware flash and retirement records. Channels retired leave the interleave map,
which is laid out afresh (09 R247). -/
def Dev.cold (d : Dev) : Dev :=
  { time := d.time, fresh := d.fresh, full := d.full, signetMask := d.signetMask
    mem := { hubRetired := d.mem.hubRetired, mapOut := d.mem.chanRetired.foldl NSet.insert d.mem.mapOut }
    cores := d.cores.mapv (fun _ (k : Core) => k.cold)
    ports := (List.range 32).foldl (fun (m : KMap Port) p => m.set p { state := .disabled, retiredLanes := (d.port p).retiredLanes }) []
    pkg := { ucie := d.pkg.ucie.mapv (fun _ (u : Ucie) => { retired := u.retired }), physical := d.pkg.physical
             retiredCores := d.pkg.retiredCores, sparesUsed := d.pkg.sparesUsed }
    sec := { signets := d.sec.signets, vendorKey := d.sec.vendorKey, identityKey := d.sec.identityKey, secret := d.sec.secret }
    rel := { packs := d.rel.packs, packSerial := d.rel.packSerial, packKey := d.rel.packKey }
    rst := { lastCause := d.rst.lastCause, lastTime := d.rst.lastTime }
    boot := { bankA := d.boot.bankA, bankB := d.boot.bankB, activeB := d.boot.nextB, nextB := d.boot.nextB, svn := d.boot.svn
              moduleIdCfg := d.boot.moduleIdCfg, censusOrigin := d.boot.censusOrigin, serial := d.boot.serial, fwKey := d.boot.fwKey }
    cfg := d.cfg
    dict := { values := d.dict.values.keep (fun k _ => k / 256 = 0x0020 || k / 256 = 0x0300) }
    pins := d.pins, out := d.out }

/-- Module power is lost: what it held but for fuses and flash is gone; the standby domain, where it stays up, keeps the cause. -/
def Dev.powerLost (d : Dev) (cause : Cause) (overvolt : Bool) : Dev :=
  let c := d.cold
  { c with pins := { c.pins with pwrGood := false, lossCause := if c.pins.standby then some cause else none, lossOvervolt := c.pins.standby && overvolt } }

/-- The cause that the module keeps of a loss to which the spec gives no code: some code, no success and not that of another loss (R13;
free value, log 50). -/
def lossCode (x : BitVec 256) : Cause :=
  let n := 1 + x.toNat % 65534
  BitVec.ofNat 16 (if n < 0x0605 then n else n + 1)

/-- POWER_INPUT_OVERVOLT (R538): the power stage turns off. -/
def powerInputOvervolt (now : Time) (d : Dev) : Dev :=
  let d := (d.advance now).powerLost 0x0605 true
  { d with pins := { d.pins with overvolt := true, input54 := false } }

/-- OVERVOLT_RESTART (R538): the input has stayed in range for 1 s; power-on begins again. -/
def overvoltRestart (now : Time) (d : Dev) : Dev :=
  let d := d.advance now
  if !d.pins.overvolt then d
  else { d with pins := { d.pins with overvolt := false, input54 := true, pwrGood := d.pins.pwrEn } }

/-- INPUT_POWER_REMOVED (R13, R540): no cause code is stated for this loss. -/
def inputPowerRemoved (now : Time) (d : Dev) : Dev :=
  let x := (d.advance now).draw
  let d := x.2.powerLost (lossCode x.1) false
  { d with pins := { d.pins with input54 := false } }

/-- STANDBY_POWER_UP (R539 step 1): the standby domain starts, and the sequencing window opens. -/
def standbyPowerUp (now : Time) (d : Dev) : Dev :=
  let d := d.advance now
  if d.pins.standby then d else { d with pins := { d.pins with standby := true, input54 := true } }

/-- PWR_EN_ASSERT (R539 steps 3 and 4): the rails come into regulation and PWR_GOOD is asserted, while both inputs are in range. -/
def pwrEnAssert (now : Time) (d : Dev) : Dev :=
  let d := d.advance now
  if !d.pins.standby || d.pins.pwrGood then d
  else { d with pins := { d.pins with pwrEn := true, pwrGood := d.pins.input54 } }

/-- INPUT_RANGE_LOST_IN_SEQUENCING (R539): PWR_GOOD is held low. -/
def inputRangeLostInSequencing (now : Time) (d : Dev) : Dev :=
  let d := d.advance now
  if !d.pins.standby || d.boot.phase ≠ 0 then d else { d with pins := { d.pins with input54 := false, pwrGood := false } }

/-- INPUT_RANGE_RESTORED_IN_SEQUENCING (R539): back in range for 10 ms, step 4 begins again. -/
def inputRangeRestoredInSequencing (now : Time) (d : Dev) : Dev :=
  let d := d.advance now
  if !d.pins.standby || d.boot.phase ≠ 0 || d.pins.overvolt || d.pins.input54 then d
  else { d with pins := { d.pins with input54 := true, pwrGood := d.pins.pwrEn } }

/-- Every entry completed whose steps the module can still take. -/
def Dev.completeAll (d : Dev) (now : Time) : Dev :=
  d.fe.queues.foldl (fun (d : Dev) q => (List.range q.2.flight.length).foldl (fun (d : Dev) _ => entryEnd q.1 now d) d) d

/-- PWR_EN_FALL (R540): every entry ends with 0x0930, RESET_ANNOUNCE goes out, the ports are disabled, PWR_GOOD falls; DRAM is lost. No
cause code is stated for this loss. -/
def pwrEnFall (now : Time) (d : Dev) : Dev :=
  let d := d.advance now
  if !d.pins.pwrEn then d
  else
    let d := if d.boot.phase = 3 then
        let d := ((List.range 512).foldl (fun (d : Dev) c => d.dropEntry c 0x0930) d).completeAll now
        d.emit (.halyard0 1 [d.id.toNat] [])
      else d
    let x := d.draw
    let d := x.2.powerLost (lossCode x.1) false
    { d with pins := { d.pins with pwrEn := false } }

/-- Whether ALERT_N is asserted (R536): a notice of class permanent or higher is unread. -/
def Dev.alert (d : Dev) : Bool := d.fe.held.any (fun h => 2 ≤ h.n.cls.toNat) || d.fe.rings.any (fun r => !r.2.alerts.isEmpty)

/-! ### Power-on (R486) -/

/-- Cores that the census finds: those not held out are IDLE (R486 steps 6 and 7). -/
def Dev.startRigs (d : Dev) : Dev :=
  (List.range 512).foldl (fun (d : Dev) c => if (d.core c).offline then d else d.modRig c (fun g => { g with state := .idle })) d

/-- A package link that has trained or failed (01 R18): at 32 GT/s, at 16 where `slow`, retired where `dead`. -/
def Dev.trainLink (slow dead : List Nat) (d : Dev) (l : Nat) : Dev :=
  if !d.linkWorks l then d else if dead.contains l then d.retireUcie l else d.ucieUp l (if slow.contains l then 16 else 32)

/-- B3 in service: the core logic test retires the cores that fail it, and the rigs start. -/
def Dev.startCores (d : Dev) (bist : List Nat) : Dev :=
  if (d.boot.stageImage 3).isNone then d
  else
    let d := d.startRigs
    let d := (bist.filter (fun c => !(d.core c).offline)).foldl (fun (d : Dev) c => d.offlineCore c 0) d
    (List.range 512).foldl Dev.spareOrLose d

/-- POWER_ON (R486): the cold power-on sequence. `slow` and `dead` are the package links that train at 16 GT/s only and not at all,
`badChans` the DRAM channels that do not train, `bist` the cores that fail the logic test. -/
def powerOn (slow dead : List (Fin 96)) (badChans : List (Fin 16)) (bist : List (Fin 512)) (now : Time) (d : Dev) : Dev :=
  if !d.pins.standby || !d.pins.pwrEn || !d.pins.input54 || d.boot.phase ≠ 0 then d.advance now
  else
    let loss := d.pins
    let x := (d.advance now).cold.draw
    let d := x.2
    let d := { d with
      sec := { d.sec with bootNonce := x.1.toNat, tableDigest := Config.sha384 ({} : Setup).bytes }
      pins := { d.pins with pwrGood := true, lossCause := none, lossOvervolt := false }
      rst := (match loss.lossCause with | some c => { d.rst with lastCause := c, lastTime := d.time } | none => d.rst)
      fe := if loss.lossOvervolt then { d.fe with held := [{ ring := 0, n := { code := 0x0605, rig := moduleRig d.id, time := d.time } }] } else d.fe }
    let d := d.bootStages
    if d.boot.romRecovery then d
    else
      let d := d.checkSignets
      let d := (List.range 96).foldl (Dev.trainLink (slow.map (·.val)) (dead.map (·.val))) d
      let d := (badChans.map (·.val)).foldl Dev.retireChannel d
      let d := { d with mem := { d.mem with mapOut := d.mem.chanRetired.foldl NSet.insert d.mem.mapOut, chanRetired := [], dramOn := true } }
      let d := (d.startCores (bist.map (·.val))).census
      let d := { d with boot := { d.boot with moduleId := d.boot.startId, censusState := if d.boot.startId = 0xFFFF then 0 else 1 } }
      let d := { d with ports := (List.range 32).foldl (fun (m : KMap Port) p => m.upd {} p (fun (x : Port) => { x with state := .detect })) d.ports }
      (List.range 32).foldl (fun (d : Dev) p => d.emit (.training p)) d.applyConfig

/-! ### Firmware (R484 to R487) -/

/-- A field of a firmware image's header (R484). -/
def fwField (b : List Byte) (off n : Nat) : Nat := leNat ((b.drop off).take n)

/-- Whether an image passes R484, its SVN apart. -/
def Dev.fwOk (d : Dev) (b : List Byte) : Bool :=
  let f := fwField b
  decide (160 ≤ b.length) && f 0 4 = 0x4957464B && decide (1 ≤ f 4 1) && decide (f 4 1 ≤ 3) && decide (f 0xC 4 ≤ 0x2000000)
    && f 0xC 4 + 160 = b.length && BitVec.ofNat 384 (f 0x10 48) = Config.sha384 (b.drop 160)
    && Config.verifySig d.boot.fwKey (leBytes 48 (Config.sha384 (b.take 0x40)).toNat) ((b.drop 0x40).take 96)

/-- An image written into the inactive bank of its stage. -/
def Dev.fwStore (d : Dev) (b : List Byte) : Dev :=
  let f := fwField b
  let i : FwImage := { valid := true, version := f 8 4, svn := f 6 2, digest := Config.sha384 b }
  if d.boot.activeB then { d with boot := { d.boot with bankA := d.boot.bankA.set (f 4 1) i } }
  else { d with boot := { d.boot with bankB := d.boot.bankB.set (f 4 1) i } }

/-- A firmware refusal: answered where the image was written here, recorded in FW_STATUS. -/
def Dev.fwRefuse (d : Dev) (here : Bool) (c : Cause) : Dev :=
  let d := { d with boot := { d.boot with fwCause := c } }
  if here then d.reply c 0 0 else d

/-- FW_PUSH (R487): `here` where the image is written to this module, `bcast` where that is through the physical function with the
broadcast flag; otherwise it arrives over halyard 0. -/
def fwPush (b : List Byte) (here bcast : Bool) (now : Time) (d : Dev) : Dev :=
  let d := d.advance now
  if !d.fwOk b then d.fwRefuse here 0x0740
  else if fwField b 6 2 < d.boot.svn.get 0 (fwField b 4 1) then d.fwRefuse here 0x0741
  else
    let d := d.fwStore b
    let d := if here && bcast then d.emit (.halyard0 4 [] b) else d
    if here then d.reply 0 0 0 else d

/-- FW_ACTIVATE (R487): the bank that the next module reset boots. -/
def fwActivate (v : Nat) (now : Time) (d : Dev) : Dev :=
  let d := d.advance now
  if 1 < v then d.reply 0x0163 0 0 else ({ d with boot := { d.boot with nextB := v = 1 } }).reply 0 0 0

/-- FW_SVN_COMMIT (R487): every stage's floor rises to the SVN of the active image, by the 64 steps that it has, and never falls. -/
def fwSvnCommit (v : Nat) (now : Time) (d : Dev) : Dev :=
  let d := d.advance now
  if v ≠ 1 then d.reply 0x0163 0 0
  else
    let svn := [1, 2, 3].foldl (fun (m : KMap Nat) s => match d.boot.stageImage s with
      | some i => m.set s (max (m.get 0 s) (min 64 i.svn))
      | none => m) d.boot.svn
    ({ d with boot := { d.boot with svn := svn } }).reply 0 0 0

/-- B3_FETCH (R485): the parent's active B3 image, verified and written into the inactive bank; the cores then start. -/
def b3Fetch (b : List Byte) (now : Time) (d : Dev) : Dev :=
  let d := d.advance now
  if d.boot.phase ≠ 3 || d.boot.censusState ≠ 2 || (d.boot.stageImage 3).isSome then d
  else if !d.fwOk b || fwField b 4 1 ≠ 3 || fwField b 6 2 < d.boot.svn.get 0 3 then d.fwRefuse false 0x0740
  else
    let d := d.fwStore b
    (({ d with boot := { d.boot with b3Fetched := true } }).startCores []).census

/-! ### The system census (R489 to R492, 21 R531, R533) -/

/-- CENSUS_ORIGIN_TIMEOUT (R489): no peer has announced an ID 100 ms after the first port became ACTIVE; the origin takes ID 0. -/
def censusOriginTimeout (now : Time) (d : Dev) : Dev :=
  let d := d.advance now
  match d.boot.firstActive with
  | none => d
  | some t =>
    if !d.boot.censusOrigin || d.boot.moduleId ≠ 0xFFFF || !reached d.time t (ms 100) ||
        d.ports.any (fun p => p.2.state = .active && p.2.peerAssigned) then d
    else d.gainId 0

/-- CENSUS_CLAIM (R491): a child names the port on which this module reaches it; that output joins the child mask, and the claim is
acknowledged. -/
def censusClaim (port : Nat) (src : BitVec 14) (now : Time) (d : Dev) : Dev :=
  let d := d.advance now
  if (d.port port).cableBad then d
  else (({ d with boot := { d.boot with childPorts := d.boot.childPorts.insert port, children := d.boot.children.insert src.toNat } }).applyHalyards).mgmt
    src 0x15 [] []

/-- What the root gathers of a module (R491), with what the members of a mast group need to choose their anchor (21 R533). -/
structure CensusEntry where
  module : BitVec 14 := 0
  serial : BitVec 64 := 0
  mask : BitVec 32 := 0
  epoch : Nat := 0
  cores : Nat := 0
  priority : Nat := 128
  linkUp : Bool := false
  complete : Bool := false
  deriving DecidableEq, Repr

/-- This module's own entry. -/
def Dev.censusEntry (d : Dev) : CensusEntry :=
  { module := d.id, serial := d.boot.serial, mask := d.signetMask, epoch := d.cfg.force.epoch, cores := d.coresIn
    priority := d.dictNat 0x0300 2 128, linkUp := d.host.linkUp, complete := d.boot.censusState = 2 }

/-- The member that is to be anchor among some (21 R533): lowest priority, then lowest ID. -/
def bestAnchor (es : List CensusEntry) : Option CensusEntry := match es with
  | [] => none
  | e :: es => some (es.foldl (fun (a b : CensusEntry) =>
      if b.priority < a.priority || (b.priority = a.priority && b.module.toNat < a.module.toNat) then b else a) e)

/-- The present members of this module's mast group, and the choice of anchor and standby (21 R531, R533). -/
def Dev.chooseAnchor (d : Dev) (es : List CensusEntry) : Dev :=
  let here := es.filter (fun e => e.complete && e.module.toNat / 64 = d.id.toNat / 64)
  let up := here.filter (·.linkUp)
  let first := !d.host.anchorKnown
  let members := here.foldl (fun (m : KMap Bool) e => m.set (e.module.toNat % 64) e.linkUp) []
  let held := match d.host.forced with | some m => up.find? (fun e => e.module = m) | none => none
  let a := match held with | some e => some e | none => bestAnchor up
  let s := match a with | some x => bestAnchor (up.filter (fun e => e.module ≠ x.module)) | none => none
  let pick (x : Option CensusEntry) (old : BitVec 14) : BitVec 14 := match x with | some e => e.module | none => old
  let d := { d with host := { d.host with
      forced := if held.isSome then d.host.forced else none, mastMembers := members, standby := pick s (pick a d.host.standby) } }
  match a with
  | none => d
  | some e =>
    if first then ({ d with host := { d.host with anchorKnown := true, anchor := e.module, isAnchor := decide (e.module = d.id) } }).passHeld
    else
      let sb := d.host.standby
      let d := d.anchorTo e.module
      { d with host := { d.host with standby := sb } }

/-- The first two modules of a list that report one ID. -/
def duplicateId : List CensusEntry → Option (CensusEntry × CensusEntry)
  | [] => none
  | e :: es => match es.find? (·.module = e.module) with
    | some f => some (e, f)
    | none => duplicateId es

/-- CENSUS_SUMMARY (R6, R491): every 1 s, at the root the data gathered from the other modules, at another module the root's summary. -/
def censusSummary (es : List CensusEntry) (now : Time) (d : Dev) : Dev :=
  let d := d.advance now
  let root := d.boot.moduleId ≠ 0xFFFF && d.boot.parentPort.isNone && decide (d.tm.root = d.id)
  let es : List CensusEntry := if root then d.censusEntry :: es else es
  let n := es.length
  let d := { d with boot := { d.boot with
    systemModules := n, summarySeen := true, summary := es.map (fun (e : CensusEntry) => (e.module, e.serial, e.cores)) } }
  let d := if root then d.emit (.halyard0 5 [n] []) else d
  let d := match root, duplicateId es with
    | true, some (a, b) => d.notice 0x0963 0 a.serial.toNat b.serial.toNat
    | _, _ => d
  let mine := d.boot.moduleId ≠ 0xFFFF && es.any (fun e => e.module = d.id && e.serial.toNat < d.boot.serial.toNat)
  let d := if mine then { d with boot := { d.boot with moduleId := 0xFFFF, censusState := 0 } } else d
  let above := !bit d.signetMask 2 && decide (1024 < n)
  let d := if above && !d.overSignet then d.notice 0x0411 0 0 0 else d
  (({ d with overSignet := above }).chooseAnchor es).censusCheck

/-- The census begins again (R498): after a change of TORUS_DIMS or AUX_DIR. -/
def Dev.recensus (d : Dev) : Dev :=
  let b := d.boot
  let d := { d with boot := { b with
    moduleId := b.startId, censusState := if b.startId = 0xFFFF then 0 else 1, children := [], childPorts := [], summarySeen := false
    claimAcked := false } }
  ((List.range 32).foldl Dev.cableCheck d.deriveId).applyHalyards

/-! ### The configuration (R496 to R499) -/

/-- A configuration request refused: CONFIG_STATUS keeps the cause. -/
def Dev.cfgRefuse (d : Dev) (here : Bool) (c : Cause) : Dev :=
  let d := { d with cfg := { d.cfg with lastCause := c } }
  if here then d.reply c 0 0 else d

/-- A configuration request accepted. -/
def Dev.cfgDone (d : Dev) (here : Bool) : Dev :=
  let d := { d with cfg := { d.cfg with lastCause := 0 } }
  if here then d.reply 0 0 0 else d

/-- SEAL_OBJECT_WRITE (R497, R504). -/
def sealObjectWrite (index sub : Nat) (v : List Byte) (now : Time) (d : Dev) : Dev :=
  let d := d.advance now
  match findObj index sub with
  | none => d.reply 0x0160 0 0
  | some o =>
    if o.acc ≠ .sl then d.reply 0x0161 0 0
    else if d.cfg.armed.isSome then d.cfgRefuse true 0x0972
    else match o.check v with
      | 0 =>
        let c := d.cfg.staged.getD { d.cfg.force with epoch := d.cfg.force.epoch + 1 }
        ({ d with cfg := { d.cfg with staged := some ({ c with values := c.values.set (objKey index sub) v }).closed } }).cfgDone true
      | c => d.reply c 0 0

/-- The entries of a configuration image (R497), and what follows them. -/
def imageEntries : Nat → List Byte → Option (List (Nat × Nat × List Byte) × List Byte)
  | 0, bs => some ([], bs)
  | n + 1, bs =>
    let len := leNat ((bs.drop 4).take 4)
    if bs.length < 8 + len || leNat ((bs.drop 3).take 1) ≠ 0 then none
    else (imageEntries n (bs.drop (8 + len))).map (fun r =>
      ((leNat (bs.take 2), leNat ((bs.drop 2).take 1), (bs.drop 8).take len) :: r.1, r.2))

/-- An image read (R497): its epoch, its entries, and its broadcast flag. -/
def imageOf (b : List Byte) : Option (Nat × List (Nat × Nat × List Byte) × Bool) :=
  if b.length < 12 then none
  else match imageEntries (leNat ((b.drop 8).take 4)) (b.drop 12) with
    | some (es, [f]) => some (leNat (b.take 8), es, bit f 0)
    | _ => none

/-- CONFIG_PUSH (R497). `here` where it is written to this module, `pf` where that is through the physical function. -/
def configPush (b : List Byte) (here pf : Bool) (now : Time) (d : Dev) : Dev :=
  let d := d.advance now
  if d.cfg.armed.isSome then d.cfgRefuse here 0x0972
  else match imageOf b with
    | none => d.cfgRefuse here 0x0970
    | some (epoch, es, flag) =>
      let bad (e : Nat × Nat × List Byte) : Bool := match findObj e.1 e.2.1 with
        | some o => o.acc ≠ .sl || o.moduleScope || o.check e.2.2 ≠ 0
        | none => true
      if epoch ≠ d.cfg.force.epoch + 1 || es.any bad then d.cfgRefuse here 0x0970
      else
        let vs := es.foldl (fun (m : KMap (List Byte)) e => m.set (objKey e.1 e.2.1) e.2.2) d.cfg.force.values
        let c : ConfigImage := { epoch := epoch, values := vs }
        let d := { d with cfg := { d.cfg with staged := some c.closed } }
        let d := if here && pf && flag then d.emit (.halyard0 6 [] b) else d
        d.cfgDone here

/-- CONFIG_DISCARD (R497). -/
def configDiscard (v : Nat) (now : Time) (d : Dev) : Dev :=
  let d := d.advance now
  if v ≠ 1 then d.reply 0x0163 0 0
  else if d.cfg.armed.isSome then d.cfgRefuse true 0x0972
  else ({ d with cfg := { d.cfg with staged := none } }).cfgDone true

/-- Whether two configurations differ in TORUS_DIMS or AUX_DIR. -/
def torusDiffers (a b : ConfigImage) : Bool := [0x0C8201, 0x0C8202].any (fun k => a.values.find? k ≠ b.values.find? k)

/-- Whether some partition holds rigs on this module. -/
def Dev.partsHere (d : Dev) : Bool := d.parts.any (fun p => p.2.key ≠ 0 && p.2.rigs.any (fun r => rigModule r = d.id || 4 ≤ rigLevel r))

/-- CONFIG_ARM (R498): epoch, time and expected seal, with the broadcast flag after them. -/
def configArm (b : List Byte) (here : Bool) (now : Time) (d : Dev) : Dev :=
  let d := d.advance now
  let f (o n : Nat) : Nat := leNat ((b.drop o).take n)
  let t : Time := BitVec.ofNat 64 (f 8 8)
  match d.cfg.staged with
  | none => d.cfgRefuse here 0x0971
  | some s =>
    if f 0 8 ≠ s.epoch || BitVec.ofNat 384 (f 16 48) ≠ s.sealDigest || !timeAhead d.time t (ms 1) then d.cfgRefuse here 0x0971
    else if d.cfg.armed.isSome then d.cfgRefuse here 0x0972
    else if torusDiffers s d.cfg.force && d.partsHere then d.cfgRefuse here 0x0973
    else
      let d := { d with cfg := { d.cfg with armed := some t, switchTime := t } }
      let d := if here && f 64 1 % 2 = 1 then d.emit (.halyard0 7 [] b) else d
      d.cfgDone here

/-- CONFIG_CANCEL (R498): refused when T lies less than 1 ms ahead. -/
def configCancel (v : Nat) (now : Time) (d : Dev) : Dev :=
  let d := d.advance now
  if v ≠ 1 then d.reply 0x0163 0 0
  else match d.cfg.armed with
    | none => d.cfgDone true
    | some t => if timeAhead d.time t (ms 1) then ({ d with cfg := { d.cfg with armed := none } }).cfgDone true else d.cfgRefuse true 0x0972

/-- CONFIG_SWITCH (R498): at T the staged configuration comes into force, and the one in force becomes the previous one; a change of the
torus reruns the census. -/
def configSwitch (now : Time) (d : Dev) : Dev :=
  let d := d.advance now
  match d.cfg.armed, d.cfg.staged with
  | some t, some s =>
    if !timeLe t d.time then d
    else
      let torus := torusDiffers s d.cfg.force
      let d := ({ d with cfg := { d.cfg with force := s, staged := none, previous := some d.cfg.force, armed := none, switchTime := t } }).applyConfig.unstickChanged d.cfg.force
      if torus then d.recensus else d
  | _, _ => d

/-- System-scope values of a configuration under the module-scope values of another (R493, R499). -/
def systemScope (c own : ConfigImage) : ConfigImage :=
  let sys (k : Nat) : Bool := match findObj (k / 256) (k % 256) with | some o => !o.moduleScope | none => false
  let vs := (c.values.keep (fun k _ => sys k)).foldl (fun (m : KMap (List Byte)) e => m.set e.1 e.2) (own.values.keep (fun k _ => !sys k))
  ({ c with values := vs } : ConfigImage).closed

/-- CONFIG_SYNCED (R499): the parent's configuration in force, and its staged and armed state, adopted at once where this module's differs
and the difference is not excused. -/
def configSynced (force : ConfigImage) (staged : Option ConfigImage) (armed : Option Time) (now : Time) (d : Dev) : Dev :=
  let d := d.advance now
  let new := systemScope force d.cfg.force
  if d.boot.parentPort.isNone || d.boot.parentMatch || (new.epoch = d.cfg.force.epoch && new.sealDigest = d.cfg.force.sealDigest) then d
  else
    let old := d.cfg.force
    let d := ({ d with
      cfg := { d.cfg with force := new, staged := staged.map (fun c => systemScope c old), armed := armed, switchTime := armed.getD d.cfg.switchTime }
      boot := { d.boot with parentMatch := true } }).applyConfig.unstickChanged old
    let d := d.notice 0x0974 0 old.epoch new.epoch
    (if torusDiffers new old then d.recensus else d).censusCheck

end Sys2Proof.Machine
end

