-- ==== Sys2Proof/Machine/Dict.lean ====
section
/-!
DEFINITION. The dictionary's service (20 R502 to R516, R522): requests and responses, who may reach what, versions, segmented transfers,
and what a write of each object does.
-/
namespace Sys2Proof.Machine

/-! ### Requesters and messages (R507, R511) -/

/-- Who makes a request (R511): the physical function, a virtual one with the key of its partition, the management pair of another module,
a peer on the segment. A function's request that the anchor forwards is the function's. -/
inductive Requester where
  | pf
  | vf (func : Nat) (key : BitVec 16)
  | mgmt (src : BitVec 14)
  | udp (peer : Nat)
  deriving DecidableEq, Repr

/-- A number for a transport and source, under which responses are kept and segmented writes are owned (R510, R515). -/
def Requester.code : Requester → Nat
  | .pf => 0
  | .vf f _ => 4 * f
  | .mgmt m => 4 * m.toNat + 1
  | .udp p => 4 * p + 2

/-- The function that a request counts as: a virtual one's queues and rings are its own, any other's the physical one's. -/
def Requester.func : Requester → Nat
  | .vf f _ => f
  | _ => 0

/-- A request (R507). -/
structure DictReq where
  op : Nat := 1
  txn : Nat := 0
  index : Nat := 0
  sub : Nat := 0
  seg : Bool := false
  last : Bool := false
  select : BitVec 32 := 0
  offset : Nat := 0
  total : Nat := 0
  vtag : BitVec 32 := 0
  payload : List Byte := []
  deriving DecidableEq, Repr

/-- What a response says (R507). -/
structure DictAns where
  status : Cause := 0
  seg : Bool := false
  last : Bool := false
  offset : Nat := 0
  total : Nat := 0
  vtag : BitVec 32 := 0
  payload : List Byte := []
  deriving DecidableEq, Repr

/-- What the rest of the system answers while a write is served: the home of a REMOTE page (R256), the modules with a REMOTE leaf of a page, what
the image of a job uses (pair mode, a 4-bit format) and the other modules say of it (R264), the modules that hold rigs of each partition of a set-up (R433). -/
structure WriteEnv where
  home : Option Bool := none
  remote : List (BitVec 14) := []
  pair : Bool := false
  four : Bool := false
  others : List LoadReport := []
  members : KMap (List (BitVec 14)) := []
  deriving DecidableEq, Repr

/-- A message's header field. -/
def msgField (b : List Byte) (off n : Nat) : Nat := leNat ((b.drop off).take n)

/-- A request read from a message (R507); none where the header is malformed. `limit` is the transport's largest message. -/
def dictParse (limit : Nat) (b : List Byte) : Option DictReq :=
  let f := msgField b
  if b.length < 32 || limit < b.length || f 0 1 ≠ 1 || 4 ≤ f 7 1 || f 0x1C 4 ≠ 0 || b.length < 32 + f 0x14 2 then none
  else some { op := f 1 1, txn := f 2 2, index := f 4 2, sub := f 6 1, seg := f 7 1 % 2 = 1, last := f 7 1 / 2 = 1
              select := BitVec.ofNat 32 (f 8 4), offset := f 0xC 4, total := f 0x10 4, vtag := BitVec.ofNat 32 (f 0x18 4)
              payload := (b.drop 32).take (f 0x14 2) }

/-- The 32-byte header of a response and its payload (R507). -/
def dictMessage (op txn index sub : Nat) (select : BitVec 32) (a : DictAns) : List Byte :=
  ([1, BitVec.ofNat 8 (op + 0x80)] : List Byte) ++ leBytes 2 txn ++ leBytes 2 index ++ leBytes 1 sub ++ leBytes 1 (b2n a.seg + 2 * b2n a.last)
    ++ leBytes 4 select.toNat ++ leBytes 4 a.offset ++ leBytes 4 a.total ++ leBytes 2 a.payload.length ++ leBytes 2 a.status.toNat
    ++ leBytes 4 a.vtag.toNat ++ leBytes 4 0 ++ a.payload

/-- The response to a request. -/
def DictReq.answer (r : DictReq) (a : DictAns) : List Byte := dictMessage r.op r.txn r.index r.sub r.select a

/-- The response to a message that cannot be served, its header's fields copied as far as they are there. -/
def rawAnswer (b : List Byte) (status : Cause) : List Byte :=
  dictMessage (msgField b 1 1) (msgField b 2 2) (msgField b 4 2) (msgField b 6 1) (BitVec.ofNat 32 (msgField b 8 4)) { status := status }

/-! ### Versions (R510) -/

/-- Key of an object's version: the selected rig or queue and Index.Sub. -/
def tagKey (select : BitVec 32) (index sub : Nat) : Nat := select.toNat * 2 ^ 24 + objKey index sub

/-- The value under a version's key. -/
def Dev.valueAt (d : Dev) (k : Nat) : List Byte := match findObj (k / 256 % 65536) (k % 256) with
  | some o => d.objValue o (k / 256 % 65536) (k % 256) (BitVec.ofNat 32 (k / 2 ^ 24))
  | none => []

/-- Versions brought up to date (R510): each value that differs from what it last was counts one version more. -/
def Dev.retag (d : Dev) : Dev :=
  { d with dict := { d.dict with vtags := d.dict.vtags.mapv (fun k (t : VTag) =>
    if d.valueAt k = t.seen then t else { tag := t.tag + 1, seen := d.valueAt k }) } }

/-- The version of a value (R510). At the first request for it, it is 1 where nothing but the dictionary changes the value; otherwise it is a
free value, since the changes before it were not counted. -/
def Dev.tagOf (d : Dev) (o : ObjDef) (k : Nat) : Dev :=
  match d.dict.vtags.find? k with
  | some _ => d
  | none =>
    let fixed := o.pers = .fused || o.acc = .wo || o.stored
    let x := if fixed then ((1 : BitVec 256), d) else d.draw
    { x.2 with dict := { x.2.dict with vtags := x.2.dict.vtags.set k { tag := x.1.truncate 32, seen := x.2.valueAt k } } }

/-- The version that a response carries. -/
def Dev.version (d : Dev) (k : Nat) : BitVec 32 := (d.dict.vtags.get {} k).tag

/-! ### Rights and selectors (R504, R506, R511, R520, R522) -/

/-- The partition whose block holds an index (R520). -/
def partBlock (index : Nat) : Option Nat := if 0x2000 ≤ index && index < 0x4000 then some ((index - 0x2000) / 16) else none

/-- Local index of a virtual function's partition. -/
def Dev.reqPart (d : Dev) (key : BitVec 16) : Option Nat := if key = 0 then none else d.partOfKey key

/-- Whether a selected object's rig is assigned to a partition (R511). -/
def Dev.selPart (d : Dev) (kind : Nat) (select : BitVec 32) (p : Nat) : Bool := match kind with
  | 1 => (match d.rigPart select with | some (i, _) => decide (i = p) | none => false)
  | 2 => decide ((d.fe.queues.get {} (bits select 11 0)).part = p)
  | _ => false

/-- Whether a requester may read an object (R511). -/
def Dev.reqRead (d : Dev) (q : Requester) (o : ObjDef) (index : Nat) (select : BitVec 32) : Bool := match q with
  | .pf | .mgmt _ => true
  | .vf _ key => match d.reqPart key with
    | none => false
    | some p => decide (index < 0x200) || partBlock index = some p || d.selPart o.sel select p
  | .udp _ => !(0x1400 ≤ index && index < 0x1800) && !(0x2000 ≤ index && index < 0x4000) && decide (index < 0xF000)

/-- Whether a requester may write an object (R511, R526). -/
def Dev.reqWrite (d : Dev) (q : Requester) (o : ObjDef) (index sub : Nat) : Bool := match q with
  | .pf => true
  | .mgmt _ => !(index = 0x1400 && sub ≤ 2) && !(index = 0x0020 && sub = 2) && index ≠ 0x0220
  | .vf _ key => match d.reqPart key with
    | none => false
    | some p => partBlock index = some p && o.acc ≠ .sl && o.acc ≠ .boot
  | .udp _ => d.dictNat 0x0020 2 0 = 1 && ((0x0400 ≤ index && index < 0x1400) || (0x1800 ≤ index && index < 0x2000))

/-- Whether a requester may reach an object at all (R508): read it or write it, with some selector. -/
def Dev.reqReach (d : Dev) (q : Requester) (o : ObjDef) (index sub : Nat) : Bool :=
  d.reqRead q o index 0 || d.reqWrite q o index sub || (o.sel ≠ 0 && (match q with | .vf _ key => (d.reqPart key).isSome | _ => false))

/-- Whether a partition's object exists now (R520): while its index is free, PART_KEY alone does. -/
def Dev.objExists (d : Dev) (index sub : Nat) : Bool := match partBlock index with
  | some p => decide ((d.part p).key ≠ 0) || (index % 16 = 0 && sub = 1)
  | none => true

/-- Whether a selector is valid for an object's kind (R506). -/
def Dev.selectOk (d : Dev) (kind : Nat) (select : BitVec 32) : Bool := match kind with
  | 1 => d.rigCheck select = 0
  | 2 => (match d.fe.queues.find? (bits select 11 0) with
      | some q => bits select 31 18 = 0 && q.gen.toNat = bits select 17 12 && q.state ≠ .free
      | none => false)
  | _ => select = 0

/-- A request to the diagnostic range (R522): it is served only for a rig that nobody holds, to the physical function, or under DIAG consent
of the partition that holds it. The model's firmware release has no diagnostic objects (DEDUCED, log entry 36). -/
def Dev.diagnostic (d : Dev) (q : Requester) (select : BitVec 32) : Cause :=
  let open' : Bool := match d.rigPart select with
    | none => decide (q = .pf)
    | some (_, p) => p.consent.set && bit p.consent.scope 1
  match q with
  | .udp _ => 0x0161
  | _ => if d.rigCheck select ≠ 0 then 0x0166 else if open' then 0x0160 else 0x0732

/-- The object that a request names, or why the request is refused before the object acts (R506, R508, R517, R520, R522). -/
def Dev.reqObject (d : Dev) (q : Requester) (r : DictReq) : Except Cause ObjDef :=
  if 0xF000 ≤ r.index then .error (d.diagnostic q r.select)
  else match findObj r.index r.sub with
    | none => .error 0x0160
    | some o =>
      if !d.objExists r.index r.sub then .error 0x0160
      else if (r.op ≠ 4 || o.sel = 0) && !d.selectOk o.sel r.select then .error 0x0166
      else .ok o

/-! ### Reads (R504, R508, R509) -/

/-- Counters that hold the highest value since the last read start again (13 R371). -/
def Dev.sampled (d : Dev) (index sub : Nat) : Dev :=
  if 0x1C40 ≤ index && index < 0x1C48 then
    d.modSwitch (index - 0x1C40) (fun (s : Switch) =>
      if 10 ≤ sub && sub ≤ 18 then { s with inj := s.inj.upd {} (sub - 10 + 6) (fun (i : InjQueue) => { i with max := i.q.length }) }
      else if sub = 28 then { s with ejectMax := d.ejecting (index - 0x1C40) }
      else s)
  else if index = 0x1C48 && sub = 2 then { d with fab := { d.fab with reorderMax := d.fab.reorderBytes } }
  else d

/-- The answer of a read of a value (R509): whole, or a segment of it. -/
def readAnswer (room : Nat) (r : DictReq) (v : List Byte) (tag : BitVec 32) : DictAns :=
  if !r.seg then
    if room < v.length then { status := 0x0165, total := v.length, vtag := tag } else { total := v.length, vtag := tag, payload := v }
  else if r.vtag ≠ 0 && r.vtag ≠ tag then { status := 0x0168, total := v.length, vtag := tag }
  else
    let part := (v.drop r.offset).take room
    { seg := true, last := v.length ≤ r.offset + part.length, offset := r.offset, total := v.length, vtag := tag, payload := part }

/-- READ and READ_STAGED served (R504, R508, R509, R511). -/
def Dev.serveRead (d : Dev) (q : Requester) (staged : Bool) (room : Nat) (r : DictReq) : Dev × DictAns :=
  match d.reqObject q r with
  | .error c => (d, { status := c })
  | .ok o =>
    if !d.reqRead q o r.index r.select || o.acc = .wo || (staged && o.acc ≠ .sl) then (d, { status := 0x0161 })
    else
      let k := tagKey r.select r.index r.sub
      let d := d.retag.tagOf o k
      let d := if o.name = "RCB" then d.gather r.select else d
      let v := if staged then (d.cfg.staged.getD d.cfg.force).value o r.index r.sub else d.objValue o r.index r.sub r.select
      (d.sampled r.index r.sub, readAnswer room r v (d.version k))

/-! ### DESCRIBE and NEXT (R508) -/

/-- ASCII text in a field of `n` bytes. -/
def asciiField (n : Nat) (s : String) : List Byte :=
  let t := (s.toList.map (fun c => BitVec.ofNat 8 c.toNat)).take n
  t ++ List.replicate (n - t.length) 0

/-- Last part of the name of one of several objects: C0 to C7 after SW_INJ_DEPTH_C, and so on. -/
def ObjDef.nameAt (o : ObjDef) (sub : Nat) : String := if o.numbered then o.name ++ toString (sub - o.sub) else o.name

/-- The 64 bytes of DESCRIBE. -/
def ObjDef.describe (o : ObjDef) (sub : Nat) : List Byte :=
  let text := match o.ty with | .blob | .str => true | _ => false
  leBytes 1 o.ty.code ++ leBytes 1 o.acc.code ++ leBytes 1 o.pers.code ++ leBytes 1 o.sel
    ++ leBytes 4 (if text then o.max else o.ty.size) ++ leBytes 8 (if text then 0 else o.dflt) ++ asciiField 32 (o.nameAt sub) ++ asciiField 16 o.units

/-- DESCRIBE served. -/
def Dev.serveDescribe (d : Dev) (q : Requester) (r : DictReq) : DictAns :=
  match d.reqObject q r with
  | .error c => { status := c }
  | .ok o => if d.reqReach q o r.index r.sub then { total := 64, payload := o.describe r.sub } else { status := 0x0161 }

/-- The first entry after a key that a requester may reach. -/
def Dev.nextObject (d : Dev) (q : Requester) (key : Nat) : Option Nat :=
  let ks := objects.flatMap (fun (o : ObjDef) => (o.entries.filter (fun e =>
    key < objKey e.1 e.2 && d.objExists e.1 e.2 && d.reqReach q o e.1 e.2)).map (fun e => objKey e.1 e.2))
  match ks with
  | [] => none
  | x :: xs => some (xs.foldl min x)

/-- NEXT served. -/
def Dev.serveNext (d : Dev) (q : Requester) (r : DictReq) : DictAns :=
  match d.nextObject q (objKey r.index r.sub) with
  | some k => { total := 4, payload := leBytes 2 (k / 256) ++ leBytes 1 (k % 256) ++ [0] }
  | none => { status := 0x0160 }

/-! ### The rings of notices (11 R310, R518) -/

/-- A field of a notice ring that a write configures. -/
inductive RingField where
  | base (v : Word)
  | log2 (v : BitVec 8)
  deriving DecidableEq, Repr

/-- A ring configured: its tail and head become 0 and its phase 1 (R518); the notices that waited for it are written. -/
def Dev.ringConfig (d : Dev) (ring : Nat) (f : RingField) : Dev :=
  let set (r : NoticeRing) : NoticeRing := match f with
    | .base v => { r with base := v, tail := 0, head := 0, alerts := [] }
    | .log2 v => { r with log2 := v, tail := 0, head := 0, alerts := [] }
  let d := { d with fe := { d.fe with rings := d.fe.rings.upd {} ring set } }
  d.drainNotices ring 257

/-- Number of the notice ring that an object configures (R518, R521): the physical function's, or a partition's. -/
def ringOf (part : Option Nat) : Nat := match part with | some p => 4097 + p | none => 0

/-- NOTICE_RING_CONFIG (R518, R521): a write of a ring's base, 4 KiB aligned, or of its size, 6 to 16. -/
def noticeRingConfig (part : Option Nat) (f : RingField) (now : Time) (d : Dev) : Dev :=
  let d := d.advance now
  let ok := match f with
    | .base v => decide (v.toNat % 4096 = 0)
    | .log2 v => decide (6 ≤ v.toNat) && decide (v.toNat ≤ 16)
  if !ok then d.reply 0x0163 0 0 else (d.ringConfig (ringOf part) f).reply 0 0 0

/-! ### The mast group (21 R534) -/

/-- Takeover by the standby anchor at the host's request (21 R534): on the standby itself, and on a member that hears of it. -/
def anchorTakeover (here : Bool) (value : Nat) (now : Time) (d : Dev) : Dev :=
  let d := d.advance now
  if here && value ≠ 1 then d.reply 0x0163 0 0
  else
    let go := d.host.anchorKnown && d.host.standby ≠ d.host.anchor && (!here || d.host.standby = d.id)
    let d := if go then
        (let d := { d with host := { d.host with forced := some d.host.standby } }
         let d := if here then d.emit (.halyard0 8 [d.host.standby.toNat] []) else d
         d.anchorTo d.host.standby)
      else d
    if here then d.reply 0 0 0 else d

/-! ### The protection set-up as bytes (16 R432, R433) -/

/-- Rig lists of some partitions, and what follows them. -/
def takeRigs : Nat → List Byte → List (List (BitVec 32)) × List Byte
  | 0, b => ([], b)
  | n + 1, b =>
    let k := leNat (b.take 4)
    let r := takeRigs n (b.drop (4 + 4 * k))
    ((List.range (min k 512)).map (fun i => BitVec.ofNat 32 (leNat ((b.drop (4 + 4 * i)).take 4))) :: r.1, r.2)

/-- Valid entries of the port key tables, 64 words a port. -/
def takePorts (b : List Byte) : KMap (KMap (BitVec 16)) :=
  (List.range 32).foldl (fun (m : KMap (KMap (BitVec 16))) p =>
    let es := (List.range 64).foldl (fun (t : KMap (BitVec 16)) k =>
      let w := leNat ((b.drop (256 * p + 4 * k)).take 4)
      if 65536 ≤ w then t.set k (BitVec.ofNat 16 w) else t) []
    if es.isEmpty then m else m.set p es) []

/-- The set-up that bytes spell in the canonical encoding of R432, if they spell one; what stands in reserved bits and at free indices of
the partition table is ignored (R10). `members` are the modules of each partition. -/
def parseSetup (members : KMap (List (BitVec 14))) (b : List Byte) : Option Setup :=
  let idx := (List.range 512).filter (fun i => leNat ((b.drop (64 * i)).take 2) ≠ 0)
  let rigs := takeRigs idx.length (b.drop 32768)
  let keys := rigs.2.drop 2048
  let part (x : (Nat × List (BitVec 32)) × Nat) : SetupPart :=
    let e := b.drop (64 * x.1.1)
    let f (o n : Nat) : Nat := leNat ((e.drop o).take n)
    { index := x.1.1, pkey := BitVec.ofNat 16 (f 0 2), slotFirst := f 2 2, slotCount := f 4 2, debugAllowed := f 6 1 % 2 = 1, root := f 8 8
      rigsDigest := BitVec.ofNat 384 (f 16 48), rigs := x.1.2, tenantKey := (keys.drop (96 * x.2)).take 96, modules := members.get [] (f 0 2) }
  let s : Setup := { parts := (idx.zip rigs.1).zipIdx.map part, ports := takePorts (keys.drop (96 * idx.length)) }
  if s.bytes.length = b.length && s.bytes.drop 32768 = b.drop 32768 then some s else none

/-! ### Writes (R504, R508 to R511) -/

/-- What an action answers: its first reply is taken out of what leaves the module. -/
def Dev.ask (d : Dev) (f : Dev → Dev) : Dev × Option (Cause × Word × List Byte) :=
  let x := f { d with out := [] }
  let reply? (o : Output) : Option (Cause × Word × List Byte) := match o with | .reply c a _ b => some (c, a, b) | _ => none
  ({ x with out := d.out ++ x.out.filter (fun o => (reply? o).isNone) }, x.out.findSome? reply?)

/-- A field of a partition's journal objects set (14 R396). -/
def Dev.setJrn (d : Dev) (p : Nat) (f : Journal → Journal) : Dev := d.modPart p (fun q => { q with jrn := f q.jrn })

/-- A value stored, where the dictionary is all that holds the object. -/
def Dev.keep (d : Dev) (index sub : Nat) (v : List Byte) : Dev := { d with dict := { d.dict with values := d.dict.values.set (objKey index sub) v } }

/-- Words of `n` bytes. -/
def splitWords (n : Nat) (b : List Byte) : List Nat := (List.range (b.length / n)).map (fun i => leNat ((b.drop (n * i)).take n))

/-- A write of an object of the module that has passed R503 (R504): what it does, by the rules of the object's own chapter. -/
def Dev.actModule (d : Dev) (q : Requester) (env : WriteEnv) (o : ObjDef) (index sub : Nat) (select : BitVec 32) (v : List Byte) (now : Time) : Dev :=
  let n := leNat v
  let pow (f : PowerState → PowerState) : Dev := { d with power := f d.power }
  let pf := decide (q = .pf)
  match o.name with
  | "CONFIG_PUSH" => configPush v true pf now d
  | "CONFIG_ARM" => configArm v true now d
  | "CONFIG_CANCEL" => configCancel n now d
  | "CONFIG_DISCARD" => configDiscard n now d
  | "SIGNET_INSTALL" => signetInstall v now d
  | "FW_PUSH" =>
    let flagged := fwField v 0xC 4 + 161 = v.length
    fwPush (if flagged then v.dropLast else v) true (pf && flagged && bit (v.getLastD 0) 0) now d
  | "FW_ACTIVATE" => fwActivate n now d
  | "FW_SVN_COMMIT" => fwSvnCommit n now d
  | "NOTICE_RING_BASE" => noticeRingConfig none (.base (BitVec.ofNat 64 n)) now d
  | "NOTICE_RING_LOG2" => noticeRingConfig none (.log2 (BitVec.ofNat 8 n)) now d
  | "NOTICE_RING_VECTOR" => { d with fe := { d.fe with rings := d.fe.rings.upd {} 0 (fun (r : NoticeRing) => { r with vector := BitVec.ofNat 16 n }) } }
  | "VF_BIND" => { d with host := { d.host with binds := ((splitWords 2 v).zipIdx.filter (fun x => x.1 ≠ 0)).map (fun x => (x.2 + 1, x.1)) } }
  | "ANCHOR_TAKEOVER" => anchorTakeover true n now d
  | "POWER_REQ" => powerReqWrite select n now d
  | "RESET_VERB" => resetClear select n now d
  | "MODULE_ID_CFG" => { d with boot := { d.boot with moduleIdCfg := BitVec.ofNat 16 n } }
  | "CENSUS_ORIGIN" => { d with boot := { d.boot with censusOrigin := n = 1 } }
  | "LINK_CMD" =>
    let p := index - 0x0C20
    if n = 1 then linkCmdRetrain p now d else if n = 2 then linkCmdFullTrain p now d else if n = 3 then linkCmdDisable p now d
    else linkCmdEnable p now d
  | "ROUTE_ARM_TIME" => routeArmTime (BitVec.ofNat 64 n) now d
  | "ROUTE_STAGE_D" => routeStage (sub - 1) v now d
  | "POWER_HOLD_US" => pow (fun p => { p with holdUs := n })
  | "REEF_FLOOR" => pow (fun p => { p with reefFloor := n })
  | "COOL_MODE" => pow (fun p => { p with coolMode := n })
  | "COOL_OUTLET_SET" => pow (fun p => { p with outletSet := BitVec.ofNat 32 n })
  | "VALVE_MIN" => pow (fun p => { p with valveMin := BitVec.ofNat 32 n })
  | "VALVE_FIXED" => pow (fun p => { p with valveFixed := BitVec.ofNat 32 n })
  | "PROTECT_STAGE" => match parseSetup env.members v with
    | some s => protectStage s now d
    | none => d.reply 0x0162 0 0
  | "PROTECT_COMMIT" => protectCommit (BitVec.ofNat 384 (leNat (v.take 48))) (BitVec.ofNat 64 (msgField v 48 8)) now d
  | "HALLMARK_REQ" => hallmarkReq (BitVec.ofNat 256 n) now d
  | "TESTPACK_PUSH" => testpackPush true v now d
  | _ => d.keep index sub v

/-- A write of an object of partition `p` that has passed R503 (R521, R396, R441, R481). -/
def Dev.actPart (d : Dev) (q : Requester) (env : WriteEnv) (o : ObjDef) (p sub : Nat) (v : List Byte) (now : Time) : Dev :=
  let n := leNat v
  let w : Word := BitVec.ofNat 64 n
  let f := msgField v
  let ring (g : NoticeRing → NoticeRing) : Dev := { d with fe := { d.fe with rings := d.fe.rings.upd {} (4097 + p) g } }
  match o.name with
  | "JOB_LOAD" => jobLoad p (f 0 8) (f 8 8) env.pair env.four env.others now d
  | "JOB_UNLOAD" => jobUnload p n now d
  | "MAP_REQ" => mapReq p (f 0 8) (f 8 8) (f 16 2) (f 18 1) (f 19 1) env.home now d
  | "UNMAP_REQ" => unmapReq p (f 0 8) (f 8 1) env.remote now d
  | "CONSENT_TOKEN" => consentToken p v now d
  | "KEY_ERASE" => keyErase p n now d
  | "HALLMARK_REQ_P" => hallmarkReqP p (BitVec.ofNat 256 n) now d
  | "QUEUE_CREATE" => queueCreate p q.func v now d
  | "QUEUE_DESTROY" => queueDestroy p n now d
  | "PART_RESET" => partReset p n now d
  | "HANG_ACTION" => d.modPart p (fun x => { x with hang := { x.hang with action := n } })
  | "HANG_QUIET_US" => d.modPart p (fun x => { x with hang := { x.hang with quietUs := n } })
  | "STREAM_OPEN" => if 16384 ≤ n then d.reply 0x0163 0 0 else streamOpen p (BitVec.ofNat 14 n) now d
  | "STREAM_CLOSE" => streamClose p w now d
  | "SEM_ALLOC" => Sys2Proof.Machine.semAlloc p w now d
  | "SEM_FREE" => semFree p w now d
  | "DIGEST_ACC_" => d.modPart p (fun x => { x with digestAcc := if n = 0 then x.digestAcc.del (sub - 1) else x.digestAcc.set (sub - 1) w })
  | "ARRIVAL_STAY" => d.modPart p (fun x => { x with arrivalStay := n })
  | "PNOTICE_RING_BASE" => noticeRingConfig (some p) (.base w) now d
  | "PNOTICE_RING_LOG2" => noticeRingConfig (some p) (.log2 (BitVec.ofNat 8 n)) now d
  | "PNOTICE_RING_VECTOR" => ring (fun r => { r with vector := BitVec.ofNat 16 n })
  | "JRN_BASE" => jrnRegionWrite p w (d.part p).jrn.bytes now d
  | "JRN_BYTES" => jrnRegionWrite p (d.part p).jrn.base w now d
  | "JRN_CLASP_HOME" => d.setJrn p (fun j => { j with claspHome := BitVec.ofNat 16 n })
  | "JRN_REPLAY_QUEUE" => d.setJrn p (fun j => { j with replayQueue := BitVec.ofNat 32 n })
  | "JRN_REPLAY_PC" => d.setJrn p (fun j => { j with replayPc := w })
  | "JRN_CMD" => jrnCmdRecover p now d
  | "JRN_VOTE_SEM" => d.setJrn p (fun j => { j with voteSem := w })
  | "JRN_CLOSE_SEM" => d.setJrn p (fun j => { j with closeSem := w })
  | "JRN_MEMBERS" => d.setJrn p (fun j => { j with members := BitVec.ofNat 16 n })
  | "JRN_CLOSE_LIST" =>
    if v.length % 8 ≠ 0 then d.reply 0x0162 0 0 else d.setJrn p (fun j => { j with closeList := (splitWords 8 v).map (BitVec.ofNat 64) })
  | "REPLICA_PEERS" =>
    if v.length % 2 ≠ 0 then d.reply 0x0162 0 0 else d.setJrn p (fun j => { j with peers := (splitWords 2 v).map (BitVec.ofNat 14) })
  | "DIGEST_INTERVAL_STEPS" => d.setJrn p (fun j => { j with digestSteps := n })
  | "DIGEST_INTERVAL_S" => d.setJrn p (fun j => { j with digestSeconds := n })
  | "DIGEST_ACTION" => d.setJrn p (fun j => { j with digestAction := n })
  | "FILL_REQ" => fillReq p v now d
  | _ => d

/-- Payload of a write's response (R508, R521): the handle that an allocation returns, what a refused load lacks, the time of R304. -/
def writeResult (name : String) (c : Cause) (a : Word) (data : List Byte) : List Byte :=
  if c = 0x0104 then leBytes 8 a.toNat
  else if c ≠ 0 then data
  else if name = "QUEUE_CREATE" || name = "STREAM_OPEN" then leBytes 4 a.toNat
  else if name = "SEM_ALLOC" then leBytes 8 a.toNat
  else data

/-- A whole value written (R503, R504): checked, then acted on; the version goes up where the value changes. -/
def Dev.writeValue (d : Dev) (q : Requester) (env : WriteEnv) (o : ObjDef) (r : DictReq) (v : List Byte) (now : Time) : Dev × DictAns :=
  let k := tagKey r.select r.index r.sub
  let d := d.retag.tagOf o k
  match o.check v with
  | 0 =>
    let f : Dev → Dev := fun d =>
      if o.acc = .sl then sealObjectWrite r.index r.sub v now d
      else match partBlock r.index with
        | some p => d.actPart q env o p r.sub v now
        | none => d.actModule q env o r.index r.sub r.select v now
    let x := d.ask f
    let d := x.1.retag
    let a := x.2.getD (0, 0, [])
    (d, { status := a.1, total := v.length, vtag := d.version k, payload := writeResult o.name a.1 a.2.1 a.2.2 })
  | c => (d, { status := c, total := v.length, vtag := d.version k })

/-- Whether an open segmented write is this requester's (R510). -/
def OpenWrite.mine (w : OpenWrite) (owner key : Nat) : Bool := w.owner = owner && w.index = key

/-- The open writes but this one. -/
def Dev.closeWrite (d : Dev) (owner key : Nat) : Dev :=
  { d with dict := { d.dict with opens := d.dict.opens.filter (fun (w : OpenWrite) => !w.mine owner key) } }

/-- A segment of a write (R509, R510). -/
def Dev.writeSegment (d : Dev) (q : Requester) (env : WriteEnv) (o : ObjDef) (r : DictReq) (now : Time) : Dev × DictAns :=
  let k := tagKey r.select r.index r.sub
  let owner := q.code * 65536 + r.txn
  let put (data : List Byte) (d : Dev) : Dev :=
    let d := d.closeWrite owner k
    { d with dict := { d.dict with opens := d.dict.opens ++
        [{ owner := owner, index := k, offset := data.length, total := r.total, data := data, deadline := d.time + ms 1000 }] } }
  match d.dict.opens.find? (fun (w : OpenWrite) => w.mine owner k) with
  | some w =>
    let data := w.data ++ r.payload
    if w.ended then (d.closeWrite owner k, { status := 0x0883 })
    else if r.offset ≠ w.offset || r.total ≠ w.total || w.total < data.length || (r.last && data.length ≠ w.total) then
      (d.closeWrite owner k, { status := 0x0165 })
    else if r.last then (d.closeWrite owner k).writeValue q env o r data now
    else (put data d, { seg := true, offset := r.offset, total := r.total })
  | none =>
    if d.dict.opens.any (fun (w : OpenWrite) => w.index = k && !w.ended) then (d, { status := 0x0164 })
    else if r.offset ≠ 0 || r.total < r.payload.length || (r.last && r.payload.length ≠ r.total) then (d, { status := 0x0165 })
    else if r.last then d.writeValue q env o r r.payload now
    else (put r.payload d, { seg := true, offset := 0, total := r.total })

/-- WRITE served (R504, R508 to R511). -/
def Dev.serveWrite (d : Dev) (q : Requester) (env : WriteEnv) (r : DictReq) (now : Time) : Dev × DictAns :=
  match d.reqObject q r with
  | .error c => (d, { status := c })
  | .ok o =>
    let k := tagKey r.select r.index r.sub
    if o.acc = .boot then (d, { status := 0x0717 })
    else if !d.reqWrite q o r.index r.sub || o.acc = .ro then (d, { status := 0x0161 })
    else if r.seg then d.writeSegment q env o r now
    else if d.dict.opens.any (fun (w : OpenWrite) => w.index = k && !w.ended) then (d, { status := 0x0164 })
    else d.writeValue q env o r r.payload now

/-! ### Requests served (R508) -/

/-- A request served, by its operation: what it answers. `room` is the largest payload of the transport. -/
def Dev.serve (d : Dev) (q : Requester) (env : WriteEnv) (room : Nat) (r : DictReq) (now : Time) : Dev × DictAns := match r.op with
  | 1 => d.serveRead q false room r
  | 2 => d.serveWrite q env r now
  | 3 => d.serveRead q true room r
  | 4 => (d, d.serveDescribe q r)
  | 5 => (d, d.serveNext q r)
  | _ => (d, { status := 0x0167 })

/-- A message served: the response message (R507, R508). -/
def Dev.serveMessage (d : Dev) (q : Requester) (env : WriteEnv) (limit : Nat) (b : List Byte) (now : Time) : Dev × List Byte :=
  match dictParse limit b with
  | none => (d, rawAnswer b 0x0167)
  | some r => let x := d.serve q env (limit - 32) r now; (x.1, r.answer x.2)

/-- The largest message of a requester's transport (R507). -/
def Requester.limit : Requester → Nat
  | .pf | .vf .. => 4096
  | .mgmt _ => 384
  | .udp _ => 1024

/-- A request served on its own, its response answered to whoever made it. -/
def Dev.serveRow (d : Dev) (q : Requester) (env : WriteEnv) (r : DictReq) (now : Time) : Dev :=
  let d := d.advance now
  if d.boot.phase ≠ 3 then d.emit (.reply 0x0173 0 0 (r.answer { status := 0x0173 }))
  else
    let x := d.serve q env (q.limit - 32) r now
    x.1.emit (.reply x.2.status 0 0 (r.answer x.2))

/-- DICT_READ (R508). -/
def dictRead (q : Requester) (r : DictReq) (now : Time) (d : Dev) : Dev := d.serveRow q {} { r with op := 1 } now
/-- DICT_WRITE (R508). -/
def dictWrite (q : Requester) (env : WriteEnv) (r : DictReq) (now : Time) (d : Dev) : Dev := d.serveRow q env { r with op := 2 } now
/-- DICT_READ_STAGED (R508). -/
def dictReadStaged (q : Requester) (r : DictReq) (now : Time) (d : Dev) : Dev := d.serveRow q {} { r with op := 3 } now
/-- DICT_DESCRIBE (R508). -/
def dictDescribe (q : Requester) (r : DictReq) (now : Time) (d : Dev) : Dev := d.serveRow q {} { r with op := 4 } now
/-- DICT_NEXT (R508). -/
def dictNext (q : Requester) (r : DictReq) (now : Time) (d : Dev) : Dev := d.serveRow q {} { r with op := 5 } now

/-- DICT_SEGMENT_TIMEOUT (R510): segmented writes that have received nothing for 1 s are discarded. -/
def dictSegmentTimeout (now : Time) (d : Dev) : Dev :=
  let d := d.advance now
  { d with dict := { d.dict with opens := d.dict.opens.filter (fun (w : OpenWrite) => !timeLe w.deadline d.time) } }

/-! ### Kept responses (R515) -/

/-- The response kept for a source and TXN, no older than 10 ms (R515). -/
def Dev.keptFor (d : Dev) (peer txn : Nat) : Option (List Byte) :=
  (d.dict.kept.find? (fun (k : KeptTxn) => k.peer = peer && k.txn = txn && !reached d.time k.time (ms 10))).map (fun (k : KeptTxn) => k.message)

/-- A response kept: the last 64, for 10 ms each. -/
def Dev.keepResponse (d : Dev) (peer txn : Nat) (m : List Byte) : Dev :=
  let l := d.dict.kept.filter (fun (k : KeptTxn) => !(k.peer = peer && k.txn = txn)) ++ [{ peer := peer, txn := txn, message := m, time := d.time }]
  { d with dict := { d.dict with kept := l.drop (l.length - 64) } }

/-- A message from the fabric or the segment served (R515): one that matches a kept response is answered with it and is not executed. -/
def Dev.serveKept (d : Dev) (q : Requester) (env : WriteEnv) (limit : Nat) (b : List Byte) (now : Time) : Dev × List Byte :=
  let txn := msgField b 2 2
  match d.keptFor q.code txn with
  | some m => (d, m)
  | none =>
    let x := d.serveMessage q env limit b now
    (x.1.keepResponse q.code txn x.2, x.2)

/-! ### The segment (R516) -/

/-- A datagram on the segment. -/
structure Datagram where
  src : BitVec 128 := 0
  dst : BitVec 128 := 0
  hop : BitVec 8 := 0
  sport : BitVec 16 := 0
  dport : BitVec 16 := 0
  sumOk : Bool := true
  bytes : List Byte := []
  deriving DecidableEq, Repr

/-- The module's link-local address: the modified EUI-64 identifier of its MAC address (R516). -/
def Dev.linkLocal (d : Dev) : BitVec 128 :=
  let s := d.boot.serial.toNat
  BitVec.ofNat 128 (0xFE80 * 2 ^ 112 + s / 2 ^ 24 % 65536 * 2 ^ 40 + 0xFFFE * 2 ^ 24 + s % 2 ^ 24)

/-- All nodes of the segment: ff02::1. -/
def allNodes : BitVec 128 := BitVec.ofNat 128 (0xFF02 * 2 ^ 112 + 1)

/-- Whether a datagram is accepted (R516). -/
def Dev.udpOk (d : Dev) (g : Datagram) : Bool :=
  bits g.src 127 64 = 0xFE80 * 2 ^ 48 && g.hop = 255 && g.sumOk && (g.dst = d.linkLocal || g.dst = allNodes)
    && g.dport.toNat = d.dictNat 0x0020 1 50212

/-- What ROM recovery answers (19 R485): FW_PUSH, FW_STATUS and IDENTITY_PUBKEY alone. -/
def romServes (b : List Byte) : Bool :=
  let i := msgField b 4 2 * 256 + msgField b 6 1
  i = 0x012001 || i = 0x012004 || i = 0x140401

/-- A message served while the module boots or stands in ROM recovery (19 R485, 21 R539); in service, by the rules of its requester. -/
def Dev.serveBooted (d : Dev) (q : Requester) (env : WriteEnv) (limit : Nat) (b : List Byte) (now : Time) : Dev × List Byte :=
  if d.boot.phase = 3 then d.serveMessage q env limit b now
  else if d.boot.phase = 4 && romServes b then d.serveMessage .pf env limit b now
  else (d, rawAnswer b 0x0173)

/-- UDP_DATAGRAM_RX (R515, R516): one that breaks the segment's rules is counted; a request to ff02::1 is answered later. -/
def udpDatagramRx (g : Datagram) (env : WriteEnv) (now : Time) (d : Dev) : Dev :=
  let d := d.advance now
  let peer := g.src.toNat * 65536 + g.sport.toNat
  if d.boot.phase ≠ 3 && d.boot.phase ≠ 4 then d
  else if !d.udpOk g then { d with dict := { d.dict with udpDiscards := d.dict.udpDiscards + 1 } }
  else if d.boot.phase = 4 then
    if romServes g.bytes then let x := d.serveBooted (.udp peer) env 1024 g.bytes now; x.1.emit (.udp peer x.2) else d
  else if g.dst = allNodes then
    let op := msgField g.bytes 1 1
    if op = 1 || op = 4 || op = 5 then
      let x := d.serveKept (.udp peer) env 1024 g.bytes now
      let k : KeptTxn := { peer := peer, txn := msgField g.bytes 2 2, message := x.2, time := x.1.time }
      { x.1 with dict := { x.1.dict with delayed := x.1.dict.delayed ++ [k] } }
    else d
  else
    let x := d.serveKept (.udp peer) env 1024 g.bytes now
    x.1.emit (.udp peer x.2)

/-- MULTICAST_RESPONSE_DELAY (R516): the delay drawn for a request to ff02::1 has passed, 50 ms at most. -/
def multicastResponseDelay (peer txn : Nat) (now : Time) (d : Dev) : Dev :=
  let d := d.advance now
  match d.dict.delayed.find? (fun (k : KeptTxn) => k.peer = peer && k.txn = txn) with
  | some k => ({ d with dict := { d.dict with delayed := d.dict.delayed.erase k } }).emit (.udp peer k.message)
  | none => d

end Sys2Proof.Machine
end

