-- ==== Sys2Proof/Machine/Host.lean ====
section
/-!
DEFINITION. The host interface (20 R512, R513, 21 R524 to R534): the PCIe link, mailboxes, apertures, function resets, what the anchor
carries to and from the members.
-/
namespace Sys2Proof.Machine

/-! ### The PCIe link (R524, R525, R539) -/

/-- The host link comes up at a width and rate (R524); this member's MAST_LINKUP bit with it (R533). -/
def Dev.linkTrained (d : Dev) (width rate : Nat) : Dev :=
  let m := d.id.toNat % 64
  { d with host := { d.host with
    linkUp := true, width := width, rate := rate, downSince := none
    mastMembers := if (d.host.mastMembers.find? m).isSome then d.host.mastMembers.set m true else d.host.mastMembers } }

/-- PERST_N_DEASSERT (R539 steps 5 and 6): the link trains. -/
def perstNDeassert (width rate : Nat) (now : Time) (d : Dev) : Dev :=
  let d := d.advance now
  if !d.pins.pwrGood || !d.host.perst then d else ({ d with host := { d.host with perst := false } }).linkTrained width rate

/-- PCIE_LINK_UP (R525): the link trains back after a hot reset or a link-down. -/
def pcieLinkUp (width rate : Nat) (now : Time) (d : Dev) : Dev :=
  let d := d.advance now
  if !d.pins.pwrGood || d.host.perst || d.host.linkUp then d else d.linkTrained width rate

/-- A function's own state after its reset (R530): its mailbox is idle, a response still owed to it is discarded, its aperture and its Bus
Master Enable are clear. -/
def Dev.funcClear (d : Dev) (f : Nat) : Dev :=
  { d with
    host := { d.host with
      aperture := d.host.aperture.del f, busMaster := d.host.busMaster.remove f, fwds := d.host.fwds.filter (fun (x : FwdAccess) => x.func ≠ f)
      reads := d.host.reads.filter (fun (x : PeerRead) => x.func ≠ f) }
    dict := { d.dict with boxes := d.dict.boxes.del f, sent := d.dict.sent.filter (fun (k : KeptTxn) => k.peer / 64 ≠ f + 65536) } }

/-- The host-memory rings of queues created through a function are out of reach (R530). -/
def Dev.funcQueues (d : Dev) (f : Nat) : Dev := (d.fe.queues.filter (fun q => q.2.func = f)).foldl Dev.hostRingGone d

/-- The reset of a virtual function (R530): the members of the mast group are told, for the queues that they hold. -/
def Dev.vfReset (d : Dev) (f : Nat) : Dev :=
  let d := match d.reqPart (BitVec.ofNat 16 (d.funcKey f)) with
    | some p => d.ringConfig (4097 + p) (.base 0)
    | none => d
  let d := (d.funcClear f).funcQueues f
  (d.host.mastMembers.filter (fun m => d.memberId m.1 ≠ d.id)).foldl (fun (d : Dev) m => d.mgmt (d.memberId m.1) 0x32 [f] []) d

/-- Functions that hold some state: those bound to a partition, with a mailbox, an aperture, Bus Master Enable, or a queue. -/
def Dev.liveFuncs (d : Dev) : NSet :=
  let fs := d.host.binds.keys ++ d.dict.boxes.keys ++ d.host.aperture.keys ++ d.host.busMaster ++ d.fe.queues.vals.map (·.func)
  (fs.filter (· ≠ 0)).foldl NSet.insert []

/-- The reset of the physical function (R530): as a reset of every function. -/
def Dev.pfReset (d : Dev) : Dev :=
  let d := d.liveFuncs.foldl Dev.vfReset d
  ((d.funcClear 0).funcQueues 0).ringConfig 0 (.base 0)

/-- PCIE_RESET (R525): PERST# asserted, a hot reset or a link-down; rigs, queues and jobs run on. -/
def pcieReset (perst : Bool) (now : Time) (d : Dev) : Dev :=
  let d := (d.advance now).pfReset
  let m := d.id.toNat % 64
  { d with host := { d.host with
    linkUp := false, width := 0, rate := 0, perst := d.host.perst || perst
    downSince := match d.host.downSince with | some t => some t | none => some d.time
    mastMembers := if (d.host.mastMembers.find? m).isSome then d.host.mastMembers.set m false else d.host.mastMembers } }

/-- VF_FLR (R530). -/
def vfFlr (f : Nat) (now : Time) (d : Dev) : Dev :=
  let d := d.advance now
  if !d.host.linkUp || f = 0 then d else d.vfReset f

/-- PF_FLR (R530). -/
def pfFlr (now : Time) (d : Dev) : Dev :=
  let d := d.advance now
  if !d.host.linkUp then d else d.pfReset

/-- BUS_MASTER_DISABLE (R530): reads of host rings wait, completion records and notices are held. -/
def busMasterDisable (f : Nat) (now : Time) (d : Dev) : Dev :=
  let d := d.advance now
  { d with host := { d.host with busMaster := d.host.busMaster.remove f } }

/-- BUS_MASTER_ENABLE (R530): what was held is written. -/
def busMasterEnable (f : Nat) (now : Time) (d : Dev) : Dev :=
  let d := d.advance now
  if !d.host.linkUp then d
  else
    let d := { d with host := { d.host with busMaster := d.host.busMaster.insert f } }
    let d := d.completeAll now
    d.fe.rings.keys.foldl (fun (d : Dev) r => d.drainNotices r 257) d

/-- PCIE_COMPLETION_TIMEOUT (R524, 11 R287): a read of a queue's host ring gets no completion: a fault of the ring. -/
def pcieCompletionTimeout (i : Nat) (now : Time) (d : Dev) : Dev :=
  let d := d.advance now
  match d.fe.queues.find? i with
  | some q => if q.sqDev then d else d.ringFault i
  | none => d

/-- NOTICE_RING_DOORBELL (11 R310, R527): the host returns a ring's head with CQ = 1 and GEN = 0; what was held is then written. -/
def noticeRingDoorbell (func : Nat) (w : Word) (now : Time) (d : Dev) : Dev :=
  let d := d.advance now
  let ring := if func = 0 then some 0 else (d.reqPart (BitVec.ofNat 16 (d.funcKey func))).map (4097 + ·)
  match ring with
  | none => d
  | some k =>
    if !d.host.linkUp || !d.serves then d
    else if !bit w 38 || bits w 37 32 ≠ 0 then d.stale
    else
      let r := d.fe.rings.get {} k
      let head := r.head + (w.toNat + 2 ^ 32 - r.head % 2 ^ 32) % 2 ^ 32
      if r.tail < head then d.notice 0x0112 0 (w.toNat % 2 ^ 32) 0
      else
        let d := { d with fe := { d.fe with rings := d.fe.rings.set k { r with head := head, alerts := r.alerts.filter (head ≤ ·) } } }
        d.drainNotices k 257

/-! ### The mailbox (20 R512, R513, R528, R533, R539) -/

/-- The registers of a mailbox as they stand when GO is written: REQ_LEN, the request buffer, MBX_MEMBER and MBX_IRQ. -/
structure MbxWrite where
  reqLen : BitVec 13 := 0
  request : List Byte := []
  member : BitVec 6 := 0
  irqEn : Bool := false
  vector : BitVec 11 := 0
  deriving DecidableEq, Repr

/-- A function's mailbox. -/
def Dev.box (d : Dev) (f : Nat) : Mailbox := d.dict.boxes.get {} f
/-- A function's mailbox changed. -/
def Dev.setBox (d : Dev) (f : Nat) (b : Mailbox) : Dev := { d with dict := { d.dict with boxes := d.dict.boxes.set f b } }

/-- The response reaches a mailbox (R513 step 2): DONE is set, BUSY cleared, and the message sent if IRQ_EN asks for it. -/
def Dev.boxDone (d : Dev) (f : Nat) (m : List Byte) : Dev :=
  let b := d.box f
  let d := d.setBox f { b with busy := false, done := true, rspLen := m.length, response := m }
  if b.irqEn then d.sendMsix f b.vector else d

/-- Whether a member may serve a function (R528): present, and for a virtual function a holder of rigs of its partition. -/
def Dev.memberOk (d : Dev) (f m : Nat) : Bool :=
  d.ownMember m || ((d.host.mastMembers.find? m).isSome && (f = 0 ||
    (match d.reqPart (BitVec.ofNat 16 (d.funcKey f)) with | some p => (d.part p).modules.contains (d.memberId m) | none => false)))

/-- Key under which a forwarded request waits for its response: its function and member. -/
def fwdPeer (f m : Nat) : Nat := (65536 + f) * 64 + m

/-- Who a mailbox's request counts as. -/
def Dev.boxUser (d : Dev) (f : Nat) : Requester := if f = 0 then .pf else .vf f (BitVec.ofNat 16 (d.funcKey f))

/-- A request carried to the member that MBX_MEMBER names (R532), and kept for sending again (R515). -/
def Dev.boxForward (d : Dev) (f m : Nat) (req : List Byte) : Dev :=
  let x := d.fwdMember m f 2 (leBytes 2 (d.funcKey f) ++ req)
  { x.1 with dict := { x.1.dict with sent := x.1.dict.sent ++ [{ peer := fwdPeer f m, txn := msgField req 2 2, message := req, time := x.1.time }] } }

/-- A mailbox's request begun (R485, R507, R513, R526, R528, R533, R539). -/
def Dev.boxServe (d : Dev) (f : Nat) (env : WriteEnv) (now : Time) : Dev :=
  let b := d.box f
  let refuse (c : Cause) : Dev := d.boxDone f (rawAnswer b.request c)
  let read := msgField b.request 1 1 = 1 && 0x0200 ≤ msgField b.request 4 2 && msgField b.request 4 2 < 0x0400
  if d.boot.phase ≠ 3 && d.boot.phase ≠ 4 then refuse 0x0173
  else if b.reqLen < 32 || 4096 < b.reqLen then refuse 0x0167
  else if d.boot.phase = 4 then let x := d.serveBooted (d.boxUser f) env 4096 b.request now; x.1.boxDone f x.2
  else if f ≠ 0 && d.funcKey f = 0 then refuse 0x0160
  else if !d.serves && !read then refuse 0x0172
  else if !d.serves || d.ownMember b.member then let x := d.serveMessage (d.boxUser f) env 4096 b.request now; x.1.boxDone f x.2
  else if !d.memberOk f b.member then refuse 0x0170
  else d.boxForward f b.member b.request

/-- MBX_GO (R513): GO with what the mailbox's registers and request buffer hold; while a request is being served it sets OVERRUN. -/
def mbxGo (f : Nat) (w : MbxWrite) (env : WriteEnv) (now : Time) (d : Dev) : Dev :=
  let d := d.advance now
  if !d.host.linkUp then d
  else
    let b := d.box f
    if b.busy then d.setBox f { b with overrun := true }
    else
      (d.setBox f { b with busy := true, reqLen := w.reqLen.toNat, member := w.member.toNat, irqEn := w.irqEn, vector := w.vector.toNat
                           request := w.request.take w.reqLen.toNat }).boxServe f env now

/-- MBX_DONE_CLEAR (R512): a 1 written to DONE or OVERRUN clears it. -/
def mbxDoneClear (f : Nat) (done overrun : Bool) (now : Time) (d : Dev) : Dev :=
  let d := d.advance now
  let b := d.box f
  if !d.host.linkUp then d else d.setBox f { b with done := b.done && !done, overrun := b.overrun && !overrun }

/-! ### The aperture (R529) -/

/-- APERTURE_CTRL_WRITE (R529): BASE and MEMBER of a virtual function's aperture. -/
def apertureCtrlWrite (f : Nat) (w : Word) (now : Time) (d : Dev) : Dev :=
  let d := d.advance now
  if f = 0 || !d.host.linkUp then d
  else
    let v : Word := BitVec.ofNat 64 (bits w 56 20 * 2 ^ 20 + bits w 5 0)
    { d with host := { d.host with aperture := if v = 0 then d.host.aperture.del f else d.host.aperture.set f v } }

/-- A line that a host read needs from the home of a REMOTE page (R255, R267): a reader copy of a coherent window's line answers at once, else
READ_SH or a read request in pair order goes to the home. -/
def Dev.hostReadAsk (d : Dev) (id part home line : Nat) : Dev :=
  let key := (d.part part).key
  let put (d : Dev) (tag : Option Nat) (got : Option (Nat × Bool)) : Dev := { d with host := { d.host with reads := d.host.reads.map (fun (h : PeerRead) =>
    if h.id = id then { h with lines := h.lines.set line tag, got := match got with | some v => h.got.set line v | none => h.got } else h) } }
  if (d.part part).remoteWindow.contains (line / 65536) then
    match d.copyOf key line with
    | some r => put d none (some (r.data, r.poison))
    | none => (put d none none).cohSend (BitVec.ofNat 14 home) (.readSh d.id key line 512)
  else
    let tag := d.fab.nextReqTag % 256
    let d := { d with fab := { d.fab with nextReqTag := tag + 1 } }
    let p : Packet := { ptype := 3, tc := 1, dst := BitVec.ofNat 14 home, pkey := key, addr := line, xarg := BitVec.ofNat 64 (64 + tag * 2 ^ 24) }
    (put d (some tag) none).egress p (.host id)

/-- An aperture read served here (R250, R260, R267, R529): as a load of this module, over its own bytes. -/
def Dev.apertureLoad (d : Dev) (h : PeerRead) : Dev :=
  let who : Accessor := { part := h.part }
  match d.checkExtent who { r := true } false h.va h.size with
  | .error e => ((d.walkNotice who e).apertureFault (some h.part) h.va e.cause).hostAnswer h none
  | .ok (.remote home) =>
    let h := { h with id := d.host.nextRead }
    let d := { d with host := { d.host with reads := d.host.reads ++ [h], nextRead := h.id + 1 } }
    let d := (lines h.va h.size).foldl (fun (d : Dev) l => d.hostReadAsk h.id h.part home (64 * l)) d
    match d.host.reads.find? (fun x => x.id = h.id), (lines h.va h.size).getLast? with
    | some x, some l => match x.got.find? (64 * l) with
      | some (v, p) => d.hostReadLine x (64 * l) v p
      | none => d
    | _, _ => d
  | .ok _ => d.hostAnswer h (some (d.readVa who h.va h.size, d.poisonVa who h.va h.size))

/-- One line's part of an aperture write to a page that another module homes, or to a coherent window (R255, R277, R270). -/
def Dev.apertureLine (d : Dev) (part : Nat) (m : MemKind) (x : Nat × List Byte) : Dev :=
  let key := (d.part part).key
  let line := x.1 / 64 * 64
  let msg : CohMsg := .write d.id key line (.store (x.1 % 64) x.2) (moduleRig d.id) 512
  match m with
  | .window _ => d.cohServe (d.mpa { part := part } line / 64) msg
  | .remote h =>
    if (d.part part).remoteWindow.contains (x.1 / 65536) then d.cohSend (BitVec.ofNat 14 h) msg
    else d.egressStore (BitVec.ofNat 14 h) part key x.1 x.2
  | _ => d.writeVa { part := part } x.1 x.2 true false

/-- An aperture write served here (R529): checked over its own bytes; it clears CHK_VALID (R73). -/
def Dev.apertureStore (d : Dev) (part va : Nat) (bs : List Byte) : Dev :=
  let who : Accessor := { part := part }
  match d.checkExtent who { w := true } false va bs.length with
  | .error e => (d.walkNotice who e).apertureFault (some part) va e.cause
  | .ok m => (chunks (bs.length / 64 + 2) va bs).foldl (fun (d : Dev) x => d.apertureLine part m x) d

/-- A read served by this member for the partition of a key (R529). -/
def Dev.apertureServe (d : Dev) (key : BitVec 16) (h : PeerRead) : Dev :=
  match d.reqPart key with
  | none => (d.apertureFault none h.va 0x0201).hostAnswer h none
  | some p => d.apertureLoad { h with part := p }

/-- The address that an aperture's offset stands for, and the member that serves it (R529). -/
def Dev.apertureAt (d : Dev) (f off : Nat) : Nat × Nat :=
  let w := d.host.aperture.get 0 f
  (bits w 56 20 * 2 ^ 20 + off % 2 ^ 20, bits w 5 0)

/-- Whether a function's aperture leads anywhere (R526, R533): its partition is bound, and this module is the anchor. -/
def Dev.apertureOpen (d : Dev) (f : Nat) : Bool := f ≠ 0 && d.host.linkUp && d.serves && d.funcKey f ≠ 0

/-- APERTURE_READ (R529) of `n` bytes at an offset, under the host's tag; `errs` are the memory errors that a read served here meets (R446). -/
def apertureRead (f off n tag : Nat) (errs : List EccEvent) (now : Time) (d : Dev) : Dev :=
  let d := d.advance now
  let a := d.apertureAt f off
  if !d.host.linkUp || f = 0 then d
  else if !d.apertureOpen f || !d.memberOk f a.2 then d.hostAnswer { tag := tag } none
  else if d.ownMember a.2 then (errs.foldl Dev.ecc d).apertureServe (BitVec.ofNat 16 (d.funcKey f)) { func := f, tag := tag, va := a.1, size := n }
  else
    let msg := leBytes 2 (d.funcKey f) ++ leBytes 8 a.1 ++ leBytes 2 n
    let x := d.fwdMember a.2 f 5 msg
    { x.1 with host := { x.1.host with fwds := x.1.host.fwds ++ [{ tag := tag, func := f, member := a.2, fseq := x.2, message := msg, time := x.1.time }] } }

/-- APERTURE_WRITE (R529) at an offset. -/
def apertureWrite (f off : Nat) (bs : List Byte) (now : Time) (d : Dev) : Dev :=
  let d := d.advance now
  let a := d.apertureAt f off
  if !d.apertureOpen f || !d.memberOk f a.2 then d
  else if d.ownMember a.2 then
    match d.reqPart (BitVec.ofNat 16 (d.funcKey f)) with
    | some p => d.apertureStore p a.1 bs
    | none => d.apertureFault none a.1 0x0201
  else
    let msg := leBytes 2 (d.funcKey f) ++ leBytes 8 a.1 ++ bs
    let x := d.fwdMember a.2 f 6 msg
    { x.1 with host := { x.1.host with
      fwds := x.1.host.fwds ++ [{ func := f, write := true, member := a.2, fseq := x.2, message := msg, time := x.1.time }] } }

/-- APERTURE_RESEND_TIMEOUT (R532): a forwarded access without a completion for 2 ms is sent again under its own FSEQ. -/
def apertureResendTimeout (m fseq : Nat) (now : Time) (d : Dev) : Dev :=
  let d := d.advance now
  match d.host.fwds.find? (fun (x : FwdAccess) => x.member = m && x.fseq = fseq) with
  | none => d
  | some x =>
    if !reached d.time x.time (ms 2) then d
    else
      ({ d with host := { d.host with fwds := d.host.fwds.map (fun (y : FwdAccess) => if y = x then { y with time := d.time } else y) } }).emit
        (.fwd (d.memberId m) (fwdXarg fseq x.func (if x.write then 6 else 5)) x.message)

/-! ### Packets of the mast group (R532) -/

/-- A HOST_FWD packet as its receiver sees it: FSEQ and FUNC of XARG, and the payload. -/
structure HostFwd where
  src : BitVec 14 := 0
  fseq : BitVec 32 := 0
  func : Fin 4097 := 0
  bytes : List Byte := []
  deriving DecidableEq, Repr

/-- Whether a packet comes from this member's anchor. -/
def Dev.fromAnchor (d : Dev) (h : HostFwd) : Bool := d.boot.phase = 3 && d.host.anchorKnown && h.src = d.host.anchor

/-- Whether a doorbell or an aperture write is not older than one already applied (R532). -/
def Dev.inFseq (d : Dev) (h : HostFwd) : Bool := decide ((h.fseq - BitVec.ofNat 32 d.host.fseqIn).toNat < 2 ^ 31)

/-- The FSEQ that follows an applied one. -/
def Dev.applied (d : Dev) (h : HostFwd) : Dev := { d with host := { d.host with fseqIn := (h.fseq.toNat + 1) % 2 ^ 32 } }

/-- HOST_FWD_DOORBELL (R532): applied in FSEQ order, for a queue of the partition that the function serves. -/
def hostFwdDoorbell (h : HostFwd) (now : Time) (d : Dev) : Dev :=
  let d := d.advance now
  if !d.fromAnchor h || !d.inFseq h then d
  else
    let i := msgField h.bytes 2 2
    let w : Word := BitVec.ofNat 64 (msgField h.bytes 4 8)
    let ok := h.func.val = 0 || (match d.fe.queues.find? i with
      | some q => decide ((d.part q.part).key.toNat = msgField h.bytes 0 2) && msgField h.bytes 0 2 ≠ 0
      | none => false)
    let d := d.applied h
    if ok then d.door i w else d.stale

/-- HOST_FWD_DICT_REQUEST (R515, R532): served for the function whose request it is, its response kept. -/
def hostFwdDictRequest (h : HostFwd) (env : WriteEnv) (now : Time) (d : Dev) : Dev :=
  let d := d.advance now
  if !d.fromAnchor h then d
  else
    let b := h.bytes.drop 2
    let q : Requester := if h.func.val = 0 then .pf else .vf h.func.val (BitVec.ofNat 16 (msgField h.bytes 0 2))
    let x := d.serveKept q env 4096 b now
    x.1.emit (.fwd h.src (fwdXarg h.fseq.toNat h.func.val 3) x.2)

/-- HOST_FWD_DICT_RESPONSE (R513, R532): the response goes to the mailbox whose request waits for it; any other is dropped. -/
def hostFwdDictResponse (h : HostFwd) (now : Time) (d : Dev) : Dev :=
  let d := d.advance now
  let peer := fwdPeer h.func.val (h.src.toNat % 64)
  match d.dict.sent.find? (fun (k : KeptTxn) => k.peer = peer && k.txn = msgField h.bytes 2 2) with
  | none => d
  | some k =>
    let d := { d with dict := { d.dict with sent := d.dict.sent.erase k } }
    if (d.box h.func.val).busy then d.boxDone h.func.val h.bytes else d

/-- A notice read back from the 32 bytes of R308. -/
def noticeOfBytes (b : List Byte) : Notice :=
  let f := msgField b
  { code := BitVec.ofNat 16 (f 0 2), cls := BitVec.ofNat 3 (f 2 2 / 2048), part := if f 2 2 / 1024 % 2 = 1 then some (f 2 2 % 512) else none
    rig := BitVec.ofNat 32 (f 4 4), time := BitVec.ofNat 64 (f 8 8), arg0 := BitVec.ofNat 64 (f 16 8), arg1 := BitVec.ofNat 64 (f 24 8)
    lost := f 2 2 / 16384 % 2 = 1 }

/-- HOST_FWD_NOTICE (R310, R532): a member's notice is written to the rings; one that reaches a module that is no longer the anchor goes on
to the anchor. -/
def hostFwdNotice (h : HostFwd) (now : Time) (d : Dev) : Dev :=
  let d := d.advance now
  if !d.serves then d.emit (.fwd d.host.anchor (fwdXarg 0 0 4) h.bytes)
  else d.deliverNotice (noticeOfBytes h.bytes) (d.reqPart (BitVec.ofNat 16 (msgField h.bytes 32 2)))

/-- HOST_FWD_APERTURE_READ (R529, R532): the load, and its completion toward the anchor. -/
def hostFwdApertureRead (h : HostFwd) (errs : List EccEvent) (now : Time) (d : Dev) : Dev :=
  let d := d.advance now
  if !d.fromAnchor h then d
  else (errs.foldl Dev.ecc d).apertureServe (BitVec.ofNat 16 (msgField h.bytes 0 2)) { func := h.func.val, anchor := some (h.src, h.fseq.toNat), va := msgField h.bytes 2 8, size := msgField h.bytes 10 2 }

/-- HOST_FWD_APERTURE_WRITE (R529, R532): applied in FSEQ order; one applied before is only completed again. -/
def hostFwdApertureWrite (h : HostFwd) (now : Time) (d : Dev) : Dev :=
  let d := d.advance now
  let done (d : Dev) : Dev := d.emit (.fwd h.src (fwdXarg h.fseq.toNat h.func.val 7) [0, 0])
  if !d.fromAnchor h then d
  else if !d.inFseq h then (if (h.fseq.toNat + 1) % 2 ^ 32 = d.host.fseqIn then done d else d)
  else
    let va := msgField h.bytes 2 8
    let d := d.applied h
    done (match d.reqPart (BitVec.ofNat 16 (msgField h.bytes 0 2)) with
      | some p => d.apertureStore p va (h.bytes.drop 10)
      | none => d.apertureFault none va 0x0201)

/-- HOST_FWD_APERTURE_COMPLETION (R529, R532): the host's read completes; a write's completion only ends its resending. -/
def hostFwdApertureCompletion (h : HostFwd) (now : Time) (d : Dev) : Dev :=
  let d := d.advance now
  match d.host.fwds.find? (fun (x : FwdAccess) => x.member = h.src.toNat % 64 && x.fseq = h.fseq.toNat) with
  | none => d
  | some x =>
    let d := { d with host := { d.host with fwds := d.host.fwds.erase x } }
    if x.write then d
    else d.hostAnswer { tag := x.tag } (if msgField h.bytes 0 1 = 0 then some (h.bytes.drop 2, msgField h.bytes 1 1 = 1) else none)

/-- ANCHOR_LINK_DOWN_TIMEOUT (R534): the anchor's link has been down for 100 ms; the standby takes over. -/
def anchorLinkDownTimeout (now : Time) (d : Dev) : Dev :=
  let d := d.advance now
  let due := match d.host.isAnchor, d.host.downSince with
    | true, some t => reached d.time t (ms 100)
    | true, none => false
    | false, _ => true
  if !d.host.anchorKnown || d.host.standby = d.host.anchor || !due then d
  else
    let m := d.host.anchor.toNat % 64
    ({ d with host := { d.host with
      mastMembers := if (d.host.mastMembers.find? m).isSome then d.host.mastMembers.set m false else d.host.mastMembers } }).anchorTo d.host.standby

/-- DICT_REQUEST_RETRY (R515, R532): a request without a response for 2 ms is sent again under its TXN, up to 4 times. -/
def dictRequestRetry (peer txn : Nat) (now : Time) (d : Dev) : Dev :=
  let d := d.advance now
  match d.dict.sent.find? (fun (k : KeptTxn) => k.peer = peer && k.txn = txn) with
  | none => d
  | some k =>
    if !reached d.time k.time (ms 2) then d
    else if 4 ≤ k.resends then { d with dict := { d.dict with sent := d.dict.sent.erase k } }
    else
      let f := peer / 64 - 65536
      let d := { d with dict := { d.dict with sent := d.dict.sent.map (fun (y : KeptTxn) => if y = k then { y with time := d.time, resends := y.resends + 1 } else y) } }
      (d.fwdMember (peer % 64) f 2 (leBytes 2 (d.funcKey f) ++ k.message)).1

/-! ### Management packets (20 R514, R515) -/

/-- A verb or another request of a management service, whose answer goes nowhere. -/
def Dev.quietly (d : Dev) (f : Dev → Dev) : Dev := (d.ask f).1

/-- Credit and urgency of a queue that another module holds (11 R288). -/
def Dev.creditArrives (d : Dev) (src : BitVec 14) (w : List Nat) : Dev :=
  let g (i : Nat) : Nat := w.getD i 0
  { d with fe := { d.fe with forwarded := d.fe.forwarded.map (fun (f : ForwardedEntry) =>
    if f.holder = src && f.queue = g 0 && f.gen.toNat = g 1 then
      { f with credit := if g 2 = 1 then (g 3 : Int) else -(g 3 : Int), urgent := g 4 = 1, under := g 5 = 1 }
    else f) } }

/-- An entry forwarded here by the module that holds its queue (11 R288). -/
def Dev.entryArrives (d : Dev) (src : BitVec 14) (w : List Nat) (b : List Byte) : Dev :=
  let g (i : Nat) : Nat := w.getD i 0
  match d.partOfKey (BitVec.ofNat 16 (g 3)) with
  | none => d.mgmt src 0x11 [g 0, g 4, 0x0121, 0, 0, d.time.toNat] []
  | some p =>
    let f := msgField b
    let e : SubEntry := { pc := BitVec.ofNat 64 (f 0 8), eflags := BitVec.ofNat 32 (f 8 4), userTag := BitVec.ofNat 32 (f 12 4)
                          sigHandle := BitVec.ofNat 64 (f 16 8), sigInc := BitVec.ofNat 64 (f 24 8), args := b.drop 32 }
    let x : ForwardedEntry := {
      holder := src, queue := g 0, gen := BitVec.ofNat 6 (g 1), rig := BitVec.ofNat 32 (g 2), part := p, urgent := g 7 = 1, cls := g 5, share := g 6
      under := g 8 = 1, since := d.time, e := { index := g 4, e := e } }
    (({ d with fe := { d.fe with forwarded := d.fe.forwarded ++ [x] } }).creditArrives src [g 0, g 1, g 9, g 10, g 7, g 8]).event p

/-- Nanoseconds since a time that another module reports. -/
def Dev.sinceThen (d : Dev) (t : Nat) : Int := if timeLe (BitVec.ofNat 64 t) d.time then (nsBetween (BitVec.ofNat 64 t) d.time : Int) else 0

/-- A queue charged for time that a member's run has taken before the holder heard of it, or given back what it has not (11 R298, R299). -/
def Dev.chargeLate (d : Dev) (i : Nat) (n : Int) : Dev := match d.fe.queues.find? i with
  | some q => { d with fe := { d.fe with queues := d.fe.queues.set i (d.creditAfter q 0 n) } }
  | none => d

/-- A forwarded entry has begun at a member: its queue is charged from then on (11 R288, R298). -/
def Dev.entryBegun (d : Dev) (src : BitVec 14) (w : List Nat) : Dev :=
  let g (i : Nat) : Nat := w.getD i 0
  let mine (f : FlightEntry) : Bool := f.index = g 1 && f.member = some src && !f.running && f.ended.isNone
  match d.fe.queues.find? (g 0) with
  | none => d
  | some q =>
    if q.flight.any mine then
      ((d.settleQueue (g 0)).modQueue (g 0) (fun q => { q with flight := q.flight.map (fun f => if mine f then { f with running := true } else f) })).chargeLate
        (g 0) (d.sinceThen (g 2))
    else d

/-- A forwarded entry has ended at the member that ran it (11 R288, R294). -/
def Dev.entryReported (d : Dev) (src : BitVec 14) (w : List Nat) : Dev :=
  let g (i : Nat) : Nat := w.getD i 0
  match d.fe.queues.find? (g 0) with
  | none => d
  | some q =>
    if q.flight.any (fun (f : FlightEntry) => f.index = g 1 && f.member = some src) then
      let ran := q.flight.any (fun (f : FlightEntry) => f.index = g 1 && f.running)
      let d := d.settleQueue (g 0)
      (if ran then d.chargeLate (g 0) (-d.sinceThen (g 5)) else d).modQueue (g 0) (fun q => q.endEntry (g 1) { cause := BitVec.ofNat 16 (g 2), status := BitVec.ofNat 64 (g 3), arg1 := BitVec.ofNat 64 (g 4) })
    else d

/-- Words that a module reports of itself beside the RCB of its rig (01 R37, R38, 11 R286, 15 R407). -/
def Dev.rigReport (d : Dev) : List Nat :=
  let held (l : Nat) : Nat := (d.fe.queues.filter (fun q => q.2.state ≠ .free && rigLevel q.2.rig = l)).length
  [((List.range 512).map d.rtSum).foldl max 0, d.baseCost (List.range 512), d.engineCost (List.range 512), held 4, held 5]

/-- Another module's report of itself is kept (01 R38); what leans on its cores is settled first (11 R299). -/
def Dev.rigReported (d : Dev) (src : BitVec 14) (w : List Nat) (b : List Byte) : Dev :=
  let g (i : Nat) : Nat := w.getD i 0
  let d := d.settleAll
  let x : PeerRig := { rcb := b, rtMax := g 0, base := g 1, engine := g 2, groupQueues := g 3, systemQueues := g 4 }
  { d with fe := { d.fe with peers := d.fe.peers.set src.toNat x } }

/-- The share of a real-time queue that another module holds (11 R286, R301); a share of 0 ends it. -/
def Dev.shareTold (d : Dev) (src : BitVec 14) (w : List Nat) : Dev :=
  let g (i : Nat) : Nat := w.getD i 0
  let d := (List.range 512).foldl Dev.settleCore d
  let rest := d.fe.peerRt.filter (fun q => !(q.holder = src && q.queue = g 0))
  { d with fe := { d.fe with peerRt := if g 2 = 0 then rest else rest ++ [{ holder := src, queue := g 0, rig := BitVec.ofNat 32 (g 1), share := g 2 }] } }

/-- A service of another chapter about a partition that the message's first word names by its key (14, 18). -/
def Dev.partService (d : Dev) (kind : Nat) (src : BitVec 14) (p : Nat) (w : List Nat) (b : List Byte) : Dev :=
  let g (i : Nat) : Nat := w.getD i 0
  match kind with
  | 0x20 => d.jrnMember p src
  | 0x21 =>
    let r := jrnOfWords src (w.drop 1) ((splitWords 2 b).map (BitVec.ofNat 14))
    if (d.part p).jrn.phase = 1 then d.setJrn p (fun j => { j with reports := j.reports.filter (fun x => x.module ≠ src) ++ [r] }) else d
  | 0x22 => d.journalStart p
  | 0x23 => d.submitReplay p src b
  | 0x24 => d.setJrn p (fun j => { j with replays := j.replays.filter (· ≠ src) })
  | 0x25 => d.setSlotState p (g 1) (g 2)
  | 0x40 => if d.overSignet || (d.part p).job.isSome then d else d.applyLoad p (g 1) (BitVec.ofNat 384 (leNat b))
  | 0x41 => d.applyUnload p
  | 0x42 => (d.part p).rigs.foldl (fun (d : Dev) r => d.quiesceRig (d.localRig r)) d
  | 0x43 => d.containLocal p
  | 0x44 => d.partResetStart p (BitVec.ofNat 16 (g 1))
  | 0x45 => d.homeMapped src p (g 1) (g 2) (g 3 = 1)
  | 0x46 => d.remoteUnmapped src p (g 1) (g 2)
  | _ => d

/-- A message of a management service (R514): the services' numbers and layouts are the model's own (DESIGN CHOICE, log entry 16). -/
def Dev.service (d : Dev) (p : Packet) (now : Time) : Dev :=
  let kind := bits p.xarg 7 0
  let n := bits p.xarg 15 8
  let w := (List.range n).map (fun i => msgField p.payload (8 * i) 8)
  let b := p.payload.drop (8 * n)
  let g (i : Nat) : Nat := w.getD i 0
  match kind with
  | 0x10 => d.entryArrives p.src w b
  | 0x11 => d.entryReported p.src w
  | 0x12 => d.creditArrives p.src w
  | 0x16 => d.entryBegun p.src w
  | 0x17 => d.rigReported p.src w b
  | 0x18 => d.mgmt p.src 0x17 d.rigReport (d.rcb (moduleRig d.id))
  | 0x19 => d.shareTold p.src w
  | 0x13 => d.emit (.config p.src d.cfg.force d.cfg.staged d.cfg.armed)
  | 0x14 => censusClaim (g 0) p.src now d
  | 0x15 => ({ d with boot := { d.boot with claimAcked := true } }).censusCheck
  | 0x30 => if g 0 = 4 then d.rigResetStart (BitVec.ofNat 32 (g 1)) 0 else d.quietly (resetClear (moduleRig d.id) (g 0) now)
  | 0x31 => Dev.setReq 4 (g 0) (moduleRig d.id) d
  | 0x32 => d.funcQueues (g 0)
  | 0x50 => halyardRepairRequest p.src (g 0) (BitVec.ofNat 32 (g 1)) (g 2) now d
  | 0x51 => d.halyardArrive (packetOfRepair p.src p.pkey w b)
  | _ => match d.partOfKey (BitVec.ofNat 16 (g 0)) with
    | some i => if g 0 = 0 then d else d.partService kind p.src i w b
    | none => d

/-- MGMT (R514, R515): a management packet is consumed by the module's pairs: a dictionary request, the response to one, or a service. -/
def mgmt (p : Packet) (env : WriteEnv) (now : Time) (d : Dev) : Dev :=
  let x := d.ingress p now
  let d := x.1
  if !x.2 || d.boot.phase ≠ 3 then d
  else match bits p.xarg 7 0 with
    | 1 => let y := d.serveKept (.mgmt p.src) env 384 p.payload now; y.1.mgmt p.src 2 [] y.2
    | 2 => { d with dict := { d.dict with sent := d.dict.sent.filter (fun (k : KeptTxn) =>
        !(k.peer = (Requester.mgmt p.src).code && k.txn = msgField p.payload 2 2)) } }
    | _ => d.service p now

end Sys2Proof.Machine
end

