-- ==== Sys2Proof/Syntax.lean ====
section
/-!
DEFINITION. The commands of the module: one constructor per row of spec/opcode_table.json, with the row's operands. What the spec's text names in numbers keeps its numbers: a core 0 to 511, a partition 0 to 511, a port 0 to 31, a die
0 to 7, a cluster 0 to 63, a function 0 (the physical one) to 4096. `now` is the fabric time of the command.
25 events of the module's surroundings and its watch over itself stand last: Lean's runtime gives a number to 245 constructors with operands.
-/
namespace Sys2Proof
open Sys2Proof.Machine

/-- A command to the module, or an event that happens to it. -/
inductive Instr where
  /-- POWER_ON (R486): The module asserts PWR_GOOD and runs the cold power-on sequence: fuses, boot stages, package links, DRAM, B3
  distribution, census and training. -/
  | powerOn (slow dead : List (Fin 96)) (badChans : List (Fin 16)) (bist : List (Fin 512)) (now : Time)
  /-- PWR_EN_ASSERT (R539): The cabinet asserts PWR_EN; the module brings its rails into regulation and asserts PWR_GOOD within 50 ms. -/
  | pwrEnAssert (now : Time)
  /-- PWR_EN_FALL (R540): PWR_EN falls; the module ends every entry with 0x0930, posts RESET_ANNOUNCE, disables its Maltuox ports and
  deasserts PWR_GOOD within 20 ms. -/
  | pwrEnFall (now : Time)
  /-- PERST_N_DEASSERT (R539): The host deasserts PERST_N; the module trains the PCIe link and configuration space answers within 100 ms. -/
  | perstNDeassert (width rate : Nat) (now : Time)
  /-- PCIE_RESET (R525): A PERST# assertion, hot reset or link-down resets the PCIe controller and every function, leaving rigs, queues and
  jobs running. -/
  | pcieReset (perst : Bool) (now : Time)
  /-- VF_FLR (R530): A function-level reset of a VF resets its mailbox, zeroes its partition's notice ring base and sends its host-ring
  queues to ERROR. -/
  | vfFlr (func : Fin 4097) (now : Time)
  /-- PF_FLR (R530): A function-level reset of the physical function acts as a VF FLR for every function and zeroes NOTICE_RING_BASE. -/
  | pfFlr (now : Time)
  /-- BUS_MASTER_DISABLE (R530): Bus Master Enable becomes 0; host-ring reads wait and completion records and notices are held. -/
  | busMasterDisable (func : Fin 4097) (now : Time)
  /-- MBX_GO (R513): GO is written to MBX_CTRL; the mailbox copies the request, serves it and writes the response, DONE and an optional
  MSI-X message. -/
  | mbxGo (func : Fin 4097) (w : MbxWrite) (env : WriteEnv) (now : Time)
  /-- MBX_DONE_CLEAR (R512): A write of 1 to DONE or OVERRUN in MBX_CTRL clears that bit. -/
  | mbxDoneClear (func : Fin 4097) (done overrun : Bool) (now : Time)
  /-- APERTURE_CTRL_WRITE (R529): A write to APERTURE_CTRL selects the 1 MiB virtual window and the serving member for later aperture
  accesses. -/
  | apertureCtrlWrite (func : Fin 4097) (w : Word) (now : Time)
  /-- APERTURE_READ (R529): A host read through a VF aperture performs a checked load at the serving member, completing with data, EP for
  poison, or Unsupported Request. -/
  | apertureRead (func : Fin 4097) (off n tag : Nat) (errs : List EccEvent) (now : Time)
  /-- APERTURE_WRITE (R529): A host write through a VF aperture performs a checked store at the serving member, clearing CHK_VALID, or is
  dropped with notice 0x0171. -/
  | apertureWrite (func : Fin 4097) (off : Nat) (bs : List Byte) (now : Time)
  /-- HOST_FWD_DOORBELL (R532): A member receives a forwarded doorbell and applies it in FSEQ order, dropping older ones. -/
  | hostFwdDoorbell (h : HostFwd) (now : Time)
  /-- HOST_FWD_DICT_REQUEST (R532): A member receives a dictionary request forwarded by the anchor and serves it. -/
  | hostFwdDictRequest (h : HostFwd) (env : WriteEnv) (now : Time)
  /-- HOST_FWD_DICT_RESPONSE (R532): The anchor receives a member's dictionary response and places it in the function's mailbox. -/
  | hostFwdDictResponse (h : HostFwd) (now : Time)
  /-- HOST_FWD_NOTICE (R532): The anchor receives a member's notice and writes it to the rings under R310. -/
  | hostFwdNotice (h : HostFwd) (now : Time)
  /-- HOST_FWD_APERTURE_READ (R532): A member receives a forwarded aperture read and performs the load. -/
  | hostFwdApertureRead (h : HostFwd) (errs : List EccEvent) (now : Time)
  /-- HOST_FWD_APERTURE_WRITE (R532): A member receives a forwarded aperture write and applies it in FSEQ order. -/
  | hostFwdApertureWrite (h : HostFwd) (now : Time)
  /-- HOST_FWD_APERTURE_COMPLETION (R532): The anchor receives an aperture completion from a member and completes the host's PCIe read. -/
  | hostFwdApertureCompletion (h : HostFwd) (now : Time)
  /-- APERTURE_RESEND_TIMEOUT (R532): An aperture access forwarded by the anchor has no completion after 2 ms and is resent. -/
  | apertureResendTimeout (member : Fin 64) (fseq : BitVec 32) (now : Time)
  /-- ANCHOR_TAKEOVER (R534): The host writes ANCHOR_TAKEOVER through the standby's physical function, and the standby anchor takes over
  within 10 ms. -/
  | anchorTakeover (here : Bool) (value : Nat) (now : Time)
  /-- ANCHOR_LINK_DOWN_TIMEOUT (R534): The anchor's PCIe link has been down for 100 ms; the standby anchor takes over. -/
  | anchorLinkDownTimeout (now : Time)
  /-- DOORBELL_SQ_TAIL (R292): A doorbell write with CQ 0 sets a queue's submission tail, after checks of generation, state and range. -/
  | doorbellSqTail (func : Fin 4097) (member : Fin 64) (queue : Fin 4096) (w : Word) (now : Time)
  /-- DOORBELL_CQ_HEAD (R292): A doorbell write with CQ 1 sets a completion ring's head. -/
  | doorbellCqHead (func : Fin 4097) (member : Fin 64) (queue : Fin 4096) (w : Word) (now : Time)
  /-- NOTICE_RING_DOORBELL (R310): The host returns a notice ring's head through its doorbell, freeing ring space. -/
  | noticeRingDoorbell (func : Fin 4097) (w : Word) (now : Time)
  /-- DICT_READ (R508): A READ request returns an object's value or a segment of it. -/
  | dictRead (q : Requester) (r : DictReq) (now : Time)
  /-- DICT_WRITE (R508): A WRITE request sets an object that has no row of its own, or a segment of it, after type, range, access and
  selector checks. -/
  | dictWrite (q : Requester) (env : WriteEnv) (r : DictReq) (now : Time)
  /-- DICT_READ_STAGED (R508): A READ_STAGED request returns the staged value of a SEAL object, or the value in force. -/
  | dictReadStaged (q : Requester) (r : DictReq) (now : Time)
  /-- DICT_DESCRIBE (R508): A DESCRIBE request returns an object's type, access, persistence, selector, length, default, name and units. -/
  | dictDescribe (q : Requester) (r : DictReq) (now : Time)
  /-- DICT_NEXT (R508): A NEXT request returns the next Index.Sub that the requester may reach. -/
  | dictNext (q : Requester) (r : DictReq) (now : Time)
  /-- DICT_SEGMENT_TIMEOUT (R510): An open segmented write receives no segment for 1 s and is discarded. -/
  | dictSegmentTimeout (now : Time)
  /-- DICT_REQUEST_RETRY (R515): A fabric or UDP requester that has no response after 2 ms resends the same request with the same TXN, up to
  4 times. -/
  | dictRequestRetry (peer txn : Nat) (now : Time)
  /-- UDP_DATAGRAM_RX (R516): A UDP datagram arrives on the 10BASE-T1S segment; it is discarded if it breaks the segment rules, otherwise
  served as a dictionary request. -/
  | udpDatagramRx (g : Datagram) (env : WriteEnv) (now : Time)
  /-- MULTICAST_RESPONSE_DELAY (R516): A request sent to ff02::1 is answered after a random delay of 0–50 ms. -/
  | multicastResponseDelay (peer txn : Nat) (now : Time)
  /-- NOTICE_RING_CONFIG (R518): A write to NOTICE_RING_BASE or NOTICE_RING_LOG2 resets the ring's tail, head and phase. -/
  | noticeRingConfig (part : Option (Fin 512)) (f : RingField) (now : Time)
  /-- ECALL_END (R190): ECALL with a7 = 0 ends the entry, after every committed tensor instruction completes, with a0 as status. -/
  | ecallEnd (prog : Prog) (now : Time)
  /-- PROGRAM_EXCEPTION (R190): An exception taken in user mode, including ECALL with a7 ≠ 0, ends the entry with 0x0130. -/
  | programException (prog : Prog) (mcause mtval : Word) (now : Time)
  /-- BRANCH_MISPREDICT (R205): A mispredicted branch or jump resolves; every younger tentative TIQ entry is squashed and decode resumes
  next cycle. -/
  | branchMispredict (prog : Prog) (young : Nat) (now : Time)
  /-- SCALAR_LOAD (R278): The control core performs a scalar load after translation and whole-extent check, from local store, memory, reader
  copy or remote home. -/
  | scalarLoad (prog : Prog) (w : MemWait) (errs : List EccEvent) (now : Time)
  /-- SCALAR_STORE (R278): The control core performs a scalar store to local memory, the egress buffer or a coherent window, clearing
  CHK_VALID. -/
  | scalarStore (prog : Prog) (va : Word) (size : Nat) (v : Word) (now : Time)
  /-- AMO (R277): An atomic memory operation is performed on the local store, scratchpad, own stack bank or a coherent window home. -/
  | amo (prog : Prog) (op : Fin 32) (wide : Bool) (va v : Word) (rd : Fin 32) (rl : Bool) (now : Time)
  /-- LR (R189): A load-reserved records a reservation for its line, locally or at the coherent-window home. -/
  | lr (prog : Prog) (wide : Bool) (va : Word) (rd : Fin 32) (now : Time)
  /-- SC (R189): A store-conditional succeeds only if the reservation is held and the line was not written since the LR, and drops the
  reservation. -/
  | sc (prog : Prog) (wide : Bool) (va v : Word) (rd : Fin 32) (now : Time)
  /-- FENCE (R278): A RISC-V FENCE orders scalar accesses, waiting for older stores when its predecessor set includes W. -/
  | fence (prog : Prog) (predW : Bool) (now : Time)
  /-- TXCTL_WRITE (R195): A serialising write to TXCTL sets SPEC_EN, FAULT_STOP and END_ON_FAULT. -/
  | txctlWrite (prog : Prog) (v : Word) (rd : Fin 32) (now : Time)
  /-- TXFAULT_WRITE (R196): A write of any value to TXFAULT clears the whole register. -/
  | txfaultWrite (prog : Prog) (rd : Fin 32) (now : Time)
  /-- TD_WRITE (R199): A serialising write to TDLO or TDHI sets half of the tile descriptor that TDSEL selects. -/
  | tdWrite (prog : Prog) (hi : Bool) (v : Word) (rd : Fin 32) (now : Time)
  /-- CRDATA_WRITE (R193): A serialising write to CRDATA sets a chain word and marks the register unchecked. -/
  | crdataWrite (prog : Prog) (v : Word) (rd : Fin 32) (now : Time)
  /-- CSR_WRITE (R199): A serialising write to a tensor CSR without behaviour of its own, such as TDSEL or CRSEL; an unlisted address raises
  illegal instruction. -/
  | csrWrite (prog : Prog) (addr : BitVec 12) (v : Word) (rd : Fin 32) (now : Time)
  /-- TIQ_ENTER (R192): A decoded tensor instruction enters the tensor issue queue and latches its descriptors, chains, f and x registers;
  decode stalls when the TIQ is full. -/
  | tiqEnter (prog : Prog) (word : BitVec 32) (now : Time)
  /-- ENGINE_BEGIN (R202): An engine makes an instruction's first operand request 4 cycles after TIQ entry, or at commit when SPEC_EN is 0,
  and does permitted tentative work. -/
  | engineBegin (core : Fin 512) (id cycle : Nat) (now : Time)
  /-- TENSOR_COMMIT (R202): A tensor instruction retires from the control core: it claims its completion slot, reports held findings, and
  may write; illegal encodings raise an exception here. -/
  | tensorCommit (core : Fin 512) (now : Time)
  /-- TENSOR_COMPLETE (R197): A tensor instruction completes: its slot, TCSX and TXFAULT are written, arm-record use counts advance, and
  END_ON_FAULT may end the entry. -/
  | tensorComplete (core : Fin 512) (id : Nat) (now : Time)
  /-- MMA_OPEN (R120): An MMA in OPEN mode accumulates from zero over its groups and writes 64 KiB of partial sums, leaving the group HELD.
  -/
  | mmaOpen (core : Fin 512) (id : Nat) (now : Time)
  /-- MMA_CONTINUE (R120): An MMA in CONTINUE mode reads and writes a group's partial sums, after state and shape checks. -/
  | mmaContinue (core : Fin 512) (id : Nat) (now : Time)
  /-- MMA_CLOSE (R120): An MMA in CLOSE mode reads partial sums, folds, runs the epilogue chain and writes its output, leaving the group
  EMPTY. -/
  | mmaClose (core : Fin 512) (id : Nat) (now : Time)
  /-- MMA_OPEN_CLOSE (R120): An MMA in OPEN_CLOSE mode accumulates from zero and closes through the epilogue without partial-sum traffic. -/
  | mmaOpenClose (core : Fin 512) (id : Nat) (now : Time)
  /-- MMA_GROUP_START (R103): The matrix engine begins a group once all its A and B beads have landed, entering tree sums into the
  accumulator in increasing k. -/
  | mmaGroupStart (core : Fin 512) (id : Nat) (fault : Mismatch) (errs : List EccEvent) (now : Time)
  /-- EPILOGUE_CLOSE_START (R96): The epilogue unit takes the next pending close in issue order once its epilogue operands have landed, runs
  the chain and sets SV_RECORD. -/
  | epilogueCloseStart (core : Fin 512) (faults : UnitFaults) (now : Time)
  /-- ARRIVAL_STAY_EXPIRE (R105): An armed MMA or close whose next group or epilogue operands are not ready within ARRIVAL_STAY completes
  with 0x0317. -/
  | arrivalStayExpire (core : Fin 512) (id : Nat) (now : Time)
  /-- BEAD_LAND (R102): A whole bead write into an armed position completes and is verified, setting its arrival bit, or is refused for tag
  mismatch or overrun. -/
  | beadLand (mpa : Nat) (bytes : List Byte) (sb : BitVec 64) (poison : Bool) (now : Time)
  /-- VRUN (R157): A vector run takes every element through its chain and writes D, the mask output and residuals in one pass. -/
  | vrun (core : Fin 512) (id : Nat) (now : Time)
  /-- COMPRESS_BUILD (R179): A compress in BUILD mode reads a mask region and writes an index map and the dense destination. -/
  | compressBuild (core : Fin 512) (id : Nat) (now : Time)
  /-- COMPRESS_REUSE (R179): A compress in REUSE mode reads an existing index map, checks it entry by entry and writes the dense
  destination. -/
  | compressReuse (core : Fin 512) (id : Nat) (now : Time)
  /-- EXPAND_FILL (R180): An expand in FILL mode scatters dense elements and writes the fill value elsewhere. -/
  | expandFill (core : Fin 512) (id : Nat) (now : Time)
  /-- EXPAND_KEEP (R180): An expand in KEEP mode scatters dense elements and leaves other positions unchanged. -/
  | expandKeep (core : Fin 512) (id : Nat) (now : Time)
  /-- VECTOR_BEAD_FORM (R183): The vector engine forms the next output bead once every source bead it draws on has landed. -/
  | vectorBeadForm (core : Fin 512) (id : Nat) (faults : UnitFaults) (now : Time)
  /-- VECTOR_ARRIVAL_STAY_EXPIRE (R183): A vector instruction's next output bead is not ready within ARRIVAL_STAY; it completes with 0x0317
  and reports the first bead not written. -/
  | vectorArrivalStayExpire (core : Fin 512) (id : Nat) (now : Time)
  /-- TLOAD (R222): TLOAD copies a tensor from the core's stack bank to its near scratchpad. -/
  | tload (core : Fin 512) (run : EngineRun) (now : Time)
  /-- TSTORE (R222): TSTORE copies a tensor from the near scratchpad to the core's stack bank. -/
  | tstore (core : Fin 512) (run : EngineRun) (now : Time)
  /-- TMOVE (R222): TMOVE copies a tensor among the scratchpads and stack banks of the module and DRAM. -/
  | tmove (core : Fin 512) (run : EngineRun) (now : Time)
  /-- SEND (R224): SEND posts a tensor's beads to another module's memory in increasing bead index and completes when all are acknowledged.
  -/
  | send (core : Fin 512) (run : EngineRun) (now : Time)
  /-- RECV (R224): RECV reads beads from another module's memory and completes when every bead is written locally. -/
  | recv (core : Fin 512) (id : Nat) (now : Time)
  /-- ARM (R226): ARM creates an arm record over a descriptor's bead range and clears its arrival bits. -/
  | arm (core : Fin 512) (id : Nat) (now : Time)
  /-- DISARM (R227): DISARM releases an arm record after its matched instructions complete. -/
  | disarm (core : Fin 512) (id : Nat) (now : Time)
  /-- SIGNAL (R230): SIGNAL adds to a semaphore at its home without waiting for older writes. -/
  | signal (core : Fin 512) (id : Nat) (now : Time)
  /-- SIGNAL_RELEASE (R230): SIGNAL with RELEASE leaves only after older TSTORE, TMOVE, SEND and RFLUSH have completed. -/
  | signalRelease (core : Fin 512) (id : Nat) (now : Time)
  /-- WAIT (R231): WAIT executes at commit, serialises decode and completes when the local semaphore reaches the threshold. -/
  | wait (core : Fin 512) (id : Nat) (now : Time)
  /-- WAIT_CONSUME (R231): WAIT with CONSUME also subtracts the threshold atomically when the condition is found true. -/
  | waitConsume (core : Fin 512) (id : Nat) (now : Time)
  /-- WAIT_SATISFIED (R231): The semaphore home finds a pending WAIT's condition true, applies any consume, and completes it. -/
  | waitSatisfied (sem : Nat) (now : Time)
  /-- RFLUSH (R232): RFLUSH waits for older overlapping copies, writes dirty hub-cache and egress lines of the range home, and completes on
  acknowledgement. -/
  | rflush (core : Fin 512) (id : Nat) (now : Time)
  /-- CLASP (R233): CLASP serialises decode until older instructions of the named units and, with SST, older scalar stores have completed.
  -/
  | clasp (core : Fin 512) (id : Nat) (now : Time)
  /-- DIGEST (R235): DIGEST verifies and hashes a tensor's beads and writes the 64-bit digest to the result address. -/
  | digest (core : Fin 512) (run : EngineRun) (now : Time)
  /-- DIGEST_ACC (R235): DIGEST with ACC also adds the digest atomically to a partition digest accumulator. -/
  | digestAcc (core : Fin 512) (run : EngineRun) (now : Time)
  /-- CSET (R236): CSET loads a 128-byte chain record from the local data store into a chain register after legality checks. -/
  | cset (core : Fin 512) (id : Nat) (now : Time)
  /-- MAP_REQ (R256): The security pair serves a map request, writing a leaf after validity checks and zero-filling a fresh DRAM page. -/
  | mapReq (part : Fin 512) (va : Word) (target slot size flags : Nat) (home : Option Bool) (now : Time)
  /-- UNMAP_REQ (R258): The security pair removes a leaf and broadcasts the invalidation, completing when every translation unit has dropped
  it. -/
  | unmapReq (part : Fin 512) (va : Word) (size : Nat) (remote : List (BitVec 14)) (now : Time)
  /-- READ_SH (R279): A home receives a request for a reader copy of a coherent-window line and grants it, or grants it uncached when the
  directory is full. -/
  | readSh (msg : CohMsg) (now : Time)
  /-- GRANT (R279): A reader receives a line's copy or uncached value with its tag and generation. -/
  | grant (msg : CohMsg) (now : Time)
  /-- WRITE (R279): A home receives a coherent-window write or AMO and starts an invalidation round before applying it. -/
  | write (msg : CohMsg) (now : Time)
  /-- WRITE_ACK (R279): A writer receives the acknowledgement that its coherent write is performed, with any AMO result or SC success. -/
  | writeAck (msg : CohMsg) (now : Time)
  /-- SNOOP_INV (R279): A sharer receives an invalidation and answers with ANS_INVALIDATED or ANS_EVICTING. -/
  | snoopInv (msg : CohMsg) (now : Time)
  /-- ANS_INVALIDATED (R279): A home receives a sharer's invalidation answer; when all have answered it applies the write and sends
  WRITE_ACK. -/
  | ansInvalidated (msg : CohMsg) (now : Time)
  /-- ANS_EVICTING (R280): A home receives an answer that the copy was being evicted and treats it as both answer and eviction. -/
  | ansEvicting (msg : CohMsg) (now : Time)
  /-- EVICT_NOTICE (R280): A home receives an eviction notice and removes the matching entry or drops a late notice. -/
  | evictNotice (msg : CohMsg) (now : Time)
  /-- READER_COPY_EVICT (R280): A hub evicts a reader copy, sends EVICT_NOTICE and keeps an eviction record. -/
  | readerCopyEvict (key : BitVec 16) (va : Word) (now : Time)
  /-- EVICTION_RECORD_EXPIRE (R280): An eviction record is dropped 1 ms after it was made. -/
  | evictionRecordExpire (now : Time)
  /-- SNOOP_RESEND_TIMEOUT (R281): An unanswered SNOOP_INV is resent after 600 µs; after 3 resends notice 0x0440 is raised. -/
  | snoopResendTimeout (line : Nat) (now : Time)
  /-- EGRESS_WRITEBACK (R270): The hub writes back an egress-buffer line to its home, sending only masked bytes, on eviction when way 15 is
  full or on flush. -/
  | egressWriteback (key : BitVec 16) (va : Word) (now : Time)
  /-- HUB_CACHE_EVICT (R245): A dirty line of ways 0–14 is written back to DRAM on eviction, encrypted under its key slot. -/
  | hubCacheEvict (line : Nat) (errs : List EccEvent) (now : Time)
  /-- QUEUE_CREATE (R286): Queue creation checks a descriptor in order and returns the queue handle. -/
  | queueCreate (part : Fin 512) (func : Fin 4097) (desc : List Byte) (now : Time)
  /-- QUEUE_DESTROY (R287): A queue is destroyed and enters DRAINING until its last completion is written. -/
  | queueDestroy (part : Fin 512) (handle : Nat) (now : Time)
  /-- ENTRY_FETCH (R289): The front end fetches submission entries, up to 4 ahead of dispatch; a faulting or poisoned read sends the queue
  to ERROR. -/
  | entryFetch (queue : Fin 4096) (host : HostRead) (now : Time)
  /-- DISPATCH (R302): At an open dispatch slot the front end picks a queue by credit, urgency, priority and borrowing, and the dispatchers
  assign the entry. -/
  | dispatch (core : Fin 512) (now : Time)
  /-- CREDIT_REFRESH (R288): Every 100 µs the holding module refreshes credit and urgency at member modules. -/
  | creditRefresh (queue : Fin 4096) (now : Time)
  /-- ENTRY_END (R294): An ended entry is completed in submission order: SIGNAL, completion record and MSI-X request, or notice 0x0113. -/
  | entryEnd (queue : Fin 4096) (now : Time)
  /-- MSIX_HOLDOFF_EXPIRE (R297): A queue's MSI-X holdoff interval ends and any requests made within it send one message. -/
  | msixHoldoffExpire (queue : Fin 4096) (now : Time)
  /-- CQ_HEAD_POLL (R296): While a device completion ring is full the front end reads its head word at most every 10 µs. -/
  | cqHeadPoll (queue : Fin 4096) (now : Time)
  /-- SCHED_WINDOW_END (R299): An accounting window ends and each real-time queue's under-demand state is set from its charges. -/
  | schedWindowEnd (now : Time)
  /-- QUEUE_URGENT (R300): A best-effort queue's wait exceeds T_urgent and it becomes urgent. -/
  | queueUrgent (queue : Fin 4096) (now : Time)
  /-- FE_QUEUE_STAY (R300): A queue's wait reaches a multiple of T_stay and raises notice 0x0150. -/
  | feQueueStay (queue : Fin 4096) (now : Time)
  /-- ID_QUARANTINE_END (R304): A freed identifier leaves its 1 ms quarantine and may be allocated. -/
  | idQuarantineEnd (k : IdKind) (n : Nat) (now : Time)
  /-- STREAM_OPEN (R306): A transfer stream is opened to a destination module and its handle returned. -/
  | streamOpen (part : Fin 512) (dest : BitVec 14) (now : Time)
  /-- STREAM_CLOSE (R306): A stream is closed to new transfers and completes when those in flight complete. -/
  | streamClose (part : Fin 512) (handle : Word) (now : Time)
  /-- SEM_ALLOC (R307): A semaphore is allocated with an initial value, a new generation and ALLOCATED set. -/
  | semAlloc (part : Fin 512) (init : Word) (now : Time)
  /-- SEM_FREE (R307): A semaphore is freed, its pending WAITs complete with 0x0141 and it enters quarantine. -/
  | semFree (part : Fin 512) (handle : Word) (now : Time)
  /-- NOTICE_FLUSH (R311): Ring space returns; the module writes FE_NOTICES_DROPPED if any were dropped, then the held notices in order. -/
  | noticeFlush (ring : Nat) (now : Time)
  /-- PKG_FLIT_SEND (R24): A UCIe module's transmitter sends the next flit, serving VCs in fixed order and requiring credit on credited
  channels. -/
  | pkgFlitSend (e : Fin 192) (now : Time)
  /-- PKG_FLIT_RX (R23): A package-link flit arrives; a good in-order DATA flit is accepted, a damaged one is discarded with a NAK. -/
  | pkgFlitRx (e : Fin 192) (bs : List Byte) (now : Time)
  /-- PKG_NAK_RX (R23): A NAK arrives and the sender resends from the named SEQ in order. -/
  | pkgNakRx (e : Fin 192) (seq : BitVec 10) (now : Time)
  /-- PKG_CREDIT_INIT_RX (R22): A CREDIT_INIT flit announces the receiver's credits at link-up. -/
  | pkgCreditInitRx (e : Fin 192) (vc : Fin 4) (n : Nat) (now : Time)
  /-- PKG_REPLAY_TIMEOUT (R23): A sender with unacknowledged flits and no ACK or NAK for 1 µs resends them from the oldest. -/
  | pkgReplayTimeout (e : Fin 192) (now : Time)
  /-- UCIE_RETRAIN_DONE (R23): A UCIe module's retrain ends; on success unacknowledged flits are resent, on failure the module is retired
  and remapped. -/
  | ucieRetrainDone (link : Fin 96) (rate : Nat) (now : Time)
  /-- ONPKG_HALYARD_POST (R28): The hub posts a packet on the on-package halyard in HSEQ order to the target dies and clusters. -/
  | onpkgHalyardPost (kind : Nat) (dies clusters : BitVec 8) (payload : List Byte) (now : Time)
  /-- ONPKG_HALYARD_DELIVER (R27): A target core receives an on-package halyard copy and hands it to its monitor or translation unit. -/
  | onpkgHalyardDeliver (core : Fin 512) (now : Time)
  /-- ONPKG_HALYARD_ACK (R28): A merged acknowledgement reaches a router, switch or the root; the packet completes when every target die has
  acknowledged. -/
  | onpkgHalyardAck (seq : BitVec 32) (cluster : Fin 64) (now : Time)
  /-- QUIESCE (R39): The QUIESCE verb stops a rig taking new entries, drains those in flight and enters QUIESCED. -/
  | quiesce (r : BitVec 32) (now : Time)
  /-- RESUME (R39): The RESUME verb takes a rig out of QUIESCED. -/
  | resume (r : BitVec 32) (now : Time)
  /-- RESET_RETAIN (R39): The RESET_RETAIN verb resets a core or cluster with SRAM retained, or is refused above L1. -/
  | resetRetain (r : BitVec 32) (now : Time)
  /-- RESET_CLEAR (R39): The RESET_CLEAR verb resets a rig at any level with SRAM zero-filled; other values are refused with 0x0910. -/
  | resetClear (r : BitVec 32) (value : Nat) (now : Time)
  /-- POWER_REQ_WRITE (R41): A write to a rig's POWER_REQ is raised to its minimum and shared among members in proportion to CORES_ACTIVE.
  -/
  | powerReqWrite (r : BitVec 32) (w : Nat) (now : Time)
  /-- LINK_DATA_FRAME (R319): A DATA frame arrives; with good CRC, tag and in-order FSEQ its packets go to the switch, otherwise it is
  discarded and NAKed; FACK and NAK are applied. -/
  | linkDataFrame (port : Fin 32) (bs : List Byte) (now : Time)
  /-- LINK_IDLE_FRAME (R319): An IDLE frame arrives and its FACK and NAK are applied. -/
  | linkIdleFrame (port : Fin 32) (bs : List Byte) (now : Time)
  /-- GROUP_MARKER (R315): A codeword group marker arrives; the receiver finds group boundaries and deskews, discarding groups whose marker
  fails. -/
  | groupMarker (port : Fin 32) (bs : List Byte) (now : Time)
  /-- LINK_REPLAY_TIMEOUT (R320): A sender whose FACK has not advanced for 4 µs resends from its oldest unacknowledged frame. -/
  | linkReplayTimeout (port : Fin 32) (now : Time)
  /-- LANE_SER_WINDOW_END (R322): A one-second error window ends; lanes above LINK_SER_LIMIT for 3 windows are proposed for retirement and
  bad codeword rates request a retrain. -/
  | laneSerWindowEnd (port : Fin 32) (lanes : List (Nat × Nat)) (bad total : Nat) (now : Time)
  /-- LINK_LOCK_LOST (R323): Group lock is lost for 1 µs and the port retrains. -/
  | linkLockLost (port : Fin 32) (now : Time)
  /-- PEER_SIGNAL_DETECT (R324): DETECT sees the peer's signal on a lane and the port moves to EQUALIZE. -/
  | peerSignalDetect (port : Fin 32) (now : Time)
  /-- EQUALIZE_DONE (R324): Equalisation completes and LANE_TEST begins, or the port fails after 12 ms. -/
  | equalizeDone (port : Fin 32) (ok : Bool) (now : Time)
  /-- LANE_TEST_DONE (R324): The 1 ms PRBS31 test ends; failing lanes are retired and framing starts on lanes that passed at both ends. -/
  | laneTestDone (port : Fin 32) (own peer : BitVec 4) (now : Time)
  /-- IDENT (R326): An IDENT frame arrives; lanes are intersected and peer key, encryption setting and self-cabling are checked. -/
  | ident (port : Fin 32) (b : Ident) (now : Time)
  /-- IDENT_RESEND (R335): In IDENTIFY an IDENT frame is sent every 2 µs until the peer's arrives. -/
  | identResend (port : Fin 32) (now : Time)
  /-- KEY_AGREE_DONE (R332): ECDH and key derivation finish; the port enters ACTIVE with new session keys and counters at 0. -/
  | keyAgreeDone (port : Fin 32) (now : Time)
  /-- LINK_RETRY_TIMEOUT (R324): A port in FAILED or DOWN returns to DETECT after 1 s. -/
  | linkRetryTimeout (port : Fin 32) (now : Time)
  /-- RETRAIN_REQ (R328): A RETRAIN_REQ arrives and is accepted with a switch group, or resolved against a crossing request by serial
  number. -/
  | retrainReq (port : Fin 32) (serial : BitVec 64) (reason : Nat) (now : Time)
  /-- RETRAIN_ACCEPT (R328): A RETRAIN_ACCEPT arrives naming the switch group after which both ends leave ACTIVE. -/
  | retrainAccept (port : Fin 32) (group : BitVec 32) (now : Time)
  /-- RETRAIN_REQ_RESEND (R328): An unaccepted retrain request is resent every 10 µs; after 10 resends the requester stops framing. -/
  | retrainReqResend (port : Fin 32) (now : Time)
  /-- RETRAIN_SWITCH_GROUP (R328): The agreed switch group passes and both ends enter RETRAIN, discarding unacknowledged frames. -/
  | retrainSwitchGroup (port : Fin 32) (group : BitVec 32) (now : Time)
  /-- RETRAIN_DONE (R325): A retrain reaches ACTIVE and notice 0x0511 is raised. -/
  | retrainDone (port : Fin 32) (now : Time)
  /-- WIDTH_PROPOSE (R330): A WIDTH_PROPOSE arrives and is accepted with the merged lane set and a switch group. -/
  | widthPropose (port : Fin 32) (lanes : BitVec 4) (now : Time)
  /-- WIDTH_ACCEPT (R330): A WIDTH_ACCEPT arrives naming the new lane set and switch group. -/
  | widthAccept (port : Fin 32) (lanes : BitVec 4) (group : BitVec 32) (now : Time)
  /-- WIDTH_SWITCH_GROUP (R330): At the agreed group boundary both ends change lanes, resend unacknowledged frames and raise notice 0x0512.
  -/
  | widthSwitchGroup (port : Fin 32) (group : BitVec 32) (now : Time)
  /-- LINK_CMD_RETRAIN (R338): LINK_CMD 1 requests a retrain of the port. -/
  | linkCmdRetrain (port : Fin 32) (now : Time)
  /-- LINK_CMD_FULL_TRAIN (R338): LINK_CMD 2 starts a full training that retests every lane. -/
  | linkCmdFullTrain (port : Fin 32) (now : Time)
  /-- LINK_CMD_DISABLE (R338): LINK_CMD 3 turns the port's transmitters off and enters DISABLED. -/
  | linkCmdDisable (port : Fin 32) (now : Time)
  /-- LINK_CMD_ENABLE (R338): LINK_CMD 4 moves a disabled port to DETECT. -/
  | linkCmdEnable (port : Fin 32) (now : Time)
  /-- BEACON (R336): A BEACON frame arrives; delay and offset are computed, fabric time is steered, and root, hops and wraps are taken. -/
  | beacon (port : Fin 32) (bseq : BitVec 16) (ttx : Time) (echoSeq : BitVec 16) (echoRx : Time) (root : BitVec 14) (hops : BitVec 8) (wraps
  : BitVec 16) (now : Time)
  /-- BEACON_SEND (R335): A BEACON is sent in the first MGMT slot after each 64 µs of fabric time. -/
  | beaconSend (port : Fin 32) (now : Time)
  /-- SEAL (R337): A SEAL frame arrives and its epoch, configuration seal and link seal are compared; three mismatches raise notice 0x0510.
  -/
  | sealFrame (port : Fin 32) (epoch : Nat) (cfg link : BitVec 384) (ttx now : Time)
  /-- SEAL_SEND (R335): A SEAL frame is sent in the first MGMT slot after each 10 ms of fabric time. -/
  | sealSend (port : Fin 32) (now : Time)
  /-- SWITCH_CYCLE (R350): Each switch cycle drops expired or damaged packets, routes transit packets productively or by deflection to the
  detour queue, serves halyard queues and injects. -/
  | switchCycle (die : Fin 8) (slots : BitVec 4) (now : Time)
  /-- INJECTION_PROMOTE (R351): An injection head that has waited 256 cycles is promoted into arbitration as a transit packet. -/
  | injectionPromote (die : Fin 8) (now : Time)
  /-- EGRESS_POST (R357): The hub egress posts a pair-order packet when the destination window has room, stamping TS, PSEQ, EPOCH and PKEY.
  -/
  | egressPost (die : Fin 8) (now : Time)
  /-- BEAD (R358): The ingress unit receives a BEAD fragment, applies or holds it by pair order, and writes the bead whole after its last
  fragment. -/
  | bead (packet : Packet) (now : Time)
  /-- LINE_WB (R270): The ingress unit receives an egress write-back and merges its masked bytes into the home copy in pair order. -/
  | lineWb (packet : Packet) (now : Time)
  /-- READ_REQ (R358): The ingress unit receives a read request and serves it in pair order. -/
  | readReq (packet : Packet) (now : Time)
  /-- READ_RESP (R364): A requester receives a read-response fragment and counts it toward its RECV. -/
  | readResp (packet : Packet) (now : Time)
  /-- PKT_SIGNAL (R230): A semaphore home receives a SIGNAL packet and applies or discards it by generation and partition. -/
  | pktSignal (packet : Packet) (now : Time)
  /-- PAIR_ACK (R360): A source receives an acknowledged frontier and removes packets from its window, completing operations. -/
  | pairAck (packet : Packet) (now : Time)
  /-- PAIR_LOSS (R361): A source receives a loss report and completes the owning operations with 0x0420. -/
  | pairLoss (packet : Packet) (now : Time)
  /-- PAIR_SKIP (R361): A destination receives a skip and closes the gap at once. -/
  | pairSkip (packet : Packet) (now : Time)
  /-- REFUSE (R261): A sender receives a refusal naming the refused packet and cause, which completes its operation. -/
  | refuse (packet : Packet) (now : Time)
  /-- MGMT (R514): A management packet arrives and is consumed by the management pair as a dictionary request or response or other service.
  -/
  | mgmt (packet : Packet) (env : WriteEnv) (now : Time)
  /-- HALYARD (R368): A switch copies a halyard packet from its parent input into the halyard queue of every child output; a hub delivers it
  in HSEQ order. -/
  | halyard (at' : Option (Fin 8 × Fin 7)) (packet : Packet) (now : Time)
  /-- PAIR_ACK_SEND (R360): The ingress unit sends PAIR_ACK with the merged frontier within 1 µs of an advance. -/
  | pairAckSend (module : BitVec 14) (now : Time)
  /-- PAIR_ACK_REPEAT (R360): The latest PAIR_ACK is repeated every 100 µs until 1.2 ms after the last advance. -/
  | pairAckRepeat (module : BitVec 14) (now : Time)
  /-- PAIR_GAP_LOST (R361): Fabric time reaches the TS of the oldest held packet plus 500 µs; the gap is declared lost, held packets applied
  and PAIR_LOSS sent. -/
  | pairGapLost (module : BitVec 14) (now : Time)
  /-- SOURCE_LOSS_DECLARE (R362): A packet still in the source window 1,200 µs after its TS is declared lost, PAIR_SKIP sent and its
  operation completed. -/
  | sourceLossDeclare (module : BitVec 14) (now : Time)
  /-- RECV_TIMEOUT (R364): A RECV whose responses have not all arrived 1,200 µs after its last request completes with 0x0420. -/
  | recvTimeout (core : Fin 512) (id : Nat) (now : Time)
  /-- ROUTE_STAGE (R365): A write to ROUTE_STAGE loads a die's idle routing bank. -/
  | routeStage (die : Fin 8) (table : List Byte) (now : Time)
  /-- ROUTE_ARM_TIME (R365): A write to ROUTE_ARM_TIME arms an epoch switch at time T, or is refused. -/
  | routeArmTime (t now : Time)
  /-- EPOCH_SWITCH (R365): At time T the hub egress stamps new posts with the next epoch. -/
  | epochSwitch (now : Time)
  /-- EPOCH_RETIRE (R365): At T plus ROUTE_DRAIN_US each switch retires the old bank. -/
  | epochRetire (now : Time)
  /-- HALYARD_GAP_REPAIR (R369): An HSEQ gap open for 100 µs sends the root a repair request; after 4 requests the gap is reported to the
  consumer. -/
  | halyardGapRepair (h : Nat) (now : Time)
  /-- HALYARD_REPAIR_REQUEST (R369): The root receives a repair request and resends the missing packets as unicast MGMT. -/
  | halyardRepairRequest (src : BitVec 14) (h : Nat) (first : BitVec 32) (count : Nat) (now : Time)
  /-- FILL_REQ (R374): A fill request broadcasts a byte range as HALYARD packets under the partition key to every module of a halyard. -/
  | fillReq (part : Fin 512) (req : List Byte) (now : Time)
  /-- JRN_REGION_WRITE (R381): A write to JRN_BASE or JRN_BYTES registers the journal region, or is refused with 0x0944. -/
  | jrnRegionWrite (part : Fin 512) (base bytes : Word) (now : Time)
  /-- JRN_CMD_RECOVER (R388): A write of RECOVER to JRN_CMD starts journal recovery. -/
  | jrnCmdRecover (part : Fin 512) (now : Time)
  /-- JOURNAL_DECIDE (R389): With every report in, the coordinator decides roll forward, roll back or unrecoverable and submits replay
  entries. -/
  | journalDecide (part : Fin 512) (now : Time)
  /-- JOURNAL_FINISH (R388): After every replay entry completes, the coordinator writes CLOSED or ABORTED and raises the decision notice. -/
  | journalFinish (part : Fin 512) (now : Time)
  /-- DIGEST_COMPARE (R393): The comparer reads WDIGEST_POST from its replica peers and compares, raising 0x0860 and quiescing on mismatch.
  -/
  | digestCompare (part : Fin 512) (answers : List (BitVec 14 × Option Word)) (now : Time)
  /-- DIGEST_COMPARE_RETRY (R393): A comparison lacking a common step is retried every 10 ms; after 10 tries notice 0x0861 is raised. -/
  | digestCompareRetry (part : Fin 512) (answers : List (BitVec 14 × Option Word)) (now : Time)
  /-- ARBITER_TICK (R406): Every 100 ns the arbiter grants wake requests in order within per-die and module slew allowances and the pool. -/
  | arbiterTick (now : Time)
  /-- ENGINE_WAKE (R405): An engine with work requests a wake and waits in the wake queue for grant, POWER_REQ room and slew allowance. -/
  | engineWake (core : Fin 512) (unit : Fin 2) (now : Time)
  /-- ENGINE_SLEEP (R404): An engine without work for POWER_HOLD_US sleeps and its cost returns to the cluster. -/
  | engineSleep (core : Fin 512) (unit : Fin 2) (now : Time)
  /-- GRANT_RETURN (R404): A cluster returns whole watts to the arbiter after they stay unused for POWER_HOLD_US. -/
  | grantReturn (cluster : Fin 64) (now : Time)
  /-- REEF_CHANGE (R402): A core's reef level changes: narrowing then FLL move, or grant then FLL move then widening. -/
  | reefChange (core : Fin 512) (now : Time)
  /-- DROOP_TRIP (R409): A cluster's supply falls below the trip point and its clock period is stretched within 20 ns. -/
  | droopTrip (cluster : Fin 64) (now : Time)
  /-- SENSOR_SAMPLE (R420): A sensor samples at a fabric-time multiple of its period and the value and timestamp are recorded. -/
  | sensorSample (sensor : Fin 248) (v : BitVec 32) (ok : Bool) (now : Time)
  /-- THERMAL_REEF (R412): A cluster above T_REEF has its thermal level raised at once and every 1 ms after. -/
  | thermalReef (cluster : Fin 64) (now : Time)
  /-- POWER_INPUT_UNDERVOLT (R413): An input below 40 V for 1 ms sets a level-7 module floor. -/
  | powerInputUndervolt (now : Time)
  /-- VALVE_CONTROL (R417): Every 100 ms the valve command is updated by the controller or held fixed. -/
  | valveControl (now : Time)
  /-- PROTECT_STAGE (R433): The manager writes a complete new protection set-up to PROTECT_STAGE. -/
  | protectStage (setup : Setup) (now : Time)
  /-- PROTECT_COMMIT (R433): PROTECT_COMMIT checks the digest, re-enters the boot stage, validates, builds tables and clears changing rigs.
  -/
  | protectCommit (expected : BitVec 384) (t now : Time)
  /-- PROTECT_SWITCH (R433): At T or after clearing, the security pair switches to the new set-up, invalidates translations, installs key
  tables, erases released slots and leaves the boot stage. -/
  | protectSwitch (now : Time)
  /-- KEY_ERASE (R429): A crypto-erase drops the slot's hub-cache lines and advances its generation. -/
  | keyErase (part : Fin 512) (slot : Nat) (now : Time)
  /-- CONSENT_TOKEN (R436): A consent token is verified and sets or revokes debug consent; a new nonce is drawn. -/
  | consentToken (part : Fin 512) (t : List Byte) (now : Time)
  /-- CONSENT_EXPIRED (R436): Fabric time reaches NOT_AFTER; consent is revoked and notice 0x0731 raised. -/
  | consentExpired (part : Fin 512) (now : Time)
  /-- HALLMARK_REQ (R437): A nonce written to HALLMARK_REQ produces a signed module-scope hallmark. -/
  | hallmarkReq (nonce : BitVec 256) (now : Time)
  /-- HALLMARK_REQ_P (R437): A nonce written to HALLMARK_REQ_P produces a signed partition-scope hallmark. -/
  | hallmarkReqP (part : Fin 512) (nonce : BitVec 256) (now : Time)
  /-- SIGNET_INSTALL (R440): A signet is verified, stored and SIGNET_MASK updated, or refused. -/
  | signetInstall (b : List Byte) (now : Time)
  /-- SCRUB_VISIT (R447): The patrol scrubber reads a line in spare port cycles, corrects or poisons it, and tests poisoned SRAM lines. -/
  | scrubVisit (errs : List EccEvent) (fails : List EccSite) (now : Time)
  /-- JOB_CONTAINED_END (R451): Within 10 ms the system pair ends every other entry of the job, unloads it everywhere and raises notice
  0x0822. -/
  | jobContainedEnd (part : Fin 512) (now : Time)
  /-- RECOVERY_START (R461): The system pair starts the next pending recovery once the running one ends, widening or merging domains as
  faults arrive. -/
  | recoveryStart (bist : List (Fin 512)) (fails : Bool) (now : Time)
  /-- TESTPACK_PUSH (R463): A test pack is verified, stored and broadcast over halyard 0. -/
  | testpackPush (pushed : Bool) (b : List Byte) (now : Time)
  /-- TESTPACK_RUN (R464): Each TESTPACK_PERIOD_S a stored pack runs on each eligible idle core between zero-fills. -/
  | testpackRun (slot : Nat) (core : Fin 512) (idleMs : Nat) (now : Time)
  /-- TESTPACK_RUN_END (R465): A test-pack run ends and passes or raises notice 0x0870, retiring the core when ACTION is 1. -/
  | testpackRunEnd (core : Fin 512) (ecall0 : Bool) (result : BitVec 384) (finding : Cause) (now : Time)
  /-- PART_RESET (R471): A write to PART_RESET starts a partition reset of every rig of the partition. -/
  | partReset (part : Fin 512) (value : Nat) (now : Time)
  /-- RESET_DRAIN_DONE (R471): Every pair-order packet the domain posted has left its window; the logic is reset, SRAM kept or cleared,
  monitors reloaded and RESET_DONE raised. -/
  | resetDrainDone (r : BitVec 32) (part : Option (Fin 512)) (now : Time)
  /-- MODULE_RESET (R474): A module reset announces itself, drains and writes back the hub cache, puts DRAM in self-refresh, reboots,
  retrains and rejoins. -/
  | moduleReset (badChans : List (Fin 16)) (now : Time)
  /-- RESET_ANNOUNCE (R474): A home receives RESET_ANNOUNCE and removes the announcing module's directory entries. -/
  | resetAnnounce (module : BitVec 14) (now : Time)
  /-- MODULE_FAIL_TIMEOUT (R476): A watcher hears no SEAL frame for MODULE_FAIL_MS, or an announced reset misses 10 s, and broadcasts
  MODULE_FAILED. -/
  | moduleFailTimeout (module : BitVec 14) (now : Time)
  /-- MODULE_FAILED_RECEIVE (R476): Each module receiving MODULE_FAILED removes directory entries, resets pair state, completes operations
  and starts journal recovery. -/
  | moduleFailedReceive (module : BitVec 14) (now : Time)
  /-- HANG_REPORT_ROUND (R478): Every millisecond each module reports its share of the wait-for graph; two closed rounds declare
  PARTITION_HANG and may start a partition reset. -/
  | hangReportRound (part : Fin 512) (others : List HangReport) (unchanged : Bool) (now : Time)
  /-- FW_PUSH (R487): A firmware image is verified and written into the inactive bank, and broadcast when flagged. -/
  | fwPush (b : List Byte) (here bcast : Bool) (now : Time)
  /-- FW_ACTIVATE (R487): FW_ACTIVATE selects the bank that the next module reset boots. -/
  | fwActivate (v : Nat) (now : Time)
  /-- FW_SVN_COMMIT (R487): FW_SVN_COMMIT burns each stage's fused SVN floor up to the active image's SVN. -/
  | fwSvnCommit (v : Nat) (now : Time)
  /-- B3_FETCH (R485): After the census, a module whose B3 failed in both banks fetches its parent's B3 and writes it to the inactive bank.
  -/
  | b3Fetch (b : List Byte) (now : Time)
  /-- CENSUS_ORIGIN_TIMEOUT (R489): An origin module with no announced ID 100 ms after its first port is ACTIVE takes ID 0. -/
  | censusOriginTimeout (now : Time)
  /-- CENSUS_CLAIM (R491): A parent receives a child's CENSUS_CLAIM and adds that port to its halyard 0 child mask. -/
  | censusClaim (port : Fin 32) (src : BitVec 14) (now : Time)
  /-- CENSUS_SUMMARY (R491): Every 1 s the time root gathers module data over halyard 0, broadcasts SYSTEM_MODULES and resolves duplicate
  IDs. -/
  | censusSummary (es : List CensusEntry) (now : Time)
  /-- CONFIG_PUSH (R497): A configuration image is written into the staged configuration, and broadcast when flagged. -/
  | configPush (b : List Byte) (here pf : Bool) (now : Time)
  /-- SEAL_OBJECT_WRITE (R497): A write to a SEAL object goes to the staged configuration, creating it if needed. -/
  | sealObjectWrite (index : BitVec 16) (sub : BitVec 8) (v : List Byte) (now : Time)
  /-- CONFIG_ARM (R498): CONFIG_ARM checks epoch, seal and time and arms a configuration switch at T. -/
  | configArm (b : List Byte) (here : Bool) (now : Time)
  /-- CONFIG_CANCEL (R498): CONFIG_CANCEL disarms an armed switch, unless T is less than 1 ms ahead. -/
  | configCancel (v : Nat) (now : Time)
  /-- CONFIG_DISCARD (R497): CONFIG_DISCARD drops the staged configuration. -/
  | configDiscard (v : Nat) (now : Time)
  /-- CONFIG_SWITCH (R498): At T the staged configuration comes into force and the previous one is kept; torus changes rerun the census. -/
  | configSwitch (now : Time)
  /-- CONFIG_SYNCED (R499): A module whose configuration mismatches its parent's adopts the parent's configuration and armed state and
  raises notice 0x0974. -/
  | configSynced (force : ConfigImage) (staged : Option ConfigImage) (armed : Option Time) (now : Time)
  /-- JOB_LOAD (R264): A job load is checked for busy partition, signets and footprint on every module, and on success sets TXJOB and clears
  sealed regions. -/
  | jobLoad (part : Fin 512) (va : Word) (len : Nat) (uses : LoadUses) (others : List LoadReport) (now : Time)
  /-- JOB_UNLOAD (R521): A job is unloaded on every module, entries in flight completing under R45. -/
  | jobUnload (part : Fin 512) (value : Nat) (now : Time)
  /-- STANDBY_POWER_UP (R539): The 3.3 V standby input comes into range and the hub standby domain starts, opening the power-sequencing
  window. -/
  | standbyPowerUp (now : Time)
  /-- BUS_MASTER_ENABLE (R530): The host sets Bus Master Enable to 1 again, so held host-ring reads proceed and held completion records and
  notices are written. -/
  | busMasterEnable (func : Fin 4097) (now : Time)
  /-- PCIE_LINK_UP (R525): The host link trains back to the active state after a link-down or hot reset, updating PCIE_LINK_STATUS and the
  member's MAST_LINKUP bit. -/
  | pcieLinkUp (width rate : Nat) (now : Time)
  /-- PCIE_COMPLETION_TIMEOUT (R524): A read that the module masters to host memory gets no completion within the completion timeout
  (default 50 ms) and counts as a fault of the ring or buffer it served. -/
  | pcieCompletionTimeout (queue : Fin 4096) (now : Time)
  /-- INPUT_RANGE_LOST_IN_SEQUENCING (R539): The 54 V input leaves 40–60 V before step 4 of power-on; PWR_GOOD is held low. -/
  | inputRangeLostInSequencing (now : Time)
  /-- INPUT_RANGE_RESTORED_IN_SEQUENCING (R539): After the input has been back in range for 10 ms during the sequencing window, step 4 of
  power-on begins again. -/
  | inputRangeRestoredInSequencing (now : Time)
  /-- POWER_INPUT_OVERVOLT (R538): The input stays above 62 V for 100 µs; the power stage turns off, DRAM is lost and the cause is recorded
  in the standby domain. -/
  | powerInputOvervolt (now : Time)
  /-- OVERVOLT_RESTART (R538): The input has stayed within range for 1 s after an overvoltage cut-off; the module restarts with a cold
  power-on and later raises notice 0x0605. -/
  | overvoltRestart (now : Time)
  /-- INPUT_POWER_REMOVED (R13): The 54 V input is removed; module power is lost and DRAM contents with it, and the cause is reported after
  restart. -/
  | inputPowerRemoved (now : Time)
  /-- PKG_REPLAY_EXHAUSTED (R23): A flit resent 8 times without acknowledgement ends replay and the UCIe module retrains. -/
  | pkgReplayExhausted (e : Fin 192) (now : Time)
  /-- DROOP_RELEASE (R409): The supply has stayed 1% above the trip point for 200 ns and the stretch ends. -/
  | droopRelease (cluster : Fin 64) (now : Time)
  /-- DROOP_REEF (R410): A cluster that stretches too often or too long has its droop level raised. -/
  | droopReef (cluster : Fin 64) (now : Time)
  /-- DROOP_LEVEL_DECAY (R410): A raised droop level falls by 1 after each 10 ms without escalation. -/
  | droopLevelDecay (cluster : Fin 64) (now : Time)
  /-- POWER_ENVELOPE_EXCEEDED (R411): The 100 µs average stays above the budget for 2 ms, then each 1 ms, raising the enforcement level. -/
  | powerEnvelopeExceeded (now : Time)
  /-- POWER_PEAK_EXCEEDED (R411): The 10 µs average exceeds 3,600 W and the enforcement level rises by 2. -/
  | powerPeakExceeded (now : Time)
  /-- ENFORCEMENT_DECAY (R411): The enforcement level falls by 1 every 10 ms while input power is below the limits. -/
  | enforcementDecay (now : Time)
  /-- THERMAL_DECAY (R412): A cluster below T_REEF − 5 °C has its thermal level lowered every 10 ms. -/
  | thermalDecay (cluster : Fin 64) (now : Time)
  /-- UNDERVOLT_CLEAR (R413): The input has stayed above 41 V for 100 ms and the undervolt floor clears. -/
  | undervoltClear (now : Time)
  /-- COOLANT_HOLD (R416): Flow below 0.5 L/min for 1 s ends every entry, holds the compute dies in reset and puts DRAM in self-refresh. -/
  | coolantHold (now : Time)
  /-- COOLANT_HOLD_RELEASE (R416): In coolant hold, flow at or above 1.0 L/min for 5 s lets the compute dies recover. -/
  | coolantHoldRelease (now : Time)
  /-- VALVE_FAULT (R418): Valve position differs from command by over 10 points for 5 s; notice 0x0633 and command 100%. -/
  | valveFault (now : Time)
  /-- TIME_HOLDOVER (R419): A LOCKED fabric-time unit without a usable beacon for 1 ms enters HOLDOVER and raises 0x0640. -/
  | timeHoldover (now : Time)
  /-- FABRIC_TIME_WRAP (R421): The 48-bit nanosecond field of fabric time wraps and FABRIC_TIME_WRAPS advances. -/
  | fabricTimeWrap (now : Time)
  /-- CORE_SPARED (R455): A spare enters service within 2 ms with zero-filled, poisoned memories and notice 0x0841. -/
  | coreSpared (core : Fin 512) (now : Time)
  /-- LOCKSTEP_SELFTEST (R457): Every 1 ms a pair inverts one leader output bit and its comparator must report unequal. -/
  | lockstepSelftest (security unequal : Bool) (now : Time)
  /-- LOCKSTEP_MISMATCH (R458): Unequal outputs with a valid code block the cycle and stop the pair; the twin takes over. -/
  | lockstepMismatch (security : Bool) (now : Time)
  /-- LOCKSTEP_CHECKER_FAULT (R458): An invalid comparator code, failed self-test or delay-register parity error sends the pair unchecked
  while the twin takes over. -/
  | lockstepCheckerFault (security : Bool) (now : Time)
  /-- UNCHECKED_PAIR_EXIT (R459): An unchecked pair leaves service when its unbreakable operations end or after 100 ms. -/
  | uncheckedPairExit (security done : Bool) (now : Time)
  /-- PAIR_RESTART_DONE (R460): A restarted pair passes self-test and image check and takes its role back, or is retired. -/
  | pairRestartDone (security ok : Bool) (now : Time)
  deriving DecidableEq, Repr

end Sys2Proof
end

