-- ==== Sys2Proof/Machine/State.lean ====
section
/-!
DEFINITION. The state of the machine: the module's device and the queue of commands that wait; the state after reset; the ways a step
can stop.
-/
namespace Sys2Proof.Machine

/-- The faults of the machine: none. Every command of the spec has an effect in every state, or none that changes anything. -/
inductive Fault where
  deriving DecidableEq, Repr

/-- The refusals of the machine. -/
inductive Refusal where
  /-- a command whose meaning is not written; no arm of `exec` raises it: safe, since a machine that stops proves no false claim -/
  | notModelled (mnemonic : String)
  deriving DecidableEq, Repr

/-- The whole state: the module, and the commands that wait, first in, first out. -/
structure State where
  /-- every register, memory, buffer, counter, mode and pin that the spec gives the module -/
  dev : Dev := {}
  /-- the commands that wait, the oldest in front -/
  pending : List Instr := []
  deriving DecidableEq, Repr

/-- The factory's firmware: one valid image for each boot stage, in the first bank (19 R484, R485; DESIGN CHOICE, log entry 9). -/
def factoryBanks : KMap FwImage := [(1, { valid := true }), (2, { valid := true }), (3, { valid := true })]

/-- The module after reset, before its cold power-on: nothing in service, memory with nothing listed, every register at the value the
spec states (19 R486, R501; 21 R539), or at the value a log entry names; the configuration in force is the factory's, epoch 0, closed by
its own seal (19 R494). -/
def State.reset : State :=
  { dev := { boot := { bankA := factoryBanks }, cfg := { force := ({} : ConfigImage).closed } }, pending := [] }

/-- A command's effect on the module, the queue left as it is. Every value of the dictionary that the command has changed counts a new
version (20 R510). -/
def State.run (s : State) (f : Dev → Dev) : Host.Outcome State Fault Refusal :=
  .next { s with dev := (f s.dev).retag }

end Sys2Proof.Machine
end

