-- ==== Sys2Proof/Machine/Commands.lean ====
section
/-!
DEFINITION. The meaning of each command, one definition per row of spec/opcode_table.json, over the operations of the
chapters' files: what it does to the module; the queue of waiting commands is left as it is.
-/
namespace Sys2Proof.Machine

/-- POWER_ON (R486). -/
def execPowerOn (slow dead : List (Fin 96)) (badChans : List (Fin 16)) (bist : List (Fin 512)) (now : Time) (s : State) : Host.Outcome State
    Fault Refusal :=
  s.run (powerOn slow dead badChans bist now)

/-- PWR_EN_ASSERT (R539). -/
def execPwrEnAssert (now : Time) (s : State) : Host.Outcome State Fault Refusal :=
  s.run (pwrEnAssert now)

/-- PWR_EN_FALL (R540). -/
def execPwrEnFall (now : Time) (s : State) : Host.Outcome State Fault Refusal :=
  s.run (pwrEnFall now)

/-- PERST_N_DEASSERT (R539). -/
def execPerstNDeassert (width rate : Nat) (now : Time) (s : State) : Host.Outcome State Fault Refusal :=
  s.run (perstNDeassert width rate now)

/-- PCIE_RESET (R525). -/
def execPcieReset (perst : Bool) (now : Time) (s : State) : Host.Outcome State Fault Refusal :=
  s.run (pcieReset perst now)

/-- VF_FLR (R530). -/
def execVfFlr (func : Fin 4097) (now : Time) (s : State) : Host.Outcome State Fault Refusal :=
  s.run (vfFlr func.val now)

/-- PF_FLR (R530). -/
def execPfFlr (now : Time) (s : State) : Host.Outcome State Fault Refusal :=
  s.run (pfFlr now)

/-- BUS_MASTER_DISABLE (R530). -/
def execBusMasterDisable (func : Fin 4097) (now : Time) (s : State) : Host.Outcome State Fault Refusal :=
  s.run (busMasterDisable func.val now)

/-- MBX_GO (R513). -/
def execMbxGo (func : Fin 4097) (w : MbxWrite) (env : WriteEnv) (now : Time) (s : State) : Host.Outcome State Fault Refusal :=
  s.run (mbxGo func.val w env now)

/-- MBX_DONE_CLEAR (R512). -/
def execMbxDoneClear (func : Fin 4097) (done overrun : Bool) (now : Time) (s : State) : Host.Outcome State Fault Refusal :=
  s.run (mbxDoneClear func.val done overrun now)

/-- APERTURE_CTRL_WRITE (R529). -/
def execApertureCtrlWrite (func : Fin 4097) (w : Word) (now : Time) (s : State) : Host.Outcome State Fault Refusal :=
  s.run (apertureCtrlWrite func.val w now)

/-- APERTURE_READ (R529). -/
def execApertureRead (func : Fin 4097) (off n tag : Nat) (errs : List EccEvent) (now : Time) (s : State) : Host.Outcome State Fault Refusal
    :=
  s.run (apertureRead func.val off n tag errs now)

/-- APERTURE_WRITE (R529). -/
def execApertureWrite (func : Fin 4097) (off : Nat) (bs : List Byte) (now : Time) (s : State) : Host.Outcome State Fault Refusal :=
  s.run (apertureWrite func.val off bs now)

/-- HOST_FWD_DOORBELL (R532). -/
def execHostFwdDoorbell (h : HostFwd) (now : Time) (s : State) : Host.Outcome State Fault Refusal :=
  s.run (hostFwdDoorbell h now)

/-- HOST_FWD_DICT_REQUEST (R532). -/
def execHostFwdDictRequest (h : HostFwd) (env : WriteEnv) (now : Time) (s : State) : Host.Outcome State Fault Refusal :=
  s.run (hostFwdDictRequest h env now)

/-- HOST_FWD_DICT_RESPONSE (R532). -/
def execHostFwdDictResponse (h : HostFwd) (now : Time) (s : State) : Host.Outcome State Fault Refusal :=
  s.run (hostFwdDictResponse h now)

/-- HOST_FWD_NOTICE (R532). -/
def execHostFwdNotice (h : HostFwd) (now : Time) (s : State) : Host.Outcome State Fault Refusal :=
  s.run (hostFwdNotice h now)

/-- HOST_FWD_APERTURE_READ (R532). -/
def execHostFwdApertureRead (h : HostFwd) (errs : List EccEvent) (now : Time) (s : State) : Host.Outcome State Fault Refusal :=
  s.run (hostFwdApertureRead h errs now)

/-- HOST_FWD_APERTURE_WRITE (R532). -/
def execHostFwdApertureWrite (h : HostFwd) (now : Time) (s : State) : Host.Outcome State Fault Refusal :=
  s.run (hostFwdApertureWrite h now)

/-- HOST_FWD_APERTURE_COMPLETION (R532). -/
def execHostFwdApertureCompletion (h : HostFwd) (now : Time) (s : State) : Host.Outcome State Fault Refusal :=
  s.run (hostFwdApertureCompletion h now)

/-- APERTURE_RESEND_TIMEOUT (R532). -/
def execApertureResendTimeout (member : Fin 64) (fseq : BitVec 32) (now : Time) (s : State) : Host.Outcome State Fault Refusal :=
  s.run (apertureResendTimeout member.val fseq.toNat now)

/-- ANCHOR_TAKEOVER (R534). -/
def execAnchorTakeover (here : Bool) (value : Nat) (now : Time) (s : State) : Host.Outcome State Fault Refusal :=
  s.run (anchorTakeover here value now)

/-- ANCHOR_LINK_DOWN_TIMEOUT (R534). -/
def execAnchorLinkDownTimeout (now : Time) (s : State) : Host.Outcome State Fault Refusal :=
  s.run (anchorLinkDownTimeout now)

/-- DOORBELL_SQ_TAIL (R292). -/
def execDoorbellSqTail (func : Fin 4097) (member : Fin 64) (queue : Fin 4096) (w : Word) (now : Time) (s : State) : Host.Outcome State Fault
    Refusal :=
  s.run (doorbellSqTail func.val member.val queue.val w now)

/-- DOORBELL_CQ_HEAD (R292). -/
def execDoorbellCqHead (func : Fin 4097) (member : Fin 64) (queue : Fin 4096) (w : Word) (now : Time) (s : State) : Host.Outcome State Fault
    Refusal :=
  s.run (doorbellCqHead func.val member.val queue.val w now)

/-- NOTICE_RING_DOORBELL (R310). -/
def execNoticeRingDoorbell (func : Fin 4097) (w : Word) (now : Time) (s : State) : Host.Outcome State Fault Refusal :=
  s.run (noticeRingDoorbell func.val w now)

/-- DICT_READ (R508). -/
def execDictRead (q : Requester) (r : DictReq) (now : Time) (s : State) : Host.Outcome State Fault Refusal :=
  s.run (dictRead q r now)

/-- DICT_WRITE (R508). -/
def execDictWrite (q : Requester) (env : WriteEnv) (r : DictReq) (now : Time) (s : State) : Host.Outcome State Fault Refusal :=
  s.run (dictWrite q env r now)

/-- DICT_READ_STAGED (R508). -/
def execDictReadStaged (q : Requester) (r : DictReq) (now : Time) (s : State) : Host.Outcome State Fault Refusal :=
  s.run (dictReadStaged q r now)

/-- DICT_DESCRIBE (R508). -/
def execDictDescribe (q : Requester) (r : DictReq) (now : Time) (s : State) : Host.Outcome State Fault Refusal :=
  s.run (dictDescribe q r now)

/-- DICT_NEXT (R508). -/
def execDictNext (q : Requester) (r : DictReq) (now : Time) (s : State) : Host.Outcome State Fault Refusal :=
  s.run (dictNext q r now)

/-- DICT_SEGMENT_TIMEOUT (R510). -/
def execDictSegmentTimeout (now : Time) (s : State) : Host.Outcome State Fault Refusal :=
  s.run (dictSegmentTimeout now)

/-- DICT_REQUEST_RETRY (R515). -/
def execDictRequestRetry (peer txn : Nat) (now : Time) (s : State) : Host.Outcome State Fault Refusal :=
  s.run (dictRequestRetry peer txn now)

/-- UDP_DATAGRAM_RX (R516). -/
def execUdpDatagramRx (g : Datagram) (env : WriteEnv) (now : Time) (s : State) : Host.Outcome State Fault Refusal :=
  s.run (udpDatagramRx g env now)

/-- MULTICAST_RESPONSE_DELAY (R516). -/
def execMulticastResponseDelay (peer txn : Nat) (now : Time) (s : State) : Host.Outcome State Fault Refusal :=
  s.run (multicastResponseDelay peer txn now)

/-- NOTICE_RING_CONFIG (R518). -/
def execNoticeRingConfig (part : Option (Fin 512)) (f : RingField) (now : Time) (s : State) : Host.Outcome State Fault Refusal :=
  s.run (noticeRingConfig (part.map Fin.val) f now)

/-- ECALL_END (R190). -/
def execEcallEnd (prog : Prog) (now : Time) (s : State) : Host.Outcome State Fault Refusal :=
  s.run (ecallEnd prog now)

/-- PROGRAM_EXCEPTION (R190). -/
def execProgramException (prog : Prog) (mcause mtval : Word) (now : Time) (s : State) : Host.Outcome State Fault Refusal :=
  s.run (programException prog mcause mtval now)

/-- BRANCH_MISPREDICT (R205). -/
def execBranchMispredict (prog : Prog) (young : Nat) (now : Time) (s : State) : Host.Outcome State Fault Refusal :=
  s.run (branchMispredict prog young now)

/-- SCALAR_LOAD (R278). -/
def execScalarLoad (prog : Prog) (w : MemWait) (errs : List EccEvent) (now : Time) (s : State) : Host.Outcome State Fault Refusal :=
  s.run (scalarLoad prog w errs now)

/-- SCALAR_STORE (R278). -/
def execScalarStore (prog : Prog) (va : Word) (size : Nat) (v : Word) (now : Time) (s : State) : Host.Outcome State Fault Refusal :=
  s.run (scalarStore prog va.toNat size v now)

/-- AMO (R277). -/
def execAmo (prog : Prog) (op : Fin 32) (wide : Bool) (va v : Word) (rd : Fin 32) (rl : Bool) (now : Time) (s : State) : Host.Outcome State
    Fault Refusal :=
  s.run (amo prog op.val wide va.toNat v rd.val rl now)

/-- LR (R189). -/
def execLr (prog : Prog) (wide : Bool) (va : Word) (rd : Fin 32) (now : Time) (s : State) : Host.Outcome State Fault Refusal :=
  s.run (lr prog wide va.toNat rd.val now)

/-- SC (R189). -/
def execSc (prog : Prog) (wide : Bool) (va v : Word) (rd : Fin 32) (now : Time) (s : State) : Host.Outcome State Fault Refusal :=
  s.run (sc prog wide va.toNat v rd.val now)

/-- FENCE (R278). -/
def execFence (prog : Prog) (predW : Bool) (now : Time) (s : State) : Host.Outcome State Fault Refusal :=
  s.run (fence prog predW now)

/-- TXCTL_WRITE (R195). -/
def execTxctlWrite (prog : Prog) (v : Word) (rd : Fin 32) (now : Time) (s : State) : Host.Outcome State Fault Refusal :=
  s.run (txctlWrite prog v rd.val now)

/-- TXFAULT_WRITE (R196). -/
def execTxfaultWrite (prog : Prog) (rd : Fin 32) (now : Time) (s : State) : Host.Outcome State Fault Refusal :=
  s.run (txfaultWrite prog rd.val now)

/-- TD_WRITE (R199). -/
def execTdWrite (prog : Prog) (hi : Bool) (v : Word) (rd : Fin 32) (now : Time) (s : State) : Host.Outcome State Fault Refusal :=
  s.run (tdWrite prog hi v rd.val now)

/-- CRDATA_WRITE (R193). -/
def execCrdataWrite (prog : Prog) (v : Word) (rd : Fin 32) (now : Time) (s : State) : Host.Outcome State Fault Refusal :=
  s.run (crdataWrite prog v rd.val now)

/-- CSR_WRITE (R199). -/
def execCsrWrite (prog : Prog) (addr : BitVec 12) (v : Word) (rd : Fin 32) (now : Time) (s : State) : Host.Outcome State Fault Refusal :=
  s.run (csrWrite prog addr v rd.val now)

/-- TIQ_ENTER (R192). -/
def execTiqEnter (prog : Prog) (word : BitVec 32) (now : Time) (s : State) : Host.Outcome State Fault Refusal :=
  s.run (tiqEnter prog word now)

/-- ENGINE_BEGIN (R202). -/
def execEngineBegin (core : Fin 512) (id cycle : Nat) (now : Time) (s : State) : Host.Outcome State Fault Refusal :=
  s.run (engineBegin core.val id cycle now)

/-- TENSOR_COMMIT (R202). -/
def execTensorCommit (core : Fin 512) (now : Time) (s : State) : Host.Outcome State Fault Refusal :=
  s.run (tensorCommit core.val now)

/-- TENSOR_COMPLETE (R197). -/
def execTensorComplete (core : Fin 512) (id : Nat) (now : Time) (s : State) : Host.Outcome State Fault Refusal :=
  s.run (tensorComplete core.val id now)

/-- MMA_OPEN (R120). -/
def execMmaOpen (core : Fin 512) (id : Nat) (now : Time) (s : State) : Host.Outcome State Fault Refusal :=
  s.run (mmaOpen core.val id now)

/-- MMA_CONTINUE (R120). -/
def execMmaContinue (core : Fin 512) (id : Nat) (now : Time) (s : State) : Host.Outcome State Fault Refusal :=
  s.run (mmaContinue core.val id now)

/-- MMA_CLOSE (R120). -/
def execMmaClose (core : Fin 512) (id : Nat) (now : Time) (s : State) : Host.Outcome State Fault Refusal :=
  s.run (mmaClose core.val id now)

/-- MMA_OPEN_CLOSE (R120). -/
def execMmaOpenClose (core : Fin 512) (id : Nat) (now : Time) (s : State) : Host.Outcome State Fault Refusal :=
  s.run (mmaOpenClose core.val id now)

/-- MMA_GROUP_START (R103). -/
def execMmaGroupStart (core : Fin 512) (id : Nat) (fault : Mismatch) (errs : List EccEvent) (now : Time) (s : State) : Host.Outcome State
    Fault Refusal :=
  s.run (mmaGroupStart core.val id fault errs now)

/-- EPILOGUE_CLOSE_START (R96). -/
def execEpilogueCloseStart (core : Fin 512) (faults : UnitFaults) (now : Time) (s : State) : Host.Outcome State Fault Refusal :=
  s.run (epilogueCloseStart core.val faults.parity faults.errs now)

/-- ARRIVAL_STAY_EXPIRE (R105). -/
def execArrivalStayExpire (core : Fin 512) (id : Nat) (now : Time) (s : State) : Host.Outcome State Fault Refusal :=
  s.run (arrivalStayExpire core.val id now)

/-- BEAD_LAND (R102). -/
def execBeadLand (mpa : Nat) (bytes : List Byte) (sb : BitVec 64) (poison : Bool) (now : Time) (s : State) : Host.Outcome State Fault
    Refusal :=
  s.run (beadLand mpa bytes sb poison now)

/-- VRUN (R157). -/
def execVrun (core : Fin 512) (id : Nat) (now : Time) (s : State) : Host.Outcome State Fault Refusal :=
  s.run (vrun core.val id now)

/-- COMPRESS_BUILD (R179). -/
def execCompressBuild (core : Fin 512) (id : Nat) (now : Time) (s : State) : Host.Outcome State Fault Refusal :=
  s.run (compressBuild core.val id now)

/-- COMPRESS_REUSE (R179). -/
def execCompressReuse (core : Fin 512) (id : Nat) (now : Time) (s : State) : Host.Outcome State Fault Refusal :=
  s.run (compressReuse core.val id now)

/-- EXPAND_FILL (R180). -/
def execExpandFill (core : Fin 512) (id : Nat) (now : Time) (s : State) : Host.Outcome State Fault Refusal :=
  s.run (expandFill core.val id now)

/-- EXPAND_KEEP (R180). -/
def execExpandKeep (core : Fin 512) (id : Nat) (now : Time) (s : State) : Host.Outcome State Fault Refusal :=
  s.run (expandKeep core.val id now)

/-- VECTOR_BEAD_FORM (R183). -/
def execVectorBeadForm (core : Fin 512) (id : Nat) (faults : UnitFaults) (now : Time) (s : State) : Host.Outcome State Fault Refusal :=
  s.run (vectorBeadForm core.val id faults.parity faults.errs now)

/-- VECTOR_ARRIVAL_STAY_EXPIRE (R183). -/
def execVectorArrivalStayExpire (core : Fin 512) (id : Nat) (now : Time) (s : State) : Host.Outcome State Fault Refusal :=
  s.run (vectorArrivalStayExpire core.val id now)

/-- TLOAD (R222). -/
def execTload (core : Fin 512) (run : EngineRun) (now : Time) (s : State) : Host.Outcome State Fault Refusal :=
  s.run (tload core.val run.id run.errs now)

/-- TSTORE (R222). -/
def execTstore (core : Fin 512) (run : EngineRun) (now : Time) (s : State) : Host.Outcome State Fault Refusal :=
  s.run (tstore core.val run.id run.errs now)

/-- TMOVE (R222). -/
def execTmove (core : Fin 512) (run : EngineRun) (now : Time) (s : State) : Host.Outcome State Fault Refusal :=
  s.run (tmove core.val run.id run.errs now)

/-- SEND (R224). -/
def execSend (core : Fin 512) (run : EngineRun) (now : Time) (s : State) : Host.Outcome State Fault Refusal :=
  s.run (send core.val run.id run.errs now)

/-- RECV (R224). -/
def execRecv (core : Fin 512) (id : Nat) (now : Time) (s : State) : Host.Outcome State Fault Refusal :=
  s.run (recv core.val id now)

/-- ARM (R226). -/
def execArm (core : Fin 512) (id : Nat) (now : Time) (s : State) : Host.Outcome State Fault Refusal :=
  s.run (arm core.val id now)

/-- DISARM (R227). -/
def execDisarm (core : Fin 512) (id : Nat) (now : Time) (s : State) : Host.Outcome State Fault Refusal :=
  s.run (disarm core.val id now)

/-- SIGNAL (R230). -/
def execSignal (core : Fin 512) (id : Nat) (now : Time) (s : State) : Host.Outcome State Fault Refusal :=
  s.run (signal core.val id now)

/-- SIGNAL_RELEASE (R230). -/
def execSignalRelease (core : Fin 512) (id : Nat) (now : Time) (s : State) : Host.Outcome State Fault Refusal :=
  s.run (signalRelease core.val id now)

/-- WAIT (R231). -/
def execWait (core : Fin 512) (id : Nat) (now : Time) (s : State) : Host.Outcome State Fault Refusal :=
  s.run (wait core.val id now)

/-- WAIT_CONSUME (R231). -/
def execWaitConsume (core : Fin 512) (id : Nat) (now : Time) (s : State) : Host.Outcome State Fault Refusal :=
  s.run (waitConsume core.val id now)

/-- WAIT_SATISFIED (R231). -/
def execWaitSatisfied (sem : Nat) (now : Time) (s : State) : Host.Outcome State Fault Refusal :=
  s.run (waitSatisfied sem now)

/-- RFLUSH (R232). -/
def execRflush (core : Fin 512) (id : Nat) (now : Time) (s : State) : Host.Outcome State Fault Refusal :=
  s.run (rflush core.val id now)

/-- CLASP (R233). -/
def execClasp (core : Fin 512) (id : Nat) (now : Time) (s : State) : Host.Outcome State Fault Refusal :=
  s.run (clasp core.val id now)

/-- DIGEST (R235). -/
def execDigest (core : Fin 512) (run : EngineRun) (now : Time) (s : State) : Host.Outcome State Fault Refusal :=
  s.run (digest core.val run.id run.errs now)

/-- DIGEST_ACC (R235). -/
def execDigestAcc (core : Fin 512) (run : EngineRun) (now : Time) (s : State) : Host.Outcome State Fault Refusal :=
  s.run (digestAcc core.val run.id run.errs now)

/-- CSET (R236). -/
def execCset (core : Fin 512) (id : Nat) (now : Time) (s : State) : Host.Outcome State Fault Refusal :=
  s.run (cset core.val id now)

/-- MAP_REQ (R256). -/
def execMapReq (part : Fin 512) (va : Word) (target slot size flags : Nat) (home : Option Bool) (now : Time) (s : State) : Host.Outcome
    State Fault Refusal :=
  s.run (mapReq part.val va.toNat target slot size flags home now)

/-- UNMAP_REQ (R258). -/
def execUnmapReq (part : Fin 512) (va : Word) (size : Nat) (remote : List (BitVec 14)) (now : Time) (s : State) : Host.Outcome State Fault Refusal :=
  s.run (unmapReq part.val va.toNat size remote now)

/-- READ_SH (R279). -/
def execReadSh (msg : CohMsg) (now : Time) (s : State) : Host.Outcome State Fault Refusal :=
  s.run (readSh msg now)

/-- GRANT (R279). -/
def execGrant (msg : CohMsg) (now : Time) (s : State) : Host.Outcome State Fault Refusal :=
  s.run (grant msg now)

/-- WRITE (R279). -/
def execWrite (msg : CohMsg) (now : Time) (s : State) : Host.Outcome State Fault Refusal :=
  s.run (write msg now)

/-- WRITE_ACK (R279). -/
def execWriteAck (msg : CohMsg) (now : Time) (s : State) : Host.Outcome State Fault Refusal :=
  s.run (writeAck msg now)

/-- SNOOP_INV (R279). -/
def execSnoopInv (msg : CohMsg) (now : Time) (s : State) : Host.Outcome State Fault Refusal :=
  s.run (snoopInv msg now)

/-- ANS_INVALIDATED (R279). -/
def execAnsInvalidated (msg : CohMsg) (now : Time) (s : State) : Host.Outcome State Fault Refusal :=
  s.run (ansInvalidated msg now)

/-- ANS_EVICTING (R280). -/
def execAnsEvicting (msg : CohMsg) (now : Time) (s : State) : Host.Outcome State Fault Refusal :=
  s.run (ansEvicting msg now)

/-- EVICT_NOTICE (R280). -/
def execEvictNotice (msg : CohMsg) (now : Time) (s : State) : Host.Outcome State Fault Refusal :=
  s.run (evictNotice msg now)

/-- READER_COPY_EVICT (R280). -/
def execReaderCopyEvict (key : BitVec 16) (va : Word) (now : Time) (s : State) : Host.Outcome State Fault Refusal :=
  s.run (readerCopyEvict key va.toNat now)

/-- EVICTION_RECORD_EXPIRE (R280). -/
def execEvictionRecordExpire (now : Time) (s : State) : Host.Outcome State Fault Refusal :=
  s.run (evictionRecordExpire now)

/-- SNOOP_RESEND_TIMEOUT (R281). -/
def execSnoopResendTimeout (line : Nat) (now : Time) (s : State) : Host.Outcome State Fault Refusal :=
  s.run (snoopResendTimeout line now)

/-- EGRESS_WRITEBACK (R270). -/
def execEgressWriteback (key : BitVec 16) (va : Word) (now : Time) (s : State) : Host.Outcome State Fault Refusal :=
  s.run (egressWriteback key va.toNat now)

/-- HUB_CACHE_EVICT (R245). -/
def execHubCacheEvict (line : Nat) (errs : List EccEvent) (now : Time) (s : State) : Host.Outcome State Fault Refusal :=
  s.run (hubCacheEvict line errs now)

/-- QUEUE_CREATE (R286). -/
def execQueueCreate (part : Fin 512) (func : Fin 4097) (desc : List Byte) (now : Time) (s : State) : Host.Outcome State Fault Refusal :=
  s.run (queueCreate part.val func.val desc now)

/-- QUEUE_DESTROY (R287). -/
def execQueueDestroy (part : Fin 512) (handle : Nat) (now : Time) (s : State) : Host.Outcome State Fault Refusal :=
  s.run (queueDestroy part.val handle now)

/-- ENTRY_FETCH (R289). -/
def execEntryFetch (queue : Fin 4096) (host : HostRead) (now : Time) (s : State) : Host.Outcome State Fault Refusal :=
  s.run (entryFetch queue.val host now)

/-- DISPATCH (R302). -/
def execDispatch (core : Fin 512) (now : Time) (s : State) : Host.Outcome State Fault Refusal :=
  s.run (dispatch core.val now)

/-- CREDIT_REFRESH (R288). -/
def execCreditRefresh (queue : Fin 4096) (now : Time) (s : State) : Host.Outcome State Fault Refusal :=
  s.run (creditRefresh queue.val now)

/-- ENTRY_END (R294). -/
def execEntryEnd (queue : Fin 4096) (now : Time) (s : State) : Host.Outcome State Fault Refusal :=
  s.run (entryEnd queue.val now)

/-- MSIX_HOLDOFF_EXPIRE (R297). -/
def execMsixHoldoffExpire (queue : Fin 4096) (now : Time) (s : State) : Host.Outcome State Fault Refusal :=
  s.run (msixHoldoffExpire queue.val now)

/-- CQ_HEAD_POLL (R296). -/
def execCqHeadPoll (queue : Fin 4096) (now : Time) (s : State) : Host.Outcome State Fault Refusal :=
  s.run (cqHeadPoll queue.val now)

/-- SCHED_WINDOW_END (R299). -/
def execSchedWindowEnd (now : Time) (s : State) : Host.Outcome State Fault Refusal :=
  s.run (schedWindowEnd now)

/-- QUEUE_URGENT (R300). -/
def execQueueUrgent (queue : Fin 4096) (now : Time) (s : State) : Host.Outcome State Fault Refusal :=
  s.run (queueUrgent queue.val now)

/-- FE_QUEUE_STAY (R300). -/
def execFeQueueStay (queue : Fin 4096) (now : Time) (s : State) : Host.Outcome State Fault Refusal :=
  s.run (feQueueStay queue.val now)

/-- ID_QUARANTINE_END (R304). -/
def execIdQuarantineEnd (k : IdKind) (n : Nat) (now : Time) (s : State) : Host.Outcome State Fault Refusal :=
  s.run (idQuarantineEnd k n now)

/-- STREAM_OPEN (R306). -/
def execStreamOpen (part : Fin 512) (dest : BitVec 14) (now : Time) (s : State) : Host.Outcome State Fault Refusal :=
  s.run (streamOpen part.val dest now)

/-- STREAM_CLOSE (R306). -/
def execStreamClose (part : Fin 512) (handle : Word) (now : Time) (s : State) : Host.Outcome State Fault Refusal :=
  s.run (streamClose part.val handle now)

/-- SEM_ALLOC (R307). -/
def execSemAlloc (part : Fin 512) (init : Word) (now : Time) (s : State) : Host.Outcome State Fault Refusal :=
  s.run (semAlloc part.val init now)

/-- SEM_FREE (R307). -/
def execSemFree (part : Fin 512) (handle : Word) (now : Time) (s : State) : Host.Outcome State Fault Refusal :=
  s.run (semFree part.val handle now)

/-- NOTICE_FLUSH (R311). -/
def execNoticeFlush (ring : Nat) (now : Time) (s : State) : Host.Outcome State Fault Refusal :=
  s.run (noticeFlush ring now)

/-- PKG_FLIT_SEND (R24). -/
def execPkgFlitSend (e : Fin 192) (now : Time) (s : State) : Host.Outcome State Fault Refusal :=
  s.run (pkgFlitSend e.val now)

/-- PKG_FLIT_RX (R23). -/
def execPkgFlitRx (e : Fin 192) (bs : List Byte) (now : Time) (s : State) : Host.Outcome State Fault Refusal :=
  s.run (pkgFlitRx e.val bs now)

/-- PKG_NAK_RX (R23). -/
def execPkgNakRx (e : Fin 192) (seq : BitVec 10) (now : Time) (s : State) : Host.Outcome State Fault Refusal :=
  s.run (pkgNakRx e.val seq now)

/-- PKG_CREDIT_INIT_RX (R22). -/
def execPkgCreditInitRx (e : Fin 192) (vc : Fin 4) (n : Nat) (now : Time) (s : State) : Host.Outcome State Fault Refusal :=
  s.run (pkgCreditInitRx e.val vc.val n now)

/-- PKG_REPLAY_TIMEOUT (R23). -/
def execPkgReplayTimeout (e : Fin 192) (now : Time) (s : State) : Host.Outcome State Fault Refusal :=
  s.run (pkgReplayTimeout e.val now)

/-- UCIE_RETRAIN_DONE (R23). -/
def execUcieRetrainDone (link : Fin 96) (rate : Nat) (now : Time) (s : State) : Host.Outcome State Fault Refusal :=
  s.run (ucieRetrainDone link.val rate now)

/-- ONPKG_HALYARD_POST (R28). -/
def execOnpkgHalyardPost (kind : Nat) (dies clusters : BitVec 8) (payload : List Byte) (now : Time) (s : State) : Host.Outcome State Fault
    Refusal :=
  s.run (onpkgHalyardPost kind dies clusters payload now)

/-- ONPKG_HALYARD_DELIVER (R27). -/
def execOnpkgHalyardDeliver (core : Fin 512) (now : Time) (s : State) : Host.Outcome State Fault Refusal :=
  s.run (onpkgHalyardDeliver core.val now)

/-- ONPKG_HALYARD_ACK (R28). -/
def execOnpkgHalyardAck (seq : BitVec 32) (cluster : Fin 64) (now : Time) (s : State) : Host.Outcome State Fault Refusal :=
  s.run (onpkgHalyardAck seq cluster.val now)

/-- QUIESCE (R39). -/
def execQuiesce (r : BitVec 32) (now : Time) (s : State) : Host.Outcome State Fault Refusal :=
  s.run (quiesce r now)

/-- RESUME (R39). -/
def execResume (r : BitVec 32) (now : Time) (s : State) : Host.Outcome State Fault Refusal :=
  s.run (resume r now)

/-- RESET_RETAIN (R39). -/
def execResetRetain (r : BitVec 32) (now : Time) (s : State) : Host.Outcome State Fault Refusal :=
  s.run (resetRetain r now)

/-- RESET_CLEAR (R39). -/
def execResetClear (r : BitVec 32) (value : Nat) (now : Time) (s : State) : Host.Outcome State Fault Refusal :=
  s.run (resetClear r value now)

/-- POWER_REQ_WRITE (R41). -/
def execPowerReqWrite (r : BitVec 32) (w : Nat) (now : Time) (s : State) : Host.Outcome State Fault Refusal :=
  s.run (powerReqWrite r w now)

/-- LINK_DATA_FRAME (R319). -/
def execLinkDataFrame (port : Fin 32) (bs : List Byte) (now : Time) (s : State) : Host.Outcome State Fault Refusal :=
  s.run (linkDataFrame port.val bs now)

/-- LINK_IDLE_FRAME (R319). -/
def execLinkIdleFrame (port : Fin 32) (bs : List Byte) (now : Time) (s : State) : Host.Outcome State Fault Refusal :=
  s.run (linkIdleFrame port.val bs now)

/-- GROUP_MARKER (R315). -/
def execGroupMarker (port : Fin 32) (bs : List Byte) (now : Time) (s : State) : Host.Outcome State Fault Refusal :=
  s.run (groupMarker port.val bs now)

/-- LINK_REPLAY_TIMEOUT (R320). -/
def execLinkReplayTimeout (port : Fin 32) (now : Time) (s : State) : Host.Outcome State Fault Refusal :=
  s.run (linkReplayTimeout port.val now)

/-- LANE_SER_WINDOW_END (R322). -/
def execLaneSerWindowEnd (port : Fin 32) (lanes : List (Nat × Nat)) (bad total : Nat) (now : Time) (s : State) : Host.Outcome State Fault
    Refusal :=
  s.run (laneSerWindowEnd port.val lanes bad total now)

/-- LINK_LOCK_LOST (R323). -/
def execLinkLockLost (port : Fin 32) (now : Time) (s : State) : Host.Outcome State Fault Refusal :=
  s.run (linkLockLost port.val now)

/-- PEER_SIGNAL_DETECT (R324). -/
def execPeerSignalDetect (port : Fin 32) (now : Time) (s : State) : Host.Outcome State Fault Refusal :=
  s.run (peerSignalDetect port.val now)

/-- EQUALIZE_DONE (R324). -/
def execEqualizeDone (port : Fin 32) (ok : Bool) (now : Time) (s : State) : Host.Outcome State Fault Refusal :=
  s.run (equalizeDone port.val ok now)

/-- LANE_TEST_DONE (R324). -/
def execLaneTestDone (port : Fin 32) (own peer : BitVec 4) (now : Time) (s : State) : Host.Outcome State Fault Refusal :=
  s.run (laneTestDone port.val own peer now)

/-- IDENT (R326). -/
def execIdent (port : Fin 32) (b : Ident) (now : Time) (s : State) : Host.Outcome State Fault Refusal :=
  s.run (ident port.val b now)

/-- IDENT_RESEND (R335). -/
def execIdentResend (port : Fin 32) (now : Time) (s : State) : Host.Outcome State Fault Refusal :=
  s.run (identResend port.val now)

/-- KEY_AGREE_DONE (R332). -/
def execKeyAgreeDone (port : Fin 32) (now : Time) (s : State) : Host.Outcome State Fault Refusal :=
  s.run (keyAgreeDone port.val now)

/-- LINK_RETRY_TIMEOUT (R324). -/
def execLinkRetryTimeout (port : Fin 32) (now : Time) (s : State) : Host.Outcome State Fault Refusal :=
  s.run (linkRetryTimeout port.val now)

/-- RETRAIN_REQ (R328). -/
def execRetrainReq (port : Fin 32) (serial : BitVec 64) (reason : Nat) (now : Time) (s : State) : Host.Outcome State Fault Refusal :=
  s.run (retrainReq port.val serial reason now)

/-- RETRAIN_ACCEPT (R328). -/
def execRetrainAccept (port : Fin 32) (group : BitVec 32) (now : Time) (s : State) : Host.Outcome State Fault Refusal :=
  s.run (retrainAccept port.val group now)

/-- RETRAIN_REQ_RESEND (R328). -/
def execRetrainReqResend (port : Fin 32) (now : Time) (s : State) : Host.Outcome State Fault Refusal :=
  s.run (retrainReqResend port.val now)

/-- RETRAIN_SWITCH_GROUP (R328). -/
def execRetrainSwitchGroup (port : Fin 32) (group : BitVec 32) (now : Time) (s : State) : Host.Outcome State Fault Refusal :=
  s.run (retrainSwitchGroup port.val group now)

/-- RETRAIN_DONE (R325). -/
def execRetrainDone (port : Fin 32) (now : Time) (s : State) : Host.Outcome State Fault Refusal :=
  s.run (retrainDone port.val now)

/-- WIDTH_PROPOSE (R330). -/
def execWidthPropose (port : Fin 32) (lanes : BitVec 4) (now : Time) (s : State) : Host.Outcome State Fault Refusal :=
  s.run (widthPropose port.val lanes now)

/-- WIDTH_ACCEPT (R330). -/
def execWidthAccept (port : Fin 32) (lanes : BitVec 4) (group : BitVec 32) (now : Time) (s : State) : Host.Outcome State Fault Refusal :=
  s.run (widthAccept port.val lanes group now)

/-- WIDTH_SWITCH_GROUP (R330). -/
def execWidthSwitchGroup (port : Fin 32) (group : BitVec 32) (now : Time) (s : State) : Host.Outcome State Fault Refusal :=
  s.run (widthSwitchGroup port.val group now)

/-- LINK_CMD_RETRAIN (R338). -/
def execLinkCmdRetrain (port : Fin 32) (now : Time) (s : State) : Host.Outcome State Fault Refusal :=
  s.run (linkCmdRetrain port.val now)

/-- LINK_CMD_FULL_TRAIN (R338). -/
def execLinkCmdFullTrain (port : Fin 32) (now : Time) (s : State) : Host.Outcome State Fault Refusal :=
  s.run (linkCmdFullTrain port.val now)

/-- LINK_CMD_DISABLE (R338). -/
def execLinkCmdDisable (port : Fin 32) (now : Time) (s : State) : Host.Outcome State Fault Refusal :=
  s.run (linkCmdDisable port.val now)

/-- LINK_CMD_ENABLE (R338). -/
def execLinkCmdEnable (port : Fin 32) (now : Time) (s : State) : Host.Outcome State Fault Refusal :=
  s.run (linkCmdEnable port.val now)

/-- BEACON (R336). -/
def execBeacon (port : Fin 32) (bseq : BitVec 16) (ttx : Time) (echoSeq : BitVec 16) (echoRx : Time) (root : BitVec 14) (hops : BitVec 8)
    (wraps : BitVec 16) (now : Time) (s : State) : Host.Outcome State Fault Refusal :=
  s.run (beacon port.val bseq ttx echoSeq echoRx root hops wraps now)

/-- BEACON_SEND (R335). -/
def execBeaconSend (port : Fin 32) (now : Time) (s : State) : Host.Outcome State Fault Refusal :=
  s.run (beaconSend port.val now)

/-- SEAL (R337). -/
def execSealFrame (port : Fin 32) (epoch : Nat) (cfg link : BitVec 384) (ttx now : Time) (s : State) : Host.Outcome State Fault Refusal :=
  s.run (sealFrame port.val epoch cfg link ttx now)

/-- SEAL_SEND (R335). -/
def execSealSend (port : Fin 32) (now : Time) (s : State) : Host.Outcome State Fault Refusal :=
  s.run (sealSend port.val now)

/-- SWITCH_CYCLE (R350). -/
def execSwitchCycle (die : Fin 8) (slots : BitVec 4) (now : Time) (s : State) : Host.Outcome State Fault Refusal :=
  s.run (switchCycle die.val slots now)

/-- INJECTION_PROMOTE (R351). -/
def execInjectionPromote (die : Fin 8) (now : Time) (s : State) : Host.Outcome State Fault Refusal :=
  s.run (injectionPromote die.val now)

/-- EGRESS_POST (R357). -/
def execEgressPost (die : Fin 8) (now : Time) (s : State) : Host.Outcome State Fault Refusal :=
  s.run (egressPost die.val now)

/-- BEAD (R358). -/
def execBead (packet : Packet) (now : Time) (s : State) : Host.Outcome State Fault Refusal :=
  s.run (bead packet now)

/-- LINE_WB (R270). -/
def execLineWb (packet : Packet) (now : Time) (s : State) : Host.Outcome State Fault Refusal :=
  s.run (lineWb packet now)

/-- READ_REQ (R358). -/
def execReadReq (packet : Packet) (now : Time) (s : State) : Host.Outcome State Fault Refusal :=
  s.run (readReq packet now)

/-- READ_RESP (R364). -/
def execReadResp (packet : Packet) (now : Time) (s : State) : Host.Outcome State Fault Refusal :=
  s.run (readResp packet now)

/-- PKT_SIGNAL (R230). -/
def execPktSignal (packet : Packet) (now : Time) (s : State) : Host.Outcome State Fault Refusal :=
  s.run (pktSignal packet now)

/-- PAIR_ACK (R360). -/
def execPairAck (packet : Packet) (now : Time) (s : State) : Host.Outcome State Fault Refusal :=
  s.run (pairAck packet now)

/-- PAIR_LOSS (R361). -/
def execPairLoss (packet : Packet) (now : Time) (s : State) : Host.Outcome State Fault Refusal :=
  s.run (pairLoss packet now)

/-- PAIR_SKIP (R361). -/
def execPairSkip (packet : Packet) (now : Time) (s : State) : Host.Outcome State Fault Refusal :=
  s.run (pairSkip packet now)

/-- REFUSE (R261). -/
def execRefuse (packet : Packet) (now : Time) (s : State) : Host.Outcome State Fault Refusal :=
  s.run (refuseRx packet now)

/-- MGMT (R514). -/
def execMgmt (packet : Packet) (env : WriteEnv) (now : Time) (s : State) : Host.Outcome State Fault Refusal :=
  s.run (mgmt packet env now)

/-- HALYARD (R368). -/
def execHalyard (at' : Option (Fin 8 × Fin 7)) (packet : Packet) (now : Time) (s : State) : Host.Outcome State Fault Refusal :=
  s.run (halyard (at'.map (fun q => (q.1.val, q.2.val))) packet now)

/-- PAIR_ACK_SEND (R360). -/
def execPairAckSend (module : BitVec 14) (now : Time) (s : State) : Host.Outcome State Fault Refusal :=
  s.run (pairAckSend module now)

/-- PAIR_ACK_REPEAT (R360). -/
def execPairAckRepeat (module : BitVec 14) (now : Time) (s : State) : Host.Outcome State Fault Refusal :=
  s.run (pairAckRepeat module now)

/-- PAIR_GAP_LOST (R361). -/
def execPairGapLost (module : BitVec 14) (now : Time) (s : State) : Host.Outcome State Fault Refusal :=
  s.run (pairGapLost module now)

/-- SOURCE_LOSS_DECLARE (R362). -/
def execSourceLossDeclare (module : BitVec 14) (now : Time) (s : State) : Host.Outcome State Fault Refusal :=
  s.run (sourceLossDeclare module now)

/-- RECV_TIMEOUT (R364). -/
def execRecvTimeout (core : Fin 512) (id : Nat) (now : Time) (s : State) : Host.Outcome State Fault Refusal :=
  s.run (recvTimeout core.val id now)

/-- ROUTE_STAGE (R365). -/
def execRouteStage (die : Fin 8) (table : List Byte) (now : Time) (s : State) : Host.Outcome State Fault Refusal :=
  s.run (routeStage die.val table now)

/-- ROUTE_ARM_TIME (R365). -/
def execRouteArmTime (t now : Time) (s : State) : Host.Outcome State Fault Refusal :=
  s.run (routeArmTime t now)

/-- EPOCH_SWITCH (R365). -/
def execEpochSwitch (now : Time) (s : State) : Host.Outcome State Fault Refusal :=
  s.run (epochSwitch now)

/-- EPOCH_RETIRE (R365). -/
def execEpochRetire (now : Time) (s : State) : Host.Outcome State Fault Refusal :=
  s.run (epochRetire now)

/-- HALYARD_GAP_REPAIR (R369). -/
def execHalyardGapRepair (h : Nat) (now : Time) (s : State) : Host.Outcome State Fault Refusal :=
  s.run (halyardGapRepair h now)

/-- HALYARD_REPAIR_REQUEST (R369). -/
def execHalyardRepairRequest (src : BitVec 14) (h : Nat) (first : BitVec 32) (count : Nat) (now : Time) (s : State) : Host.Outcome State
    Fault Refusal :=
  s.run (halyardRepairRequest src h first count now)

/-- FILL_REQ (R374). -/
def execFillReq (part : Fin 512) (req : List Byte) (now : Time) (s : State) : Host.Outcome State Fault Refusal :=
  s.run (fillReq part.val req now)

/-- JRN_REGION_WRITE (R381). -/
def execJrnRegionWrite (part : Fin 512) (base bytes : Word) (now : Time) (s : State) : Host.Outcome State Fault Refusal :=
  s.run (jrnRegionWrite part.val base bytes now)

/-- JRN_CMD_RECOVER (R388). -/
def execJrnCmdRecover (part : Fin 512) (now : Time) (s : State) : Host.Outcome State Fault Refusal :=
  s.run (jrnCmdRecover part.val now)

/-- JOURNAL_DECIDE (R389). -/
def execJournalDecide (part : Fin 512) (now : Time) (s : State) : Host.Outcome State Fault Refusal :=
  s.run (journalDecide part.val now)

/-- JOURNAL_FINISH (R388). -/
def execJournalFinish (part : Fin 512) (now : Time) (s : State) : Host.Outcome State Fault Refusal :=
  s.run (journalFinish part.val now)

/-- DIGEST_COMPARE (R393). -/
def execDigestCompare (part : Fin 512) (answers : List (BitVec 14 × Option Word)) (now : Time) (s : State) : Host.Outcome State Fault
    Refusal :=
  s.run (digestCompare part.val answers now)

/-- DIGEST_COMPARE_RETRY (R393). -/
def execDigestCompareRetry (part : Fin 512) (answers : List (BitVec 14 × Option Word)) (now : Time) (s : State) : Host.Outcome State Fault
    Refusal :=
  s.run (digestCompareRetry part.val answers now)

/-- ARBITER_TICK (R406). -/
def execArbiterTick (now : Time) (s : State) : Host.Outcome State Fault Refusal :=
  s.run (arbiterTick now)

/-- ENGINE_WAKE (R405). -/
def execEngineWake (core : Fin 512) (unit : Fin 2) (now : Time) (s : State) : Host.Outcome State Fault Refusal :=
  s.run (engineWake core.val unit.val now)

/-- ENGINE_SLEEP (R404). -/
def execEngineSleep (core : Fin 512) (unit : Fin 2) (now : Time) (s : State) : Host.Outcome State Fault Refusal :=
  s.run (engineSleep core.val unit.val now)

/-- GRANT_RETURN (R404). -/
def execGrantReturn (cluster : Fin 64) (now : Time) (s : State) : Host.Outcome State Fault Refusal :=
  s.run (grantReturn cluster.val now)

/-- REEF_CHANGE (R402). -/
def execReefChange (core : Fin 512) (now : Time) (s : State) : Host.Outcome State Fault Refusal :=
  s.run (reefChange core.val now)

/-- DROOP_TRIP (R409). -/
def execDroopTrip (cluster : Fin 64) (now : Time) (s : State) : Host.Outcome State Fault Refusal :=
  s.run (droopTrip cluster.val now)

/-- SENSOR_SAMPLE (R420). -/
def execSensorSample (sensor : Fin 248) (v : BitVec 32) (ok : Bool) (now : Time) (s : State) : Host.Outcome State Fault Refusal :=
  s.run (sensorSample sensor.val v ok now)

/-- THERMAL_REEF (R412). -/
def execThermalReef (cluster : Fin 64) (now : Time) (s : State) : Host.Outcome State Fault Refusal :=
  s.run (thermalReef cluster.val now)

/-- POWER_INPUT_UNDERVOLT (R413). -/
def execPowerInputUndervolt (now : Time) (s : State) : Host.Outcome State Fault Refusal :=
  s.run (powerInputUndervolt now)

/-- VALVE_CONTROL (R417). -/
def execValveControl (now : Time) (s : State) : Host.Outcome State Fault Refusal :=
  s.run (valveControl now)

/-- PROTECT_STAGE (R433). -/
def execProtectStage (setup : Setup) (now : Time) (s : State) : Host.Outcome State Fault Refusal :=
  s.run (protectStage setup now)

/-- PROTECT_COMMIT (R433). -/
def execProtectCommit (expected : BitVec 384) (t now : Time) (s : State) : Host.Outcome State Fault Refusal :=
  s.run (protectCommit expected t now)

/-- PROTECT_SWITCH (R433). -/
def execProtectSwitch (now : Time) (s : State) : Host.Outcome State Fault Refusal :=
  s.run (protectSwitch now)

/-- KEY_ERASE (R429). -/
def execKeyErase (part : Fin 512) (slot : Nat) (now : Time) (s : State) : Host.Outcome State Fault Refusal :=
  s.run (keyErase part.val slot now)

/-- CONSENT_TOKEN (R436). -/
def execConsentToken (part : Fin 512) (t : List Byte) (now : Time) (s : State) : Host.Outcome State Fault Refusal :=
  s.run (consentToken part.val t now)

/-- CONSENT_EXPIRED (R436). -/
def execConsentExpired (part : Fin 512) (now : Time) (s : State) : Host.Outcome State Fault Refusal :=
  s.run (consentExpired part.val now)

/-- HALLMARK_REQ (R437). -/
def execHallmarkReq (nonce : BitVec 256) (now : Time) (s : State) : Host.Outcome State Fault Refusal :=
  s.run (hallmarkReq nonce now)

/-- HALLMARK_REQ_P (R437). -/
def execHallmarkReqP (part : Fin 512) (nonce : BitVec 256) (now : Time) (s : State) : Host.Outcome State Fault Refusal :=
  s.run (hallmarkReqP part.val nonce now)

/-- SIGNET_INSTALL (R440). -/
def execSignetInstall (b : List Byte) (now : Time) (s : State) : Host.Outcome State Fault Refusal :=
  s.run (signetInstall b now)

/-- SCRUB_VISIT (R447). -/
def execScrubVisit (errs : List EccEvent) (fails : List EccSite) (now : Time) (s : State) : Host.Outcome State Fault Refusal :=
  s.run (scrubVisit errs fails now)

/-- JOB_CONTAINED_END (R451). -/
def execJobContainedEnd (part : Fin 512) (now : Time) (s : State) : Host.Outcome State Fault Refusal :=
  s.run (jobContainedEnd part.val now)

/-- RECOVERY_START (R461). -/
def execRecoveryStart (bist : List (Fin 512)) (fails : Bool) (now : Time) (s : State) : Host.Outcome State Fault Refusal :=
  s.run (recoveryStart bist fails now)

/-- TESTPACK_PUSH (R463). -/
def execTestpackPush (pushed : Bool) (b : List Byte) (now : Time) (s : State) : Host.Outcome State Fault Refusal :=
  s.run (testpackPush pushed b now)

/-- TESTPACK_RUN (R464). -/
def execTestpackRun (slot : Nat) (core : Fin 512) (idleMs : Nat) (now : Time) (s : State) : Host.Outcome State Fault Refusal :=
  s.run (testpackRun slot core.val idleMs now)

/-- TESTPACK_RUN_END (R465). -/
def execTestpackRunEnd (core : Fin 512) (ecall0 : Bool) (result : BitVec 384) (finding : Cause) (now : Time) (s : State) : Host.Outcome
    State Fault Refusal :=
  s.run (testpackRunEnd core.val ecall0 result finding now)

/-- PART_RESET (R471). -/
def execPartReset (part : Fin 512) (value : Nat) (now : Time) (s : State) : Host.Outcome State Fault Refusal :=
  s.run (partReset part.val value now)

/-- RESET_DRAIN_DONE (R471). -/
def execResetDrainDone (r : BitVec 32) (part : Option (Fin 512)) (now : Time) (s : State) : Host.Outcome State Fault Refusal :=
  s.run (resetDrainDone r (part.map Fin.val) now)

/-- MODULE_RESET (R474). -/
def execModuleReset (badChans : List (Fin 16)) (now : Time) (s : State) : Host.Outcome State Fault Refusal :=
  s.run (moduleReset badChans now)

/-- RESET_ANNOUNCE (R474). -/
def execResetAnnounce (module : BitVec 14) (now : Time) (s : State) : Host.Outcome State Fault Refusal :=
  s.run (resetAnnounce module now)

/-- MODULE_FAIL_TIMEOUT (R476). -/
def execModuleFailTimeout (module : BitVec 14) (now : Time) (s : State) : Host.Outcome State Fault Refusal :=
  s.run (moduleFailTimeout module now)

/-- MODULE_FAILED_RECEIVE (R476). -/
def execModuleFailedReceive (module : BitVec 14) (now : Time) (s : State) : Host.Outcome State Fault Refusal :=
  s.run (moduleFailedReceive module now)

/-- HANG_REPORT_ROUND (R478). -/
def execHangReportRound (part : Fin 512) (others : List HangReport) (unchanged : Bool) (now : Time) (s : State) : Host.Outcome State Fault
    Refusal :=
  s.run (hangReportRound part.val others unchanged now)

/-- FW_PUSH (R487). -/
def execFwPush (b : List Byte) (here bcast : Bool) (now : Time) (s : State) : Host.Outcome State Fault Refusal :=
  s.run (fwPush b here bcast now)

/-- FW_ACTIVATE (R487). -/
def execFwActivate (v : Nat) (now : Time) (s : State) : Host.Outcome State Fault Refusal :=
  s.run (fwActivate v now)

/-- FW_SVN_COMMIT (R487). -/
def execFwSvnCommit (v : Nat) (now : Time) (s : State) : Host.Outcome State Fault Refusal :=
  s.run (fwSvnCommit v now)

/-- B3_FETCH (R485). -/
def execB3Fetch (b : List Byte) (now : Time) (s : State) : Host.Outcome State Fault Refusal :=
  s.run (b3Fetch b now)

/-- CENSUS_ORIGIN_TIMEOUT (R489). -/
def execCensusOriginTimeout (now : Time) (s : State) : Host.Outcome State Fault Refusal :=
  s.run (censusOriginTimeout now)

/-- CENSUS_CLAIM (R491). -/
def execCensusClaim (port : Fin 32) (src : BitVec 14) (now : Time) (s : State) : Host.Outcome State Fault Refusal :=
  s.run (censusClaim port.val src now)

/-- CENSUS_SUMMARY (R491). -/
def execCensusSummary (es : List CensusEntry) (now : Time) (s : State) : Host.Outcome State Fault Refusal :=
  s.run (censusSummary es now)

/-- CONFIG_PUSH (R497). -/
def execConfigPush (b : List Byte) (here pf : Bool) (now : Time) (s : State) : Host.Outcome State Fault Refusal :=
  s.run (configPush b here pf now)

/-- SEAL_OBJECT_WRITE (R497). -/
def execSealObjectWrite (index : BitVec 16) (sub : BitVec 8) (v : List Byte) (now : Time) (s : State) : Host.Outcome State Fault Refusal :=
  s.run (sealObjectWrite index.toNat sub.toNat v now)

/-- CONFIG_ARM (R498). -/
def execConfigArm (b : List Byte) (here : Bool) (now : Time) (s : State) : Host.Outcome State Fault Refusal :=
  s.run (configArm b here now)

/-- CONFIG_CANCEL (R498). -/
def execConfigCancel (v : Nat) (now : Time) (s : State) : Host.Outcome State Fault Refusal :=
  s.run (configCancel v now)

/-- CONFIG_DISCARD (R497). -/
def execConfigDiscard (v : Nat) (now : Time) (s : State) : Host.Outcome State Fault Refusal :=
  s.run (configDiscard v now)

/-- CONFIG_SWITCH (R498). -/
def execConfigSwitch (now : Time) (s : State) : Host.Outcome State Fault Refusal :=
  s.run (configSwitch now)

/-- CONFIG_SYNCED (R499). -/
def execConfigSynced (force : ConfigImage) (staged : Option ConfigImage) (armed : Option Time) (now : Time) (s : State) : Host.Outcome State
    Fault Refusal :=
  s.run (configSynced force staged armed now)

/-- JOB_LOAD (R264). -/
def execJobLoad (part : Fin 512) (va : Word) (len : Nat) (uses : LoadUses) (others : List LoadReport) (now : Time) (s : State) : Host.Outcome
    State Fault Refusal :=
  s.run (jobLoad part.val va.toNat len uses.pair uses.four others now)

/-- JOB_UNLOAD (R521). -/
def execJobUnload (part : Fin 512) (value : Nat) (now : Time) (s : State) : Host.Outcome State Fault Refusal :=
  s.run (jobUnload part.val value now)

/-- STANDBY_POWER_UP (R539). -/
def execStandbyPowerUp (now : Time) (s : State) : Host.Outcome State Fault Refusal :=
  s.run (standbyPowerUp now)

/-- BUS_MASTER_ENABLE (R530). -/
def execBusMasterEnable (func : Fin 4097) (now : Time) (s : State) : Host.Outcome State Fault Refusal :=
  s.run (busMasterEnable func.val now)

/-- PCIE_LINK_UP (R525). -/
def execPcieLinkUp (width rate : Nat) (now : Time) (s : State) : Host.Outcome State Fault Refusal :=
  s.run (pcieLinkUp width rate now)

/-- PCIE_COMPLETION_TIMEOUT (R524). -/
def execPcieCompletionTimeout (queue : Fin 4096) (now : Time) (s : State) : Host.Outcome State Fault Refusal :=
  s.run (pcieCompletionTimeout queue.val now)

/-- INPUT_RANGE_LOST_IN_SEQUENCING (R539). -/
def execInputRangeLostInSequencing (now : Time) (s : State) : Host.Outcome State Fault Refusal :=
  s.run (inputRangeLostInSequencing now)

/-- INPUT_RANGE_RESTORED_IN_SEQUENCING (R539). -/
def execInputRangeRestoredInSequencing (now : Time) (s : State) : Host.Outcome State Fault Refusal :=
  s.run (inputRangeRestoredInSequencing now)

/-- POWER_INPUT_OVERVOLT (R538). -/
def execPowerInputOvervolt (now : Time) (s : State) : Host.Outcome State Fault Refusal :=
  s.run (powerInputOvervolt now)

/-- OVERVOLT_RESTART (R538). -/
def execOvervoltRestart (now : Time) (s : State) : Host.Outcome State Fault Refusal :=
  s.run (overvoltRestart now)

/-- INPUT_POWER_REMOVED (R13). -/
def execInputPowerRemoved (now : Time) (s : State) : Host.Outcome State Fault Refusal :=
  s.run (inputPowerRemoved now)

/-- PKG_REPLAY_EXHAUSTED (R23). -/
def execPkgReplayExhausted (e : Fin 192) (now : Time) (s : State) : Host.Outcome State Fault Refusal :=
  s.run (pkgReplayExhausted e.val now)

/-- DROOP_RELEASE (R409). -/
def execDroopRelease (cluster : Fin 64) (now : Time) (s : State) : Host.Outcome State Fault Refusal :=
  s.run (droopRelease cluster.val now)

/-- DROOP_REEF (R410). -/
def execDroopReef (cluster : Fin 64) (now : Time) (s : State) : Host.Outcome State Fault Refusal :=
  s.run (droopReef cluster.val now)

/-- DROOP_LEVEL_DECAY (R410). -/
def execDroopLevelDecay (cluster : Fin 64) (now : Time) (s : State) : Host.Outcome State Fault Refusal :=
  s.run (droopLevelDecay cluster.val now)

/-- POWER_ENVELOPE_EXCEEDED (R411). -/
def execPowerEnvelopeExceeded (now : Time) (s : State) : Host.Outcome State Fault Refusal :=
  s.run (powerEnvelopeExceeded now)

/-- POWER_PEAK_EXCEEDED (R411). -/
def execPowerPeakExceeded (now : Time) (s : State) : Host.Outcome State Fault Refusal :=
  s.run (powerPeakExceeded now)

/-- ENFORCEMENT_DECAY (R411). -/
def execEnforcementDecay (now : Time) (s : State) : Host.Outcome State Fault Refusal :=
  s.run (enforcementDecay now)

/-- THERMAL_DECAY (R412). -/
def execThermalDecay (cluster : Fin 64) (now : Time) (s : State) : Host.Outcome State Fault Refusal :=
  s.run (thermalDecay cluster.val now)

/-- UNDERVOLT_CLEAR (R413). -/
def execUndervoltClear (now : Time) (s : State) : Host.Outcome State Fault Refusal :=
  s.run (undervoltClear now)

/-- COOLANT_HOLD (R416). -/
def execCoolantHold (now : Time) (s : State) : Host.Outcome State Fault Refusal :=
  s.run (coolantHold now)

/-- COOLANT_HOLD_RELEASE (R416). -/
def execCoolantHoldRelease (now : Time) (s : State) : Host.Outcome State Fault Refusal :=
  s.run (coolantHoldRelease now)

/-- VALVE_FAULT (R418). -/
def execValveFault (now : Time) (s : State) : Host.Outcome State Fault Refusal :=
  s.run (valveFault now)

/-- TIME_HOLDOVER (R419). -/
def execTimeHoldover (now : Time) (s : State) : Host.Outcome State Fault Refusal :=
  s.run (timeHoldover now)

/-- FABRIC_TIME_WRAP (R421). -/
def execFabricTimeWrap (now : Time) (s : State) : Host.Outcome State Fault Refusal :=
  s.run (fabricTimeWrap now)

/-- CORE_SPARED (R455). -/
def execCoreSpared (core : Fin 512) (now : Time) (s : State) : Host.Outcome State Fault Refusal :=
  s.run (coreSpared core.val now)

/-- LOCKSTEP_SELFTEST (R457). -/
def execLockstepSelftest (security unequal : Bool) (now : Time) (s : State) : Host.Outcome State Fault Refusal :=
  s.run (lockstepSelftest security unequal now)

/-- LOCKSTEP_MISMATCH (R458). -/
def execLockstepMismatch (security : Bool) (now : Time) (s : State) : Host.Outcome State Fault Refusal :=
  s.run (lockstepMismatch security now)

/-- LOCKSTEP_CHECKER_FAULT (R458). -/
def execLockstepCheckerFault (security : Bool) (now : Time) (s : State) : Host.Outcome State Fault Refusal :=
  s.run (lockstepCheckerFault security now)

/-- UNCHECKED_PAIR_EXIT (R459). -/
def execUncheckedPairExit (security done : Bool) (now : Time) (s : State) : Host.Outcome State Fault Refusal :=
  s.run (uncheckedPairExit security done now)

/-- PAIR_RESTART_DONE (R460). -/
def execPairRestartDone (security ok : Bool) (now : Time) (s : State) : Host.Outcome State Fault Refusal :=
  s.run (pairRestartDone security ok now)

end Sys2Proof.Machine
end

