-- ==== Sys2Proof/Machine/Dispatch.lean ====
section
/-!
DEFINITION. The dispatch: one arm per command.
-/
namespace Sys2Proof.Machine

def exec (i : Instr) (s : State) : Host.Outcome State Fault Refusal :=
  match i with
  | .powerOn slow dead badChans bist now => Sys2Proof.Machine.execPowerOn slow dead badChans bist now s
  | .pwrEnAssert now => Sys2Proof.Machine.execPwrEnAssert now s
  | .pwrEnFall now => Sys2Proof.Machine.execPwrEnFall now s
  | .perstNDeassert width rate now => Sys2Proof.Machine.execPerstNDeassert width rate now s
  | .pcieReset perst now => Sys2Proof.Machine.execPcieReset perst now s
  | .vfFlr func now => Sys2Proof.Machine.execVfFlr func now s
  | .pfFlr now => Sys2Proof.Machine.execPfFlr now s
  | .busMasterDisable func now => Sys2Proof.Machine.execBusMasterDisable func now s
  | .mbxGo func w env now => Sys2Proof.Machine.execMbxGo func w env now s
  | .mbxDoneClear func done overrun now => Sys2Proof.Machine.execMbxDoneClear func done overrun now s
  | .apertureCtrlWrite func w now => Sys2Proof.Machine.execApertureCtrlWrite func w now s
  | .apertureRead func off n tag errs now => Sys2Proof.Machine.execApertureRead func off n tag errs now s
  | .apertureWrite func off bs now => Sys2Proof.Machine.execApertureWrite func off bs now s
  | .hostFwdDoorbell h now => Sys2Proof.Machine.execHostFwdDoorbell h now s
  | .hostFwdDictRequest h env now => Sys2Proof.Machine.execHostFwdDictRequest h env now s
  | .hostFwdDictResponse h now => Sys2Proof.Machine.execHostFwdDictResponse h now s
  | .hostFwdNotice h now => Sys2Proof.Machine.execHostFwdNotice h now s
  | .hostFwdApertureRead h errs now => Sys2Proof.Machine.execHostFwdApertureRead h errs now s
  | .hostFwdApertureWrite h now => Sys2Proof.Machine.execHostFwdApertureWrite h now s
  | .hostFwdApertureCompletion h now => Sys2Proof.Machine.execHostFwdApertureCompletion h now s
  | .apertureResendTimeout member fseq now => Sys2Proof.Machine.execApertureResendTimeout member fseq now s
  | .anchorTakeover here value now => Sys2Proof.Machine.execAnchorTakeover here value now s
  | .anchorLinkDownTimeout now => Sys2Proof.Machine.execAnchorLinkDownTimeout now s
  | .doorbellSqTail func member queue w now => Sys2Proof.Machine.execDoorbellSqTail func member queue w now s
  | .doorbellCqHead func member queue w now => Sys2Proof.Machine.execDoorbellCqHead func member queue w now s
  | .noticeRingDoorbell func w now => Sys2Proof.Machine.execNoticeRingDoorbell func w now s
  | .dictRead q r now => Sys2Proof.Machine.execDictRead q r now s
  | .dictWrite q env r now => Sys2Proof.Machine.execDictWrite q env r now s
  | .dictReadStaged q r now => Sys2Proof.Machine.execDictReadStaged q r now s
  | .dictDescribe q r now => Sys2Proof.Machine.execDictDescribe q r now s
  | .dictNext q r now => Sys2Proof.Machine.execDictNext q r now s
  | .dictSegmentTimeout now => Sys2Proof.Machine.execDictSegmentTimeout now s
  | .dictRequestRetry peer txn now => Sys2Proof.Machine.execDictRequestRetry peer txn now s
  | .udpDatagramRx g env now => Sys2Proof.Machine.execUdpDatagramRx g env now s
  | .multicastResponseDelay peer txn now => Sys2Proof.Machine.execMulticastResponseDelay peer txn now s
  | .noticeRingConfig part f now => Sys2Proof.Machine.execNoticeRingConfig part f now s
  | .ecallEnd prog now => Sys2Proof.Machine.execEcallEnd prog now s
  | .programException prog mcause mtval now => Sys2Proof.Machine.execProgramException prog mcause mtval now s
  | .branchMispredict prog young now => Sys2Proof.Machine.execBranchMispredict prog young now s
  | .scalarLoad prog w errs now => Sys2Proof.Machine.execScalarLoad prog w errs now s
  | .scalarStore prog va size v now => Sys2Proof.Machine.execScalarStore prog va size v now s
  | .amo prog op wide va v rd rl now => Sys2Proof.Machine.execAmo prog op wide va v rd rl now s
  | .lr prog wide va rd now => Sys2Proof.Machine.execLr prog wide va rd now s
  | .sc prog wide va v rd now => Sys2Proof.Machine.execSc prog wide va v rd now s
  | .fence prog predW now => Sys2Proof.Machine.execFence prog predW now s
  | .txctlWrite prog v rd now => Sys2Proof.Machine.execTxctlWrite prog v rd now s
  | .txfaultWrite prog rd now => Sys2Proof.Machine.execTxfaultWrite prog rd now s
  | .tdWrite prog hi v rd now => Sys2Proof.Machine.execTdWrite prog hi v rd now s
  | .crdataWrite prog v rd now => Sys2Proof.Machine.execCrdataWrite prog v rd now s
  | .csrWrite prog addr v rd now => Sys2Proof.Machine.execCsrWrite prog addr v rd now s
  | .tiqEnter prog word now => Sys2Proof.Machine.execTiqEnter prog word now s
  | .engineBegin core id cycle now => Sys2Proof.Machine.execEngineBegin core id cycle now s
  | .tensorCommit core now => Sys2Proof.Machine.execTensorCommit core now s
  | .tensorComplete core id now => Sys2Proof.Machine.execTensorComplete core id now s
  | .mmaOpen core id now => Sys2Proof.Machine.execMmaOpen core id now s
  | .mmaContinue core id now => Sys2Proof.Machine.execMmaContinue core id now s
  | .mmaClose core id now => Sys2Proof.Machine.execMmaClose core id now s
  | .mmaOpenClose core id now => Sys2Proof.Machine.execMmaOpenClose core id now s
  | .mmaGroupStart core id fault errs now => Sys2Proof.Machine.execMmaGroupStart core id fault errs now s
  | .epilogueCloseStart core faults now => Sys2Proof.Machine.execEpilogueCloseStart core faults now s
  | .arrivalStayExpire core id now => Sys2Proof.Machine.execArrivalStayExpire core id now s
  | .beadLand mpa bytes sb poison now => Sys2Proof.Machine.execBeadLand mpa bytes sb poison now s
  | .vrun core id now => Sys2Proof.Machine.execVrun core id now s
  | .compressBuild core id now => Sys2Proof.Machine.execCompressBuild core id now s
  | .compressReuse core id now => Sys2Proof.Machine.execCompressReuse core id now s
  | .expandFill core id now => Sys2Proof.Machine.execExpandFill core id now s
  | .expandKeep core id now => Sys2Proof.Machine.execExpandKeep core id now s
  | .vectorBeadForm core id faults now => Sys2Proof.Machine.execVectorBeadForm core id faults now s
  | .vectorArrivalStayExpire core id now => Sys2Proof.Machine.execVectorArrivalStayExpire core id now s
  | .tload core run now => Sys2Proof.Machine.execTload core run now s
  | .tstore core run now => Sys2Proof.Machine.execTstore core run now s
  | .tmove core run now => Sys2Proof.Machine.execTmove core run now s
  | .send core run now => Sys2Proof.Machine.execSend core run now s
  | .recv core id now => Sys2Proof.Machine.execRecv core id now s
  | .arm core id now => Sys2Proof.Machine.execArm core id now s
  | .disarm core id now => Sys2Proof.Machine.execDisarm core id now s
  | .signal core id now => Sys2Proof.Machine.execSignal core id now s
  | .signalRelease core id now => Sys2Proof.Machine.execSignalRelease core id now s
  | .wait core id now => Sys2Proof.Machine.execWait core id now s
  | .waitConsume core id now => Sys2Proof.Machine.execWaitConsume core id now s
  | .waitSatisfied sem now => Sys2Proof.Machine.execWaitSatisfied sem now s
  | .rflush core id now => Sys2Proof.Machine.execRflush core id now s
  | .clasp core id now => Sys2Proof.Machine.execClasp core id now s
  | .digest core run now => Sys2Proof.Machine.execDigest core run now s
  | .digestAcc core run now => Sys2Proof.Machine.execDigestAcc core run now s
  | .cset core id now => Sys2Proof.Machine.execCset core id now s
  | .mapReq part va target slot size flags home now => Sys2Proof.Machine.execMapReq part va target slot size flags home now s
  | .unmapReq part va size remote now => Sys2Proof.Machine.execUnmapReq part va size remote now s
  | .readSh msg now => Sys2Proof.Machine.execReadSh msg now s
  | .grant msg now => Sys2Proof.Machine.execGrant msg now s
  | .write msg now => Sys2Proof.Machine.execWrite msg now s
  | .writeAck msg now => Sys2Proof.Machine.execWriteAck msg now s
  | .snoopInv msg now => Sys2Proof.Machine.execSnoopInv msg now s
  | .ansInvalidated msg now => Sys2Proof.Machine.execAnsInvalidated msg now s
  | .ansEvicting msg now => Sys2Proof.Machine.execAnsEvicting msg now s
  | .evictNotice msg now => Sys2Proof.Machine.execEvictNotice msg now s
  | .readerCopyEvict key va now => Sys2Proof.Machine.execReaderCopyEvict key va now s
  | .evictionRecordExpire now => Sys2Proof.Machine.execEvictionRecordExpire now s
  | .snoopResendTimeout line now => Sys2Proof.Machine.execSnoopResendTimeout line now s
  | .egressWriteback key va now => Sys2Proof.Machine.execEgressWriteback key va now s
  | .hubCacheEvict line errs now => Sys2Proof.Machine.execHubCacheEvict line errs now s
  | .queueCreate part func desc now => Sys2Proof.Machine.execQueueCreate part func desc now s
  | .queueDestroy part handle now => Sys2Proof.Machine.execQueueDestroy part handle now s
  | .entryFetch queue host now => Sys2Proof.Machine.execEntryFetch queue host now s
  | .dispatch core now => Sys2Proof.Machine.execDispatch core now s
  | .creditRefresh queue now => Sys2Proof.Machine.execCreditRefresh queue now s
  | .entryEnd queue now => Sys2Proof.Machine.execEntryEnd queue now s
  | .msixHoldoffExpire queue now => Sys2Proof.Machine.execMsixHoldoffExpire queue now s
  | .cqHeadPoll queue now => Sys2Proof.Machine.execCqHeadPoll queue now s
  | .schedWindowEnd now => Sys2Proof.Machine.execSchedWindowEnd now s
  | .queueUrgent queue now => Sys2Proof.Machine.execQueueUrgent queue now s
  | .feQueueStay queue now => Sys2Proof.Machine.execFeQueueStay queue now s
  | .idQuarantineEnd k n now => Sys2Proof.Machine.execIdQuarantineEnd k n now s
  | .streamOpen part dest now => Sys2Proof.Machine.execStreamOpen part dest now s
  | .streamClose part handle now => Sys2Proof.Machine.execStreamClose part handle now s
  | .semAlloc part init now => Sys2Proof.Machine.execSemAlloc part init now s
  | .semFree part handle now => Sys2Proof.Machine.execSemFree part handle now s
  | .noticeFlush ring now => Sys2Proof.Machine.execNoticeFlush ring now s
  | .pkgFlitSend e now => Sys2Proof.Machine.execPkgFlitSend e now s
  | .pkgFlitRx e bs now => Sys2Proof.Machine.execPkgFlitRx e bs now s
  | .pkgNakRx e seq now => Sys2Proof.Machine.execPkgNakRx e seq now s
  | .pkgCreditInitRx e vc n now => Sys2Proof.Machine.execPkgCreditInitRx e vc n now s
  | .pkgReplayTimeout e now => Sys2Proof.Machine.execPkgReplayTimeout e now s
  | .ucieRetrainDone link rate now => Sys2Proof.Machine.execUcieRetrainDone link rate now s
  | .onpkgHalyardPost kind dies clusters payload now => Sys2Proof.Machine.execOnpkgHalyardPost kind dies clusters payload now s
  | .onpkgHalyardDeliver core now => Sys2Proof.Machine.execOnpkgHalyardDeliver core now s
  | .onpkgHalyardAck seq cluster now => Sys2Proof.Machine.execOnpkgHalyardAck seq cluster now s
  | .quiesce r now => Sys2Proof.Machine.execQuiesce r now s
  | .resume r now => Sys2Proof.Machine.execResume r now s
  | .resetRetain r now => Sys2Proof.Machine.execResetRetain r now s
  | .resetClear r value now => Sys2Proof.Machine.execResetClear r value now s
  | .powerReqWrite r w now => Sys2Proof.Machine.execPowerReqWrite r w now s
  | .linkDataFrame port bs now => Sys2Proof.Machine.execLinkDataFrame port bs now s
  | .linkIdleFrame port bs now => Sys2Proof.Machine.execLinkIdleFrame port bs now s
  | .groupMarker port bs now => Sys2Proof.Machine.execGroupMarker port bs now s
  | .linkReplayTimeout port now => Sys2Proof.Machine.execLinkReplayTimeout port now s
  | .laneSerWindowEnd port lanes bad total now => Sys2Proof.Machine.execLaneSerWindowEnd port lanes bad total now s
  | .linkLockLost port now => Sys2Proof.Machine.execLinkLockLost port now s
  | .peerSignalDetect port now => Sys2Proof.Machine.execPeerSignalDetect port now s
  | .equalizeDone port ok now => Sys2Proof.Machine.execEqualizeDone port ok now s
  | .laneTestDone port own peer now => Sys2Proof.Machine.execLaneTestDone port own peer now s
  | .ident port b now => Sys2Proof.Machine.execIdent port b now s
  | .identResend port now => Sys2Proof.Machine.execIdentResend port now s
  | .keyAgreeDone port now => Sys2Proof.Machine.execKeyAgreeDone port now s
  | .linkRetryTimeout port now => Sys2Proof.Machine.execLinkRetryTimeout port now s
  | .retrainReq port serial reason now => Sys2Proof.Machine.execRetrainReq port serial reason now s
  | .retrainAccept port group now => Sys2Proof.Machine.execRetrainAccept port group now s
  | .retrainReqResend port now => Sys2Proof.Machine.execRetrainReqResend port now s
  | .retrainSwitchGroup port group now => Sys2Proof.Machine.execRetrainSwitchGroup port group now s
  | .retrainDone port now => Sys2Proof.Machine.execRetrainDone port now s
  | .widthPropose port lanes now => Sys2Proof.Machine.execWidthPropose port lanes now s
  | .widthAccept port lanes group now => Sys2Proof.Machine.execWidthAccept port lanes group now s
  | .widthSwitchGroup port group now => Sys2Proof.Machine.execWidthSwitchGroup port group now s
  | .linkCmdRetrain port now => Sys2Proof.Machine.execLinkCmdRetrain port now s
  | .linkCmdFullTrain port now => Sys2Proof.Machine.execLinkCmdFullTrain port now s
  | .linkCmdDisable port now => Sys2Proof.Machine.execLinkCmdDisable port now s
  | .linkCmdEnable port now => Sys2Proof.Machine.execLinkCmdEnable port now s
  | .beacon port bseq ttx echoSeq echoRx root hops wraps now => Sys2Proof.Machine.execBeacon port bseq ttx echoSeq echoRx root hops wraps now s
  | .beaconSend port now => Sys2Proof.Machine.execBeaconSend port now s
  | .sealFrame port epoch cfg link ttx now => Sys2Proof.Machine.execSealFrame port epoch cfg link ttx now s
  | .sealSend port now => Sys2Proof.Machine.execSealSend port now s
  | .switchCycle die slots now => Sys2Proof.Machine.execSwitchCycle die slots now s
  | .injectionPromote die now => Sys2Proof.Machine.execInjectionPromote die now s
  | .egressPost die now => Sys2Proof.Machine.execEgressPost die now s
  | .bead packet now => Sys2Proof.Machine.execBead packet now s
  | .lineWb packet now => Sys2Proof.Machine.execLineWb packet now s
  | .readReq packet now => Sys2Proof.Machine.execReadReq packet now s
  | .readResp packet now => Sys2Proof.Machine.execReadResp packet now s
  | .pktSignal packet now => Sys2Proof.Machine.execPktSignal packet now s
  | .pairAck packet now => Sys2Proof.Machine.execPairAck packet now s
  | .pairLoss packet now => Sys2Proof.Machine.execPairLoss packet now s
  | .pairSkip packet now => Sys2Proof.Machine.execPairSkip packet now s
  | .refuse packet now => Sys2Proof.Machine.execRefuse packet now s
  | .mgmt packet env now => Sys2Proof.Machine.execMgmt packet env now s
  | .halyard at' packet now => Sys2Proof.Machine.execHalyard at' packet now s
  | .pairAckSend module now => Sys2Proof.Machine.execPairAckSend module now s
  | .pairAckRepeat module now => Sys2Proof.Machine.execPairAckRepeat module now s
  | .pairGapLost module now => Sys2Proof.Machine.execPairGapLost module now s
  | .sourceLossDeclare module now => Sys2Proof.Machine.execSourceLossDeclare module now s
  | .recvTimeout core id now => Sys2Proof.Machine.execRecvTimeout core id now s
  | .routeStage die table now => Sys2Proof.Machine.execRouteStage die table now s
  | .routeArmTime t now => Sys2Proof.Machine.execRouteArmTime t now s
  | .epochSwitch now => Sys2Proof.Machine.execEpochSwitch now s
  | .epochRetire now => Sys2Proof.Machine.execEpochRetire now s
  | .halyardGapRepair h now => Sys2Proof.Machine.execHalyardGapRepair h now s
  | .halyardRepairRequest src h first count now => Sys2Proof.Machine.execHalyardRepairRequest src h first count now s
  | .fillReq part req now => Sys2Proof.Machine.execFillReq part req now s
  | .jrnRegionWrite part base bytes now => Sys2Proof.Machine.execJrnRegionWrite part base bytes now s
  | .jrnCmdRecover part now => Sys2Proof.Machine.execJrnCmdRecover part now s
  | .journalDecide part now => Sys2Proof.Machine.execJournalDecide part now s
  | .journalFinish part now => Sys2Proof.Machine.execJournalFinish part now s
  | .digestCompare part answers now => Sys2Proof.Machine.execDigestCompare part answers now s
  | .digestCompareRetry part answers now => Sys2Proof.Machine.execDigestCompareRetry part answers now s
  | .arbiterTick now => Sys2Proof.Machine.execArbiterTick now s
  | .engineWake core unit now => Sys2Proof.Machine.execEngineWake core unit now s
  | .engineSleep core unit now => Sys2Proof.Machine.execEngineSleep core unit now s
  | .grantReturn cluster now => Sys2Proof.Machine.execGrantReturn cluster now s
  | .reefChange core now => Sys2Proof.Machine.execReefChange core now s
  | .droopTrip cluster now => Sys2Proof.Machine.execDroopTrip cluster now s
  | .sensorSample sensor v ok now => Sys2Proof.Machine.execSensorSample sensor v ok now s
  | .thermalReef cluster now => Sys2Proof.Machine.execThermalReef cluster now s
  | .powerInputUndervolt now => Sys2Proof.Machine.execPowerInputUndervolt now s
  | .valveControl now => Sys2Proof.Machine.execValveControl now s
  | .protectStage setup now => Sys2Proof.Machine.execProtectStage setup now s
  | .protectCommit expected t now => Sys2Proof.Machine.execProtectCommit expected t now s
  | .protectSwitch now => Sys2Proof.Machine.execProtectSwitch now s
  | .keyErase part slot now => Sys2Proof.Machine.execKeyErase part slot now s
  | .consentToken part t now => Sys2Proof.Machine.execConsentToken part t now s
  | .consentExpired part now => Sys2Proof.Machine.execConsentExpired part now s
  | .hallmarkReq nonce now => Sys2Proof.Machine.execHallmarkReq nonce now s
  | .hallmarkReqP part nonce now => Sys2Proof.Machine.execHallmarkReqP part nonce now s
  | .signetInstall b now => Sys2Proof.Machine.execSignetInstall b now s
  | .scrubVisit errs fails now => Sys2Proof.Machine.execScrubVisit errs fails now s
  | .jobContainedEnd part now => Sys2Proof.Machine.execJobContainedEnd part now s
  | .recoveryStart bist fails now => Sys2Proof.Machine.execRecoveryStart bist fails now s
  | .testpackPush pushed b now => Sys2Proof.Machine.execTestpackPush pushed b now s
  | .testpackRun slot core idleMs now => Sys2Proof.Machine.execTestpackRun slot core idleMs now s
  | .testpackRunEnd core ecall0 result finding now => Sys2Proof.Machine.execTestpackRunEnd core ecall0 result finding now s
  | .partReset part value now => Sys2Proof.Machine.execPartReset part value now s
  | .resetDrainDone r part now => Sys2Proof.Machine.execResetDrainDone r part now s
  | .moduleReset badChans now => Sys2Proof.Machine.execModuleReset badChans now s
  | .resetAnnounce module now => Sys2Proof.Machine.execResetAnnounce module now s
  | .moduleFailTimeout module now => Sys2Proof.Machine.execModuleFailTimeout module now s
  | .moduleFailedReceive module now => Sys2Proof.Machine.execModuleFailedReceive module now s
  | .hangReportRound part others unchanged now => Sys2Proof.Machine.execHangReportRound part others unchanged now s
  | .fwPush b here bcast now => Sys2Proof.Machine.execFwPush b here bcast now s
  | .fwActivate v now => Sys2Proof.Machine.execFwActivate v now s
  | .fwSvnCommit v now => Sys2Proof.Machine.execFwSvnCommit v now s
  | .b3Fetch b now => Sys2Proof.Machine.execB3Fetch b now s
  | .censusOriginTimeout now => Sys2Proof.Machine.execCensusOriginTimeout now s
  | .censusClaim port src now => Sys2Proof.Machine.execCensusClaim port src now s
  | .censusSummary es now => Sys2Proof.Machine.execCensusSummary es now s
  | .configPush b here pf now => Sys2Proof.Machine.execConfigPush b here pf now s
  | .sealObjectWrite index sub v now => Sys2Proof.Machine.execSealObjectWrite index sub v now s
  | .configArm b here now => Sys2Proof.Machine.execConfigArm b here now s
  | .configCancel v now => Sys2Proof.Machine.execConfigCancel v now s
  | .configDiscard v now => Sys2Proof.Machine.execConfigDiscard v now s
  | .configSwitch now => Sys2Proof.Machine.execConfigSwitch now s
  | .configSynced force staged armed now => Sys2Proof.Machine.execConfigSynced force staged armed now s
  | .jobLoad part va len uses others now => Sys2Proof.Machine.execJobLoad part va len uses others now s
  | .jobUnload part value now => Sys2Proof.Machine.execJobUnload part value now s
  | .standbyPowerUp now => Sys2Proof.Machine.execStandbyPowerUp now s
  | .busMasterEnable func now => Sys2Proof.Machine.execBusMasterEnable func now s
  | .pcieLinkUp width rate now => Sys2Proof.Machine.execPcieLinkUp width rate now s
  | .pcieCompletionTimeout queue now => Sys2Proof.Machine.execPcieCompletionTimeout queue now s
  | .inputRangeLostInSequencing now => Sys2Proof.Machine.execInputRangeLostInSequencing now s
  | .inputRangeRestoredInSequencing now => Sys2Proof.Machine.execInputRangeRestoredInSequencing now s
  | .powerInputOvervolt now => Sys2Proof.Machine.execPowerInputOvervolt now s
  | .overvoltRestart now => Sys2Proof.Machine.execOvervoltRestart now s
  | .inputPowerRemoved now => Sys2Proof.Machine.execInputPowerRemoved now s
  | .pkgReplayExhausted e now => Sys2Proof.Machine.execPkgReplayExhausted e now s
  | .droopRelease cluster now => Sys2Proof.Machine.execDroopRelease cluster now s
  | .droopReef cluster now => Sys2Proof.Machine.execDroopReef cluster now s
  | .droopLevelDecay cluster now => Sys2Proof.Machine.execDroopLevelDecay cluster now s
  | .powerEnvelopeExceeded now => Sys2Proof.Machine.execPowerEnvelopeExceeded now s
  | .powerPeakExceeded now => Sys2Proof.Machine.execPowerPeakExceeded now s
  | .enforcementDecay now => Sys2Proof.Machine.execEnforcementDecay now s
  | .thermalDecay cluster now => Sys2Proof.Machine.execThermalDecay cluster now s
  | .undervoltClear now => Sys2Proof.Machine.execUndervoltClear now s
  | .coolantHold now => Sys2Proof.Machine.execCoolantHold now s
  | .coolantHoldRelease now => Sys2Proof.Machine.execCoolantHoldRelease now s
  | .valveFault now => Sys2Proof.Machine.execValveFault now s
  | .timeHoldover now => Sys2Proof.Machine.execTimeHoldover now s
  | .fabricTimeWrap now => Sys2Proof.Machine.execFabricTimeWrap now s
  | .coreSpared core now => Sys2Proof.Machine.execCoreSpared core now s
  | .lockstepSelftest security unequal now => Sys2Proof.Machine.execLockstepSelftest security unequal now s
  | .lockstepMismatch security now => Sys2Proof.Machine.execLockstepMismatch security now s
  | .lockstepCheckerFault security now => Sys2Proof.Machine.execLockstepCheckerFault security now s
  | .uncheckedPairExit security done now => Sys2Proof.Machine.execUncheckedPairExit security done now s
  | .pairRestartDone security ok now => Sys2Proof.Machine.execPairRestartDone security ok now s

end Sys2Proof.Machine
end

