-- ==== Sys2Proof/WellFormed.lean ====
section
/-!
DEFINITION. Well-formed commands: the operands are such as the row's event can bring. A frame or a flit has its length, a packet its
type and fields that fit the header, an access a size that an access has. What the module itself checks and refuses with a cause code is no
part of this: such a command is well formed and its meaning refuses it.
-/
namespace Sys2Proof
open Sys2Proof.Machine

/-- Widths that a PCIe link trains to (21 R524). -/
def pcieWidth (n : Nat) : Bool := [1, 2, 4, 8, 16].contains n

/-- Sizes of scalar accesses (07 R189). -/
def accessSize (n : Nat) : Bool := [1, 2, 4, 8].contains n

/-- A load as a program asks for it: a size, a 64-bit address, a register; a float load has 4 bytes (07 R189). -/
def loadAsked (w : MemWait) : Bool :=
  accessSize w.size && decide (w.va < 2 ^ 64) && decide (w.rd < 32) && (!w.toF || w.size == 4)

/-- The fields of a request fit the header of 20 R507, and its operation is the row's. -/
def requestFits (r : DictReq) (op : Nat) : Bool :=
  r.op == op && decide (r.txn < 2 ^ 16) && decide (r.index < 2 ^ 16) && decide (r.sub < 2 ^ 8) && decide (r.offset < 2 ^ 32)
    && decide (r.total < 2 ^ 32) && decide (r.payload.length ≤ 4064)

/-- A packet has the row's type, its class, and fields that fit the header; its payload has at most 6 lines (13 R343, R344). -/
def packetFits (p : Packet) (t : Nat) : Bool :=
  p.ptype == t && some p.tc == typeClass t && decide (p.age < 64) && decide (p.epoch < 4) && decide (p.stream < 2 ^ 18)
    && decide (p.addr < 2 ^ 57) && decide (p.frag < 32) && decide (p.cform < 4) && decide (p.payload.length ≤ 384)

/-- The packet type of a coherence message (13 R344). -/
def cohType : CohMsg → Nat
  | .readSh .. => 0x10
  | .grant .. => 0x11
  | .write .. => 0x12
  | .writeAck .. => 0x13
  | .snoopInv .. => 0x14
  | .ansInvalidated .. => 0x15
  | .ansEvicting .. => 0x16
  | .evictNotice .. => 0x17

/-- Identifiers of each kind (11 R303). -/
def idCount : IdKind → Nat
  | .queue => 4096
  | .stream => 262144
  | .sem => 1048576

/-- A site of an error exists: a core's local store has 32 KiB, the hub cache 256 banks (07 R187, 09 R246). -/
def siteInRange : EccSite → Bool
  | .mem a => decide (a < 2 ^ 48)
  | .hub bank a => decide (bank < 256) && decide (a < 2 ^ 48)
  | .lds core off => decide (core < 512) && decide (off < 32768)
  | .side block => decide (block < 2 ^ 39)

/-- An error that a read finds lies at a site that exists. -/
def eccInRange (e : EccEvent) : Bool := siteInRange e.site && (match e.core with | some c => decide (c < 512) | none => true)

/-- Whether a command is well formed. -/
def Instr.wellFormed : Instr → Bool
  | .perstNDeassert width rate _ => pcieWidth width && decide (rate < 256)
  | .mbxGo _ w _ _ => decide (w.reqLen.toNat ≤ 4096) && decide (w.request.length = w.reqLen.toNat)
  | .apertureRead _ off n _ errs _ => decide (0 < n) && decide (off + n ≤ 2 ^ 20) && errs.all eccInRange
  | .apertureWrite _ off bs _ => decide (0 < bs.length) && decide (off + bs.length ≤ 2 ^ 20)
  | .dictRead _ r _ => requestFits r 1
  | .dictWrite _ _ r _ => requestFits r 2
  | .dictReadStaged _ r _ => requestFits r 3
  | .dictDescribe _ r _ => requestFits r 4
  | .dictNext _ r _ => requestFits r 5
  | .scalarLoad _ w _ _ => loadAsked w
  | .scalarStore _ _ size v _ => accessSize size && decide (v.toNat < 256 ^ size)
  | .amo _ op _ _ _ _ _ _ => [0, 1, 4, 8, 12, 16, 20, 24, 28].contains op.val
  | .mmaGroupStart _ _ _ errs _ => errs.all eccInRange
  | .beadLand mpa bytes _ _ _ => mpa % 64 == 0 && bytes.length % 64 == 0 && decide (0 < bytes.length)
  | .waitSatisfied sem _ => decide (sem < 1048576)
  | .readSh msg _ => cohType msg == 16
  | .grant msg _ => cohType msg == 17
  | .write msg _ => cohType msg == 18
  | .writeAck msg _ => cohType msg == 19
  | .snoopInv msg _ => cohType msg == 20
  | .ansInvalidated msg _ => cohType msg == 21
  | .ansEvicting msg _ => cohType msg == 22
  | .evictNotice msg _ => cohType msg == 23
  | .readerCopyEvict _ va _ => va.toNat % 64 == 0
  | .egressWriteback _ va _ => va.toNat % 64 == 0
  | .hubCacheEvict _ errs _ => errs.all eccInRange
  | .idQuarantineEnd k n _ => decide (n < idCount k)
  | .noticeFlush ring _ => ring == 0 || (decide (4097 ≤ ring) && decide (ring < 4609))
  | .pkgFlitRx _ bs _ => bs.length == 256
  | .ucieRetrainDone _ rate _ => [0, 16, 32].contains rate
  | .onpkgHalyardPost kind _ _ payload _ => decide (kind < 256) && decide (payload.length ≤ 8192)
  | .linkDataFrame _ bs _ => bs.length == 512
  | .linkIdleFrame _ bs _ => bs.length == 512
  | .groupMarker _ bs _ => bs.length == 10
  | .laneSerWindowEnd _ lanes bad total _ => lanes.length == 4 && decide (bad ≤ total)
  | .bead packet _ => packetFits packet 1
  | .lineWb packet _ => packetFits packet 2
  | .readReq packet _ => packetFits packet 3
  | .readResp packet _ => packetFits packet 4
  | .pktSignal packet _ => packetFits packet 5
  | .pairAck packet _ => packetFits packet 6
  | .pairLoss packet _ => packetFits packet 7
  | .pairSkip packet _ => packetFits packet 8
  | .refuse packet _ => packetFits packet 9
  | .mgmt packet _ _ => packetFits packet 24
  | .halyard _ packet _ => packetFits packet 26
  | .routeStage _ table _ => table.length == 16384
  | .send _ run _ | .tload _ run _ | .tstore _ run _ | .tmove _ run _ | .digest _ run _ | .digestAcc _ run _ => run.errs.all eccInRange
  | .epilogueCloseStart _ faults _ | .vectorBeadForm _ _ faults _ => faults.errs.all eccInRange
  | .hostFwdApertureRead _ errs _ => errs.all eccInRange
  | .scrubVisit errs fails _ => errs.all eccInRange && fails.all siteInRange
  | .pcieLinkUp width rate _ => pcieWidth width && decide (rate < 256)
  | .powerOn .. | .pwrEnAssert .. | .pwrEnFall .. | .pcieReset .. | .vfFlr .. | .pfFlr .. | .busMasterDisable ..
  | .mbxDoneClear .. | .apertureCtrlWrite .. | .hostFwdDoorbell .. | .hostFwdDictRequest .. | .hostFwdDictResponse ..
  | .hostFwdNotice .. | .hostFwdApertureWrite .. | .hostFwdApertureCompletion ..
  | .apertureResendTimeout .. | .anchorTakeover .. | .anchorLinkDownTimeout .. | .doorbellSqTail .. | .doorbellCqHead ..
  | .noticeRingDoorbell .. | .dictSegmentTimeout .. | .dictRequestRetry .. | .udpDatagramRx .. | .multicastResponseDelay ..
  | .noticeRingConfig .. | .ecallEnd .. | .programException .. | .branchMispredict .. | .lr .. | .sc .. | .fence ..
  | .txctlWrite .. | .txfaultWrite .. | .tdWrite .. | .crdataWrite .. | .csrWrite .. | .tiqEnter .. | .engineBegin ..
  | .tensorCommit .. | .tensorComplete .. | .mmaOpen .. | .mmaContinue .. | .mmaClose .. | .mmaOpenClose ..
   | .arrivalStayExpire .. | .vrun .. | .compressBuild .. | .compressReuse .. | .expandFill ..
  | .expandKeep ..  | .vectorArrivalStayExpire ..    | .recv ..
  | .arm .. | .disarm .. | .signal .. | .signalRelease .. | .wait .. | .waitConsume .. | .rflush .. | .clasp .. 
   | .cset .. | .mapReq .. | .unmapReq .. | .evictionRecordExpire .. | .snoopResendTimeout .. | .queueCreate ..
  | .queueDestroy .. | .entryFetch .. | .dispatch .. | .creditRefresh .. | .entryEnd .. | .msixHoldoffExpire .. | .cqHeadPoll ..
  | .schedWindowEnd .. | .queueUrgent .. | .feQueueStay .. | .streamOpen .. | .streamClose .. | .semAlloc .. | .semFree ..
  | .pkgFlitSend .. | .pkgNakRx .. | .pkgCreditInitRx .. | .pkgReplayTimeout .. | .onpkgHalyardDeliver .. | .onpkgHalyardAck ..
  | .quiesce .. | .resume .. | .resetRetain .. | .resetClear .. | .powerReqWrite .. | .linkReplayTimeout .. | .linkLockLost ..
  | .peerSignalDetect .. | .equalizeDone .. | .laneTestDone .. | .ident .. | .identResend .. | .keyAgreeDone ..
  | .linkRetryTimeout .. | .retrainReq .. | .retrainAccept .. | .retrainReqResend .. | .retrainSwitchGroup .. | .retrainDone ..
  | .widthPropose .. | .widthAccept .. | .widthSwitchGroup .. | .linkCmdRetrain .. | .linkCmdFullTrain .. | .linkCmdDisable ..
  | .linkCmdEnable .. | .beacon .. | .beaconSend .. | .sealFrame .. | .sealSend .. | .switchCycle .. | .injectionPromote ..
  | .egressPost .. | .pairAckSend .. | .pairAckRepeat .. | .pairGapLost .. | .sourceLossDeclare .. | .recvTimeout ..
  | .routeArmTime .. | .epochSwitch .. | .epochRetire .. | .halyardGapRepair .. | .halyardRepairRequest .. | .fillReq ..
  | .jrnRegionWrite .. | .jrnCmdRecover .. | .journalDecide .. | .journalFinish .. | .digestCompare .. | .digestCompareRetry ..
  | .arbiterTick .. | .engineWake .. | .engineSleep .. | .grantReturn .. | .reefChange .. | .droopTrip .. | .sensorSample ..
  | .thermalReef .. | .powerInputUndervolt .. | .valveControl .. | .protectStage .. | .protectCommit .. | .protectSwitch ..
  | .keyErase .. | .consentToken .. | .consentExpired .. | .hallmarkReq .. | .hallmarkReqP .. | .signetInstall ..
  | .jobContainedEnd .. | .recoveryStart .. | .testpackPush .. | .testpackRun .. | .testpackRunEnd .. | .partReset ..
  | .resetDrainDone .. | .moduleReset .. | .resetAnnounce .. | .moduleFailTimeout .. | .moduleFailedReceive ..
  | .hangReportRound .. | .fwPush .. | .fwActivate .. | .fwSvnCommit .. | .b3Fetch .. | .censusOriginTimeout .. | .censusClaim ..
  | .censusSummary .. | .configPush .. | .sealObjectWrite .. | .configArm .. | .configCancel .. | .configDiscard ..
  | .configSwitch .. | .configSynced .. | .jobLoad .. | .jobUnload .. | .standbyPowerUp .. | .busMasterEnable ..
  | .pcieCompletionTimeout .. | .inputRangeLostInSequencing .. | .inputRangeRestoredInSequencing .. | .powerInputOvervolt ..
  | .overvoltRestart .. | .inputPowerRemoved .. | .pkgReplayExhausted .. | .droopRelease .. | .droopReef .. | .droopLevelDecay ..
  | .powerEnvelopeExceeded .. | .powerPeakExceeded .. | .enforcementDecay .. | .thermalDecay .. | .undervoltClear ..
  | .coolantHold .. | .coolantHoldRelease .. | .valveFault .. | .timeHoldover .. | .fabricTimeWrap .. | .coreSpared ..
  | .lockstepSelftest .. | .lockstepMismatch .. | .lockstepCheckerFault .. | .uncheckedPairExit .. | .pairRestartDone .. => true

end Sys2Proof
end

