-- ==== Sys2Proof/Safety.lean ====
section
/-!
DEFINITION. The terms in which claims about the machine are stated: what a command does, what it keeps, and the invariants of a run.
-/
namespace Sys2Proof.Machine

/-- A command answers a next state in which the queue stands as it was and the module satisfies `P`. -/
def Does (c : Instr) (s : State) (P : Dev → Prop) : Prop :=
  ∃ t, exec c s = .next t ∧ t.pending = s.pending ∧ P t.dev

/-- Whatever next state a command answers, what `f` reads of the module is as it was. -/
def Keeps {α : Type} (c : Instr) (f : Dev → α) : Prop :=
  ∀ s t, exec c s = .next t → f t.dev = f s.dev

/-- The module once the steps that a program has made since its last command are brought up (07 R187, R194). -/
def Dev.afterProg (d : Dev) (p : Prog) (now : Time) : Dev := (d.advance now).bringUp p

/-- Nothing stops a program before the instruction of its command: its CSR reads are of listed CSRs, and its fetch meets neither a fault nor
poison (07 R190, R194, 09 R259, 17 R450). -/
def Dev.goesOn (d : Dev) (p : Prog) (now : Time) : Prop := (d.afterProg p now).progStop p.core.val p = none

/-- A queue entry that a work command acts on: committed, begun and not finished (07 R202). -/
def Dev.atWork (d : Dev) (c id : Nat) (e : TiqEntry) : Bool :=
  decide ((d.core c).entry? id = some e) && e.committed && e.begun && e.done.isNone

/-- The outcome that a queue entry has been given, which TENSOR_COMPLETE reports. -/
def Dev.outcome (d : Dev) (c id : Nat) : Option Completion := ((d.core c).entry? id).bind (·.done)

/-- A packet as the hub sends it outside the pair order: its source, its time stamp and the epoch are this module's (R342). -/
def Dev.stamped (d : Dev) (p : Packet) : Packet := { p with src := d.id, ts := BitVec.ofNat 16 (nsOf d.time / 1000), epoch := d.fab.epoch }

/-- The module once the ingress unit has taken a pair-order packet that is next in sequence, before it is performed: the frontier has moved
and an acknowledgement is due (R358, R360). -/
def Dev.inSequence (d : Dev) (p : Packet) (now : Time) : Dev :=
  ((d.ingress p now).1.modInn p.src (fun i => { i with pkey := p.pkey })).modInn p.src (fun i => { i with
    frontier := i.frontier + 1, lastAdvance := some (d.advance now).time, ackPending := true })

/-- Whether a vector instruction may take its next step now: its map's header is readable, or its next output bead may be formed (06 R160,
R183). -/
def Dev.vMayStep (d : Dev) (c : Nat) (e : TiqEntry) (o : VOp) : Bool := match d.vNext c e o with
  | .bead _ draws => d.vReady c e draws
  | .header => d.mayRead c e
  | _ => false

/-- The steps of a vector instruction, one output bead after another, each where it may be taken: `k` of them lead from one device to
another. -/
def Dev.vReaches (c id : Nat) (o : VOp) : Nat → Dev → Dev → Prop
  | 0, d, d' => d' = d
  | k + 1, d, d' => ∃ e, (d.core c).entry? id = some e ∧ e.done = none ∧ d.vMayStep c e o = true ∧ Dev.vReaches c id o k (d.vStep c e o) d'

/-- Every byte of memory reads as it did. -/
def sameBytes (d d' : Dev) : Prop := ∀ a, d'.mem.mem.readByte a = d.mem.mem.readByte a

/-- Memory stands in its one canonical form: rising addresses, no zero byte listed. -/
def memoryCanonical (s : State) : Prop := s.dev.mem.mem.wf = true

/-- Every version that is kept counts the value that its object shows now (20 R510). -/
def versionsCurrent (s : State) : Prop :=
  ∀ k t, (k, t) ∈ s.dev.dict.vtags → t.seen = s.dev.valueAt k

/-- A machine that keeps `I` through every step from every state. -/
def Invariant (I : State → Prop) : Prop := ∀ s t, I s → step s = .next t → I t

end Sys2Proof.Machine
end

