-- ==== Sys2Proof/Certificates/Slice0/Obligations.lean ====
section
/-!
DEFINITION. The statements for the provers: what each command does, what it leaves as it was, and the invariants of a run.
-/
open Sys2Proof Sys2Proof.Machine

/-- The host link trains, falls and masters the bus as its events say (R524, R525, R530, R539). -/
def Obligations.HostLinkComesAndGoes : Prop :=
  (∀ (width rate : Nat) (now : Time) (s : State),
      s.dev.pins.pwrGood = true →
      s.dev.host.perst = true →
      Does (.perstNDeassert width rate now) s fun d =>
        d.host.linkUp = true ∧ d.host.width = width ∧ d.host.rate = rate ∧ d.host.perst = false) ∧
  (∀ (width rate : Nat) (now : Time) (s : State),
      s.dev.pins.pwrGood = true →
      s.dev.host.perst = false →
      s.dev.host.linkUp = false →
      Does (.pcieLinkUp width rate now) s fun d =>
        d.host.linkUp = true ∧ d.host.width = width ∧ d.host.rate = rate ∧ d.host.downSince = none) ∧
  (∀ (perst : Bool) (now : Time) (s : State),
      Does (.pcieReset perst now) s fun d =>
        d.host.linkUp = false ∧ d.host.perst = (s.dev.host.perst || perst) ∧ d.cores = s.dev.cores ∧ d.parts = s.dev.parts ∧
          d.rigs = s.dev.rigs ∧ d.mem = s.dev.mem) ∧
  (∀ (func : Fin 4097) (now : Time) (s : State),
      Does (.busMasterDisable func now) s fun d =>
        d.host.busMaster = s.dev.host.busMaster.remove func.val ∧ d.canMaster func.val = false) ∧
  (∀ (func : Fin 4097) (now : Time) (s : State),
      s.dev.host.linkUp = true →
      s.dev.fe.queues = [] →
      s.dev.fe.rings = [] →
      Does (.busMasterEnable func now) s fun d =>
        d.host.busMaster = s.dev.host.busMaster.insert func.val ∧ d.canMaster func.val = true) ∧
  (∀ (queue : Fin 4096) (q : Queue) (now : Time) (s : State),
      s.dev.fe.queues.find? queue.val = some q →
      q.sqDev = false →
      q.state = .active →
      Does (.pcieCompletionTimeout queue now) s fun d =>
        ∃ q', d.fe.queues.find? queue.val = some q' ∧ q'.state = .error)

/-- Function-level resets, mailbox and aperture registers act as their rules say (R512, R513, R529, R530). -/
def Obligations.FunctionResetsAndMailboxes : Prop :=
  (∀ (func : Fin 4097) (now : Time) (s : State),
      s.dev.host.linkUp = true →
      func ≠ 0 →
      s.dev.host.mastMembers = [] →
      Does (.vfFlr func now) s fun d =>
        d.dict.boxes.find? func.val = none ∧ d.host.aperture.find? func.val = none ∧ d.canMaster func.val = false ∧
          d.cores = s.dev.cores ∧ d.parts = s.dev.parts ∧ d.mem = s.dev.mem) ∧
  (∀ (now : Time) (s : State),
      s.dev.host.linkUp = true →
      Does (.pfFlr now) s fun d =>
        d.dict.boxes.find? 0 = none ∧ (d.fe.rings.get {} 0).base = 0 ∧ d.canMaster 0 = false ∧ d.cores = s.dev.cores ∧ d.mem = s.dev.mem) ∧
  (∀ (w : MbxWrite) (env : WriteEnv) (now : Time) (s : State),
      s.dev.host.linkUp = true →
      s.dev.boot.phase = 3 →
      (s.dev.box 0).busy = false →
      s.dev.host.anchorKnown = false →
      s.dev.host.mastMembers = [] →
      32 ≤ w.reqLen.toNat →
      w.reqLen.toNat ≤ 4096 →
      Does (.mbxGo 0 w env now) s fun d =>
        (d.box 0).busy = false ∧ (d.box 0).done = true ∧ (d.box 0).rspLen = (d.box 0).response.length ∧ 32 ≤ (d.box 0).rspLen) ∧
  (∀ (func : Fin 4097) (done overrun : Bool) (now : Time) (s : State),
      s.dev.host.linkUp = true →
      Does (.mbxDoneClear func done overrun now) s fun d =>
        (d.box func.val).done = ((s.dev.box func.val).done && !done) ∧ (d.box func.val).overrun = ((s.dev.box func.val).overrun && !overrun)) ∧
  (∀ (func : Fin 4097) (w : Word) (now : Time) (s : State),
      s.dev.host.linkUp = true →
      func ≠ 0 →
      Does (.apertureCtrlWrite func w now) s fun d =>
        d.host.aperture.get 0 func.val = BitVec.ofNat 64 (bits w 56 20 * 2 ^ 20 + bits w 5 0)) ∧
  (∀ (func : Fin 4097) (off n tag p : Nat) (errs : List EccEvent) (d0 : Dev) (m : MemKind) (now : Time) (s : State),
      s.dev.apertureOpen func.val = true →
      s.dev.ownMember (s.dev.apertureAt func.val off).2 = true →
      errs.foldl Dev.ecc (s.dev.advance now) = d0 →
      d0.reqPart (BitVec.ofNat 16 (s.dev.funcKey func.val)) = some p →
      d0.checkExtent { part := p } { r := true } false (s.dev.apertureAt func.val off).1 n = .ok m →
      (∀ home, m ≠ .remote home) →
      Does (.apertureRead func off n tag errs now) s fun d =>
        d.out = d0.out ++ [.completion tag 0 (d0.poisonVa { part := p } (s.dev.apertureAt func.val off).1 n)
          (d0.readVa { part := p } (s.dev.apertureAt func.val off).1 n)]) ∧
  (∀ (func : Fin 4097) (off p : Nat) (bs : List Byte) (now : Time) (s : State),
      s.dev.apertureOpen func.val = true →
      s.dev.ownMember (s.dev.apertureAt func.val off).2 = true →
      s.dev.reqPart (BitVec.ofNat 16 (s.dev.funcKey func.val)) = some p →
      Does (.apertureWrite func off bs now) s fun d =>
        d.mem = ((s.dev.advance now).apertureStore p (s.dev.apertureAt func.val off).1 bs).mem)

/-- Packets between the anchor and the members of a mast group have their stated effects (R532, R534, R529, R515). -/
def Obligations.HostForwarding : Prop :=
  (∀ (h : HostFwd) (now : Time) (s : State),
      s.dev.fromAnchor h = true →
      s.dev.inFseq h = true →
      h.func = 0 →
      Does (.hostFwdDoorbell h now) s fun d =>
        d.host.fseqIn = (h.fseq.toNat + 1) % 2 ^ 32 ∧
        d.fe = (((s.dev.advance now).applied h).door (msgField h.bytes 2 2) (BitVec.ofNat 64 (msgField h.bytes 4 8))).fe) ∧
  (∀ (h : HostFwd) (env : WriteEnv) (now : Time) (s : State),
      s.dev.fromAnchor h = true →
      h.func = 0 →
      Does (.hostFwdDictRequest h env now) s fun d =>
        d.out.getLast? = some (.fwd h.src (fwdXarg h.fseq.toNat 0 3) ((s.dev.advance now).serveKept .pf env 4096 (h.bytes.drop 2) now).2)) ∧
  (∀ (h : HostFwd) (k : KeptTxn) (now : Time) (s : State),
      s.dev.dict.sent.find? (fun x => x.peer = fwdPeer h.func.val (h.src.toNat % 64) && x.txn = msgField h.bytes 2 2) = some k →
      (s.dev.box h.func.val).busy = true →
      Does (.hostFwdDictResponse h now) s fun d =>
        (d.box h.func.val).response = h.bytes ∧ (d.box h.func.val).done = true ∧ (d.box h.func.val).busy = false ∧ d.dict.sent = s.dev.dict.sent.erase k) ∧
  (∀ (h : HostFwd) (now : Time) (s : State),
      s.dev.serves = true →
      Does (.hostFwdNotice h now) s fun d =>
        d.fe = ((s.dev.advance now).deliverNotice (noticeOfBytes h.bytes) ((s.dev.advance now).reqPart (BitVec.ofNat 16 (msgField h.bytes 32 2)))).fe) ∧
  (∀ (h : HostFwd) (p : Nat) (errs : List EccEvent) (d0 : Dev) (m : MemKind) (now : Time) (s : State),
      s.dev.fromAnchor h = true →
      errs.foldl Dev.ecc (s.dev.advance now) = d0 →
      d0.reqPart (BitVec.ofNat 16 (msgField h.bytes 0 2)) = some p →
      d0.checkExtent { part := p } { r := true } false (msgField h.bytes 2 8) (msgField h.bytes 10 2) = .ok m →
      (∀ home, m ≠ .remote home) →
      Does (.hostFwdApertureRead h errs now) s fun d =>
        d.out = d0.out ++ [.fwd h.src (fwdXarg h.fseq.toNat h.func.val 7)
          ([0, if d0.poisonVa { part := p } (msgField h.bytes 2 8) (msgField h.bytes 10 2) then 1 else 0]
            ++ d0.readVa { part := p } (msgField h.bytes 2 8) (msgField h.bytes 10 2))]) ∧
  (∀ (h : HostFwd) (p : Nat) (now : Time) (s : State),
      s.dev.fromAnchor h = true →
      s.dev.inFseq h = true →
      s.dev.reqPart (BitVec.ofNat 16 (msgField h.bytes 0 2)) = some p →
      Does (.hostFwdApertureWrite h now) s fun d =>
        d.out.getLast? = some (.fwd h.src (fwdXarg h.fseq.toNat h.func.val 7) [0, 0]) ∧
        d.mem = (((s.dev.advance now).applied h).apertureStore p (msgField h.bytes 2 8) (h.bytes.drop 10)).mem) ∧
  (∀ (h : HostFwd) (x : FwdAccess) (now : Time) (s : State),
      s.dev.host.fwds.find? (fun y => y.member = h.src.toNat % 64 && y.fseq = h.fseq.toNat) = some x →
      x.write = false →
      msgField h.bytes 0 1 = 0 →
      Does (.hostFwdApertureCompletion h now) s fun d =>
        d.out = s.dev.out ++ [.completion x.tag 0 (msgField h.bytes 1 1 = 1) (h.bytes.drop 2)] ∧ d.host.fwds = s.dev.host.fwds.erase x) ∧
  (∀ (member : Fin 64) (fseq : BitVec 32) (x : FwdAccess) (now : Time) (s : State),
      s.dev.host.fwds.find? (fun y => y.member = member.val && y.fseq = fseq.toNat) = some x →
      reached (s.dev.advance now).time x.time (ms 2) = true →
      Does (.apertureResendTimeout member fseq now) s fun d =>
        d.out = s.dev.out ++ [.fwd (s.dev.memberId member.val) (fwdXarg fseq.toNat x.func (if x.write then 6 else 5)) x.message]) ∧
  (∀ (now : Time) (s : State),
      s.dev.host.anchorKnown = true →
      s.dev.host.standby ≠ s.dev.host.anchor →
      s.dev.host.standby = s.dev.id →
      Does (.anchorTakeover true 1 now) s fun d =>
        d.host.isAnchor = true ∧ d.host.anchor = s.dev.host.standby ∧ d.host.fseqIn = 0) ∧
  (∀ (now : Time) (s : State),
      s.dev.host.anchorKnown = true →
      s.dev.host.standby ≠ s.dev.host.anchor →
      s.dev.host.isAnchor = false →
      Does (.anchorLinkDownTimeout now) s fun d =>
        d.host.anchor = s.dev.host.standby ∧ d.host.isAnchor = decide (s.dev.host.standby = s.dev.id))

/-- Queues are created and destroyed, and doorbells move their tails and heads (R284, R286, R287, R292, R293, R296, R310, R518). -/
def Obligations.QueuesAndDoorbells : Prop :=
  (∀ (part : Fin 512) (func : Fin 4097) (desc : List Byte) (n : Nat) (now : Time) (s : State),
      (s.dev.advance now).queueRefusal part.val { state := .active, part := part.val, func := func.val, desc := desc, rig := BitVec.ofNat 32 (leNat ((desc.drop 0x10).take 4)), created := (s.dev.advance now).time, credited := (s.dev.advance now).time } = none →
      s.dev.fe.qIds.pick 4096 (s.dev.advance now).time = some n →
      Does (.queueCreate part func desc now) s fun d =>
        ∃ q, d.fe.queues.find? n = some q ∧ q.state = .active ∧ q.part = part.val ∧ q.desc = desc ∧ q.gen = s.dev.fe.qIds.gens.get 0 n + 1 ∧
          d.out.getLast? = some (.reply 0 (BitVec.ofNat 64 (queueHandle n q)) 0 [])) ∧
  (∀ (part : Fin 512) (handle : Nat) (q : Queue) (now : Time) (s : State),
      s.dev.fe.queues.find? (handle % 4096) = some q →
      q.part = part.val →
      queueHandle (handle % 4096) q = handle →
      q.state = .active →
      q.flight = [] →
      Does (.queueDestroy part handle now) s fun d =>
        d.fe.queues.find? (handle % 4096) = none ∧ d.out = s.dev.out ++ [.reply 0 (BitVec.ofNat 64 handle) 0 []]) ∧
  (∀ (func : Fin 4097) (member : Fin 64) (queue : Fin 4096) (w : Word) (q : Queue) (now : Time) (s : State),
      bit w 38 = false →
      s.dev.host.linkUp = true →
      s.dev.serves = true →
      (func ≠ 0 → s.dev.funcKey func.val ≠ 0) →
      s.dev.ownMember member.val = true →
      s.dev.doorOf func.val queue.val = true →
      s.dev.doorQueue queue.val w = some q →
      q.dbSem = false →
      q.tailOk (w.truncate 32) = true →
      Does (.doorbellSqTail func member queue w now) s fun d =>
        ∃ q', d.fe.queues.find? queue.val = some q' ∧ q'.tail = w.truncate 32 ∧ q'.fetched = q.fetched ∧ d.mem = s.dev.mem) ∧
  (∀ (func : Fin 4097) (member : Fin 64) (queue : Fin 4096) (w : Word) (q : Queue) (now : Time) (s : State),
      bit w 38 = true →
      s.dev.host.linkUp = true →
      s.dev.serves = true →
      (func ≠ 0 → s.dev.funcKey func.val ≠ 0) →
      s.dev.ownMember member.val = true →
      s.dev.doorOf func.val queue.val = true →
      s.dev.doorQueue queue.val w = some q →
      q.cqDev = false →
      (w.truncate 32 - q.cqHead).toNat ≤ (BitVec.ofNat 32 q.records - q.cqHead).toNat →
      Does (.doorbellCqHead func member queue w now) s fun d =>
        ∃ q', d.fe.queues.find? queue.val = some q' ∧ q'.cqHead = w.truncate 32 ∧ q'.tail = q.tail ∧ d.mem = s.dev.mem) ∧
  (∀ (w : Word) (now : Time) (s : State),
      s.dev.host.linkUp = true →
      s.dev.serves = true →
      bit w 38 = true →
      bits w 37 32 = 0 →
      (s.dev.fe.rings.get {} 0).tail < 2 ^ 32 →
      (s.dev.fe.rings.get {} 0).head ≤ w.toNat % 2 ^ 32 →
      w.toNat % 2 ^ 32 ≤ (s.dev.fe.rings.get {} 0).tail →
      Does (.noticeRingDoorbell 0 w now) s fun d =>
        (d.fe.rings.get {} 0).head = w.toNat % 2 ^ 32) ∧
  (∀ (part : Option (Fin 512)) (v : Word) (now : Time) (s : State),
      v.toNat % 4096 = 0 →
      Does (.noticeRingConfig part (.base v) now) s fun d =>
        (d.fe.rings.get {} (ringOf (part.map Fin.val))).base = v ∧ (d.fe.rings.get {} (ringOf (part.map Fin.val))).head = 0 ∧
          d.out.getLast? = some (.reply 0 0 0 []))

/-- Entries are fetched, dispatched and completed in their queue's order (R42, R288, R289, R294, R295, R297, R296). -/
def Obligations.EntriesRun : Prop :=
  (∀ (queue : Fin 4096) (b : List Byte) (q : Queue) (now : Time) (s : State),
      s.dev.fe.queues.find? queue.val = some q →
      q.state = .active →
      q.tail ≠ q.fetched →
      q.ahead.length < 4 →
      q.sqDev = false →
      s.dev.canMaster q.func = true →
      Does (.entryFetch queue (.data b) now) s fun d =>
        ∃ q', d.fe.queues.find? queue.val = some q' ∧ q'.fetched = q.fetched + 1 ∧
          q'.ahead = q.ahead ++ [{ index := q.fetched.toNat, e := SubEntry.ofBytes b, ended := if (SubEntry.ofBytes b).bad then some { cause := 0x0110 } else none }]) ∧
  (∀ (core : Fin 512) (d2 : Dev) (x : Cand) (b : Bool) (q : Queue) (f : FlightEntry) (rest : List FlightEntry) (now : Time) (s : State),
      d2 = ((((s.dev.advance now).settleAll.settleCore core.val).fe.queues.keys.foldl (fun d i => (Dev.passInvalid i 4 d).forward i) ((s.dev.advance now).settleAll.settleCore core.val))).startNext core.val →
      d2.coreOpen core.val = true →
      pick (d2.candidates core.val) (d2.fe.sched.get {} core.val).borrow (d2.fe.sched.get {} core.val).last = some (x, b) →
      d2.fe.queues.find? x.key = some q →
      q.ahead = f :: rest →
      f.running = false →
      f.ended = none →
      Does (.dispatch core now) s fun d =>
        ∃ r, (d.core core.val).run = some r ∧ (d.rig core.val).state = .busy) ∧
  (∀ (queue : Fin 4096) (q : Queue) (m : BitVec 14) (now : Time) (s : State),
      s.dev.fe.queues.find? queue.val = some q →
      4 ≤ rigLevel q.rig →
      m ∈ s.dev.queueMembers q →
      m ≠ s.dev.id →
      Does (.creditRefresh queue now) s fun d =>
        ∃ p ∈ d.fab.hubOut, p.ptype = 0x18 ∧ p.dst = m ∧ bits p.xarg 7 0 = 0x12) ∧
  (∀ (queue : Fin 4096) (q : Queue) (f : FlightEntry) (rest : List FlightEntry) (e : Ending) (now : Time) (s : State),
      s.dev.fe.queues.find? queue.val = some q →
      q.state = .active →
      q.flight = f :: rest →
      f.ended = some e →
      f.core = none →
      bit f.e.eflags 1 = false →
      q.hasCq = false →
      e.cause = 0 →
      Does (.entryEnd queue now) s fun d =>
        ∃ q', d.fe.queues.find? queue.val = some q' ∧ q'.flight = rest ∧ q'.records = q.records) ∧
  (∀ (queue : Fin 4096) (q : Queue) (now : Time) (s : State),
      s.dev.fe.queues.find? queue.val = some q →
      q.msixPending = true →
      q.lastMsix = none →
      Does (.msixHoldoffExpire queue now) s fun d =>
        d.out = s.dev.out ++ [.msix q.func (q.field 0x1A 2)] ∧ ∃ q', d.fe.queues.find? queue.val = some q' ∧ q'.msixPending = false) ∧
  (∀ (queue : Fin 4096) (q : Queue) (now : Time) (s : State),
      s.dev.fe.queues.find? queue.val = some q →
      q.cqDev = true →
      q.hasCq = true →
      (s.dev.advance now).holdReason q = some 1 →
      q.lastPoll = none →
      Does (.cqHeadPoll queue now) s fun d =>
        ∃ q', d.fe.queues.find? queue.val = some q' ∧ q'.cqHead = BitVec.ofNat 32 (leNat (s.dev.readVa q.who (q.field 8 8 + 32 * q.cqSize) 8))) ∧
  (∀ (i : Nat) (q : Queue) (now : Time) (s : State),
      reached (s.dev.advance now).time s.dev.fe.windowStart (ns s.dev.fe.window) = true →
      s.dev.fe.queues = [] →
      s.dev.fe.sched = [] →
      Does (.schedWindowEnd now) s fun d =>
        d.fe.windowStart = ns (nsOf (s.dev.advance now).time / s.dev.fe.window * s.dev.fe.window)) ∧
  (∀ (queue : Fin 4096) (q : Queue) (t : Time) (now : Time) (s : State),
      s.dev.fe.queues.find? queue.val = some q →
      q.waitStart = some t →
      q.waits = true →
      q.rt = false →
      s.dev.tUrgent q < nsBetween t (s.dev.advance now).time →
      Does (.queueUrgent queue now) s fun d =>
        ∃ q', d.fe.queues.find? queue.val = some q' ∧ q'.urgent = true ∧ q'.ahead = q.ahead) ∧
  (∀ (queue : Fin 4096) (q : Queue) (t : Time) (now : Time) (s : State),
      s.dev.fe.queues.find? queue.val = some q →
      q.waitStart = some t →
      q.waits = true →
      (q.stays + 1) * s.dev.tStay q ≤ nsBetween t (s.dev.advance now).time →
      Does (.feQueueStay queue now) s fun d =>
        ∃ q', d.fe.queues.find? queue.val = some q' ∧ q'.stays = q.stays + 1 ∧ q'.tail = q.tail)

/-- Streams, semaphores, identifiers and held notices follow their rules (R276, R303, R304, R306, R307, R311). -/
def Obligations.IdentifiersAndSemaphores : Prop :=
  (∀ (part : Fin 512) (dest : BitVec 14) (n : Nat) (now : Time) (s : State),
      dest ∈ (s.dev.part part.val).modules →
      s.dev.fe.sIds.pick 262144 (s.dev.advance now).time = some n →
      Does (.streamOpen part dest now) s fun d =>
        d.fe.streams.find? n = some { part := part.val, dest := dest, open' := true } ∧
          d.out = s.dev.out ++ [.reply 0 (BitVec.ofNat 64 (n + (s.dev.fe.sIds.gens.get 0 n + 1).toNat * 2 ^ 18)) 0 []]) ∧
  (∀ (part : Fin 512) (handle : Word) (st : Stream) (now : Time) (s : State),
      s.dev.streamOk part.val handle = some st →
      st.inFlight = 0 →
      Does (.streamClose part handle now) s fun d =>
        d.fe.streams.find? (bits handle 17 0) = none ∧ bits handle 17 0 ∉ d.fe.sIds.used) ∧
  (∀ (part : Fin 512) (init : Word) (n : Nat) (now : Time) (s : State),
      s.dev.fe.semIds.pick 1048576 (s.dev.advance now).time = some n →
      s.dev.lineLost (semSlot n / 64) = false →
      Does (.semAlloc part init now) s fun d =>
        d.semValue n = init ∧ d.semKey n = (s.dev.part part.val).key ∧ d.semGen n = s.dev.fe.semIds.gens.get 0 n + 1 ∧ d.semAlloc n = true) ∧
  (∀ (part : Fin 512) (handle : Word) (now : Time) (s : State),
      (SemHandle.ofWord handle).module = s.dev.id →
      s.dev.semCheck (SemHandle.ofWord handle) (s.dev.part part.val).key = 0 →
      s.dev.lineLost (semSlot (SemHandle.ofWord handle).sem / 64) = false →
      Does (.semFree part handle now) s fun d =>
        d.semAlloc (SemHandle.ofWord handle).sem = false ∧ d.semValue (SemHandle.ofWord handle).sem = 0 ∧ d.coh.waits = s.dev.coh.waits.filter (·.sem ≠ (SemHandle.ofWord handle).sem)) ∧
  (∀ (n : Nat) (now : Time) (s : State),
      s.dev.fe.qIds.held n (s.dev.advance now).time = false →
      Does (.idQuarantineEnd .queue n now) s fun d =>
        d.fe.qIds.quarantine.find? n = none ∧ d.fe.qIds.gens = s.dev.fe.qIds.gens ∧ d.fe.qIds.used = s.dev.fe.qIds.used) ∧
  (∀ (ring : Nat) (h : HeldNotice) (now : Time) (s : State),
      s.dev.ringReady ring = true →
      s.dev.fe.held = [h] →
      h.ring = ring →
      (s.dev.fe.rings.get {} ring).lost = 0 →
      Does (.noticeFlush ring now) s fun d =>
        d.fe.held = [] ∧ (d.fe.rings.get {} ring).tail = (s.dev.fe.rings.get {} ring).tail + 1)

/-- Dictionary requests answer as stated, over the mailbox, the fabric and the segment (R504, R507, R508, R509, R510, R515, R516). -/
def Obligations.DictionaryAndItsTransport : Prop :=
  (∀ (q : Requester) (r : DictReq) (o : ObjDef) (now : Time) (s : State),
      s.dev.boot.phase = 3 →
      (s.dev.advance now).reqObject q { r with op := 1 } = .ok o →
      (s.dev.advance now).reqRead q o r.index r.select = true →
      o.acc ≠ .wo →
      r.seg = false →
      (((s.dev.advance now).retag.tagOf o (tagKey r.select r.index r.sub)).objValue o r.index r.sub r.select).length ≤ q.limit - 32 →
      Does (.dictRead q r now) s fun d =>
        ∃ b, d.out.getLast? = some (.reply 0 0 0 b) ∧
          b.drop 32 = ((s.dev.advance now).retag.tagOf o (tagKey r.select r.index r.sub)).objValue o r.index r.sub r.select) ∧
  (∀ (q : Requester) (env : WriteEnv) (r : DictReq) (o : ObjDef) (x : Dev × Option (Cause × Word × List Byte)) (now : Time) (s : State),
      s.dev.boot.phase = 3 →
      (s.dev.advance now).reqObject q { r with op := 2 } = .ok o →
      (s.dev.advance now).reqWrite q o r.index r.sub = true →
      o.acc ≠ .boot →
      o.acc ≠ .ro →
      o.acc ≠ .sl →
      r.seg = false →
      s.dev.dict.opens = [] →
      o.check r.payload = 0 →
      partBlock r.index = none →
      x = ((s.dev.advance now).retag.tagOf o (tagKey r.select r.index r.sub)).ask (fun d => d.actModule q env o r.index r.sub r.select r.payload now) →
      Does (.dictWrite q env r now) s fun d =>
        d.dict.values = x.1.dict.values ∧ d.power = x.1.power ∧ d.host = x.1.host ∧ d.fe = x.1.fe ∧ d.boot = x.1.boot ∧
          ∃ b, d.out.getLast? = some (.reply ((x.2.getD (0, 0, [])).1) 0 0 b)) ∧
  (∀ (q : Requester) (r : DictReq) (o : ObjDef) (now : Time) (s : State),
      s.dev.boot.phase = 3 →
      (s.dev.advance now).reqObject q { r with op := 3 } = .ok o →
      (s.dev.advance now).reqRead q o r.index r.select = true →
      o.acc = .sl →
      r.seg = false →
      ((s.dev.cfg.staged.getD s.dev.cfg.force).value o r.index r.sub).length ≤ q.limit - 32 →
      Does (.dictReadStaged q r now) s fun d =>
        ∃ b, d.out.getLast? = some (.reply 0 0 0 b) ∧ b.drop 32 = (s.dev.cfg.staged.getD s.dev.cfg.force).value o r.index r.sub) ∧
  (∀ (q : Requester) (r : DictReq) (o : ObjDef) (now : Time) (s : State),
      s.dev.boot.phase = 3 →
      (s.dev.advance now).reqObject q { r with op := 4 } = .ok o →
      (s.dev.advance now).reqReach q o r.index r.sub = true →
      Does (.dictDescribe q r now) s fun d =>
        ∃ b, d.out.getLast? = some (.reply 0 0 0 b) ∧ b.drop 32 = o.describe r.sub ∧ d.cfg = s.dev.cfg) ∧
  (∀ (q : Requester) (r : DictReq) (now : Time) (s : State),
      s.dev.boot.phase = 3 →
      Does (.dictNext q r now) s fun d =>
        ∃ b, match (s.dev.advance now).nextObject q (objKey r.index r.sub) with
          | some k => d.out.getLast? = some (.reply 0 0 0 b) ∧ b.drop 32 = leBytes 2 (k / 256) ++ leBytes 1 (k % 256) ++ [0]
          | none => d.out.getLast? = some (.reply 0x0160 0 0 b)) ∧
  (∀ (now : Time) (s : State),
      Does (.dictSegmentTimeout now) s fun d =>
        d.dict.opens = s.dev.dict.opens.filter (fun w => !timeLe w.deadline d.time) ∧ d.dict.values = s.dev.dict.values) ∧
  (∀ (peer txn : Nat) (k : KeptTxn) (now : Time) (s : State),
      s.dev.dict.sent.find? (fun x => x.peer = peer && x.txn = txn) = some k →
      reached (s.dev.advance now).time k.time (ms 2) = true →
      k.resends < 4 →
      Does (.dictRequestRetry peer txn now) s fun d =>
        d.out = s.dev.out ++ [.fwd (s.dev.memberId (peer % 64)) (fwdXarg (s.dev.host.fseqOut.get 0 (peer % 64)) (peer / 64 - 65536) 2)
          (leBytes 2 (s.dev.funcKey (peer / 64 - 65536)) ++ k.message)]) ∧
  (∀ (g : Datagram) (env : WriteEnv) (now : Time) (s : State),
      s.dev.boot.phase = 3 →
      (s.dev.advance now).udpOk g = true →
      g.dst ≠ allNodes →
      Does (.udpDatagramRx g env now) s fun d =>
        d.out.getLast? = some (.udp (g.src.toNat * 65536 + g.sport.toNat)
          ((s.dev.advance now).serveKept (.udp (g.src.toNat * 65536 + g.sport.toNat)) env 1024 g.bytes now).2)) ∧
  (∀ (g : Datagram) (env : WriteEnv) (now : Time) (s : State),
      s.dev.boot.phase = 3 →
      (s.dev.advance now).udpOk g = false →
      Does (.udpDatagramRx g env now) s fun d =>
        d.dict.udpDiscards = s.dev.dict.udpDiscards + 1 ∧ d.out = s.dev.out) ∧
  (∀ (peer txn : Nat) (k : KeptTxn) (now : Time) (s : State),
      s.dev.dict.delayed.find? (fun x => x.peer = peer && x.txn = txn) = some k →
      Does (.multicastResponseDelay peer txn now) s fun d =>
        d.out = s.dev.out ++ [.udp peer k.message] ∧ d.dict.delayed = s.dev.dict.delayed.erase k)

/-- Power comes up and goes down in the order that the pins give it (R13, R486, R538, R539, R540). -/
def Obligations.PowerSequencing : Prop :=
  (∀ (now : Time) (s : State),
      s.dev.pins.standby = false →
      Does (.standbyPowerUp now) s fun d =>
        d.pins = { s.dev.pins with standby := true, input54 := true } ∧ d.boot = s.dev.boot ∧ d.mem = s.dev.mem) ∧
  (∀ (now : Time) (s : State),
      s.dev.pins.standby = true →
      s.dev.pins.pwrGood = false →
      s.dev.pins.input54 = true →
      Does (.pwrEnAssert now) s fun d =>
        d.pins = { s.dev.pins with pwrEn := true, pwrGood := true } ∧ d.boot = s.dev.boot ∧ d.mem = s.dev.mem) ∧
  (∀ (slow dead : List (Fin 96)) (badChans : List (Fin 16)) (bist : List (Fin 512)) (now : Time) (s : State),
      s.dev.pins.standby = true →
      s.dev.pins.pwrEn = true →
      s.dev.pins.input54 = true →
      s.dev.boot.phase = 0 →
      (({ s.dev.boot with activeB := s.dev.boot.nextB }).stageImage 1).isSome = true →
      (({ s.dev.boot with activeB := s.dev.boot.nextB }).stageImage 2).isSome = true →
      Does (.powerOn slow dead badChans bist now) s fun d =>
        d.pins.pwrGood = true ∧ d.pins.lossCause = none ∧ d.boot.phase = 3 ∧ d.mem.dramOn = true ∧
          (∀ p, p < 32 → (d.port p).state = .detect)) ∧
  (∀ (slow dead : List (Fin 96)) (badChans : List (Fin 16)) (bist : List (Fin 512)) (now : Time) (s : State),
      s.dev.pins.standby = true →
      s.dev.pins.pwrEn = true →
      s.dev.pins.input54 = true →
      s.dev.boot.phase = 0 →
      ({ s.dev.boot with activeB := s.dev.boot.nextB }).stageImage 1 = none →
      Does (.powerOn slow dead badChans bist now) s fun d =>
        d.pins.pwrGood = true ∧ d.boot.phase = 4 ∧ d.mem.mem = [] ∧ d.parts = [] ∧
          d.rst.lastCause = (match s.dev.pins.lossCause with | some c => c | none => s.dev.rst.lastCause)) ∧
  (∀ (now : Time) (s : State),
      s.dev.pins.pwrEn = true →
      Does (.pwrEnFall now) s fun d =>
        d.pins.pwrEn = false ∧ d.pins.pwrGood = false ∧ d.mem.mem = [] ∧ d.boot.phase = 0 ∧ d.parts = [] ∧ d.fe.queues = [] ∧
          ∀ q, q < 32 → (d.port q).state = .disabled) ∧
  (∀ (now : Time) (s : State),
      s.dev.pins.pwrEn = true →
      s.dev.boot.phase = 3 →
      Does (.pwrEnFall now) s fun d => ∃ id, d.out.getLast? = some (.halyard0 1 [id] [])) ∧
  (∀ (now : Time) (s : State),
      s.dev.pins.standby = true →
      s.dev.boot.phase = 0 →
      Does (.inputRangeLostInSequencing now) s fun d =>
        d.pins = { s.dev.pins with input54 := false, pwrGood := false } ∧ d.boot = s.dev.boot) ∧
  (∀ (now : Time) (s : State),
      s.dev.pins.standby = true →
      s.dev.boot.phase = 0 →
      s.dev.pins.overvolt = false →
      s.dev.pins.input54 = false →
      Does (.inputRangeRestoredInSequencing now) s fun d =>
        d.pins = { s.dev.pins with input54 := true, pwrGood := s.dev.pins.pwrEn } ∧ d.boot = s.dev.boot) ∧
  (∀ (now : Time) (s : State),
      s.dev.pins.standby = true →
      Does (.powerInputOvervolt now) s fun d =>
        d.pins = { s.dev.pins with overvolt := true, input54 := false, pwrGood := false, lossCause := some 0x0605, lossOvervolt := true } ∧
          d.mem.mem = [] ∧ d.mem.dramOn = false ∧ d.boot.phase = 0) ∧
  (∀ (now : Time) (s : State),
      s.dev.pins.overvolt = true →
      Does (.overvoltRestart now) s fun d =>
        d.pins = { s.dev.pins with overvolt := false, input54 := true, pwrGood := s.dev.pins.pwrEn } ∧ d.boot = s.dev.boot) ∧
  (∀ (now : Time) (s : State),
      Does (.inputPowerRemoved now) s fun d =>
        d.pins.input54 = false ∧ d.pins.pwrGood = false ∧ d.mem.mem = [] ∧ d.mem.dramOn = false ∧ d.boot.phase = 0 ∧ d.parts = [] ∧
          (s.dev.pins.standby = true → ∃ c, d.pins.lossCause = some c ∧ c ≠ 0 ∧ c ≠ 0x0605))

/-- A program's end, exception, mispredicted branch and fence act on its core as stated (R190, R202, R205, R206, R278, R294). -/
def Obligations.ProgramsEndAndBranch : Prop :=
  (∀ (p : Prog) (r : Running) (now : Time) (s : State),
      (s.dev.core p.core.val).commits = true →
      (s.dev.core p.core.val).run = some r →
      (s.dev.core p.core.val).tiq.any (·.committed) = false →
      ((s.dev.afterProg p now).core p.core.val).sc.reg 17 = 0 →
      r.queue < 65536 →
      s.dev.goesOn p now →
      Does (.ecallEnd p now) s fun d =>
        (d.core p.core.val).run = none ∧ (d.core p.core.val).sc.machine = true ∧ (d.core p.core.val).sc.resv = none ∧
        ∃ q, d.fe.queues.find? r.queue = some q ∧
          ∀ f ∈ q.flight, f.index = r.index → f.ended = some { status := ((s.dev.afterProg p now).core p.core.val).sc.reg 10 }) ∧
  (∀ (p : Prog) (mcause mtval : Word) (r : Running) (now : Time) (s : State),
      (s.dev.core p.core.val).run = some r →
      (s.dev.core p.core.val).ending = none →
      (s.dev.core p.core.val).sc.wait = none →
      (s.dev.core p.core.val).tentative = 0 →
      (s.dev.core p.core.val).tiq.any (·.committed) = false →
      r.queue < 65536 →
      s.dev.goesOn p now →
      Does (.programException p mcause mtval now) s fun d =>
        (d.core p.core.val).run = none ∧ (d.core p.core.val).sc.mcause = mcause ∧ (d.core p.core.val).sc.mtval = mtval ∧
        ∃ q, d.fe.queues.find? r.queue = some q ∧
          ∀ f ∈ q.flight, f.index = r.index → f.ended = some { cause := 0x0130, status := mcause, arg0 := mcause, arg1 := mtval }) ∧
  (∀ (p : Prog) (young : Nat) (r : Running) (now : Time) (s : State),
      (s.dev.core p.core.val).run = some r →
      (s.dev.core p.core.val).ending = none →
      s.dev.goesOn p now →
      Does (.branchMispredict p young now) s fun d =>
        (d.core p.core.val).tiq = (s.dev.core p.core.val).tiq.filter (fun e => e.committed || !decide (young ≤ e.id)) ∧
          (d.core p.core.val).tx.txsqcnt = (s.dev.core p.core.val).tx.txsqcnt + ((s.dev.core p.core.val).tiq.filter (fun e => !e.committed && decide (young ≤ e.id) && e.begun)).length) ∧
  (∀ (p : Prog) (predW : Bool) (now : Time) (s : State),
      (s.dev.core p.core.val).commits = true →
      (s.dev.core p.core.val).sc.stores = [] →
      s.dev.goesOn p now →
      Does (.fence p predW now) s fun d =>
        (d.core p.core.val).sc = ((s.dev.afterProg p now).core p.core.val).sc ∧ d.mem = s.dev.mem ∧ (d.core p.core.val).tiq = (s.dev.core p.core.val).tiq)

/-- Scalar loads, stores, AMOs, LR and SC on a core's own memories have their stated effects (R73, R188, R189, R278). -/
def Obligations.ScalarAccesses : Prop :=
  (∀ (p : Prog) (w : MemWait) (errs : List EccEvent) (a : Nat) (d0 : Dev) (now : Time) (s : State),
      (s.dev.core p.core.val).decodes = true →
      (s.dev.core p.core.val).sc.wait = none →
      lineVa w.va ∉ (s.dev.core p.core.val).sc.stores →
      errs.foldl Dev.ecc (s.dev.afterProg p now) = d0 →
      d0.scalarTarget p.core.val { r := true } w.va w.size false false = .own a →
      d0.poisoned (a / 64) = false →
      w.toF = false →
      w.rd ≠ 0 →
      s.dev.goesOn p now →
      Does (.scalarLoad p w errs now) s fun d =>
        (d.core p.core.val).sc.reg w.rd = widenLoad w.size w.signed (d0.mem.mem.readNat a w.size) ∧ d.mem = d0.mem) ∧
  (∀ (p : Prog) (va : Word) (size : Nat) (v : Word) (a : Nat) (now : Time) (s : State),
      (s.dev.core p.core.val).commits = true →
      0 < size →
      (s.dev.afterProg p now).scalarTarget p.core.val { w := true } va.toNat size true false = .own a →
      s.dev.goesOn p now →
      Does (.scalarStore p va size v now) s fun d =>
        d.mem.mem = (s.dev.afterProg p now).store a (leBytes size v.toNat) ∧ d.mem.side = uncheckRange s.dev.mem.side a size ∧ d.mem.poison = s.dev.mem.poison) ∧
  (∀ (p : Prog) (op : Fin 32) (wide : Bool) (va v : Word) (rd : Fin 32) (rl : Bool) (a : Nat) (now : Time) (s : State),
      (s.dev.core p.core.val).commits = true →
      (s.dev.core p.core.val).sc.stores = [] →
      (s.dev.afterProg p now).scalarTarget p.core.val { r := true, w := true } va.toNat (if wide then 8 else 4) true true = .own a →
      (s.dev.afterProg p now).poisoned (a / 64) = false →
      rd ≠ 0 →
      s.dev.goesOn p now →
      Does (.amo p op wide va v rd rl now) s fun d =>
        (d.core p.core.val).sc.reg rd.val = widenLoad (if wide then 8 else 4) true (BitVec.ofNat 64 (s.dev.mem.mem.readNat a (if wide then 8 else 4))).toNat ∧
          d.mem.mem = (s.dev.afterProg p now).store a (leBytes (if wide then 8 else 4)
            (amoNew op.val wide (BitVec.ofNat 64 (s.dev.mem.mem.readNat a (if wide then 8 else 4))) v).toNat)) ∧
  (∀ (p : Prog) (wide : Bool) (va : Word) (rd : Fin 32) (a : Nat) (now : Time) (s : State),
      (s.dev.core p.core.val).commits = true →
      lineVa va.toNat ∉ (s.dev.core p.core.val).sc.stores →
      (s.dev.afterProg p now).scalarTarget p.core.val { r := true } va.toNat (if wide then 8 else 4) false true = .own a →
      (s.dev.afterProg p now).poisoned (a / 64) = false →
      rd ≠ 0 →
      s.dev.goesOn p now →
      Does (.lr p wide va rd now) s fun d =>
        (d.core p.core.val).sc.resv = some (false, a / 64) ∧ d.mem = s.dev.mem ∧
          (d.core p.core.val).sc.reg rd.val = widenLoad (if wide then 8 else 4) true (s.dev.mem.mem.readNat a (if wide then 8 else 4))) ∧
  (∀ (p : Prog) (wide : Bool) (va v : Word) (rd : Fin 32) (a : Nat) (now : Time) (s : State),
      (s.dev.core p.core.val).commits = true →
      (s.dev.afterProg p now).scalarTarget p.core.val { w := true } va.toNat (if wide then 8 else 4) true true = .own a →
      (s.dev.afterProg p now).poisoned (a / 64) = false →
      rd ≠ 0 →
      (s.dev.core p.core.val).sc.resv = some (false, a / 64) →
      s.dev.goesOn p now →
      Does (.sc p wide va v rd now) s fun d =>
        (d.core p.core.val).sc.resv = none ∧ (d.core p.core.val).sc.reg rd.val = 0 ∧ d.mem.mem = (s.dev.afterProg p now).store a (leBytes (if wide then 8 else 4) v.toNat)) ∧
  (∀ (p : Prog) (wide : Bool) (va v : Word) (rd : Fin 32) (a : Nat) (now : Time) (s : State),
      (s.dev.core p.core.val).commits = true →
      (s.dev.afterProg p now).scalarTarget p.core.val { w := true } va.toNat (if wide then 8 else 4) true true = .own a →
      (s.dev.afterProg p now).poisoned (a / 64) = false →
      rd ≠ 0 →
      (s.dev.core p.core.val).sc.resv ≠ some (false, a / 64) →
      s.dev.goesOn p now →
      Does (.sc p wide va v rd now) s fun d =>
        (d.core p.core.val).sc.resv = none ∧ (d.core p.core.val).sc.reg rd.val = 1 ∧ d.mem = s.dev.mem)

/-- Writes of the tensor CSRs set the register they name (R193, R194, R195, R196, R199). -/
def Obligations.TensorRegisterWrites : Prop :=
  (∀ (p : Prog) (v : Word) (rd : Fin 32) (now : Time) (s : State),
      (s.dev.core p.core.val).commits = true →
      rd ≠ 0 →
      s.dev.goesOn p now →
      Does (.txctlWrite p v rd now) s fun d =>
        (d.core p.core.val).tx.txctl = v &&& 7 ∧ (d.core p.core.val).sc.reg rd.val = (s.dev.core p.core.val).tx.txctl) ∧
  (∀ (p : Prog) (rd : Fin 32) (now : Time) (s : State),
      (s.dev.core p.core.val).commits = true →
      s.dev.goesOn p now →
      Does (.txfaultWrite p rd now) s fun d =>
        (d.core p.core.val).tx.txfault = 0 ∧ (d.core p.core.val).tx.txfaultpc = (s.dev.core p.core.val).tx.txfaultpc) ∧
  (∀ (p : Prog) (hi : Bool) (v : Word) (rd : Fin 32) (now : Time) (s : State),
      (s.dev.core p.core.val).commits = true →
      s.dev.goesOn p now →
      Does (.tdWrite p hi v rd now) s fun d =>
        (d.core p.core.val).tx.td.get 0 (bits (s.dev.core p.core.val).tx.tdsel 3 0) =
          (if hi then setBits ((s.dev.core p.core.val).tx.td.get 0 (bits (s.dev.core p.core.val).tx.tdsel 3 0)) 127 64 v.toNat else setBits ((s.dev.core p.core.val).tx.td.get 0 (bits (s.dev.core p.core.val).tx.tdsel 3 0)) 63 0 v.toNat)) ∧
  (∀ (p : Prog) (v : Word) (rd : Fin 32) (now : Time) (s : State),
      (s.dev.core p.core.val).commits = true →
      s.dev.goesOn p now →
      Does (.crdataWrite p v rd now) s fun d =>
        bits (s.dev.core p.core.val).tx.crsel 6 4 ∈ (d.core p.core.val).tx.crUnchecked ∧
          (d.core p.core.val).tx.cr.get 0 (bits (s.dev.core p.core.val).tx.crsel 6 4) = setBits ((s.dev.core p.core.val).tx.cr.get 0 (bits (s.dev.core p.core.val).tx.crsel 6 4))
            (64 * bits (s.dev.core p.core.val).tx.crsel 3 0 + 63) (64 * bits (s.dev.core p.core.val).tx.crsel 3 0) v.toNat) ∧
  (∀ (p : Prog) (v : Word) (rd : Fin 32) (now : Time) (s : State),
      (s.dev.core p.core.val).commits = true →
      s.dev.goesOn p now →
      Does (.csrWrite p 0x802 v rd now) s fun d =>
        (d.core p.core.val).tx.tdsel = v &&& 0xF ∧ (d.core p.core.val).tx.crsel = (s.dev.core p.core.val).tx.crsel) ∧
  (∀ (p : Prog) (v : Word) (rd : Fin 32) (now : Time) (s : State),
      (s.dev.core p.core.val).commits = true →
      s.dev.goesOn p now →
      Does (.csrWrite p 0x805 v rd now) s fun d =>
        (d.core p.core.val).tx.crsel = v &&& 0x7F ∧ (d.core p.core.val).tx.tdsel = (s.dev.core p.core.val).tx.tdsel)

/-- Tensor instructions enter, begin, commit and complete as the issue queue's rules say (R192, R197, R200, R202). -/
def Obligations.IssueQueue : Prop :=
  (∀ (p : Prog) (word : BitVec 32) (now : Time) (s : State),
      (s.dev.core p.core.val).entersTiq word = true →
      s.dev.goesOn p now →
      Does (.tiqEnter p word now) s fun d =>
        ∃ e, (d.core p.core.val).tiq = (s.dev.core p.core.val).tiq ++ [e] ∧ e.id = (s.dev.core p.core.val).nextId ∧ e.word = word ∧ e.td = (s.dev.core p.core.val).tx.td ∧
          e.f = ((s.dev.afterProg p now).core p.core.val).sc.f ∧ e.committed = false ∧ (d.core p.core.val).nextId = (s.dev.core p.core.val).nextId + 1) ∧
  (∀ (core : Fin 512) (id cycle : Nat) (e : TiqEntry) (now : Time) (s : State),
      (s.dev.core core.val).entry? id = some e →
      (s.dev.advance now).mayBegin core.val e = true →
      (s.dev.advance now).checkEntry core.val e = none →
      Does (.engineBegin core id cycle now) s fun d =>
        ∃ e', (d.core core.val).entry? id = some e' ∧ e'.begun = true ∧ e'.beginCycle = cycle ∧ e'.done = none ∧ d.mem = s.dev.mem) ∧
  (∀ (core : Fin 512) (e : TiqEntry) (ti : TInstr) (r : Running) (now : Time) (s : State),
      (s.dev.core core.val).run = some r →
      (s.dev.core core.val).ending = none →
      (s.dev.core core.val).sc.wait = none →
      (s.dev.core core.val).tiq.find? (fun x => !x.committed) = some e →
      e.instr = some ti →
      (match ti with | .cset .. => false | _ => true) = true →
      e.done = none →
      e.recheck = false →
      (s.dev.core core.val).entry? e.id = some e →
      e.slotNo < 16 →
      Does (.tensorCommit core now) s fun d =>
        (∃ e', (d.core core.val).entry? e.id = some e' ∧ e'.committed = true) ∧ (d.core core.val).tx.tcs.find? e.slotNo = some 0 ∧
          (d.core core.val).tx.owner.find? e.slotNo = some e.id) ∧
  (∀ (core : Fin 512) (id : Nat) (e : TiqEntry) (r : Completion) (now : Time) (s : State),
      (s.dev.core core.val).entry? id = some e →
      e.committed = true →
      e.done = some r →
      r.cause = 0 →
      r.consumed = false →
      (s.dev.core core.val).ending = none →
      e.slotNo < 16 →
      (s.dev.core core.val).tx.owner.find? e.slotNo = some e.id →
      Does (.tensorComplete core id now) s fun d =>
        (d.core core.val).entry? id = none ∧ (d.core core.val).tx.tcs.find? e.slotNo = some (tcsWord e.unitCode r) ∧
          (d.core core.val).tx.tcsx.find? e.slotNo = some r.tcsx ∧ (d.core core.val).tx.txfault = (s.dev.core core.val).tx.txfault)

/-- ARM, DISARM, SIGNAL and WAIT at work have their stated outcomes (R226, R227, R230, R231). -/
def Obligations.SynchronisationUnit : Prop :=
  (∀ (core : Fin 512) (id : Nat) (e : TiqEntry) (k td rs : Nat) (now : Time) (s : State),
      s.dev.atWork core.val id e = true →
      e.instr = some (.arm k td rs) →
      Does (.arm core id now) s fun d =>
        (d.core core.val).arms.find? k = some { pos := (s.dev.advance now).armPositions core.val (e.desc td), stride := (e.desc td).bstride, tag := (e.desc td).tag, uses := bits e.rs1v 7 0 } ∧
          d.outcome core.val id = some {}) ∧
  (∀ (core : Fin 512) (id : Nat) (e : TiqEntry) (k : Nat) (r : ArmRec) (now : Time) (s : State),
      s.dev.atWork core.val id e = true →
      e.instr = some (.disarm k) →
      (s.dev.core core.val).arms.find? k = some r →
      r.matched = r.completed →
      Does (.disarm core id now) s fun d =>
        (d.core core.val).arms.find? k = none ∧ d.outcome core.val id = some {}) ∧
  (∀ (core : Fin 512) (id : Nat) (e : TiqEntry) (rs rt : Nat) (now : Time) (s : State),
      s.dev.atWork core.val id e = true →
      e.instr = some (.signal rs rt false) →
      e.waiting = [] →
      (s.dev.core core.val).signalBefore id = false →
      (SemHandle.ofWord e.rs1v).module = s.dev.id →
      Does (.signal core id now) s fun d =>
        d.coh = ((s.dev.advance now).signalApply e.rs1v e.rs2v ((s.dev.advance now).keyOf core.val) (coreRig s.dev.id core.val)).1.coh ∧
          d.mem = ((s.dev.advance now).signalApply e.rs1v e.rs2v ((s.dev.advance now).keyOf core.val) (coreRig s.dev.id core.val)).1.mem ∧
          d.outcome core.val id = some { cause := ((s.dev.advance now).signalApply e.rs1v e.rs2v ((s.dev.advance now).keyOf core.val) (coreRig s.dev.id core.val)).2 }) ∧
  (∀ (core : Fin 512) (id : Nat) (e : TiqEntry) (rs rt : Nat) (now : Time) (s : State),
      s.dev.atWork core.val id e = true →
      e.instr = some (.signal rs rt true) →
      e.waiting = [] →
      (s.dev.core core.val).signalBefore id = false →
      (s.dev.core core.val).copyBefore id = false →
      (SemHandle.ofWord e.rs1v).module ≠ s.dev.id →
      Does (.signalRelease core id now) s fun d =>
        d.fab.egressWait = s.dev.fab.egressWait ++ [{ p := signalPacket ((s.dev.advance now).keyOf core.val) e.rs1v e.rs2v (coreRig s.dev.id core.val), owner := .tensor core.val e.id }]) ∧
  (∀ (core : Fin 512) (id : Nat) (e : TiqEntry) (rs rt : Nat) (now : Time) (s : State),
      s.dev.atWork core.val id e = true →
      e.instr = some (.wait rs rt false) →
      (SemHandle.ofWord e.rs1v).module = s.dev.id →
      s.dev.semCheck (SemHandle.ofWord e.rs1v) ((s.dev.advance now).keyOf core.val) = 0 →
      e.rs2v.toNat ≤ (s.dev.semValue (SemHandle.ofWord e.rs1v).sem).toNat →
      s.dev.coh.waits = [] →
      Does (.wait core id now) s fun d =>
        d.outcome core.val id = some {} ∧ d.coh.waits = [] ∧ d.mem = s.dev.mem) ∧
  (∀ (core : Fin 512) (id : Nat) (e : TiqEntry) (rs rt : Nat) (now : Time) (s : State),
      s.dev.atWork core.val id e = true →
      e.instr = some (.wait rs rt true) →
      (SemHandle.ofWord e.rs1v).module = s.dev.id →
      s.dev.semCheck (SemHandle.ofWord e.rs1v) ((s.dev.advance now).keyOf core.val) = 0 →
      e.rs2v.toNat ≤ (s.dev.semValue (SemHandle.ofWord e.rs1v).sem).toNat →
      s.dev.coh.waits = [] →
      s.dev.lineLost (semSlot (SemHandle.ofWord e.rs1v).sem / 64) = false →
      Does (.waitConsume core id now) s fun d =>
        d.outcome core.val id = some {} ∧ d.coh.waits = [] ∧ d.semValue (SemHandle.ofWord e.rs1v).sem = s.dev.semValue (SemHandle.ofWord e.rs1v).sem - e.rs2v) ∧
  (∀ (sem : Nat) (w : PendingWait) (now : Time) (s : State),
      s.dev.coh.waits = [w] →
      w.sem = sem →
      w.consume = false →
      w.threshold.toNat ≤ (s.dev.semValue sem).toNat →
      Does (.waitSatisfied sem now) s fun d =>
        d.coh.waits = [] ∧ d.cores = ((s.dev.advance now).finish w.core w.id {}).cores ∧ d.mem = s.dev.mem)

/-- RFLUSH, CLASP, DIGEST, the chain set and the data mover's copies have their stated effects (R193, R220, R221, R222, R223, R232, R233,
R234, R235, R236). -/
def Obligations.FlushClaspDigestAndCopies : Prop :=
  (∀ (core : Fin 512) (id : Nat) (e : TiqEntry) (a b : Nat) (now : Time) (s : State),
      s.dev.atWork core.val id e = true →
      e.instr = some (.rflush a b) →
      e.rs2v = 0 →
      Does (.rflush core id now) s fun d =>
        d.outcome core.val id = some {} ∧ d.mem = s.dev.mem) ∧
  (∀ (core : Fin 512) (id : Nat) (e : TiqEntry) (a b : Nat) (l : EgressLine) (now : Time) (s : State),
      s.dev.atWork core.val id e = true →
      e.instr = some (.rflush a b) →
      e.rs2v ≠ 0 →
      e.waiting = [] →
      (s.dev.core core.val).copiesInto id e.rs1v.toNat e.rs2v.toNat = false →
      l ∈ s.dev.mem.egress →
      l.pkey = (s.dev.advance now).keyOf core.val →
      overlap l.va 64 e.rs1v.toNat e.rs2v.toNat = true →
      Does (.rflush core id now) s fun d =>
        l ∉ d.mem.egress ∧ ∃ q ∈ d.fab.egressWait, q.p = l.packet) ∧
  (∀ (core : Fin 512) (id : Nat) (e : TiqEntry) (um : Nat) (sst : Bool) (now : Time) (s : State),
      s.dev.atWork core.val id e = true →
      e.instr = some (.clasp um sst) →
      ((s.dev.core core.val).older id).any (fun o => o.unit ≠ .none && um / 2 ^ o.unit.code % 2 = 1) = false →
      (sst = true → (s.dev.core core.val).sc.stores = []) →
      Does (.clasp core id now) s fun d =>
        d.outcome core.val id = some {} ∧ d.mem = s.dev.mem) ∧
  (∀ (core : Fin 512) (id : Nat) (errs : List EccEvent) (e : TiqEntry) (td rs n : Nat) (ms : KMap BeadVal) (d0 d1 : Dev) (now : Time) (s : State),
      (s.dev.advance now).eccHeld core.val id errs = d0 →
      d0.atWork core.val id e = true →
      e.instr = some (.digest td rs false n) →
      d0.mayRead core.val e = true →
      d0.mayWrite core.val e = true →
      d0.readBeads (d0.who core.val) (e.desc td) (e.desc td).copyBeads [] = (d1, .ok ms) →
      Does (.digest core { id := id, errs := errs } now) s fun d =>
        d.outcome core.val id = some ((seeAll e.reads ms).completion 0 0 0) ∧
          d.mem = (d1.writeVa (d0.who core.val) e.rs1v.toNat (leBytes 8 (d1.digestOf (d0.who core.val) (e.desc td) (e.desc td).copyBeads).toNat) false (seeAll e.reads ms).poison).mem) ∧
  (∀ (core : Fin 512) (id : Nat) (errs : List EccEvent) (e : TiqEntry) (td rs n : Nat) (ms : KMap BeadVal) (d0 d1 : Dev) (now : Time) (s : State),
      (s.dev.advance now).eccHeld core.val id errs = d0 →
      d0.atWork core.val id e = true →
      e.instr = some (.digest td rs true n) →
      d0.mayRead core.val e = true →
      d0.mayWrite core.val e = true →
      d0.readBeads (d0.who core.val) (e.desc td) (e.desc td).copyBeads [] = (d1, .ok ms) →
      (seeAll e.reads ms).poison = false →
      Does (.digestAcc core { id := id, errs := errs } now) s fun d =>
        d.outcome core.val id = some ((seeAll e.reads ms).completion 0 0 0) ∧
          (d.part (d0.who core.val).part).digestAcc.get 0 n = (d1.part (d0.who core.val).part).digestAcc.get 0 n + d1.digestOf (d0.who core.val) (e.desc td) (e.desc td).copyBeads) ∧
  (∀ (core : Fin 512) (id : Nat) (e : TiqEntry) (a b : Nat) (now : Time) (s : State),
      (s.dev.core core.val).entry? id = some e →
      e.instr = some (.cset a b) →
      e.committed = true →
      e.done = none →
      Does (.cset core id now) s fun d =>
        d.outcome core.val id = some { cause := e.chainRefusal.getD 0 } ∧ (d.core core.val).tx = (s.dev.core core.val).tx) ∧
  (∀ (core : Fin 512) (id : Nat) (errs : List EccEvent) (e : TiqEntry) (x y : Nat) (ms : KMap BeadVal) (d0 d1 d2 : Dev) (cause : Cause) (now : Time)
      (s : State),
      (s.dev.advance now).eccHeld core.val id errs = d0 →
      d0.atWork core.val id e = true →
      e.instr = some (.tload x y) →
      d0.mayRead core.val e = true →
      d0.mayWrite core.val e = true →
      d0.readSource (d0.who core.val) (e.desc y) ((e.staged.getD {}).beads.headD []) none = (d1, .ok ms) →
      d1.putCopy (d0.who core.val) (e.desc y) (e.desc x) ms = (d2, cause) →
      Does (.tload core { id := id, errs := errs } now) s fun d =>
        d.mem = d2.mem ∧ d.outcome core.val id = some { cause := cause }) ∧
  (∀ (core : Fin 512) (id : Nat) (errs : List EccEvent) (e : TiqEntry) (x y : Nat) (ms : KMap BeadVal) (d0 d1 d2 : Dev) (cause : Cause) (now : Time)
      (s : State),
      (s.dev.advance now).eccHeld core.val id errs = d0 →
      d0.atWork core.val id e = true →
      e.instr = some (.tstore x y) →
      d0.mayRead core.val e = true →
      d0.mayWrite core.val e = true →
      d0.readSource (d0.who core.val) (e.desc y) ((e.staged.getD {}).beads.headD []) none = (d1, .ok ms) →
      d1.putCopy (d0.who core.val) (e.desc y) (e.desc x) ms = (d2, cause) →
      Does (.tstore core { id := id, errs := errs } now) s fun d =>
        d.mem = d2.mem ∧ d.outcome core.val id = some { cause := cause }) ∧
  (∀ (core : Fin 512) (id : Nat) (errs : List EccEvent) (e : TiqEntry) (x y : Nat) (ms : KMap BeadVal) (d0 d1 d2 : Dev) (cause : Cause) (now : Time)
      (s : State),
      (s.dev.advance now).eccHeld core.val id errs = d0 →
      d0.atWork core.val id e = true →
      e.instr = some (.tmove x y) →
      d0.mayRead core.val e = true →
      d0.mayWrite core.val e = true →
      d0.readSource (d0.who core.val) (e.desc y) ((e.staged.getD {}).beads.headD []) none = (d1, .ok ms) →
      d1.putCopy (d0.who core.val) (e.desc y) (e.desc x) ms = (d2, cause) →
      Does (.tmove core { id := id, errs := errs } now) s fun d =>
        d.mem = d2.mem ∧ d.outcome core.val id = some { cause := cause })

/-- MMA passes, groups, closes and armed beads act as the matrix engine's rules say (R96, R101, R102, R103, R105, R115, R120, R121, R122). -/
def Obligations.MatrixEngine : Prop :=
  (∀ (core : Fin 512) (id : Nat) (e : TiqEntry) (u : Mma) (now : Time) (s : State),
      s.dev.atWork core.val id e = true →
      e.mma? = some u →
      u.mode = 0 →
      e.groups = u.count →
      Does (.mmaOpen core id now) s fun d =>
        ∃ w, (d.core core.val).tx.accState.find? u.grp = some w ∧
          w = accAfter ((s.dev.core core.val).tx.accState.get 0 u.grp) u.mode u.slim e.reads.poison
            (e.acc.any (fun p => (ofF32 p.s).special) || (u.mode = 1 && bit ((s.dev.core core.val).tx.accState.get 0 u.grp) 27)) u.cls ∧
          d.outcome core.val id = some (e.reads.completion 0 0 w) ∧ d.mem = ((s.dev.advance now).accStore core.val u e.acc e.reads.poison).mem) ∧
  (∀ (core : Fin 512) (id : Nat) (e : TiqEntry) (u : Mma) (now : Time) (s : State),
      s.dev.atWork core.val id e = true →
      e.mma? = some u →
      u.mode = 1 →
      e.groups = u.count →
      Does (.mmaContinue core id now) s fun d =>
        ∃ w, (d.core core.val).tx.accState.find? u.grp = some w ∧
          w = accAfter ((s.dev.core core.val).tx.accState.get 0 u.grp) u.mode u.slim e.reads.poison
            (e.acc.any (fun p => (ofF32 p.s).special) || (u.mode = 1 && bit ((s.dev.core core.val).tx.accState.get 0 u.grp) 27)) u.cls ∧
          d.outcome core.val id = some (e.reads.completion 0 0 w) ∧ d.mem = ((s.dev.advance now).accStore core.val u e.acc e.reads.poison).mem) ∧
  (∀ (core : Fin 512) (id : Nat) (e : TiqEntry) (u : Mma) (now : Time) (s : State),
      s.dev.atWork core.val id e = true →
      e.mma? = some u →
      u.mode = 2 →
      e.groups = u.count →
      e.closing = false →
      ((s.dev.core core.val).tiq.filter (fun o => o.closing && o.done.isNone)).length < 2 →
      Does (.mmaClose core id now) s fun d =>
        ∃ e', (d.core core.val).entry? id = some e' ∧ e'.closing = true ∧ e'.groups = u.count ∧ e'.acc = e.acc) ∧
  (∀ (core : Fin 512) (id : Nat) (e : TiqEntry) (u : Mma) (now : Time) (s : State),
      s.dev.atWork core.val id e = true →
      e.mma? = some u →
      u.mode = 3 →
      e.groups = u.count →
      e.closing = false →
      ((s.dev.core core.val).tiq.filter (fun o => o.closing && o.done.isNone)).length < 2 →
      Does (.mmaOpenClose core id now) s fun d =>
        ∃ e', (d.core core.val).entry? id = some e' ∧ e'.closing = true ∧ e'.groups = u.count ∧ e'.acc = e.acc) ∧
  (∀ (core : Fin 512) (id : Nat) (errs : List EccEvent) (e : TiqEntry) (u : Mma) (ms : List (KMap BeadVal)) (d0 d1 : Dev) (now : Time) (s : State),
      (s.dev.advance now).eccHeld core.val id errs = d0 →
      (d0.core core.val).entry? id = some e →
      e.mma? = some u →
      e.begun = true →
      e.done = none →
      e.groups < u.count →
      d0.groupReady core.val u e.groups = true →
      d0.mayRead core.val e = true →
      d0.readAll (d0.who core.val) (u.groupReads e.groups) = (d1, .ok ms) →
      Does (.mmaGroupStart core id .none errs now) s fun d =>
        ∃ e', (d.core core.val).entry? id = some e' ∧ e'.groups = e.groups + 1 ∧
          e'.acc = u.enter e.groups ms (if e.groups = 0 then (d0.accStart core.val u).1 else e.acc)) ∧
  (∀ (core : Fin 512) (errs : List EccEvent) (x e : TiqEntry) (u : Mma) (d0 : Dev) (now : Time) (s : State),
      (s.dev.core core.val).tiq.find? (fun x => x.closing && x.done.isNone) = some x →
      (s.dev.advance now).eccHeld core.val x.id errs = d0 →
      (d0.core core.val).entry? x.id = some e →
      e.mma? = some u →
      e.committed = true →
      d0.closeReady core.val e u = true →
      Does (.epilogueCloseStart core { errs := errs } now) s fun d =>
        d.mem = (d0.runClose core.val e u).mem ∧ (d.core core.val).tx = ((d0.runClose core.val e u).core core.val).tx ∧ (d.outcome core.val x.id).isSome = true) ∧
  (∀ (core : Fin 512) (id : Nat) (e : TiqEntry) (u : Mma) (now : Time) (s : State),
      (s.dev.core core.val).entry? id = some e →
      e.mma? = some u →
      e.begun = true →
      e.done = none →
      e.closing = false →
      (u.a.armed || u.b.armed) = true →
      e.groups < u.count →
      (s.dev.advance now).groupReady core.val u e.groups = false →
      e.committed = true →
      reached (s.dev.advance now).time ((s.dev.advance now).readySince core.val e u) ((s.dev.advance now).arrivalStay core.val) = true →
      Does (.arrivalStayExpire core id now) s fun d =>
        d.outcome core.val id = some { cause := 0x0317, result := (s.dev.core core.val).keptResult e } ∧ d.mem = s.dev.mem ∧ ∀ i ∈ e.arms, (d.core core.val).arms.find? i = none) ∧
  (∀ (mpa : Nat) (bytes : List Byte) (sb : BitVec 64) (poison : Bool) (c i k : Nat) (now : Time) (s : State),
      s.dev.armedAt mpa = some (c, i, k) →
      bytes.length = ((s.dev.core c).arms.get {} i).stride →
      s.dev.inReset c = false →
      ((Sideband.ofWord sb).chkValid = true → (Sideband.ofWord sb).tag = ((s.dev.core c).arms.get {} i).tag) →
      k ∉ ((s.dev.core c).arms.get {} i).landed →
      Does (.beadLand mpa bytes sb poison now) s fun d =>
        d.mem.mem = s.dev.store mpa bytes ∧ ((d.core c).arms.get {} i).landed = ((s.dev.core c).arms.get {} i).landed.insert k)

/-- Vector instructions form their beads and end as stated (R157, R160, R173, R174, R179, R180, R183, R197). -/
def Obligations.VectorEngine : Prop :=
  (∀ (core : Fin 512) (id : Nat) (e e' : TiqEntry) (u : VRun) (k : Nat) (d' : Dev) (cause : Cause) (tcsx : Word) (now : Time) (s : State),
      s.dev.atWork core.val id e = true →
      e.vop? = some (.run u) →
      Dev.vReaches core.val id (.run u) k (s.dev.advance now) d' →
      k < (VOp.run u).bound →
      (d'.core core.val).entry? id = some e' →
      e'.committed = true →
      e'.done = none →
      d'.vNext core.val e' (.run u) = .stop cause tcsx none →
      d'.mayRead core.val e' = true →
      d'.mayWrite core.val e' = true →
      Does (.vrun core id now) s fun d =>
        d.outcome core.val id = some (e'.reads.completion cause tcsx (vxRecord e'.special e'.reads.poison)) ∧ d.mem = d'.mem) ∧
  (∀ (core : Fin 512) (id : Nat) (e e' : TiqEntry) (u : VPack) (k : Nat) (d' : Dev) (cause : Cause) (tcsx : Word) (now : Time) (s : State),
      s.dev.atWork core.val id e = true →
      e.vop? = some (.pack u) →
      u.expand = false →
      u.alt = false →
      Dev.vReaches core.val id (.pack u) k (s.dev.advance now) d' →
      k < (VOp.pack u).bound →
      (d'.core core.val).entry? id = some e' →
      e'.committed = true →
      e'.done = none →
      d'.vNext core.val e' (.pack u) = .stop cause tcsx none →
      d'.mayRead core.val e' = true →
      d'.mayWrite core.val e' = true →
      Does (.compressBuild core id now) s fun d =>
        d.outcome core.val id = some (e'.reads.completion cause tcsx (vxRecord e'.special e'.reads.poison)) ∧ d.mem = (if cause = 0 then d'.putMap core.val e' u else d').mem) ∧
  (∀ (core : Fin 512) (id : Nat) (e e' : TiqEntry) (u : VPack) (k : Nat) (d' : Dev) (cause : Cause) (tcsx : Word) (now : Time) (s : State),
      s.dev.atWork core.val id e = true →
      e.vop? = some (.pack u) →
      u.expand = false →
      u.alt = true →
      Dev.vReaches core.val id (.pack u) k (s.dev.advance now) d' →
      k < (VOp.pack u).bound →
      (d'.core core.val).entry? id = some e' →
      e'.committed = true →
      e'.done = none →
      d'.vNext core.val e' (.pack u) = .stop cause tcsx none →
      d'.mayRead core.val e' = true →
      d'.mayWrite core.val e' = true →
      Does (.compressReuse core id now) s fun d =>
        d.outcome core.val id = some (e'.reads.completion cause tcsx (vxRecord e'.special e'.reads.poison)) ∧ d.mem = d'.mem) ∧
  (∀ (core : Fin 512) (id : Nat) (e e' : TiqEntry) (u : VPack) (k : Nat) (d' : Dev) (cause : Cause) (tcsx : Word) (now : Time) (s : State),
      s.dev.atWork core.val id e = true →
      e.vop? = some (.pack u) →
      u.expand = true →
      u.alt = false →
      Dev.vReaches core.val id (.pack u) k (s.dev.advance now) d' →
      k < (VOp.pack u).bound →
      (d'.core core.val).entry? id = some e' →
      e'.committed = true →
      e'.done = none →
      d'.vNext core.val e' (.pack u) = .stop cause tcsx none →
      d'.mayRead core.val e' = true →
      d'.mayWrite core.val e' = true →
      Does (.expandFill core id now) s fun d =>
        d.outcome core.val id = some (e'.reads.completion cause tcsx (vxRecord e'.special e'.reads.poison)) ∧ d.mem = d'.mem) ∧
  (∀ (core : Fin 512) (id : Nat) (e e' : TiqEntry) (u : VPack) (k : Nat) (d' : Dev) (cause : Cause) (tcsx : Word) (now : Time) (s : State),
      s.dev.atWork core.val id e = true →
      e.vop? = some (.pack u) →
      u.expand = true →
      u.alt = true →
      Dev.vReaches core.val id (.pack u) k (s.dev.advance now) d' →
      k < (VOp.pack u).bound →
      (d'.core core.val).entry? id = some e' →
      e'.committed = true →
      e'.done = none →
      d'.vNext core.val e' (.pack u) = .stop cause tcsx none →
      d'.mayRead core.val e' = true →
      d'.mayWrite core.val e' = true →
      Does (.expandKeep core id now) s fun d =>
        d.outcome core.val id = some (e'.reads.completion cause tcsx (vxRecord e'.special e'.reads.poison)) ∧ d.mem = d'.mem) ∧
  (∀ (core : Fin 512) (id : Nat) (e e' : TiqEntry) (u : VRun) (k : Nat) (d' : Dev) (cause : Cause) (tcsx : Word) (f : Finding) (now : Time) (s : State),
      s.dev.atWork core.val id e = true →
      e.vop? = some (.run u) →
      Dev.vReaches core.val id (.run u) k (s.dev.advance now) d' →
      k < (VOp.run u).bound →
      (d'.core core.val).entry? id = some e' →
      e'.committed = true →
      e'.done = none →
      d'.vNext core.val e' (.run u) = .stop cause tcsx (some f) →
      d'.mayRead core.val e' = true →
      d'.mayWrite core.val e' = true →
      Does (.vrun core id now) s fun d =>
        d.outcome core.val id = some (e'.reads.completion cause tcsx (vxRecord e'.special e'.reads.poison))) ∧
  (∀ (core : Fin 512) (id : Nat) (errs : List EccEvent) (e : TiqEntry) (u : VRun) (b : Nat) (draws : List (Desc × List Nat)) (g : Staging)
      (sp : Option (Nat × Ext × Bool)) (d0 d1 d2 : Dev) (now : Time) (s : State),
      (s.dev.advance now).eccHeld core.val id errs = d0 →
      d0.atWork core.val id e = true →
      e.vop? = some (.run u) →
      e.staged = none →
      d0.vNext core.val e (.run u) = .bead b draws →
      d0.vReady core.val e draws = true →
      d0.vrunGather core.val e u b draws = (d1, .ok g) →
      (d1.modCore core.val (fun k => k.spend e.id (d0.vrunCycles core.val u e))).vrunWrite core.val e u b (u.form e b g) g.reads.poison = (d2, sp, 0) →
      Does (.vectorBeadForm core id { errs := errs } now) s fun d =>
        d.mem = d2.mem ∧ ∃ e', (d.core core.val).entry? id = some e' ∧ e'.beads = e.beads + 1 ∧ e'.reads = e.reads.join g.reads ∧ e'.done = none) ∧
  (∀ (core : Fin 512) (id : Nat) (errs : List EccEvent) (e : TiqEntry) (o : VOp) (d0 : Dev) (now : Time) (s : State),
      (s.dev.advance now).eccHeld core.val id errs = d0 →
      (d0.core core.val).entry? id = some e →
      e.vop? = some o →
      e.begun = true →
      e.done = none →
      Does (.vectorBeadForm core id { errs := errs } now) s fun d =>
        d.mem = (d0.vStep core.val e o).mem ∧ d.cores = (d0.vStep core.val e o).cores) ∧
  (∀ (core : Fin 512) (id : Nat) (e : TiqEntry) (o : VOp) (b : Nat) (draws : List (Desc × List Nat)) (now : Time) (s : State),
      (s.dev.core core.val).entry? id = some e →
      e.vop? = some o →
      e.begun = true →
      e.done = none →
      (s.dev.advance now).vNext core.val e o = .bead b draws →
      (s.dev.advance now).stayed core.val e = true →
      draws.all (fun x => x.2.all ((s.dev.advance now).beadReady ((s.dev.advance now).who core.val) x.1)) = false →
      Does (.vectorArrivalStayExpire core id now) s fun d =>
        d.outcome core.val id = some (e.reads.completion 0x0317 (BitVec.ofNat 64 e.beads) (vxRecord e.special e.reads.poison)) ∧ d.mem = s.dev.mem)

/-- The home of a coherent line grants copies, performs writes after every sharer has answered, and settles evictions (R275, R277, R279,
R280, R281). -/
def Obligations.CoherenceAtTheHome : Prop :=
  (∀ (src : BitVec 14) (key : BitVec 16) (va line : Nat) (core : Nat) (now : Time) (s : State),
      ((s.dev.advance now).takeIngress (CohMsg.isIn (.readSh src key va core))).homeLine key va { r := true } = .ok line →
      (s.dev.coh.dir.get {} line).round = none →
      (s.dev.coh.dir.get {} line).sharers.length < 8 →
      Does (.readSh (.readSh src key va core) now) s fun d =>
        (d.coh.dir.get {} line).sharers = (s.dev.coh.dir.get {} line).sharers.filter (·.module ≠ src) ++ [{ module := src, tag := s.dev.coh.nextTag + 1, gen := (s.dev.coh.dir.get {} line).gen }] ∧
          d.fab.hubOut = s.dev.fab.hubOut ++ [((s.dev.advance now).takeIngress (CohMsg.isIn (.readSh src key va core))).stamped (CohMsg.packet src (.grant s.dev.id key va (s.dev.lineData line) (s.dev.poisoned line) (s.dev.coh.nextTag + 1) (s.dev.coh.dir.get {} line).gen false core 0))]) ∧
  (∀ (src : BitVec 14) (key : BitVec 16) (va line : Nat) (off : Nat) (bs : List Byte) (rig : BitVec 32) (core : Nat) (now : Time) (s : State),
      ((s.dev.advance now).takeIngress (CohMsg.isIn (.write src key va (.store off bs) rig core))).homeLine key va { w := true } = .ok line →
      (s.dev.coh.dir.get {} line).round = none →
      (s.dev.coh.dir.get {} line).sharers = [] →
      src ≠ s.dev.id →
      Does (.write (.write src key va (.store off bs) rig core) now) s fun d =>
        d.mem = (s.dev.writePlain (line * 64 + off) bs true false).mem ∧
          d.fab.hubOut = s.dev.fab.hubOut ++ [((s.dev.advance now).takeIngress (CohMsg.isIn (.write src key va (.store off bs) rig core))).stamped (CohMsg.packet src (.writeAck s.dev.id key va 0 true core 0))]) ∧
  (∀ (src : BitVec 14) (key : BitVec 16) (va line : Nat) (off : Nat) (bs : List Byte) (rig : BitVec 32) (core : Nat) (now : Time) (s : State),
      ((s.dev.advance now).takeIngress (CohMsg.isIn (.write src key va (.store off bs) rig core))).homeLine key va { w := true } = .ok line →
      (s.dev.coh.dir.get {} line).round = none →
      (s.dev.coh.dir.get {} line).sharers ≠ [] →
      Does (.write (.write src key va (.store off bs) rig core) now) s fun d =>
        d.mem = s.dev.mem ∧ (∃ r, (d.coh.dir.get {} line).round = some r ∧ r.op = .store off bs ∧ r.writer = src ∧ r.waiting = (s.dev.coh.dir.get {} line).sharers) ∧
          d.fab.hubOut = s.dev.fab.hubOut ++ (s.dev.coh.dir.get {} line).sharers.map (fun x => ((s.dev.advance now).takeIngress (CohMsg.isIn (.write src key va (.store off bs) rig core))).stamped (CohMsg.packet x.module (.snoopInv s.dev.id key va (s.dev.coh.dir.get {} line).gen)))) ∧
  (∀ (src : BitVec 14) (key : BitVec 16) (va line : Nat) (tag : BitVec 16) (r : Round) (x : Sharer) (off : Nat) (bs : List Byte) (now : Time) (s : State),
      ((s.dev.advance now).takeIngress (CohMsg.isIn (.ansInvalidated src key va tag))).homeLine key va {} = .ok line →
      (s.dev.coh.dir.get {} line).round = some r →
      r.waiting = [x] →
      x.module = src →
      (tag = 0 ∨ x.tag = tag) →
      r.op = .store off bs →
      (s.dev.coh.dir.get {} line).held = [] →
      r.writer ≠ s.dev.id →
      Does (.ansInvalidated (.ansInvalidated src key va tag) now) s fun d =>
        (d.coh.dir.get {} line).round = none ∧ (d.coh.dir.get {} line).gen = (s.dev.coh.dir.get {} line).gen + 1 ∧ (d.coh.dir.get {} line).sharers = (s.dev.coh.dir.get {} line).sharers.filter (· ≠ x) ∧
          d.mem = (s.dev.writePlain (line * 64 + off) bs true false).mem ∧
          d.fab.hubOut = s.dev.fab.hubOut ++ [((s.dev.advance now).takeIngress (CohMsg.isIn (.ansInvalidated src key va tag))).stamped (CohMsg.packet r.writer (.writeAck s.dev.id r.pkey r.va 0 true r.core 0))]) ∧
  (∀ (src : BitVec 14) (key : BitVec 16) (va line : Nat) (tag : BitVec 16) (r : Round) (x : Sharer) (now : Time) (s : State),
      ((s.dev.advance now).takeIngress (CohMsg.isIn (.ansEvicting src key va tag))).homeLine key va {} = .ok line →
      (s.dev.coh.dir.get {} line).round = some r →
      r.waiting.find? (fun y => y.module = src && (tag = 0 || y.tag = tag)) = some x →
      r.waiting.filter (· ≠ x) ≠ [] →
      Does (.ansEvicting (.ansEvicting src key va tag) now) s fun d =>
        (d.coh.dir.get {} line).round = some { r with waiting := r.waiting.filter (· ≠ x) } ∧ (d.coh.dir.get {} line).sharers = (s.dev.coh.dir.get {} line).sharers.filter (· ≠ x) ∧ d.mem = s.dev.mem ∧ d.fab.hubOut = s.dev.fab.hubOut) ∧
  (∀ (src : BitVec 14) (key : BitVec 16) (va line : Nat) (tag : BitVec 16) (gen : BitVec 6) (now : Time) (s : State),
      ((s.dev.advance now).takeIngress (CohMsg.isIn (.evictNotice src key va tag gen))).homeLine key va {} = .ok line →
      Does (.evictNotice (.evictNotice src key va tag gen) now) s fun d =>
        if (s.dev.coh.dir.get {} line).sharers.contains { module := src, tag := tag, gen := gen } then
          (d.coh.dir.get {} line).sharers = (s.dev.coh.dir.get {} line).sharers.filter (· ≠ { module := src, tag := tag, gen := gen }) ∧ d.fe.stale = s.dev.fe.stale
        else d.coh.dir = s.dev.coh.dir ∧ d.fe.stale = s.dev.fe.stale + 1) ∧
  (∀ (line : Nat) (r : Round) (now : Time) (s : State),
      (s.dev.coh.dir.get {} line).round = some r →
      r.waiting ≠ [] →
      reached (s.dev.advance now).time r.sent (us 600) = true →
      r.resends < 3 →
      Does (.snoopResendTimeout line now) s fun d =>
        (d.coh.dir.get {} line).round = some { r with resends := r.resends + 1, sent := (s.dev.advance now).time } ∧
          d.fab.hubOut = s.dev.fab.hubOut ++ r.waiting.map (fun x => (s.dev.advance now).stamped (CohMsg.packet x.module (.snoopInv s.dev.id r.pkey r.va (s.dev.coh.dir.get {} line).gen))))

/-- A reader keeps granted copies, answers every snoop, and tells the home of its evictions; writers learn their results (R245, R270, R277,
R278, R279, R280). -/
def Obligations.CoherenceAtTheReader : Prop :=
  (∀ (src : BitVec 14) (key : BitVec 16) (va : Nat) (data : Nat) (tag : BitVec 16) (gen : BitVec 6) (core : Nat) (w : MemWait) (now : Time) (s : State),
      core < 512 →
      s.dev.grantFresh key va tag gen = true →
      s.dev.mem.hub.length + (s.dev.coh.copies.filter (fun r => !(r.pkey = key && r.va = va))).length < s.dev.hubRoom →
      (s.dev.core core).sc.wait = some w →
      w.kind = 0 →
      w.tag = none →
      w.va / 64 * 64 = va →
      Does (.grant (.grant src key va data false tag gen false core 0) now) s fun d =>
        d.coh.copies = s.dev.coh.copies.filter (fun r => !(r.pkey = key && r.va = va)) ++
            [{ home := src, pkey := key, va := va, data := data, poison := false, tag := tag, gen := gen, time := (s.dev.advance now).time }] ∧
          (d.core core).sc = { (s.dev.core core).sc.setReg w.toF w.rd (widenLoad w.size w.signed (lineBytes data (w.va % 64) w.size)) with wait := none }) ∧
  (∀ (src : BitVec 14) (key : BitVec 16) (va : Nat) (result : Word) (ok : Bool) (core : Nat) (w : MemWait) (now : Time) (s : State),
      core < 512 →
      (s.dev.core core).sc.wait = some w →
      w.kind ≠ 0 →
      w.va / 64 * 64 = va →
      Does (.writeAck (.writeAck src key va result ok core 0) now) s fun d =>
        (d.core core).sc.wait = none ∧ (d.core core).sc.stores = (s.dev.core core).sc.stores.erase va ∧
          (w.toF = false → w.rd ≠ 0 → (d.core core).sc.reg w.rd = result)) ∧
  (∀ (src : BitVec 14) (key : BitVec 16) (va : Nat) (gen : BitVec 6) (r : ReaderCopy) (now : Time) (s : State),
      s.dev.copyOf key va = some r →
      Does (.snoopInv (.snoopInv src key va gen) now) s fun d =>
        d.coh.copies = s.dev.coh.copies.filter (· ≠ r) ∧
          d.fab.hubOut = s.dev.fab.hubOut ++ [((s.dev.advance now).takeIngress (CohMsg.isIn (.snoopInv src key va gen))).stamped (CohMsg.packet src (.ansInvalidated s.dev.id key va r.tag))]) ∧
  (∀ (src : BitVec 14) (key : BitVec 16) (va : Nat) (gen : BitVec 6) (r : ReaderCopy) (now : Time) (s : State),
      s.dev.copyOf key va = none →
      s.dev.coh.evicted.find? (fun x => x.pkey = key && x.va = va) = some r →
      Does (.snoopInv (.snoopInv src key va gen) now) s fun d =>
        d.coh.copies = s.dev.coh.copies ∧ d.coh.evicted = s.dev.coh.evicted ∧
          d.fab.hubOut = s.dev.fab.hubOut ++ [((s.dev.advance now).takeIngress (CohMsg.isIn (.snoopInv src key va gen))).stamped (CohMsg.packet src (.ansEvicting s.dev.id key va r.tag))]) ∧
  (∀ (src : BitVec 14) (key : BitVec 16) (va : Nat) (gen : BitVec 6) (now : Time) (s : State),
      s.dev.copyOf key va = none →
      s.dev.coh.evicted.find? (fun x => x.pkey = key && x.va = va) = none →
      Does (.snoopInv (.snoopInv src key va gen) now) s fun d =>
        d.coh.copies = s.dev.coh.copies ∧ d.coh.evicted = s.dev.coh.evicted ∧
          d.fab.hubOut = s.dev.fab.hubOut ++ [((s.dev.advance now).takeIngress (CohMsg.isIn (.snoopInv src key va gen))).stamped (CohMsg.packet src (.ansInvalidated s.dev.id key va 0))]) ∧
  (∀ (key : BitVec 16) (va : Word) (r : ReaderCopy) (now : Time) (s : State),
      s.dev.copyOf key va.toNat = some r →
      Does (.readerCopyEvict key va now) s fun d =>
        d.coh.copies = s.dev.coh.copies.filter (· ≠ r) ∧ d.coh.evicted = s.dev.coh.evicted ++ [{ r with time := (s.dev.advance now).time }] ∧
          d.fab.hubOut = s.dev.fab.hubOut ++ [(s.dev.advance now).stamped (CohMsg.packet r.home (.evictNotice s.dev.id key va.toNat r.tag r.gen))]) ∧
  (∀ (now : Time) (s : State),
      Does (.evictionRecordExpire now) s fun d =>
        d.coh.evicted = s.dev.coh.evicted.filter (fun r => !reached (s.dev.advance now).time r.time (ms 1)) ∧ d.coh.copies = s.dev.coh.copies) ∧
  (∀ (key : BitVec 16) (va : Word) (l : EgressLine) (now : Time) (s : State),
      s.dev.mem.egress.find? (fun x => x.pkey = key && x.va = va.toNat) = some l →
      Does (.egressWriteback key va now) s fun d =>
        d.mem.egress = s.dev.mem.egress.filter (· ≠ l) ∧ d.fab.egressWait = s.dev.fab.egressWait ++ [{ p := l.packet, owner := .egress }] ∧ sameBytes s.dev d) ∧
  (∀ (line : Nat) (errs : List EccEvent) (h : HcLine) (d0 : Dev) (now : Time) (s : State),
      errs.foldl Dev.ecc (s.dev.advance now) = d0 →
      d0.mem.hub.find? line = some h →
      h.dirty = true →
      Does (.hubCacheEvict line errs now) s fun d =>
        d.mem.hub = d0.mem.hub.del line ∧ d.mem.dram = d0.mem.dram.set line (d0.cipher line h.keySlot) ∧ sameBytes d0 d)

/-- Pages are mapped and unmapped, and jobs are loaded and unloaded, under their checks (R45, R48, R256, R258, R264, R430, R434, R521). -/
def Obligations.MapsAndJobs : Prop :=
  (∀ (part : Fin 512) (va : Word) (target slot size flags : Nat) (now : Time) (s : State),
      s.dev.reentering = false →
      size ≤ 2 →
      flags / 8 % 2 = 0 →
      (s.dev.advance now).mapValid part.val va.toNat target slot size false (leafEntry false (flags % 2 = 1) (flags / 2 % 2 = 1) (flags / 4 % 2 = 1) slot target) = true →
      Does (.mapReq part va target slot size flags none now) s fun d =>
        d.mem = (Dev.placeLeaf va.toNat size (leafEntry false (flags % 2 = 1) (flags / 2 % 2 = 1) (flags / 4 % 2 = 1) slot target) 4 ((s.dev.advance now).part part.val).root ((s.dev.advance now).takePage part.val target (2 ^ pageBits size) slot (flags / 16 % 2 = 1))).mem ∧
          d.out = s.dev.out ++ [.reply 0 0 0 []]) ∧
  (∀ (part : Fin 512) (va : Word) (size a : Nat) (now : Time) (s : State),
      s.dev.reentering = false →
      size ≤ 2 →
      ((s.dev.advance now).part part.val).root ≠ 0 →
      va.toNat % 2 ^ pageBits size = 0 →
      va.toNat < 2 ^ 57 →
      (s.dev.advance now).leafAt va.toNat size 4 ((s.dev.advance now).part part.val).root = some a →
      s.dev.sec.leaving = [] →
      ((s.dev.advance now).invalidate part.val va.toNat (2 ^ pageBits size)).pageUsers part.val va.toNat (2 ^ pageBits size) = [] →
      Does (.unmapReq part va size [] now) s fun d =>
        d.mem.mem = ((s.dev.advance now).setPte a 0).mem.mem ∧
          d.cores = (((s.dev.advance now).invalidate part.val va.toNat (2 ^ pageBits size)).setPte a 0).cores ∧ d.out = s.dev.out ++ [.reply 0 0 0 []]) ∧
  (∀ (part : Fin 512) (va : Word) (size a : Nat) (m : BitVec 14) (ms : List (BitVec 14)) (now : Time) (s : State),
      s.dev.reentering = false →
      size ≤ 2 →
      ((s.dev.advance now).part part.val).root ≠ 0 →
      va.toNat % 2 ^ pageBits size = 0 →
      va.toNat < 2 ^ 57 →
      (s.dev.advance now).leafAt va.toNat size 4 ((s.dev.advance now).part part.val).root = some a →
      s.dev.leaving { part := part.val } va.toNat = false →
      leafRemote (s.dev.pte a) = false →
      Does (.unmapReq part va size (m :: ms) now) s fun d =>
        d.sec.waiting = s.dev.sec.waiting ++ [.unmap part.val va.toNat size (m :: ms)] ∧ d.mem = s.dev.mem ∧ d.cores = s.dev.cores ∧ d.out = s.dev.out) ∧
  (∀ (part : Fin 512) (va : Word) (target slot size flags : Nat) (home : Option Bool) (now : Time) (s : State),
      s.dev.reentering = true →
      Does (.mapReq part va target slot size flags home now) s fun d =>
        d.sec.held = s.dev.sec.held ++ [.map part.val va.toNat target slot size flags home] ∧ d.mem = s.dev.mem ∧ d.out = s.dev.out) ∧
  (∀ (part : Fin 512) (va : Word) (len : Nat) (pair four : Bool) (others : List LoadReport) (now : Time) (s : State),
      s.dev.sec.reentry = none →
      s.dev.partResetting part.val = false →
      (s.dev.checkExtent { part := part.val } { r := true } false va.toNat (max len 1)).isOk = true →
      firstShort ((s.dev.loadSelf part.val (footprint (s.dev.readVa { part := part.val } va.toNat (min len 32))) len ((others.map (·.cores)).foldl (· + ·) 0) ((others.map (·.queues)).foldl (· + ·) 0) pair four).toList ++ others) = none →
      Does (.jobLoad part va len { pair := pair, four := four } others now) s fun d =>
        (∃ j, (d.part part.val).job = some j ∧ j.accGroups = (footprint (s.dev.readVa { part := part.val } va.toNat (min len 32))).groups ∧ j.loadTime = (s.dev.advance now).time) ∧ (d.part part.val).jobCause = 0 ∧ d.out.getLast? = some (.reply 0 0 0 [])) ∧
  (∀ (part : Fin 512) (va : Word) (len : Nat) (pair four : Bool) (others : List LoadReport) (r : LoadReport) (now : Time) (s : State),
      s.dev.sec.reentry = none →
      s.dev.partResetting part.val = false →
      (s.dev.checkExtent { part := part.val } { r := true } false va.toNat (max len 1)).isOk = true →
      firstShort ((s.dev.loadSelf part.val (footprint (s.dev.readVa { part := part.val } va.toNat (min len 32))) len ((others.map (·.cores)).foldl (· + ·) 0) ((others.map (·.queues)).foldl (· + ·) 0) pair four).toList ++ others) = some r →
      Does (.jobLoad part va len { pair := pair, four := four } others now) s fun d =>
        (d.part part.val).job = (s.dev.part part.val).job ∧ (d.part part.val).jobCause = r.cause ∧ ∃ b, d.out = s.dev.out ++ [.reply r.cause (BitVec.ofNat 64 r.need) (BitVec.ofNat 64 r.have') b]) ∧
  (∀ (part : Fin 512) (va : Word) (len : Nat) (pair four : Bool) (others : List LoadReport) (now : Time) (s : State),
      s.dev.partResetting part.val = true →
      Does (.jobLoad part va len { pair := pair, four := four } others now) s fun d =>
        d.sec.held = s.dev.sec.held ++ [.load part.val va.toNat len pair four others] ∧ (d.part part.val).job = (s.dev.part part.val).job ∧ d.out = s.dev.out) ∧
  (∀ (part : Fin 512) (now : Time) (s : State),
      Does (.jobUnload part 1 now) s fun d =>
        (d.part part.val).job = none ∧ d.out.getLast? = some (.reply 0 0 0 []) ∧ ∀ c ∈ s.dev.partCores part.val, (d.core c).accGroups = 0 ∧ ∀ r, (d.core c).run = some r → r.part ≠ part.val) ∧
  (∀ (part : Fin 512) (value : Nat) (now : Time) (s : State),
      value ≠ 1 →
      Does (.jobUnload part value now) s fun d =>
        (d.part part.val).job = (s.dev.part part.val).job ∧ d.out = s.dev.out ++ [.reply 0x0163 0 0 []])

/-- Package links count, retry, retrain and retire, and the on-package halyard delivers in order (R18, R19, R20, R22, R23, R24, R26, R27,
R28). -/
def Obligations.PackageLinksAndOnPackageHalyard : Prop :=
  (∀ (e : Fin 192) (f : Flit) (fs : List Flit) (now : Time) (s : State),
      (s.dev.ucie e.val).up = true →
      (s.dev.ucie e.val).retraining = false →
      (s.dev.ucie e.val).retired = false →
      (s.dev.ucie e.val).inits = [] →
      (s.dev.ucie e.val).resend = f :: fs →
      f.sends < 9 →
      Does (.pkgFlitSend e now) s fun d =>
        (d.ucie e.val).resend = fs ∧ (d.ucie e.val).queue = (s.dev.ucie e.val).queue ∧ (d.ucie e.val).nextSeq = (s.dev.ucie e.val).nextSeq ∧
          d.out = s.dev.out ++ [.flit e.val (flitBytes 1 f.vc f.seq (s.dev.ucie e.val).ack (s.dev.ucie e.val).giveBack.1 (s.dev.ucie e.val).giveBack.2 f.sop f.eop f.poison f.payload)]) ∧
  (∀ (e : Fin 192) (vc : Nat) (f : Flit) (now : Time) (s : State),
      (s.dev.ucie e.val).up = true →
      (s.dev.ucie e.val).retraining = false →
      (s.dev.ucie e.val).retired = false →
      (s.dev.ucie e.val).inits = [] →
      (s.dev.ucie e.val).resend = [] →
      (s.dev.ucie e.val).ready = some (vc, f) →
      (s.dev.ucie e.val).replay.length < 512 →
      Does (.pkgFlitSend e now) s fun d =>
        (d.ucie e.val).nextSeq = (s.dev.ucie e.val).nextSeq + 1 ∧ (d.ucie e.val).replay = (s.dev.ucie e.val).replay ++ [{ f with vc := vc, seq := (s.dev.ucie e.val).nextSeq, sends := 1 }] ∧
          (d.ucie e.val).queue.get [] vc = ((s.dev.ucie e.val).queue.get [] vc).drop 1 ∧ (vc ≠ 0 → (d.ucie e.val).credits.get 0 vc = (s.dev.ucie e.val).credits.get 0 vc - 1) ∧
          d.out = s.dev.out ++ [.flit e.val (flitBytes 1 vc (s.dev.ucie e.val).nextSeq (s.dev.ucie e.val).ack (s.dev.ucie e.val).giveBack.1 (s.dev.ucie e.val).giveBack.2 f.sop f.eop f.poison f.payload)]) ∧
  (∀ (e : Fin 192) (now : Time) (s : State),
      (s.dev.ucie e.val).up = true →
      (s.dev.ucie e.val).retraining = false →
      (s.dev.ucie e.val).retired = false →
      (s.dev.ucie e.val).inits = [] →
      (s.dev.ucie e.val).resend = [] →
      (s.dev.ucie e.val).ready = none →
      Does (.pkgFlitSend e now) s fun d =>
        d.out = s.dev.out ++ [.flit e.val (flitBytes 0 0 0 (s.dev.ucie e.val).ack (s.dev.ucie e.val).giveBack.1 (s.dev.ucie e.val).giveBack.2 false false false [])] ∧ (d.ucie e.val).replay = (s.dev.ucie e.val).replay) ∧
  (∀ (e : Fin 192) (vc n : Nat) (is : KMap Nat) (now : Time) (s : State),
      (s.dev.ucie e.val).up = true →
      (s.dev.ucie e.val).retraining = false →
      (s.dev.ucie e.val).retired = false →
      (s.dev.ucie e.val).inits = (vc, n) :: is →
      Does (.pkgFlitSend e now) s fun d =>
        (d.ucie e.val).inits = is ∧ d.out = s.dev.out ++ [.flit e.val (flitBytes 4 0 0 (s.dev.ucie e.val).ack vc n false false false [])]) ∧
  (∀ (e : Fin 192) (bs : List Byte) (now : Time) (s : State),
      (s.dev.ucie e.val).up = true →
      (s.dev.ucie e.val).retraining = false →
      (s.dev.ucie e.val).retired = false →
      bs.length = 256 →
      (crc32c (bs.take 252)).toNat ≠ leNat (bs.drop 252) →
      Does (.pkgFlitRx e bs now) s fun d =>
        (d.ucie e.val).arrived = (s.dev.ucie e.val).arrived ∧ (d.ucie e.val).expect = (s.dev.ucie e.val).expect ∧ (d.ucie e.val).nakSent = true ∧
          d.out = s.dev.out ++ [.flit e.val (flitBytes 3 0 0 (s.dev.ucie e.val).expect (s.dev.ucie e.val).giveBack.1 (s.dev.ucie e.val).giveBack.2 false false false [])]) ∧
  (∀ (e : Fin 192) (bs : List Byte) (now : Time) (s : State),
      (s.dev.ucie e.val).up = true →
      (s.dev.ucie e.val).retraining = false →
      (s.dev.ucie e.val).retired = false →
      bs.length = 256 →
      (crc32c (bs.take 252)).toNat = leNat (bs.drop 252) →
      leNat (bs.take 8) / 2 ^ 60 = 1 →
      BitVec.ofNat 10 (leNat (bs.take 8) / 2 ^ 48 % 2 ^ 10) = (s.dev.ucie e.val).expect →
      leNat (bs.take 8) / 2 ^ 28 % 2 ^ 8 = 0 →
      Does (.pkgFlitRx e bs now) s fun d =>
        (d.ucie e.val).expect = (s.dev.ucie e.val).expect + 1 ∧ (d.ucie e.val).ack = (s.dev.ucie e.val).expect ∧ (d.ucie e.val).nakSent = false ∧ (d.ucie e.val).credits = (s.dev.ucie e.val).credits ∧
          ∃ f, (d.ucie e.val).arrived = (if leNat (bs.take 8) / 2 ^ 26 % 2 = 1 then (s.dev.ucie e.val).arrived.filter (fun x => x.vc ≠ f.vc) else (s.dev.ucie e.val).arrived ++ [f]) ∧ f.seq = (s.dev.ucie e.val).expect ∧ f.vc = leNat (bs.take 8) / 2 ^ 58 % 4 ∧ f.payload = (bs.drop 8).take (min 244 (leNat (bs.take 8) / 2 ^ 16 % 2 ^ 8))) ∧
  (∀ (e : Fin 192) (seq : BitVec 10) (now : Time) (s : State),
      Does (.pkgNakRx e seq now) s fun d =>
        (d.ucie e.val).replay = ((s.dev.ucie e.val).acked (seq - 1) (s.dev.advance now).time).replay ∧ (d.ucie e.val).resend = (d.ucie e.val).replay ∧ (d.ucie e.val).heardAt = (s.dev.advance now).time) ∧
  (∀ (e : Fin 192) (vc : Fin 4) (n : Nat) (now : Time) (s : State),
      vc ≠ 0 →
      Does (.pkgCreditInitRx e vc n now) s fun d =>
        (d.ucie e.val).credits.get 0 vc.val = n ∧ (d.ucie e.val).replay = (s.dev.ucie e.val).replay) ∧
  (∀ (e : Fin 192) (now : Time) (s : State),
      (s.dev.ucie e.val).up = true →
      (s.dev.ucie e.val).retraining = false →
      (s.dev.ucie e.val).replay ≠ [] →
      reached (s.dev.advance now).time (s.dev.ucie e.val).heardAt (us 1) = true →
      Does (.pkgReplayTimeout e now) s fun d =>
        (d.ucie e.val).resend = (s.dev.ucie e.val).replay ∧ (d.ucie e.val).replay = (s.dev.ucie e.val).replay ∧ (d.ucie e.val).heardAt = (s.dev.advance now).time) ∧
  (∀ (e : Fin 192) (now : Time) (s : State),
      (s.dev.ucie e.val).up = true →
      (s.dev.ucie e.val).retraining = false →
      (s.dev.ucie e.val).replay.any (fun f => 9 ≤ f.sends) = true →
      Does (.pkgReplayExhausted e now) s fun d =>
        (d.ucie e.val).retraining = true ∧ (d.ucie (e.val / 2 * 2 + (1 - e.val % 2))).retraining = true ∧ (d.ucie e.val).replay = (s.dev.ucie e.val).replay) ∧
  (∀ (link : Fin 96) (rate : Nat) (now : Time) (s : State),
      (s.dev.ucie (2 * link.val)).retraining = true →
      rate ≠ 0 →
      Does (.ucieRetrainDone link rate now) s fun d =>
        (d.ucie (2 * link.val)).retraining = false ∧ (d.ucie (2 * link.val)).rate = rate ∧ (d.ucie (2 * link.val)).resend = (s.dev.ucie (2 * link.val)).replay.map (fun f => { f with sends := 1 }) ∧
          (d.ucie (2 * link.val + 1)).retraining = false ∧ (d.ucie (2 * link.val + 1)).resend = (s.dev.ucie (2 * link.val + 1)).replay.map (fun f => { f with sends := 1 })) ∧
  (∀ (kind : Nat) (dies clusters : BitVec 8) (payload : List Byte) (now : Time) (s : State),
      payload.length ≤ 8192 →
      s.dev.onPkgCores dies clusters ≠ [] →
      Does (.onpkgHalyardPost kind dies clusters payload now) s fun d =>
        d.pkg.hseq = s.dev.pkg.hseq + 1 ∧ ∃ p, d.pkg.onpkg = s.dev.pkg.onpkg ++ [p] ∧ p.hseq = s.dev.pkg.hseq ∧ p.kind = kind ∧ p.payload = payload ∧
          p.cores = s.dev.onPkgCores dies clusters) ∧
  (∀ (core : Fin 512) (p : OnPkg) (now : Time) (s : State),
      s.dev.pkg.onpkg.find? (fun q => q.cores.contains core.val) = some p →
      p.reached.contains (core.val / 64) = true →
      Does (.onpkgHalyardDeliver core now) s fun d =>
        d.pkg.onpkg = s.dev.pkg.onpkg.map (fun q => if q.hseq = p.hseq then { q with cores := q.cores.remove core.val } else q) ∧
          d.pkg.discardedKinds = s.dev.pkg.discardedKinds + b2n (p.kind = 0 || 6 < p.kind) ∧ d.mem = s.dev.mem) ∧
  (∀ (seq : BitVec 32) (cluster : Fin 64) (p : OnPkg) (now : Time) (s : State),
      (s.dev.advance now).pruneOnPkg.pkg.onpkg = [p] →
      p.hseq = seq →
      p.cores.any (fun x => x / 8 = cluster.val) = false →
      (p.clusters.remove cluster.val).any (fun k => k / 8 = cluster.val / 8) = false →
      p.dies.remove (cluster.val / 8) = [] →
      Does (.onpkgHalyardAck seq cluster now) s fun d =>
        d.pkg.onpkg = [])

/-- The package flit that one end forms is the one that the other end accepts, whatever its payload and credits (R19, R20, R22, R23). -/
def Obligations.PackageFlitIsReceivedAsSent : Prop :=
  ∀ (e : Fin 192) (vc crVc crCount : Nat) (ack : BitVec 10) (sop eop poison : Bool) (payload : List Byte) (now : Time) (s : State),
      (s.dev.ucie e.val).up = true →
      (s.dev.ucie e.val).retraining = false →
      (s.dev.ucie e.val).retired = false →
      vc < 4 →
      crVc < 4 →
      crCount < 256 →
      payload.length ≤ 244 →
      Does (.pkgFlitRx e (flitBytes 1 vc (s.dev.ucie e.val).expect ack crVc crCount sop eop poison payload) now) s fun d =>
        (d.ucie e.val).arrived = (if eop then (s.dev.ucie e.val).arrived.filter (fun x => x.vc ≠ vc)
            else (s.dev.ucie e.val).arrived ++ [{ vc := vc, seq := (s.dev.ucie e.val).expect, sop := sop, eop := eop, poison := poison, payload := payload }]) ∧
          (d.ucie e.val).expect = (s.dev.ucie e.val).expect + 1 ∧ (crVc ≠ 0 → crCount ≠ 0 → (d.ucie e.val).credits.get 0 crVc = (s.dev.ucie e.val).credits.get 0 crVc + crCount)

/-- The rig verbs quiesce, resume and reset the cores of a rig, and POWER_REQ is raised to its minimum (R36, R38, R39, R41, R407, R468,
R469). -/
def Obligations.RigVerbs : Prop :=
  (∀ (r : BitVec 32) (now : Time) (s : State),
      s.dev.rigCheck r = 0 →
      Does (.quiesce r now) s fun d =>
        (∀ x ∈ s.dev.coresOf (s.dev.localRig r), (d.rig x).quiescing = true ∧
            (d.rig x).state = if (s.dev.rig x).state = .idle ∧ s.dev.coreFlight x = 0 then .quiesced else (s.dev.rig x).state) ∧
          d.out = s.dev.out ++ [.reply 0 0 0 []]) ∧
  (∀ (r : BitVec 32) (now : Time) (s : State),
      s.dev.rigCheck r = 0 →
      Does (.resume r now) s fun d =>
        (∀ x ∈ s.dev.coresOf (s.dev.localRig r), (d.rig x).quiescing = false ∧ (d.rig x).state = if (s.dev.rig x).state = .quiesced then .idle else (s.dev.rig x).state) ∧
          d.out = s.dev.out ++ [.reply 0 0 0 []]) ∧
  (∀ (r : BitVec 32) (now : Time) (s : State),
      s.dev.rigCheck r = 0 →
      s.dev.rst.running = [] →
      Does (.resetRetain r now) s fun d =>
        if rigLevel r ≤ 1 then d.rst.running = [{ rig := r, retain := true }] ∧ d.out.getLast? = some (.reply 0 0 0 []) ∧
            ∀ x ∈ s.dev.coresOf r, s.dev.inService x = true → (d.rig x).state = .resetting
          else d.rst = s.dev.rst ∧ d.out = s.dev.out ++ [.reply 0x0911 0 0 []]) ∧
  (∀ (r : BitVec 32) (now : Time) (s : State),
      s.dev.rigCheck r = 0 →
      rigLevel r ≤ 2 →
      s.dev.rst.running = [] →
      Does (.resetClear r 4 now) s fun d =>
        d.rst.running = [{ rig := r }] ∧ d.out.getLast? = some (.reply 0 0 0 []) ∧ ∀ x ∈ s.dev.coresOf r, s.dev.inService x = true → (d.rig x).state = .resetting) ∧
  (∀ (r : BitVec 32) (now : Time) (s : State),
      s.dev.rigCheck r = 0 →
      3 ≤ rigLevel r →
      s.dev.rst.running = [] →
      Does (.resetClear r 4 now) s fun d =>
        d.rst.running = [{ rig := moduleRig s.dev.id, groups := if rigLevel r = 3 then [] else [r] }] ∧ d.out.getLast? = some (.reply 0 0 0 []) ∧
          ∀ x, x < 512 → s.dev.inService x = true → (d.rig x).state = .resetting) ∧
  (∀ (r : BitVec 32) (value : Nat) (now : Time) (s : State),
      (value = 0 ∨ 4 < value) →
      Does (.resetClear r value now) s fun d =>
        d.rst = s.dev.rst ∧ d.rigs = s.dev.rigs ∧ d.out = s.dev.out ++ [.reply 0x0910 0 0 []]) ∧
  (∀ (r : BitVec 32) (w : Nat) (now : Time) (s : State),
      s.dev.rigCheck r = 0 →
      rigLevel r ≤ 3 →
      Does (.powerReqWrite r w now) s fun d =>
        (d.rig (rigIndex r)).powerReq = some (max w (s.dev.leastReq (s.dev.coresOf r))) ∧ d.out = s.dev.out ++ [.reply 0 0 0 []]) ∧
  (∀ (r : BitVec 32) (w : Nat) (now : Time) (s : State),
      s.dev.rigCheck r = 0 →
      4 ≤ rigLevel r →
      Does (.powerReqWrite r w now) s fun d =>
        (d.rig (rigIndex r)).powerReq = some (max w ((s.dev.advance now).leastGroupReq r)) ∧ d.out = s.dev.out ++ [.reply 0 0 0 []])

/-- Frames are accepted in order, discarded with one NAK per gap, acknowledged and sent again (R315, R317, R319, R320, R322, R323). -/
def Obligations.LinkFrames : Prop :=
  (∀ (port : Fin 32) (bs : List Byte) (f : RxFrame) (now : Time) (s : State),
      (s.dev.port port.val).hears = true →
      (s.dev.port port.val).encOn = false →
      parseFrame bs = some f →
      f.ftype = 1 →
      f.nak = false →
      f.fseq = (s.dev.port port.val).fr.fack + 1 →
      Does (.linkDataFrame port bs now) s fun d =>
        (d.port port.val).fr.fack = f.fseq ∧ (d.port port.val).fr.nakSent = false ∧ (d.port port.val).fr.rxCount = rebuildCount (s.dev.port port.val).fr.rxCount f.count + 1 ∧
          (d.fab.switches.get {} (port.val / 4)).inputs.get [] (port.val % 4) = (s.dev.fab.switches.get {} (port.val / 4)).inputs.get [] (port.val % 4) ++ parsePackets 12 (f.body.take f.len)) ∧
  (∀ (port : Fin 32) (bs : List Byte) (now : Time) (s : State),
      (s.dev.port port.val).hears = true →
      parseFrame bs = none →
      Does (.linkDataFrame port bs now) s fun d =>
        (d.port port.val).fr.fack = (s.dev.port port.val).fr.fack ∧ (d.port port.val).fr.nakSent = true ∧ d.fab = s.dev.fab ∧
          d.out = if (s.dev.port port.val).fr.nakSent then s.dev.out else ((s.dev.advance now).turn port.val).out ++ [.frame port.val ((s.dev.port port.val).frameBytes 0 0 true [])]) ∧
  (∀ (port : Fin 32) (bs : List Byte) (f : RxFrame) (x : HeldFrame) (xs : List HeldFrame) (now : Time) (s : State),
      (s.dev.port port.val).hears = true →
      (s.dev.port port.val).encOn = false →
      parseFrame bs = some f →
      f.ftype = 0 →
      f.nak = false →
      (s.dev.port port.val).fr.replay = x :: xs →
      (f.fack - x.fseq + 1).toNat ≤ xs.length + 1 →
      Does (.linkIdleFrame port bs now) s fun d =>
        (d.port port.val).fr.replay = (x :: xs).drop (f.fack - x.fseq + 1).toNat ∧ d.fab = s.dev.fab) ∧
  (∀ (port : Fin 32) (bs : List Byte) (now : Time) (s : State),
      (s.dev.port port.val).state.framing = true →
      Does (.groupMarker port bs now) s fun d =>
        (d.port port.val).fr.locked = (decide (bs.length = 10) && decide ((crc32c (bs.take 6)).toNat = leNat (bs.drop 6))) ∧ ((d.port port.val).fr.locked = true → (d.port port.val).fr.rxGcount = BitVec.ofNat 32 (leNat (bs.take 4)) ∧ (d.port port.val).fr.rxLanes = BitVec.ofNat 4 (leNat ((bs.drop 4).take 1)))) ∧
  (∀ (port : Fin 32) (now : Time) (s : State),
      ((s.dev.port port.val).state = .active ∨ (s.dev.port port.val).state = .width) →
      (s.dev.port port.val).fr.replay ≠ [] →
      reached (s.dev.advance now).time (s.dev.port port.val).fr.ackAt (us 4) = true →
      (s.dev.port port.val).fr.replay.any (fun f => 8 ≤ f.sends) = false →
      Does (.linkReplayTimeout port now) s fun d =>
        (d.port port.val).fr.replay = (s.dev.port port.val).fr.replay.map (fun f => { f with sends := f.sends + 1 }) ∧ (d.port port.val).replays = (s.dev.port port.val).replays + (s.dev.port port.val).fr.replay.length ∧ (d.port port.val).fr.ackAt = (s.dev.advance now).time) ∧
  (∀ (port : Fin 32) (lanes : List (Nat × Nat)) (bad total : Nat) (now : Time) (s : State),
      ((s.dev.port port.val).state = .active ∨ (s.dev.port port.val).state = .width) →
      nsOf (s.dev.advance now).time % 1000000000 = 0 →
      Does (.laneSerWindowEnd port lanes bad total now) s fun d =>
        ∀ i < 4, (d.port port.val).tr.laneOver.get 0 i = if bit (s.dev.port port.val).activeLanes i && serOver (s.dev.serLimit port.val) (lanes.getD i (0, 0)).1 (lanes.getD i (0, 0)).2 then (s.dev.port port.val).tr.laneOver.get 0 i + 1 else 0) ∧
  (∀ (port : Fin 32) (now : Time) (s : State),
      ((s.dev.port port.val).state = .active ∨ (s.dev.port port.val).state = .width) →
      Does (.linkLockLost port now) s fun d =>
        (d.port port.val).state = .retrain ∧ (d.port port.val).lockLosses = (s.dev.port port.val).lockLosses + 1 ∧ (d.port port.val).fr.replay = [] ∧ (d.port port.val).framesLost = (s.dev.port port.val).framesLost + (s.dev.port port.val).fr.replay.length + b2n (!(s.dev.port port.val).fr.frame.isEmpty))

/-- A port trains from DETECT to ACTIVE through the states of its table (R323, R324, R325, R326, R331, R332, R333, R335, R338). -/
def Obligations.LinkTraining : Prop :=
  (∀ (port : Fin 32) (now : Time) (s : State),
      (s.dev.port port.val).state = .detect →
      Does (.peerSignalDetect port now) s fun d =>
        (d.port port.val).state = .equalize) ∧
  (∀ (port : Fin 32) (ok : Bool) (now : Time) (s : State),
      (s.dev.port port.val).state = .equalize →
      Does (.equalizeDone port ok now) s fun d =>
        (d.port port.val).state = if ok then .laneTest else .failed) ∧
  (∀ (port : Fin 32) (own peer : BitVec 4) (now : Time) (s : State),
      (s.dev.port port.val).state = .laneTest →
      (~~~(s.dev.port port.val).retiredLanes &&& own &&& peer) ≠ 0 →
      s.dev.minWidth port.val ≤ laneCount (~~~(s.dev.port port.val).retiredLanes &&& own &&& peer) →
      Does (.laneTestDone port own peer now) s fun d =>
        (d.port port.val).state = .identify ∧ (d.port port.val).activeLanes = (~~~(s.dev.port port.val).retiredLanes &&& own &&& peer) ∧ (d.port port.val).retiredLanes = (s.dev.port port.val).retiredLanes ||| (~~~(s.dev.port port.val).retiredLanes &&& ~~~own) ∧ d.out.getLast? = some (.ident port.val (d.port port.val).tr.myIdent)) ∧
  (∀ (port : Fin 32) (b : Ident) (now : Time) (s : State),
      (s.dev.port port.val).state = .identify →
      (s.dev.port port.val).fr.locked = true →
      b.enc = (s.dev.port port.val).tr.myIdent.enc →
      b.serial ≠ s.dev.boot.serial →
      (s.dev.port port.val).tr.passed &&& b.lanes ≠ 0 →
      Does (.ident port b now) s fun d =>
        if Config.validPoint b.pubKey = true ∧ (s.dev.peerAllow port.val = 0 ∨ (Config.sha384 (leBytes 96 b.pubKey.toNat)).toNat = s.dev.peerAllow port.val) then
          (d.port port.val).state = .keyAgree ∧ (d.port port.val).activeLanes = (s.dev.port port.val).tr.passed &&& b.lanes ∧ (d.port port.val).peerModule = b.module ∧ (d.port port.val).peerSerial = b.serial ∧ (d.port port.val).tr.peerIdent = some b
        else (d.port port.val).state = .failed) ∧
  (∀ (port : Fin 32) (b : Ident) (now : Time) (s : State),
      (s.dev.port port.val).state = .identify →
      (s.dev.port port.val).fr.locked = true →
      (b.enc ≠ (s.dev.port port.val).tr.myIdent.enc ∨ b.serial = s.dev.boot.serial) →
      Does (.ident port b now) s fun d =>
        (d.port port.val).state = .failed ∧ (d.port port.val).tr.stuck = true) ∧
  (∀ (port : Fin 32) (now : Time) (s : State),
      (s.dev.port port.val).state = .identify →
      reached (s.dev.advance now).time (s.dev.port port.val).tr.identAt (us 2) = true →
      Does (.identResend port now) s fun d =>
        d.out = ((s.dev.advance now).turn port.val).out ++ [.ident port.val (s.dev.port port.val).tr.myIdent] ∧ (d.port port.val).tr.identAt = (s.dev.advance now).time ∧ (d.port port.val).state = .identify) ∧
  (∀ (port : Fin 32) (b : Ident) (now : Time) (s : State),
      (s.dev.port port.val).state = .keyAgree →
      (s.dev.port port.val).tr.peerIdent = some b →
      Does (.keyAgreeDone port now) s fun d =>
        (d.port port.val).state = .active ∧ (d.port port.val).encOn = (s.dev.port port.val).tr.myIdent.enc ∧ (s.dev.boot.moduleId ≠ 0xFFFF → (d.port port.val).fr.txCount = 2) ∧ (d.port port.val).fr.rxCount = 0 ∧ (d.port port.val).fr.nextFseq = 0 ∧ (d.port port.val).fr.fack = 0xFFF ∧ (d.port port.val).fr.replay = []) ∧
  (∀ (port : Fin 32) (now : Time) (s : State),
      ((s.dev.port port.val).state = .failed ∧ (s.dev.port port.val).tr.stuck = false) ∨ (s.dev.port port.val).state = .down →
      reached (s.dev.advance now).time (s.dev.port port.val).tr.failedAt (ms 1000) = true →
      Does (.linkRetryTimeout port now) s fun d =>
        (d.port port.val).state = .detect) ∧
  (∀ (port : Fin 32) (now : Time) (s : State),
      (s.dev.port port.val).state ≠ .disabled →
      Does (.linkCmdFullTrain port now) s fun d =>
        (d.port port.val).state = .detect ∧ (d.port port.val).retiredLanes = 0 ∧ (d.port port.val).activeLanes = 0 ∧ (d.port port.val).fr.replay = []) ∧
  (∀ (port : Fin 32) (now : Time) (s : State),
      Does (.linkCmdDisable port now) s fun d =>
        (d.port port.val).state = .disabled ∧ (d.port port.val).activeLanes = 0 ∧ (d.port port.val).fr.replay = []) ∧
  (∀ (port : Fin 32) (now : Time) (s : State),
      (s.dev.port port.val).state = .disabled →
      Does (.linkCmdEnable port now) s fun d =>
        (d.port port.val).state = .detect)

/-- Retrains and width changes are asked for, agreed on and carried out at the agreed group (R323, R325, R327, R328, R330, R338). -/
def Obligations.LinkRetrainsAndWidth : Prop :=
  (∀ (port : Fin 32) (serial : BitVec 64) (reason : Nat) (now : Time) (s : State),
      (s.dev.port port.val).hears = true →
      ((s.dev.port port.val).tr.reqOutstanding = none ∨ serial.toNat ≤ s.dev.boot.serial.toNat) →
      Does (.retrainReq port serial reason now) s fun d =>
        (d.port port.val).tr.switchGroup = some ((s.dev.port port.val).groupNow (s.dev.advance now).time + 256) ∧ (d.port port.val).tr.retrainReason = reason ∧ (d.port port.val).state = .active ∧
          d.out.getLast? = some (.retrainAccept port.val ((s.dev.port port.val).groupNow (s.dev.advance now).time + 256))) ∧
  (∀ (port : Fin 32) (group : BitVec 32) (r : Nat) (now : Time) (s : State),
      (s.dev.port port.val).hears = true →
      (s.dev.port port.val).tr.reqOutstanding = some r →
      Does (.retrainAccept port group now) s fun d =>
        (d.port port.val).tr.switchGroup = some group ∧ (d.port port.val).tr.reqOutstanding = none ∧ (d.port port.val).tr.retrainReason = r) ∧
  (∀ (port : Fin 32) (r : Nat) (now : Time) (s : State),
      (s.dev.port port.val).tr.reqOutstanding = some r →
      reached (s.dev.advance now).time (s.dev.port port.val).tr.reqAt (us 10) = true →
      Does (.retrainReqResend port now) s fun d =>
        if 10 ≤ (s.dev.port port.val).tr.reqResends then (d.port port.val).state = .retrain
        else (d.port port.val).tr.reqResends = (s.dev.port port.val).tr.reqResends + 1 ∧ d.out = ((s.dev.advance now).turn port.val).out ++ [.retrainReq port.val s.dev.boot.serial r]) ∧
  (∀ (port : Fin 32) (group : BitVec 32) (now : Time) (s : State),
      ((s.dev.port port.val).state = .active ∨ (s.dev.port port.val).state = .width) →
      (s.dev.port port.val).tr.switchGroup = some group →
      Does (.retrainSwitchGroup port group now) s fun d =>
        (d.port port.val).state = .retrain ∧ (d.port port.val).fr.replay = [] ∧ (d.port port.val).framesLost = (s.dev.port port.val).framesLost + (s.dev.port port.val).fr.replay.length + b2n (!(s.dev.port port.val).fr.frame.isEmpty)) ∧
  (∀ (port : Fin 32) (now : Time) (s : State),
      (s.dev.port port.val).state = .active →
      (s.dev.port port.val).tr.retraining = true →
      Does (.retrainDone port now) s fun d =>
        (d.port port.val) = { (s.dev.port port.val) with tr := { (s.dev.port port.val).tr with retraining := false } }) ∧
  (∀ (port : Fin 32) (lanes : BitVec 4) (now : Time) (s : State),
      (s.dev.port port.val).hears = true →
      (s.dev.port port.val).state = .active →
      (s.dev.port port.val).activeLanes &&& lanes ≠ 0 →
      Does (.widthPropose port lanes now) s fun d =>
        (d.port port.val).state = .width ∧ (d.port port.val).tr.newLanes = (s.dev.port port.val).activeLanes &&& lanes ∧ (d.port port.val).tr.widthGroup = some ((s.dev.port port.val).groupNow (s.dev.advance now).time + 256) ∧
          d.out = ((s.dev.advance now).turn port.val).out ++ [.widthAccept port.val ((s.dev.port port.val).activeLanes &&& lanes) ((s.dev.port port.val).groupNow (s.dev.advance now).time + 256)]) ∧
  (∀ (port : Fin 32) (lanes : BitVec 4) (group : BitVec 32) (now : Time) (s : State),
      (s.dev.port port.val).hears = true →
      (s.dev.port port.val).state = .width →
      (s.dev.port port.val).tr.proposal.isSome = true →
      Does (.widthAccept port lanes group now) s fun d =>
        (d.port port.val).tr.newLanes = (s.dev.port port.val).activeLanes &&& lanes ∧ (d.port port.val).tr.widthGroup = some group) ∧
  (∀ (port : Fin 32) (group : BitVec 32) (now : Time) (s : State),
      (s.dev.port port.val).state = .width →
      (s.dev.port port.val).tr.widthGroup = some group →
      s.dev.minWidth port.val ≤ laneCount (s.dev.port port.val).tr.newLanes →
      Does (.widthSwitchGroup port group now) s fun d =>
        (d.port port.val).state = .active ∧ (d.port port.val).activeLanes = (s.dev.port port.val).tr.newLanes ∧ (d.port port.val).retiredLanes = (s.dev.port port.val).retiredLanes ||| ((s.dev.port port.val).activeLanes &&& ~~~(s.dev.port port.val).tr.newLanes)) ∧
  (∀ (port : Fin 32) (now : Time) (s : State),
      (s.dev.port port.val).state = .active →
      (s.dev.port port.val).tr.reqOutstanding = none →
      (s.dev.port port.val).tr.switchGroup = none →
      Does (.linkCmdRetrain port now) s fun d =>
        (d.port port.val).tr.reqOutstanding = some reasonCmd ∧ d.out = ((s.dev.advance now).turn port.val).out ++ [.retrainReq port.val s.dev.boot.serial reasonCmd])

/-- Beacons measure delay and offset, seals are compared, and fabric time keeps its state (R335, R336, R337, R414, R419). -/
def Obligations.LinkTime : Prop :=
  (∀ (port : Fin 32) (bseq : BitVec 16) (ttx : Time) (echoSeq : BitVec 16) (echoRx : Time) (root : BitVec 14) (hops : BitVec 8) (wraps : BitVec 16) (t1 : Time) (now : Time) (s : State),
      (s.dev.port port.val).hears = true →
      (s.dev.port port.val).tm.sentAt = some t1 →
      (s.dev.port port.val).tm.bseq = echoSeq →
      (s.dev.port port.val).tm.skipNext = false →
      Does (.beacon port bseq ttx echoSeq echoRx root hops wraps now) s fun d =>
        (d.port port.val).tm.delay = BitVec.ofInt 32 (halfPs (((s.dev.advance now).time - t1) - (ttx - echoRx)).toInt) ∧ (d.port port.val).tm.offset = BitVec.ofInt 32 (halfPs ((echoRx - t1) - ((s.dev.advance now).time - ttx)).toInt) ∧
          (d.port port.val).tm.root = root ∧ (d.port port.val).tm.hops = hops ∧ (d.port port.val).tm.wraps = wraps ∧ (d.port port.val).tm.echoSeq = bseq ∧ (d.port port.val).tm.echoRx = (s.dev.advance now).time) ∧
  (∀ (port : Fin 32) (now : Time) (s : State),
      (s.dev.port port.val).state = .active →
      periodDue (s.dev.port port.val).tm.sentAt (s.dev.advance now).time 64000 = true →
      Does (.beaconSend port now) s fun d =>
        (d.port port.val).tm.bseq = (s.dev.port port.val).tm.bseq + 1 ∧ (d.port port.val).tm.sentAt = some (s.dev.advance now).time) ∧
  (∀ (port : Fin 32) (epoch : Nat) (cfg link : BitVec 384) (ttx : Time) (now : Time) (s : State),
      (s.dev.port port.val).hears = true →
      epoch = s.dev.cfg.force.epoch →
      cfg = s.dev.cfg.force.sealDigest →
      link = s.dev.linkSeal port.val →
      Does (.sealFrame port epoch cfg link ttx now) s fun d =>
        (d.port port.val).tm.sealMiss = 0 ∧ (d.port port.val).tm.lastSeal = some (s.dev.advance now).time) ∧
  (∀ (port : Fin 32) (epoch : Nat) (cfg link : BitVec 384) (ttx : Time) (now : Time) (s : State),
      (s.dev.port port.val).hears = true →
      (epoch ≠ s.dev.cfg.force.epoch ∨ cfg ≠ s.dev.cfg.force.sealDigest) →
      s.dev.cfg.excused epoch cfg ttx = false →
      Does (.sealFrame port epoch cfg link ttx now) s fun d =>
        (d.port port.val).tm.sealMiss = (s.dev.port port.val).tm.sealMiss + 1 ∧ (d.port port.val).tm.lastSeal = some (s.dev.advance now).time) ∧
  (∀ (port : Fin 32) (now : Time) (s : State),
      (s.dev.port port.val).state = .active →
      periodDue (s.dev.port port.val).tm.sealSentAt (s.dev.advance now).time 10000000 = true →
      Does (.sealSend port now) s fun d =>
        (d.port port.val).tm.sealSentAt = some (s.dev.advance now).time ∧ d.out = ((s.dev.advance now).turn port.val).out ++ [.sealFrame port.val s.dev.cfg.force.epoch s.dev.cfg.force.sealDigest (s.dev.linkSeal port.val)]) ∧
  (∀ (now : Time) (s : State),
      s.dev.tm.state = 2 →
      reached (s.dev.advance now).time s.dev.tm.lastBeacon (ms 1) = true →
      Does (.timeHoldover now) s fun d =>
        d.tm.state = 3 ∧ d.tm.good = 0) ∧
  (∀ (now : Time) (s : State),
      timeLe s.dev.time now = true →
      now.toNat < s.dev.time.toNat →
      Does (.fabricTimeWrap now) s fun d =>
        d.time = now ∧ d.tm.wraps = s.dev.tm.wraps + (if s.dev.reference.isNone then 1 else 0))

/-- The switches move, promote and post packets, and route epochs are staged, switched and retired (R342, R349, R350, R351, R365, R366). -/
def Obligations.SwitchesAndRouteEpochs : Prop :=
  (∀ (die : Fin 8) (slots : BitVec 4) (now : Time) (s : State),
      Does (.switchCycle die slots now) s fun d =>
        (d.switch die.val).cycle = (s.dev.switch die.val).cycle + 1 ∧ (d.switch die.val).injRR = ((s.dev.switch die.val).injRR + 1) % 9 ∧ ∀ i, (d.switch die.val).inputs.get [] i = ((s.dev.switch die.val).inputs.get [] i).drop 1) ∧
  (∀ (die : Fin 8) (p : Packet) (b : Bank) (now : Time) (s : State),
      (s.dev.switch die.val) = { inputs := [(5, [p])], bank0 := b } →
      s.dev.fab.hubOut = [] →
      p.crc = p.hcrc →
      (typeClass p.ptype).isSome = true →
      p.ptype ≠ 0x1A →
      expired (s.dev.advance now).time p = false →
      b.loaded = true →
      b.epoch = p.epoch →
      b.computed = false →
      b.table.get 0 p.dst.toNat % 128 = 64 →
      s.dev.hubLinked die.val = true →
      s.dev.hubFree die.val = true →
      Does (.switchCycle die 0 now) s fun d =>
        d.pkg = (s.dev.pkgQueue (die.val * 8) 8 0 0 p.stream ({ p with age := min 63 (p.age + 1) } : Packet).flits).pkg ∧ (d.switch die.val).inputs.get [] 5 = []) ∧
  (∀ (die : Fin 8) (i : Nat) (q : InjQueue) (p : Packet) (ps : List Packet) (now : Time) (s : State),
      (s.dev.switch die.val).promoted = none →
      (s.dev.switch die.val).detour = [] →
      (s.dev.switch die.val).inj = [(i, q)] →
      256 ≤ q.wait →
      q.q = p :: ps →
      Does (.injectionPromote die now) s fun d =>
        (d.switch die.val).promoted = some (i, { p with age := 0 }) ∧ (d.switch die.val).inj.get {} i = { q with q := ps, wait := 0 }) ∧
  (∀ (die : Fin 8) (table : List Byte) (now : Time) (s : State),
      s.dev.fab.retireAt = none →
      table.length = 16384 →
      Does (.routeStage die table now) s fun d =>
        (d.switch die.val).staged = true ∧ (∃ b, ((d.switch die.val).bank0 = b ∨ (d.switch die.val).bank1 = b) ∧ b.loaded = true ∧ b.computed = false ∧ b.epoch = (s.dev.fab.epoch + 1) % 4) ∧ d.out = s.dev.out ++ [.reply 0 0 0 []]) ∧
  (∀ (t : Time) (now : Time) (s : State),
      s.dev.fab.retireAt = none →
      s.dev.fab.armed = none →
      timeAhead (s.dev.advance now).time t (ms 1) = true →
      (List.range 8).all (fun k => (s.dev.switch k).staged) = true →
      Does (.routeArmTime t now) s fun d =>
        d.fab.armed = some t ∧ d.out = s.dev.out ++ [.reply 0 0 0 []]) ∧
  (∀ (t : Time) (now : Time) (s : State),
      (s.dev.fab.retireAt ≠ none ∨ s.dev.fab.armed ≠ none) →
      Does (.routeArmTime t now) s fun d =>
        d.fab = s.dev.fab ∧ d.out = s.dev.out ++ [.reply 0x0431 0 0 []]) ∧
  (∀ (t : Time) (now : Time) (s : State),
      s.dev.fab.armed = some t →
      timeLe t (s.dev.advance now).time = true →
      Does (.epochSwitch now) s fun d =>
        d.fab.epoch = (s.dev.fab.epoch + 1) % 4 ∧ d.fab.armed = none ∧ d.fab.retireAt = some (t + us (s.dev.cfgNat 0x0C80 3 200))) ∧
  (∀ (t : Time) (now : Time) (s : State),
      s.dev.fab.retireAt = some t →
      timeLe t (s.dev.advance now).time = true →
      Does (.epochRetire now) s fun d =>
        d.fab.retireAt = none ∧ ∀ k < 8, (d.switch k).staged = false ∧ ((s.dev.switch k).bank0.epoch ≠ s.dev.fab.epoch → (d.switch k).bank0 = {}) ∧ ((s.dev.switch k).bank1.epoch ≠ s.dev.fab.epoch → (d.switch k).bank1 = {}))

/-- The hub egress posts packets in pair order and settles them on acknowledgement, loss or refusal (R342, R357, R360, R361, R362, R363,
R261). -/
def Obligations.PairOrderAtTheSource : Prop :=
  (∀ (die : Fin 8) (q : Posted) (b : Bank) (now : Time) (s : State),
      s.dev.fab.egressWait.find? (fun x => (s.dev.out' x.p.dst).window.length < 8192) = some q →
      (s.dev.switch (q.queue die.val).1).bank s.dev.fab.epoch = some b →
      s.dev.entry (q.queue die.val).1 b q.p.dst ≠ 0 →
      (if (q.queue die.val).2 = 6 then s.dev.hubLinked (q.queue die.val).1 = true ∧ s.dev.injRoom (q.queue die.val).1 ≠ 0
        else ((s.dev.switch (q.queue die.val).1).inj.get {} (q.queue die.val).2).q.length < 8) →
      Does (.egressPost die now) s fun d =>
        d.fab.egressWait = s.dev.fab.egressWait.erase q ∧ (d.out' q.p.dst).next = (s.dev.out' q.p.dst).next + 1 ∧
          ∃ x, (d.out' q.p.dst).window = (s.dev.out' q.p.dst).window ++ [x] ∧ x.p.pseq = (s.dev.out' q.p.dst).next ∧ x.p.epoch = s.dev.fab.epoch ∧ x.p.sync = (s.dev.out' q.p.dst).sync ∧
            x.p.payload = q.p.payload ∧ x.p.addr = q.p.addr ∧ x.owner = q.owner ∧
            if (q.queue die.val).2 = 6 then d.pkg = (s.dev.toDie (q.queue die.val).1 x.p).pkg
            else ((d.switch (q.queue die.val).1).inj.get {} (q.queue die.val).2).q = ((s.dev.switch (q.queue die.val).1).inj.get {} (q.queue die.val).2).q ++ [x.p]) ∧
  (∀ (p : Packet) (q : Posted) (c id n : Nat) (e : TiqEntry) (now : Time) (s : State),
      p.ptype = 6 →
      (s.dev.ingress p now).2 = true →
      (s.dev.out' p.src).window = [q] →
      q.owner = .tensor c id →
      q.p.ptype = 1 →
      (s.dev.core c).entry? id = some e →
      e.waiting = [n] →
      (p.pseq - q.p.pseq).toNat < 32768 →
      Does (.pairAck p now) s fun d =>
        (d.out' p.src).window = [] ∧ (d.out' p.src).sync = false ∧ d.outcome c id = some e.first) ∧
  (∀ (p : Packet) (q : Posted) (c id n : Nat) (e : TiqEntry) (now : Time) (s : State),
      p.ptype = 7 →
      (s.dev.ingress p now).2 = true →
      (s.dev.out' p.src).window = [q] →
      q.owner = .tensor c id →
      q.p.ptype = 1 →
      (s.dev.core c).entry? id = some e →
      e.waiting = [n] →
      (q.p.pseq - p.pseq).toNat < bits p.xarg 15 0 →
      Does (.pairLoss p now) s fun d =>
        (d.out' p.src).window = [] ∧ d.outcome c id = some (e.first.merge 0x0420 (BitVec.ofNat 64 q.p.addr))) ∧
  (∀ (p : Packet) (q : Posted) (c id n : Nat) (e : TiqEntry) (now : Time) (s : State),
      p.ptype = 9 →
      (s.dev.ingress p now).2 = true →
      (s.dev.out' p.src).window = [q] →
      q.owner = .tensor c id →
      q.p.ptype = 1 →
      (s.dev.core c).entry? id = some e →
      e.waiting = [n] →
      q.p.pseq = p.pseq →
      Does (.refuse p now) s fun d =>
        (d.out' p.src).window = [] ∧ d.outcome c id = some (e.first.merge (BitVec.ofNat 16 (bits p.xarg 15 0)) (BitVec.ofNat 64 p.addr))) ∧
  (∀ (m : BitVec 14) (now : Time) (s : State),
      (s.dev.out' m).window.filter (fun q => reached (s.dev.advance now).time q.time (us 1200)) ≠ [] →
      Does (.sourceLossDeclare m now) s fun d =>
        (d.out' m).window = (s.dev.out' m).window.filter (fun q => !reached (s.dev.advance now).time q.time (us 1200)) ∧
          d.fab.lostTx = s.dev.fab.lostTx + ((s.dev.out' m).window.filter (fun q => reached (s.dev.advance now).time q.time (us 1200))).length)

/-- The ingress unit performs packets in pair order, holds those that come early, and reports its frontier and its gaps (R270, R230, R345,
R358, R359, R360, R361, R364). -/
def Obligations.PairOrderAtTheDestination : Prop :=
  (∀ (p : Packet) (now : Time) (s : State),
      p.ptype = 1 →
      (s.dev.ingress p now).2 = true →
      p.sync = false →
      (s.dev.inn' p.src).synced = true →
      (s.dev.inn' p.src).dist p.pseq = 1 →
      (s.dev.inn' p.src).held = [] →
      (s.dev.inn' p.src).gone = [] →
      Does (.bead p now) s fun d =>
        (d.inn' p.src).frontier = (s.dev.inn' p.src).frontier + 1 ∧ (d.inn' p.src).ackPending = true ∧ d.mem = ((s.dev.inSequence p now).applyBead p).mem ∧ d.cores = ((s.dev.inSequence p now).applyBead p).cores) ∧
  (∀ (p : Packet) (now : Time) (s : State),
      p.ptype = 1 →
      (s.dev.ingress p now).2 = true →
      p.sync = false →
      (s.dev.inn' p.src).synced = true →
      2 ≤ (s.dev.inn' p.src).dist p.pseq →
      (s.dev.inn' p.src).dist p.pseq ≤ 8192 →
      (s.dev.inn' p.src).held.any (·.pseq = p.pseq) = false →
      (s.dev.inn' p.src).gone.contains p.pseq.toNat = false →
      s.dev.fab.reorderBytes + p.size ≤ 8388608 →
      Does (.bead p now) s fun d =>
        (d.inn' p.src).held = (s.dev.inn' p.src).held ++ [p] ∧ (d.inn' p.src).frontier = (s.dev.inn' p.src).frontier ∧ d.mem = s.dev.mem) ∧
  (∀ (p : Packet) (who : Accessor) (now : Time) (s : State),
      p.ptype = 2 →
      (s.dev.ingress p now).2 = true →
      p.sync = false →
      (s.dev.inn' p.src).synced = true →
      (s.dev.inn' p.src).dist p.pseq = 1 →
      (s.dev.inn' p.src).held = [] →
      (s.dev.inn' p.src).gone = [] →
      (s.dev.inSequence p now).homeCheck p.pkey { w := true } p.addr 64 = .ok who →
      Does (.lineWb p now) s fun d =>
        (d.inn' p.src).frontier = (s.dev.inn' p.src).frontier + 1 ∧ (d.inn' p.src).ackPending = true ∧ d.mem = ((s.dev.inSequence p now).writePlain ((s.dev.inSequence p now).mpa who p.addr) (maskMerge p.xarg (s.dev.mem.mem.readBytes ((s.dev.inSequence p now).mpa who p.addr) 64) p.payload) (p.xarg = BitVec.allOnes 64) (p.pmask ≠ 0)).mem) ∧
  (∀ (p : Packet) (who : Accessor) (now : Time) (s : State),
      p.ptype = 3 →
      (s.dev.ingress p now).2 = true →
      p.sync = false →
      (s.dev.inn' p.src).synced = true →
      (s.dev.inn' p.src).dist p.pseq = 1 →
      (s.dev.inn' p.src).held = [] →
      (s.dev.inn' p.src).gone = [] →
      p.stream = 0 →
      (s.dev.inSequence p now).homeCheck p.pkey { r := true } p.addr (bits p.xarg 23 0) = .ok who →
      Does (.readReq p now) s fun d =>
        (d.inn' p.src).frontier = (s.dev.inn' p.src).frontier + 1 ∧ (d.inn' p.src).ackPending = true ∧ ∃ x, d.fab.hubOut = s.dev.fab.hubOut ++ [x] ∧ x.ptype = 4 ∧ x.dst = p.src ∧ x.payload = (s.dev.inSequence p now).readVa who (p.addr / 64 * 64) 64 ∧ bits x.xarg 31 24 = bits p.xarg 31 24) ∧
  (∀ (p : Packet) (now : Time) (s : State),
      p.ptype = 5 →
      (s.dev.ingress p now).2 = true →
      p.sync = false →
      (s.dev.inn' p.src).synced = true →
      (s.dev.inn' p.src).dist p.pseq = 1 →
      (s.dev.inn' p.src).held = [] →
      (s.dev.inn' p.src).gone = [] →
      ((s.dev.inSequence p now).signalApply (BitVec.ofNat 64 p.addr) p.xarg p.pkey (BitVec.ofNat 32 (leNat p.payload))).2 = 0 →
      Does (.pktSignal p now) s fun d =>
        (d.inn' p.src).frontier = (s.dev.inn' p.src).frontier + 1 ∧ (d.inn' p.src).ackPending = true ∧ d.mem = ((s.dev.inSequence p now).signalApply (BitVec.ofNat 64 p.addr) p.xarg p.pkey (BitVec.ofNat 32 (leNat p.payload))).1.mem ∧ d.coh = ((s.dev.inSequence p now).signalApply (BitVec.ofNat 64 p.addr) p.xarg p.pkey (BitVec.ofNat 32 (leNat p.payload))).1.coh) ∧
  (∀ (p : Packet) (c : Nat) (y : Core) (v : MemWait) (now : Time) (s : State),
      p.ptype = 4 →
      (s.dev.ingress p now).2 = true →
      p.stream = 0 →
      (s.dev.ingress p now).1.cores.first? (fun _ k => match k.sc.wait with | some w => w.tag = some (bits p.xarg 31 24) | none => false) = some (c, y) →
      y.sc.wait = some v →
      p.pmask = 0 →
      Does (.readResp p now) s fun d =>
        (d.core c).sc = { (s.dev.core c).sc.setReg v.toF v.rd (widenLoad v.size v.signed (lineBytes (leNat p.payload) (v.va % 64) v.size)) with wait := none }) ∧
  (∀ (p : Packet) (now : Time) (s : State),
      p.ptype = 8 →
      (s.dev.ingress p now).2 = true →
      bits p.xarg 15 0 = 1 →
      p.pseq = (s.dev.inn' p.src).frontier + 1 →
      (s.dev.inn' p.src).held = [] →
      (s.dev.inn' p.src).gone = [] →
      Does (.pairSkip p now) s fun d =>
        (d.inn' p.src).frontier = (s.dev.inn' p.src).frontier + 1 ∧ d.fab.lostRx = s.dev.fab.lostRx + 1 ∧ d.mem = s.dev.mem) ∧
  (∀ (m : BitVec 14) (now : Time) (s : State),
      (s.dev.inn' m).ackPending = true →
      Does (.pairAckSend m now) s fun d =>
        d.fab.hubOut = s.dev.fab.hubOut ++ [(s.dev.advance now).stamped { ptype := 6, tc := 2, dst := m, pkey := (s.dev.inn' m).pkey, pseq := (s.dev.inn' m).acked }] ∧ (d.inn' m).ackPending = false ∧ (d.inn' m).lastAck = some (s.dev.advance now).time) ∧
  (∀ (m : BitVec 14) (t a : Time) (now : Time) (s : State),
      (s.dev.inn' m).lastAck = some t →
      (s.dev.inn' m).lastAdvance = some a →
      reached (s.dev.advance now).time t (us 100) = true →
      timeLe (s.dev.advance now).time (a + us 1200) = true →
      Does (.pairAckRepeat m now) s fun d =>
        d.fab.hubOut = s.dev.fab.hubOut ++ [(s.dev.advance now).stamped { ptype := 6, tc := 2, dst := m, pkey := (s.dev.inn' m).pkey, pseq := (s.dev.inn' m).acked }] ∧ (d.inn' m).lastAck = some (s.dev.advance now).time) ∧
  (∀ (m : BitVec 14) (p : Packet) (now : Time) (s : State),
      (s.dev.inn' m).held = [p] →
      expired (s.dev.advance now).time p = true →
      Does (.pairGapLost m now) s fun d =>
        d.fab.hubOut.getLast? = some ((Dev.drainHeld m 16384 ((s.dev.advance now).markGone m ((s.dev.inn' m).frontier + 1) ((s.dev.inn' m).dist p.pseq - 1))).stamped { ptype := 7, tc := 2, dst := m, pkey := p.pkey, pseq := (s.dev.inn' m).frontier + 1, xarg := BitVec.ofNat 64 ((s.dev.inn' m).dist p.pseq - 1) }))

/-- SEND and RECV between modules, and management packets, have their stated effects (R224, R364, R514, R515, R516). -/
def Obligations.ManagementAndRemoteTransfers : Prop :=
  (∀ (core : Fin 512) (id : Nat) (errs : List EccEvent) (e : TiqEntry) (tdd tds rs : Nat) (ms : KMap BeadVal) (d0 d1 : Dev) (ps : List Packet)
      (now : Time) (s : State),
      (s.dev.advance now).eccHeld core.val id errs = d0 →
      d0.atWork core.val id e = true →
      e.instr = some (.send tdd tds rs) →
      e.waiting = [] →
      (d0.core core.val).sendBefore id = false →
      d0.mayRead core.val e = true →
      d0.streamRoom e.stream = true →
      d0.readBeads (d0.who core.val) (e.desc tds) (e.desc tds).copyBeads [] = (d1, .ok ms) →
      ps = ms.flatMap (fun p => beadRecordPackets (p.2.bytes (e.desc tds)) p.2.side p.2.pz { d1.transferBase core.val e 1 0 with addr := (e.desc tdd).base + (e.desc tds).sameBead (e.desc tdd) p.1 * (e.desc tdd).bstride }) →
      Does (.send core { id := id, errs := errs } now) s fun d =>
        d.fab.egressWait = d1.fab.egressWait ++ ps.map (fun p => { p := p, owner := .tensor core.val id }) ∧
          (d.fe.streams.get {} e.stream).inFlight = (d1.fe.streams.get {} e.stream).inFlight + 1 ∧ sameBytes d1 d) ∧
  (∀ (core : Fin 512) (id : Nat) (e : TiqEntry) (tdd tds rs : Nat) (now : Time) (s : State),
      s.dev.atWork core.val id e = true →
      e.instr = some (.recv tdd tds rs) →
      e.waiting = [] →
      (s.dev.advance now).mayWrite core.val e = true →
      s.dev.streamRoom e.stream = true →
      Does (.recv core id now) s fun d =>
        d.fab.recvs = s.dev.fab.recvs ++ [{ core := core.val, id := id, stream := e.stream, tag := s.dev.fab.nextReqTag % 256, lastReq := (s.dev.advance now).time, remaining := (e.desc tds).copyBeads }] ∧
          d.fab.egressWait.length = s.dev.fab.egressWait.length + (e.desc tds).copyBeads.length ∧ sameBytes s.dev d) ∧
  (∀ (core : Fin 512) (id : Nat) (o : RecvOp) (pos : Nat) (e : TiqEntry) (now : Time) (s : State),
      s.dev.fab.recvs.find? (fun r => r.core = core.val && r.id = id) = some o →
      reached (s.dev.advance now).time o.lastReq (us 1200) = true →
      s.dev.fab.egressWait.any (fun q => q.owner = .tensor core.val id) = false →
      o.remaining = [pos] →
      (s.dev.core core.val).entry? id = some e →
      Does (.recvTimeout core id now) s fun d =>
        d.outcome core.val id = some (e.first.merge 0x0420 0) ∧ d.fab.recvs = s.dev.fab.recvs.filter (fun r => !(r.core = core.val && r.id = id))) ∧
  (∀ (p : Packet) (env : WriteEnv) (y : Dev × List Byte) (now : Time) (s : State),
      (s.dev.ingress p now).2 = true →
      s.dev.boot.phase = 3 →
      bits p.xarg 7 0 = 1 →
      y = (s.dev.ingress p now).1.serveKept (.mgmt p.src) env 384 p.payload now →
      Does (.mgmt p env now) s fun d =>
        d.fab.hubOut = y.1.fab.hubOut ++ [y.1.stamped { ptype := 0x18, tc := 4, dst := p.src, xarg := 2, payload := y.2 }] ∧ d.mem = y.1.mem ∧ d.power = y.1.power ∧ d.boot = y.1.boot) ∧
  (∀ (p : Packet) (env : WriteEnv) (now : Time) (s : State),
      (s.dev.ingress p now).2 = true →
      s.dev.boot.phase = 3 →
      bits p.xarg 7 0 = 2 →
      Does (.mgmt p env now) s fun d =>
        d.dict.sent = s.dev.dict.sent.filter (fun k => !(k.peer = (Requester.mgmt p.src).code && k.txn = msgField p.payload 2 2)) ∧ d.mem = s.dev.mem ∧ d.cores = s.dev.cores) ∧
  (∀ (p : Packet) (env : WriteEnv) (now : Time) (s : State),
      (s.dev.ingress p now).2 = true →
      s.dev.boot.phase = 3 →
      bits p.xarg 7 0 ≠ 1 →
      bits p.xarg 7 0 ≠ 2 →
      Does (.mgmt p env now) s fun d =>
        d.mem = ((s.dev.ingress p now).1.service p now).mem ∧ d.cores = ((s.dev.ingress p now).1.service p now).cores ∧ d.parts = ((s.dev.ingress p now).1.service p now).parts ∧ d.fe = ((s.dev.ingress p now).1.service p now).fe)

/-- The journal region is registered, recovery gathers reports and decides, and replica digests are compared (R381, R388, R389, R390, R393,
R394). -/
def Obligations.JournalAndDigests : Prop :=
  (∀ (part : Fin 512) (base bytes : Word) (now : Time) (s : State),
      Does (.jrnRegionWrite part base bytes now) s fun d =>
        if (s.dev.advance now).regionBad part.val base bytes then (d.part part.val).jrn = (s.dev.part part.val).jrn ∧ d.out = s.dev.out ++ [.reply 0x0944 0 0 []]
        else (d.part part.val).jrn = { (s.dev.part part.val).jrn with base := base, bytes := bytes } ∧ d.out = s.dev.out ++ [.reply 0 0 0 []]) ∧
  (∀ (part : Fin 512) (now : Time) (s : State),
      s.dev.coordinator (s.dev.part part.val) = some s.dev.id →
      Does (.jrnCmdRecover part now) s fun d =>
        (d.part part.val).jrn.phase = 1 ∧ (∃ r ∈ (d.part part.val).jrn.reports, r.module = s.dev.id) ∧ d.out.getLast? = some (.reply 0 0 0 [])) ∧
  (∀ (part : Fin 512) (now : Time) (s : State),
      (s.dev.part part.val).jrn.phase = 1 →
      (s.dev.part part.val).modules.all (fun m => (s.dev.part part.val).jrn.reports.any (fun r => r.module = m)) = true →
      Does (.journalDecide part now) s fun d =>
        (d.part part.val).jrn.phase = 2 ∧ (d.part part.val).jrn.step = highestStep (s.dev.part part.val).jrn.reports ∧ (d.part part.val).jrn.decision = decideStep (s.dev.part part.val).jrn.reports (highestStep (s.dev.part part.val).jrn.reports)) ∧
  (∀ (part : Fin 512) (now : Time) (s : State),
      (s.dev.part part.val).jrn.phase = 2 →
      (s.dev.part part.val).jrn.replays = [] →
      Does (.journalFinish part now) s fun d =>
        (d.part part.val).jrn.phase = 3 ∧ (d.part part.val).jrn.lastStep = (s.dev.part part.val).jrn.step ∧ ((s.dev.part part.val).jrn.decision = 3 → (d.part part.val).job = (s.dev.part part.val).job.map (fun x => { x with contained := true }))) ∧
  (∀ (part : Fin 512) (answers : List (BitVec 14 × Option Word)) (n : Nat) (now : Time) (s : State),
      (s.dev.advance now).lastClosed part.val = some n →
      s.dev.isComparer part.val = true →
      (s.dev.part part.val).jrn.digestSteps ≠ 0 →
      (s.dev.part part.val).jrn.comparedStep + (s.dev.part part.val).jrn.digestSteps ≤ n →
      (s.dev.part part.val).jrn.tryAt = none →
      (∀ m ∈ (s.dev.part part.val).jrn.peers, m ≠ s.dev.id → (answers.find? (fun x => x.1 = m)).bind (fun x => x.2) = some ((s.dev.advance now).digestPost part.val n)) →
      Does (.digestCompare part answers now) s fun d =>
        (d.part part.val).jrn.digestLast = n ∧ (d.part part.val).jrn.comparedStep = n ∧ (d.part part.val).jrn.lastCompare = (s.dev.advance now).time) ∧
  (∀ (part : Fin 512) (answers : List (BitVec 14 × Option Word)) (n : Nat) (t : Time) (now : Time) (s : State),
      (s.dev.part part.val).jrn.tryAt = some t →
      (s.dev.advance now).lastClosed part.val = some n →
      reached (s.dev.advance now).time t (ms 10) = true →
      (∃ m ∈ (s.dev.part part.val).jrn.peers, m ≠ s.dev.id ∧ (answers.find? (fun x => x.1 = m)).bind (fun x => x.2) = none) →
      (s.dev.part part.val).jrn.tries < 9 →
      Does (.digestCompareRetry part answers now) s fun d =>
        (d.part part.val).jrn.tries = (s.dev.part part.val).jrn.tries + 1 ∧ (d.part part.val).jrn.tryAt = some (s.dev.advance now).time ∧ (d.part part.val).jrn.comparedStep = (s.dev.part part.val).jrn.comparedStep)

/-- Halyards are copied to their children, delivered in HSEQ order and repaired; a fill posts its range (R368, R369, R374, R375). -/
def Obligations.HalyardsAndFills : Prop :=
  (∀ (die : Fin 8) (input : Fin 7) (p : Packet) (now : Time) (s : State),
      bit ((s.dev.switch die.val).halyardTable.get 0 (bits p.xarg 7 0 % 64)) 15 = true →
      bits ((s.dev.switch die.val).halyardTable.get 0 (bits p.xarg 7 0 % 64)) 10 8 = input.val →
      p.crc = p.hcrc →
      (typeClass p.ptype).isSome = true →
      expired (s.dev.advance now).time p = false →
      (4 ≤ input.val ∨ s.dev.portAdmits (die.val * 4 + input.val) p.pkey = true) →
      (∀ o ∈ maskOuts (bits ((s.dev.switch die.val).halyardTable.get 0 (bits p.xarg 7 0 % 64)) 6 0), s.dev.outAdmits die.val p.pkey o = true ∧ ((s.dev.switch die.val).halyardQ.get [] o).length < 8) →
      Does (.halyard (some (die, input)) p now) s fun d =>
        ∀ o ∈ maskOuts (bits ((s.dev.switch die.val).halyardTable.get 0 (bits p.xarg 7 0 % 64)) 6 0), (d.switch die.val).halyardQ.get [] o = (s.dev.switch die.val).halyardQ.get [] o ++ [{ p with age := min 63 (p.age + 1) }]) ∧
  (∀ (p : Packet) (now : Time) (s : State),
      expired (s.dev.advance now).time p = false →
      p.hseq = (s.dev.haly (bits p.xarg 7 0 % 64)).nextSeq →
      (s.dev.haly (bits p.xarg 7 0 % 64)).held = [] →
      Does (.halyard none p now) s fun d =>
        (d.haly (bits p.xarg 7 0 % 64)).nextSeq = (s.dev.haly (bits p.xarg 7 0 % 64)).nextSeq + 1 ∧ (d.haly (bits p.xarg 7 0 % 64)).held = [] ∧ (d.haly (bits p.xarg 7 0 % 64)).root = p.src) ∧
  (∀ (p : Packet) (i : Nat) (now : Time) (s : State),
      expired (s.dev.advance now).time p = false →
      p.hseq = (s.dev.haly (bits p.xarg 7 0 % 64)).nextSeq →
      (s.dev.haly (bits p.xarg 7 0 % 64)).held = [] →
      p.pkey ≠ 0 →
      s.dev.keyHere p.pkey = true →
      p.stream = 1 →
      s.dev.partOfKey p.pkey = some i →
      (s.dev.checkExtent { part := i } { w := true } false p.addr (leNat (p.payload.take 8))).isOk = true →
      Does (.halyard none p now) s fun d =>
        (d.haly (bits p.xarg 7 0 % 64)).fill = some { part := i, dst := p.addr, bytes := leNat (p.payload.take 8), stride := leNat (p.payload.drop 8), next := p.addr, ok := true } ∧ sameBytes s.dev d) ∧
  (∀ (h : Nat) (t : Time) (p : Packet) (now : Time) (s : State),
      ((s.dev.advance now).haly h).gapSince = some t →
      ((s.dev.advance now).haly h).nearest = some p →
      reached (s.dev.advance now).time t (us 100) = true →
      ((s.dev.advance now).haly h).repairs < 4 →
      Does (.halyardGapRepair h now) s fun d =>
        (d.haly h).repairs = (s.dev.haly h).repairs + 1 ∧ (d.haly h).gapSince = some (s.dev.advance now).time ∧ ∃ x, d.fab.hubOut = s.dev.fab.hubOut ++ [x] ∧ x.ptype = 0x18 ∧ x.dst = (s.dev.haly h).root ∧ x.pkey = p.pkey) ∧
  (∀ (src : BitVec 14) (h : Nat) (first : BitVec 32) (count : Nat) (now : Time) (s : State),
      Does (.halyardRepairRequest src h first count now) s fun d =>
        d.fab.hubOut = s.dev.fab.hubOut ++ ((s.dev.fab.halyOut.get {} h).sent.filter (fun p => decide ((p.hseq - first).toNat < count))).map (fun p =>
            (s.dev.advance now).stamped { ptype := 0x18, tc := 4, dst := src, pkey := p.pkey, xarg := BitVec.ofNat 64 (0x51 + 5 * 256), payload := (p.repairWords.map (leBytes 8)).flatten ++ p.payload })) ∧
  (∀ (part : Fin 512) (req : List Byte) (now : Time) (s : State),
      leNat (req.take 1) < 64 →
      leNat ((req.drop 16).take 8) ≠ 0 →
      leNat ((req.drop 16).take 8) % ((s.dev.advance now).sideband ((s.dev.advance now).mpa { part := part.val } (leNat ((req.drop 8).take 8)))).size = 0 →
      (s.dev.checkExtent { part := part.val } { r := true } false (leNat ((req.drop 8).take 8)) (leNat ((req.drop 16).take 8))).isOk = true →
      Does (.fillReq part req now) s fun d =>
        d.out = s.dev.out ++ [.reply 0 0 0 []] ∧ sameBytes s.dev d ∧ ∃ x xs, d.fab.hubOut = s.dev.fab.hubOut ++ x :: xs ∧ x.ptype = 0x1A ∧ x.pkey = (s.dev.part part.val).key ∧ x.addr = leNat ((req.drop 24).take 8) ∧
            bits x.xarg 39 8 = (s.dev.fab.halyOut.get {} (leNat (req.take 1))).nextSeq.toNat)

/-- Engines wake, sleep and change level within grants, POWER_REQ and the pool (R31, R401, R402, R404, R405, R406). -/
def Obligations.PowerGrants : Prop :=
  (∀ (core : Fin 512) (unit : Fin 2) (now : Time) (s : State),
      s.dev.inService core.val = true →
      (if unit = 0 then (s.dev.corePower core.val).matrixOn else (s.dev.corePower core.val).vectorOn) = false →
      s.dev.power.wakes.any (fun x => x.unit = unit.val && x.core = core.val) = false →
      Does (.engineWake core unit now) s fun d =>
        d.power.wakes = s.dev.power.wakes ++ [{ core := core.val, unit := unit.val, cost := reefCost (s.dev.corePower core.val).row (unit.val + 1), time := (s.dev.advance now).time }]) ∧
  (∀ (q : WakeReq) (now : Time) (s : State),
      nsOf (s.dev.advance now).time % 100 = 0 →
      s.dev.power.wakes = [q] →
      (s.dev.advance now).reqRoom q.core q.cost = true →
      q.cost ≤ 96 →
      q.core < 512 →
      ((s.dev.advance now).grantRaise (q.core / 8) q.cost : Int) ≤ (s.dev.advance now).poolRoom →
      Does (.arbiterTick now) s fun d =>
        d.power.wakes = [] ∧ (d.clusterPower (q.core / 8)).grant = (s.dev.advance now).clusterGrant (q.core / 8) + (s.dev.advance now).grantRaise (q.core / 8) q.cost ∧
          (q.unit = 0 → (d.corePower q.core).matrixOn = true) ∧ (q.unit = 1 → (d.corePower q.core).vectorOn = true) ∧
          (q.unit = 2 → (d.corePower q.core).reef = q.level ∧ (d.corePower q.core).fll = reefClock q.level) ∧ (2 < q.unit → (d.corePower q.core).boost = true)) ∧
  (∀ (core : Fin 512) (unit : Fin 2) (now : Time) (s : State),
      (s.dev.core core.val).engineWork unit.val = false →
      reached (s.dev.advance now).time ((s.dev.core core.val).worked.get 0 unit.val) (us s.dev.power.holdUs) = true →
      Does (.engineSleep core unit now) s fun d =>
        (if unit = 0 then (d.corePower core.val).matrixOn else (d.corePower core.val).vectorOn) = false ∧ (d.clusterPower (core.val / 8)).grant = (s.dev.advance now).clusterGrant (core.val / 8)) ∧
  (∀ (cluster : Fin 64) (now : Time) (s : State),
      reached (s.dev.advance now).time (s.dev.clusterPower cluster.val).unusedAt (us s.dev.power.holdUs) = true →
      Does (.grantReturn cluster now) s fun d =>
        (d.clusterPower cluster.val).grant = ceilDiv ((s.dev.advance now).costOf (clusterCores cluster.val)) 8 ∧ d.power.wakes = s.dev.power.wakes) ∧
  (∀ (core : Fin 512) (now : Time) (s : State),
      (s.dev.corePower core.val).boost = false →
      (s.dev.corePower core.val).reef < (s.dev.advance now).levelAsked core.val →
      Does (.reefChange core now) s fun d =>
        (d.corePower core.val).reef = (s.dev.advance now).levelAsked core.val ∧ (d.corePower core.val).fll = reefClock ((s.dev.advance now).levelAsked core.val)) ∧
  (∀ (core : Fin 512) (now : Time) (s : State),
      (s.dev.corePower core.val).boost = false →
      (s.dev.advance now).levelAsked core.val < (s.dev.corePower core.val).reef →
      s.dev.power.wakes.any (fun x => decide (2 ≤ x.unit) && decide (x.core / 8 = core.val / 8)) = false →
      Does (.reefChange core now) s fun d =>
        (d.corePower core.val) = (s.dev.corePower core.val) ∧ ∃ x, d.power.wakes = s.dev.power.wakes ++ [x] ∧ x.core = core.val ∧ x.unit = 2 ∧ x.level = (s.dev.advance now).levelAsked core.val)

/-- Droop, temperature and enforcement raise and lower their levels (R409, R410, R411, R412). -/
def Obligations.DroopAndHeat : Prop :=
  (∀ (cluster : Fin 64) (now : Time) (s : State),
      (s.dev.clusterPower cluster.val).stretched = false →
      Does (.droopTrip cluster now) s fun d =>
        (d.clusterPower cluster.val).stretched = true ∧ (d.clusterPower cluster.val).stretchSince = (s.dev.advance now).time ∧ (s.dev.advance now).time ∈ (d.clusterPower cluster.val).droopTimes) ∧
  (∀ (cluster : Fin 64) (now : Time) (s : State),
      Does (.droopRelease cluster now) s fun d =>
        (d.clusterPower cluster.val).stretched = false ∧ (d.clusterPower cluster.val).droopLevel = (s.dev.clusterPower cluster.val).droopLevel) ∧
  (∀ (cluster : Fin 64) (now : Time) (s : State),
      (s.dev.clusterPower cluster.val).stretched = true →
      reached (s.dev.advance now).time (s.dev.clusterPower cluster.val).stretchSince (us 5) = true →
      Does (.droopReef cluster now) s fun d =>
        (d.clusterPower cluster.val).droopLevel = min 7 ((s.dev.clusterPower cluster.val).droopLevel + 1) ∧ (d.clusterPower cluster.val).escalated = (s.dev.advance now).time) ∧
  (∀ (cluster : Fin 64) (now : Time) (s : State),
      0 < (s.dev.clusterPower cluster.val).droopLevel →
      reached (s.dev.advance now).time (s.dev.clusterPower cluster.val).escalated (ms 10) = true →
      Does (.droopLevelDecay cluster now) s fun d =>
        (d.clusterPower cluster.val).droopLevel = (s.dev.clusterPower cluster.val).droopLevel - 1) ∧
  (∀ (cluster : Fin 64) (now : Time) (s : State),
      (s.dev.advance now).tReef.lt ((s.dev.advance now).clusterTemp cluster.val) = true →
      ((s.dev.clusterPower cluster.val).hot = false ∨ reached (s.dev.advance now).time (s.dev.clusterPower cluster.val).thermalAt (ms 1) = true) →
      Does (.thermalReef cluster now) s fun d =>
        (d.clusterPower cluster.val).thermal = min 7 ((s.dev.clusterPower cluster.val).thermal + 1) ∧ (d.clusterPower cluster.val).thermalAt = (s.dev.advance now).time) ∧
  (∀ (cluster : Fin 64) (now : Time) (s : State),
      ((s.dev.advance now).clusterTemp cluster.val).lt ((s.dev.advance now).tReef.sub (extNat 5)) = true →
      0 < (s.dev.clusterPower cluster.val).thermal →
      reached (s.dev.advance now).time (s.dev.clusterPower cluster.val).thermalAt (ms 10) = true →
      Does (.thermalDecay cluster now) s fun d =>
        (d.clusterPower cluster.val).thermal = (s.dev.clusterPower cluster.val).thermal - 1) ∧
  (∀ (t : Time) (now : Time) (s : State),
      s.dev.power.overSince = some t →
      s.dev.power.raisedAt = none →
      reached (s.dev.advance now).time t (ms 2) = true →
      Does (.powerEnvelopeExceeded now) s fun d =>
        d.power.enforcement = min 7 (s.dev.power.enforcement + 1) ∧ d.power.raisedAt = some (s.dev.advance now).time) ∧
  (∀ (now : Time) (s : State),
      (extNat 3600).lt (ofF32 s.dev.power.avg10.last) = true →
      (∀ t, s.dev.power.peakAt = some t → reached (s.dev.advance now).time t (us 10) = true) →
      Does (.powerPeakExceeded now) s fun d =>
        d.power.enforcement = min 7 (s.dev.power.enforcement + 2)) ∧
  (∀ (now : Time) (s : State),
      (extNat (95 * (s.dev.advance now).budgetEff)).lt ((extNat 100).mul (ofF32 s.dev.power.avg100.last)) = false →
      (extNat (s.dev.advance now).budgetEff).lt (ofF32 s.dev.power.avg1s.last) = false →
      0 < s.dev.power.enforcement →
      reached (s.dev.advance now).time s.dev.power.loweredAt (ms 10) = true →
      Does (.enforcementDecay now) s fun d =>
        d.power.enforcement = s.dev.power.enforcement - 1)

/-- Sensors are sampled at their periods, the coolant hold stops and restarts the compute dies, and the valve is controlled (R414, R415,
R416, R417, R420). -/
def Obligations.SensorsAndCooling : Prop :=
  (∀ (sensor : Fin 248) (v : BitVec 32) (now : Time) (s : State),
      nsOf (s.dev.advance now).time % sensorPeriod sensor.val = 0 →
      Does (.sensorSample sensor v true now) s fun d =>
        (d.power.sensors.get {} sensor.val).value = v ∧ (d.power.sensors.get {} sensor.val).time = (s.dev.advance now).time) ∧
  (∀ (sensor : Fin 248) (v : BitVec 32) (now : Time) (s : State),
      nsOf (s.dev.advance now).time % sensorPeriod sensor.val = 0 →
      Does (.sensorSample sensor v false now) s fun d =>
        (d.power.sensors.get {} sensor.val).failed = true ∧ (d.power.sensors.get {} sensor.val).value = (s.dev.power.sensors.get {} sensor.val).value) ∧
  (∀ (t : Time) (now : Time) (s : State),
      s.dev.power.dryFrom = some t →
      s.dev.power.coolantHold = false →
      reached (s.dev.advance now).time t (ms 1000) = true →
      Does (.coolantHold now) s fun d =>
        d.power.coolantHold = true ∧ d.mem.selfRefresh = true ∧ ∀ c < 512, s.dev.inService c = true → (d.rig c).state = .resetting) ∧
  (∀ (t : Time) (now : Time) (s : State),
      s.dev.power.wetFrom = some t →
      s.dev.power.coolantHold = true →
      reached (s.dev.advance now).time t (ms 5000) = true →
      Does (.coolantHoldRelease now) s fun d =>
        d.power.coolantHold = false ∧ d.mem.selfRefresh = false) ∧
  (∀ (now : Time) (s : State),
      nsOf (s.dev.advance now).time % 100000000 = 0 →
      s.dev.power.coolMode = 1 →
      s.dev.power.valveHot = false →
      s.dev.power.coolantFailed = false →
      s.dev.power.valveFaulty = false →
      (s.dev.advance now).hottest.lt ((s.dev.advance now).tReef.sub (extNat 10)) = true →
      Does (.valveControl now) s fun d =>
        d.power.valveCmd = s.dev.power.valveFixed ∧ d.power.valveHot = false)

/-- A set-up is staged, checked at its commit, and put in force whole at the switch (R431, R432, R433, R434). -/
def Obligations.ProtectionSetUp : Prop :=
  (∀ (setup : Setup) (now : Time) (s : State),
      Does (.protectStage setup now) s fun d =>
        d.sec.staged = some setup ∧ d.sec.setup = s.dev.sec.setup ∧ d.out = s.dev.out ++ [.reply 0 0 0 []]) ∧
  (∀ (expected : BitVec 384) (t : Time) (x : Setup) (now : Time) (s : State),
      s.dev.sec.reentry = none →
      expected = s.dev.sec.tableDigest →
      s.dev.sec.staged = some x →
      (s.dev.advance now).setupRefusal x = 0 →
      Does (.protectCommit expected t now) s fun d =>
        d.sec.reentry = some { setup := x, at' := t, changed := (List.range 512).filter ((s.dev.advance now).partChanged x) } ∧ d.sec.staged = none ∧
          d.sec.setup = s.dev.sec.setup ∧ d.sec.tableDigest = expected ∧ d.out.getLast? = some (.reply 0 0 0 [])) ∧
  (∀ (expected : BitVec 384) (t : Time) (now : Time) (s : State),
      s.dev.sec.reentry = none →
      expected ≠ s.dev.sec.tableDigest →
      Does (.protectCommit expected t now) s fun d =>
        d.sec = { s.dev.sec with lastCause := 0x0713 } ∧ d.out = s.dev.out ++ [.reply 0x0713 0 0 []]) ∧
  (∀ (expected : BitVec 384) (t : Time) (now : Time) (s : State),
      s.dev.sec.reentry.isSome = true →
      Does (.protectCommit expected t now) s fun d =>
        d.sec = { s.dev.sec with lastCause := 0x0715 } ∧ d.out = s.dev.out ++ [.reply 0x0715 0 0 []]) ∧
  (∀ (r : Reentry) (now : Time) (s : State),
      s.dev.sec.reentry = some r →
      r.at' = 0 ∨ timeLe r.at' (s.dev.advance now).time = true →
      Does (.protectSwitch now) s fun d =>
        d.sec.setup = r.setup ∧ d.sec.reentry = none ∧ d.sec.tableDigest = Config.sha384 r.setup.bytes ∧
          (∀ i < 32, (d.ports.get {} i).keyTable = r.setup.ports.get [] i)) ∧
  (∀ (r : Reentry) (now : Time) (s : State),
      s.dev.sec.reentry = some r →
      r.at' ≠ 0 →
      timeLe r.at' (s.dev.advance now).time = false →
      Does (.protectSwitch now) s fun d =>
        d.sec = s.dev.sec ∧ d.parts = s.dev.parts)

/-- A commit and a clearing reset leave no byte of SRAM of the cores that they clear (R431, R433, R470, R471). -/
def Obligations.ClearedMemoryIsZero : Prop :=
  (∀ (expected : BitVec 384) (t : Time) (x : Setup) (c a : Nat) (now : Time) (s : State),
      s.dev.sec.reentry = none →
      expected = s.dev.sec.tableDigest →
      s.dev.sec.staged = some x →
      (s.dev.advance now).setupRefusal x = 0 →
      c ∈ (s.dev.advance now).movedCores x →
      (stackBase c ≤ a ∧ a < stackBase c + 0x4000000) ∨ (scratchBase c ≤ a ∧ a < scratchBase c + 0x400000) →
      Does (.protectCommit expected t now) s fun d =>
        d.mem.mem.readByte a = 0 ∧ (d.core c).arms = [] ∧ (d.core c).tx.td = [] ∧ (d.core c).tx.tcs = []) ∧
  (∀ (r : BitVec 32) (x : RigReset) (c a : Nat) (now : Time) (s : State),
      s.dev.rst.running.find? (fun y => decide (y.part = none) && decide (y.rig = r)) = some x →
      r ≠ moduleRig s.dev.id →
      s.dev.drained x = true →
      x.dieTest = false →
      x.retain = false →
      s.dev.sec.held = [] →
      s.dev.fe.rings = [] →
      c < 512 →
      s.dev.domainHolds x c = true →
      (s.dev.rig c).state = .resetting →
      (stackBase c ≤ a ∧ a < stackBase c + 0x4000000) ∨ (scratchBase c ≤ a ∧ a < scratchBase c + 0x400000) →
      Does (.resetDrainDone r none now) s fun d =>
        d.mem.mem.readByte a = 0 ∧ (d.core c).arms = [] ∧ (d.core c).sc.x = [])

/-- Key slots are erased, consent is given and ends, hallmarks are produced and signets installed (R429, R434, R436, R437, R440). -/
def Obligations.KeysConsentHallmarksSignets : Prop :=
  (∀ (part : Fin 512) (slot : Nat) (now : Time) (s : State),
      s.dev.sec.reentry = none →
      (s.dev.part part.val).keySlots.contains slot = true →
      s.dev.mem.pages.any (fun r => r.2.slot = slot && r.2.refs ≠ 0) = false →
      (s.dev.sec.slots.get {} slot).gen < 0xFFFFFFFF →
      Does (.keyErase part slot now) s fun d =>
        (d.sec.slots.get {} slot).gen = (s.dev.sec.slots.get {} slot).gen + 1 ∧ d.mem.mem = s.dev.mem.mem ∧ d.out = s.dev.out ++ [.reply 0 0 0 []]) ∧
  (∀ (part : Fin 512) (slot : Nat) (now : Time) (s : State),
      s.dev.sec.reentry = none →
      (s.dev.part part.val).keySlots.contains slot = true →
      s.dev.mem.pages.any (fun r => r.2.slot = slot && r.2.refs ≠ 0) = true →
      Does (.keyErase part slot now) s fun d =>
        d.sec = s.dev.sec ∧ d.out = s.dev.out ++ [.reply 0x0718 0 0 []]) ∧
  (∀ (part : Fin 512) (slot : Nat) (now : Time) (s : State),
      s.dev.sec.reentry.isSome = true →
      Does (.keyErase part slot now) s fun d =>
        d.sec = { s.dev.sec with held := s.dev.sec.held ++ [.erase part.val slot] } ∧ d.out = s.dev.out) ∧
  (∀ (part : Fin 512) (t : List Byte) (now : Time) (s : State),
      Does (.consentToken part t now) s fun d =>
        d.fresh = s.dev.fresh + 1 ∧ (if (s.dev.advance now).tokenOk part.val t then d.out.getLast? = some (.reply 0 0 0 []) ∧ (d.part part.val).consent.set = decide (leNat ((t.drop 8).take 4) ≠ 0) ∧
            (d.part part.val).consent.scope = BitVec.ofNat 3 (leNat ((t.drop 8).take 4))
          else d.out = s.dev.out ++ [.reply 0x0730 0 0 []] ∧ (d.part part.val).consent.set = (s.dev.part part.val).consent.set ∧ (d.part part.val).consent.scope = (s.dev.part part.val).consent.scope)) ∧
  (∀ (part : Fin 512) (now : Time) (s : State),
      (s.dev.part part.val).consent.set = true →
      timeLe (s.dev.part part.val).consent.notAfter (s.dev.advance now).time = true →
      Does (.consentExpired part now) s fun d =>
        (d.part part.val).consent.set = false ∧ (d.part part.val).consent.scope = 0 ∧ ∀ c ∈ s.dev.partCores part.val, (d.core c).dbg = false) ∧
  (∀ (nonce : BitVec 256) (now : Time) (s : State),
      s.dev.sec.reentry = none →
      Does (.hallmarkReq nonce now) s fun d =>
        d.sec.hallmark = (s.dev.advance now).hallmarkOf 0 s.dev.parts.keys nonce ∧ d.out = s.dev.out ++ [.reply 0 0 0 []]) ∧
  (∀ (nonce : BitVec 256) (now : Time) (s : State),
      s.dev.sec.reentry.isSome = true →
      Does (.hallmarkReq nonce now) s fun d =>
        d.sec.held = s.dev.sec.held ++ [.hallmark nonce] ∧ d.sec.hallmark = s.dev.sec.hallmark ∧ d.out = s.dev.out) ∧
  (∀ (part : Fin 512) (nonce : BitVec 256) (now : Time) (s : State),
      s.dev.sec.reentry = none →
      Does (.hallmarkReqP part nonce now) s fun d =>
        (d.part part.val).hallmark = (s.dev.advance now).hallmarkOf 1 [part.val] nonce ∧ d.out = s.dev.out ++ [.reply 0 0 0 []]) ∧
  (∀ (b : List Byte) (now : Time) (s : State),
      Does (.signetInstall b now) s fun d =>
        match (s.dev.advance now).signetFeature b with
          | none => d.signetMask = s.dev.signetMask ∧ d.out = s.dev.out ++ [.reply 0x0720 0 0 []]
          | some f => if leNat ((b.drop 8).take 8) ≠ s.dev.boot.serial.toNat then d.signetMask = s.dev.signetMask ∧ d.out = s.dev.out ++ [.reply 0x0721 0 0 []]
            else if bit s.dev.signetMask (f - 1) then d.sec.signets = s.dev.sec.signets ∧ d.out = s.dev.out ++ [.reply 0 0 0 []]
            else if 16 ≤ s.dev.signetStore.length then d.sec.signets = s.dev.sec.signets ∧ d.out = s.dev.out ++ [.reply 0x0722 0 0 []]
            else d.sec.signets = s.dev.sec.signets ++ [b] ∧ d.signetMask = s.dev.signetMask ||| BitVec.ofNat 32 (2 ^ (f - 1)) ∧ d.out = s.dev.out ++ [.reply 0 0 0 []])

/-- Poisoned lines are tested, a contained job ends, and pending recoveries run (R447, R451, R454, R455, R461). -/
def Obligations.ScrubberAndRecoveries : Prop :=
  (∀ (a : Nat) (now : Time) (s : State),
      s.dev.rel.toTest = [.mem a] →
      Does (.scrubVisit [] [] now) s fun d =>
        d.rel.toTest = [] ∧ (a / 64) ∈ d.mem.poison ∧ ∀ k < 64, d.mem.mem.readByte (a / 64 * 64 + k) = 0) ∧
  (∀ (errs : List EccEvent) (fails : List EccSite) (now : Time) (s : State),
      Does (.scrubVisit errs fails now) s fun d =>
        d.rel.toTest = []) ∧
  (∀ (part : Fin 512) (j : Job) (now : Time) (s : State),
      (s.dev.part part.val).job = some j →
      j.contained = true →
      Does (.jobContainedEnd part now) s fun d =>
        (d.part part.val).job = none ∧ ∀ c < 512, ∀ r, (s.dev.core c).run = some r → r.part = part.val → (d.core c).run = none) ∧
  (∀ (r : Recovery) (now : Time) (s : State),
      s.dev.rel.running = some r →
      r.kind = 1 →
      r.works = [] →
      r.started = false →
      r.arg < 16384 →
      Does (.recoveryStart [] false now) s fun d =>
        bit (d.core (r.arg / 32)).retiredPairs (r.arg % 32) = true ∧ d.rel.running = s.dev.rel.waiting ∧ d.rel.waiting = none) ∧
  (∀ (r : Recovery) (now : Time) (s : State),
      s.dev.rel.running = some r →
      r.kind = 3 →
      r.works = [] →
      r.started = false →
      s.dev.mem.mapOut.contains r.arg = false →
      Does (.recoveryStart [] false now) s fun d =>
        d.mem.chanRetired.contains r.arg = true ∧ d.rel.running = s.dev.rel.waiting) ∧
  (∀ (r : Recovery) (now : Time) (s : State),
      s.dev.rel.running = some r →
      r.kind = 5 →
      r.works = [] →
      r.started = false →
      rigLevel r.domain < 2 →
      s.dev.rst.running = [] →
      Does (.recoveryStart [] false now) s fun d =>
        d.rel.running = some { r with started := true } ∧ d.rst.running = [{ rig := r.domain, cause := r.cause }] ∧
          ∀ c < 512, s.dev.inService c = true → rigHolds r.domain s.dev.id c = true → (d.rig c).state = .resetting) ∧
  (∀ (core : Fin 512) (now : Time) (s : State),
      s.dev.awaitsSpare core.val = true →
      s.dev.spareFree core.val = true →
      Does (.coreSpared core now) s fun d =>
        (d.core core.val).offline = false ∧ (d.core core.val).retiredPairs = 0 ∧ d.physical core.val = 64 + core.val % 64 / 16 ∧ (d.rig core.val).state ≠ .offline)

/-- A management pair that mismatches or loses its checker leaves its roles to its twin, and restarts or retires (R457, R458, R459, R460). -/
def Obligations.LockstepPairs : Prop :=
  (∀ (security : Bool) (now : Time) (s : State),
      (s.dev.pair security).inService = true →
      (s.dev.pair security).unchecked = false →
      Does (.lockstepSelftest security true now) s fun d =>
        (d.pair security).rotate = (s.dev.pair security).rotate + 1 ∧ (d.pair security).inService = true) ∧
  (∀ (security : Bool) (now : Time) (s : State),
      (s.dev.pair security).inService = true →
      (s.dev.pair security).unchecked = false →
      Does (.lockstepSelftest security false now) s fun d =>
        (d.pair security).unchecked = true ∧ (d.pair security).uncheckedSince = (s.dev.advance now).time) ∧
  (∀ (security : Bool) (now : Time) (s : State),
      (s.dev.pair security).inService = true →
      (s.dev.pair security).unchecked = false →
      Does (.lockstepMismatch security now) s fun d =>
        (d.pair security).inService = false ∧ (((s.dev.pair security).findings.filter (fun t => !reached (s.dev.advance now).time t (ms 86400000))).length < 2 → (d.pair security).restarting = true) ∧ (2 ≤ ((s.dev.pair security).findings.filter (fun t => !reached (s.dev.advance now).time t (ms 86400000))).length → (d.pair security).retired = true) ∧
          (s.dev.rel.secRole = security → s.dev.rel.sysRole ≠ security → d.rel.secRole = !security) ∧
          (s.dev.rel.sysRole = security → s.dev.rel.secRole ≠ security → d.rel.sysRole = !security)) ∧
  (∀ (security : Bool) (now : Time) (s : State),
      (s.dev.pair security).inService = true →
      (s.dev.pair security).unchecked = false →
      Does (.lockstepCheckerFault security now) s fun d =>
        (d.pair security).inService = true ∧ (d.pair security).unchecked = true ∧ (d.pair security).uncheckedSince = (s.dev.advance now).time ∧
          (s.dev.rel.secRole = security → s.dev.rel.sysRole ≠ security → d.rel.secRole = !security) ∧
          (s.dev.rel.sysRole = security → s.dev.rel.secRole ≠ security → d.rel.sysRole = !security)) ∧
  (∀ (security : Bool) (done : Bool) (now : Time) (s : State),
      (s.dev.pair security).unchecked = true →
      done = true ∨ reached (s.dev.advance now).time (s.dev.pair security).uncheckedSince (ms 100) = true →
      Does (.uncheckedPairExit security done now) s fun d =>
        (d.pair security).inService = false ∧ (d.pair security).unchecked = false ∧ ((s.dev.pair security).retired = false → (d.pair security).restarting = true)) ∧
  (∀ (security : Bool) (now : Time) (s : State),
      (s.dev.pair security).restarting = true →
      Does (.pairRestartDone security true now) s fun d =>
        (d.pair security).inService = true ∧ (d.pair security).restarting = false ∧ (security = true → d.rel.secRole = true) ∧ (security = false → d.rel.sysRole = false)) ∧
  (∀ (security : Bool) (now : Time) (s : State),
      (s.dev.pair security).restarting = true →
      Does (.pairRestartDone security false now) s fun d =>
        (d.pair security).inService = false ∧ (d.pair security).restarting = false ∧ (d.pair security).retired = true)

/-- Test packs are checked and stored, run on idle cores and count what they find (R463, R464, R465). -/
def Obligations.TestPacks : Prop :=
  (∀ (b : List Byte) (now : Time) (s : State),
      Does (.testpackPush true b now) s fun d =>
        if (s.dev.advance now).packOk b then d.out.getLast? = some (.reply 0 0 0 []) ∧ (match s.dev.packSlot b with
            | some k => d.rel.packs.find? k = some { header := b.take 256, image := b.drop 256, serial := s.dev.rel.packSerial }
            | none => d.rel.packs = s.dev.rel.packs)
          else d.rel.packs = s.dev.rel.packs ∧ d.out = s.dev.out ++ [.reply 0x0871 0 0 []]) ∧
  (∀ (slot : Nat) (core : Fin 512) (idleMs : Nat) (t : TestPack) (now : Time) (s : State),
      s.dev.rel.packs.find? slot = some t →
      (s.dev.advance now).packEligible t core.val idleMs = true →
      Does (.testpackRun slot core idleMs now) s fun d =>
        d.rel.testing.find? core.val = some { slot := slot, since := (s.dev.advance now).time } ∧ d.rel.packs = s.dev.rel.packs) ∧
  (∀ (core : Fin 512) (result : BitVec 384) (r : TestRun) (t : TestPack) (now : Time) (s : State),
      s.dev.rel.testing.find? core.val = some r →
      s.dev.rel.packs.find? r.slot = some t →
      result = BitVec.ofNat 384 (packField t.header 0x50 48) →
      nsBetween r.since (s.dev.advance now).time ≤ packField t.header 0x10 2 * 1000000 →
      Does (.testpackRunEnd core true result 0 now) s fun d =>
        (d.rel.packs.get {} r.slot).runs = t.runs + 1 ∧ (d.rel.packs.get {} r.slot).fails = t.fails ∧ d.rel.testing.find? core.val = none) ∧
  (∀ (core : Fin 512) (ecall0 : Bool) (result : BitVec 384) (finding : Cause) (r : TestRun) (t : TestPack) (now : Time) (s : State),
      s.dev.rel.testing.find? core.val = some r →
      s.dev.rel.packs.find? r.slot = some t →
      ecall0 = false ∨ finding ≠ 0 ∨ result ≠ BitVec.ofNat 384 (packField t.header 0x50 48) →
      Does (.testpackRunEnd core ecall0 result finding now) s fun d =>
        (d.rel.packs.get {} r.slot).runs = t.runs + 1 ∧ (d.rel.packs.get {} r.slot).fails = t.fails + 1 ∧ (d.rel.packs.get {} r.slot).lastFail = coreRig s.dev.id core.val ∧
          d.rel.testing.find? core.val = none)

/-- A partition reset begins and a drained reset ends as its steps state (R470, R471, R480, R481). -/
def Obligations.ResetsOfRigsAndPartitions : Prop :=
  (∀ (part : Fin 512) (now : Time) (s : State),
      s.dev.rst.running = [] →
      Does (.partReset part 1 now) s fun d =>
        d.rst.running = [{ rig := moduleRig s.dev.id, part := some part.val }] ∧ (∀ c ∈ s.dev.partCores part.val, (d.rig c).state = .resetting) ∧ d.out.getLast? = some (.reply 0 0 0 [])) ∧
  (∀ (part : Fin 512) (value : Nat) (now : Time) (s : State),
      value ≠ 1 →
      Does (.partReset part value now) s fun d =>
        d.rst = s.dev.rst ∧ d.out = s.dev.out ++ [.reply 0x0163 0 0 []]) ∧
  (∀ (r : BitVec 32) (x : RigReset) (now : Time) (s : State),
      s.dev.rst.running.find? (fun y => decide (y.part = none) && decide (y.rig = r)) = some x →
      r ≠ moduleRig s.dev.id →
      s.dev.drained x = true →
      x.dieTest = false →
      Does (.resetDrainDone r none now) s fun d =>
        ∀ c < 512, s.dev.domainHolds x c = true → (s.dev.rig c).state = .resetting →
          (d.rig c).state = (if x.pendingQuiesce || (s.dev.rig c).quiescing then .quiesced else .idle) ∧ (d.rig c).resetCount = (s.dev.rig c).resetCount + 1) ∧
  (∀ (part : Fin 512) (r : BitVec 32) (x : RigReset) (now : Time) (s : State),
      s.dev.rst.running.find? (fun y => decide (y.part = some part.val)) = some x →
      s.dev.drained x = true →
      x.dieTest = false →
      s.dev.sec.held = [] →
      Does (.resetDrainDone r (some part) now) s fun d =>
        (d.part part.val).job = none ∧ d.rst.running.any (fun y => decide (y.part = some part.val) && decide (y.rig = x.rig)) = false)

/-- A module reset ends, announcements and failures are taken in, and hang rounds report (R470, R474, R476, R477, R478). -/
def Obligations.ModuleResetsAndFailures : Prop :=
  (∀ (badChans : List (Fin 16)) (x : RigReset) (now : Time) (s : State),
      s.dev.rst.running.find? (fun y => y.part.isNone && decide (y.rig = moduleRig s.dev.id)) = some x →
      s.dev.hubDrained = true →
      Does (.moduleReset badChans now) s fun d =>
        d.rst.running = [] ∧ d.sec.reentry = none ∧ (∀ p ∈ s.dev.parts.keys, (d.part p).job = none) ∧ d.coh.copies = [] ∧ d.boot.activeB = s.dev.boot.nextB) ∧
  (∀ (module : BitVec 14) (now : Time) (s : State),
      Does (.resetAnnounce module now) s fun d =>
        (d.rst.watch.get {} module.toNat).announced = some (s.dev.advance now).time ∧ d.rst.failed = s.dev.rst.failed) ∧
  (∀ (module : BitVec 14) (now : Time) (s : State),
      (s.dev.advance now).watches module = true →
      s.dev.rst.failed.contains module.toNat = false →
      (s.dev.advance now).failDue module = true →
      Does (.moduleFailTimeout module now) s fun d =>
        d.rst.failed.contains module.toNat = true ∧ d.fab.inn.find? module.toNat = none) ∧
  (∀ (module : BitVec 14) (now : Time) (s : State),
      s.dev.rst.failed.contains module.toNat = false →
      Does (.moduleFailedReceive module now) s fun d =>
        d.rst.failed.contains module.toNat = true ∧ d.fab.inn.find? module.toNat = none) ∧
  (∀ (part : Fin 512) (others : List HangReport) (unchanged : Bool) (now : Time) (s : State),
      nsOf (s.dev.advance now).time % 1000000 = 0 →
      Does (.hangReportRound part others unchanged now) s fun d =>
        (d.part part.val).hang.closed = ((s.dev.advance now).hangReport part.val).closed ∧ (d.part part.val).hang.blocked = ((s.dev.advance now).hangReport part.val).blocked) ∧
  (∀ (part : Fin 512) (unchanged : Bool) (now : Time) (s : State),
      nsOf (s.dev.advance now).time % 1000000 = 0 →
      (s.dev.part part.val).modules = [s.dev.id] →
      ((s.dev.advance now).hangReport part.val).closed = true →
      ((s.dev.advance now).hangReport part.val).blocked ≠ 0 →
      (s.dev.part part.val).hang.lastRound = some [(s.dev.id.toNat, (s.dev.part part.val).hang.events)] →
      Does (.hangReportRound part [] unchanged now) s fun d =>
        (d.part part.val).hang.declared = true ∧ ((s.dev.part part.val).hang.action ≠ 1 → d.cores = s.dev.cores))

/-- Firmware images are checked, stored, chosen and made the floor; the census assigns IDs and counts the modules (R484, R485, R487, R489,
R491). -/
def Obligations.FirmwareAndCensus : Prop :=
  (∀ (b : List Byte) (here bcast : Bool) (now : Time) (s : State),
      Does (.fwPush b here bcast now) s fun d =>
        if (s.dev.advance now).fwOk b = false then d.boot = { s.dev.boot with fwCause := 0x0740 }
          else if fwField b 6 2 < s.dev.boot.svn.get 0 (fwField b 4 1) then d.boot = { s.dev.boot with fwCause := 0x0741 }
          else (if s.dev.boot.activeB then d.boot.bankA else d.boot.bankB).find? (fwField b 4 1) =
            some { valid := true, version := fwField b 8 4, svn := fwField b 6 2, digest := Config.sha384 b }) ∧
  (∀ (v : Nat) (now : Time) (s : State),
      Does (.fwActivate v now) s fun d =>
        if v ≤ 1 then d.boot = { s.dev.boot with nextB := decide (v = 1) } ∧ d.out = s.dev.out ++ [.reply 0 0 0 []] else d.boot = s.dev.boot ∧ d.out = s.dev.out ++ [.reply 0x0163 0 0 []]) ∧
  (∀ (now : Time) (s : State),
      Does (.fwSvnCommit 1 now) s fun d =>
        ∀ k, k = 1 ∨ k = 2 ∨ k = 3 → d.boot.svn.get 0 k =
          (match s.dev.boot.stageImage k with | some x => max (s.dev.boot.svn.get 0 k) (min 64 x.svn) | none => s.dev.boot.svn.get 0 k)) ∧
  (∀ (b : List Byte) (now : Time) (s : State),
      s.dev.boot.phase = 3 →
      s.dev.boot.censusState = 2 →
      s.dev.boot.stageImage 3 = none →
      Does (.b3Fetch b now) s fun d =>
        if (s.dev.advance now).fwOk b = true ∧ fwField b 4 1 = 3 ∧ s.dev.boot.svn.get 0 3 ≤ fwField b 6 2 then d.boot.b3Fetched = true ∧
            (if s.dev.boot.activeB then d.boot.bankA else d.boot.bankB).find? 3 = some { valid := true, version := fwField b 8 4, svn := fwField b 6 2, digest := Config.sha384 b }
          else d.boot = { s.dev.boot with fwCause := 0x0740 }) ∧
  (∀ (t : Time) (now : Time) (s : State),
      s.dev.boot.firstActive = some t →
      s.dev.boot.censusOrigin = true →
      s.dev.boot.moduleId = 0xFFFF →
      reached (s.dev.advance now).time t (ms 100) = true →
      s.dev.ports.any (fun p => decide (p.2.state = .active) && p.2.peerAssigned) = false →
      Does (.censusOriginTimeout now) s fun d =>
        d.boot.moduleId = 0 ∧ d.boot.censusState = 1) ∧
  (∀ (port : Fin 32) (src : BitVec 14) (now : Time) (s : State),
      (s.dev.port port.val).cableBad = false →
      Does (.censusClaim port src now) s fun d =>
        d.boot.childPorts.contains port.val = true ∧ d.boot.children.contains src.toNat = true) ∧
  (∀ (es : List CensusEntry) (now : Time) (s : State),
      s.dev.boot.moduleId ≠ 0xFFFF →
      s.dev.boot.parentPort = none →
      s.dev.tm.root = s.dev.id →
      Does (.censusSummary es now) s fun d =>
        d.boot.systemModules = es.length + 1 ∧ d.boot.summarySeen = true) ∧
  (∀ (es : List CensusEntry) (now : Time) (s : State),
      s.dev.boot.parentPort.isSome = true →
      Does (.censusSummary es now) s fun d =>
        d.boot.systemModules = es.length ∧ d.boot.summarySeen = true)

/-- A configuration is staged, armed, cancelled, discarded, switched to and adopted from the parent (R497, R498, R499, R504). -/
def Obligations.ConfigurationEpochs : Prop :=
  (∀ (b : List Byte) (here pf : Bool) (epoch : Nat) (es : List (Nat × Nat × List Byte)) (flag : Bool) (now : Time) (s : State),
      s.dev.cfg.armed = none →
      imageOf b = some (epoch, es, flag) →
      epoch = s.dev.cfg.force.epoch + 1 →
      es.all (fun e => match findObj e.1 e.2.1 with | some o => decide (o.acc = .sl) && !o.moduleScope && decide (o.check e.2.2 = 0) | none => false) = true →
      Does (.configPush b here pf now) s fun d =>
        d.cfg = { s.dev.cfg with lastCause := 0, staged := some (ConfigImage.closed { epoch := epoch, values := es.foldl (fun m e => m.set (objKey e.1 e.2.1) e.2.2) s.dev.cfg.force.values }) }) ∧
  (∀ (b : List Byte) (here pf : Bool) (now : Time) (s : State),
      s.dev.cfg.armed.isSome = true ∨ imageOf b = none ∨ ∃ epoch es flag, imageOf b = some (epoch, es, flag) ∧ (epoch ≠ s.dev.cfg.force.epoch + 1 ∨ es.all (fun e => match findObj e.1 e.2.1 with | some o => decide (o.acc = .sl) && !o.moduleScope && decide (o.check e.2.2 = 0) | none => false) = false) →
      Does (.configPush b here pf now) s fun d =>
        d.cfg = { s.dev.cfg with lastCause := if s.dev.cfg.armed.isSome then 0x0972 else 0x0970 }) ∧
  (∀ (index : BitVec 16) (sub : BitVec 8) (v : List Byte) (o : ObjDef) (now : Time) (s : State),
      findObj index.toNat sub.toNat = some o →
      o.acc = .sl →
      s.dev.cfg.armed = none →
      o.check v = 0 →
      Does (.sealObjectWrite index sub v now) s fun d =>
        (∃ x, d.cfg.staged = some x ∧ x.values.find? (objKey index.toNat sub.toNat) = some v ∧ x.epoch = (s.dev.cfg.staged.getD { s.dev.cfg.force with epoch := s.dev.cfg.force.epoch + 1 }).epoch) ∧ d.cfg.force = s.dev.cfg.force ∧ d.out = s.dev.out ++ [.reply 0 0 0 []]) ∧
  (∀ (b : List Byte) (here : Bool) (x : ConfigImage) (now : Time) (s : State),
      s.dev.cfg.staged = some x →
      leNat (b.take 8) = x.epoch →
      BitVec.ofNat 384 (leNat ((b.drop 16).take 48)) = x.sealDigest →
      timeAhead (s.dev.advance now).time (BitVec.ofNat 64 (leNat ((b.drop 8).take 8))) (ms 1) = true →
      s.dev.cfg.armed = none →
      torusDiffers x s.dev.cfg.force = false ∨ s.dev.partsHere = false →
      Does (.configArm b here now) s fun d =>
        d.cfg = { s.dev.cfg with lastCause := 0, armed := some (BitVec.ofNat 64 (leNat ((b.drop 8).take 8))), switchTime := BitVec.ofNat 64 (leNat ((b.drop 8).take 8)) }) ∧
  (∀ (t : Time) (now : Time) (s : State),
      s.dev.cfg.armed = some t →
      Does (.configCancel 1 now) s fun d =>
        if timeAhead (s.dev.advance now).time t (ms 1) then d.cfg = { s.dev.cfg with lastCause := 0, armed := none } ∧ d.out = s.dev.out ++ [.reply 0 0 0 []]
          else d.cfg = { s.dev.cfg with lastCause := 0x0972 } ∧ d.out = s.dev.out ++ [.reply 0x0972 0 0 []]) ∧
  (∀ (now : Time) (s : State),
      s.dev.cfg.armed = none →
      Does (.configDiscard 1 now) s fun d =>
        d.cfg = { s.dev.cfg with lastCause := 0, staged := none } ∧ d.out = s.dev.out ++ [.reply 0 0 0 []]) ∧
  (∀ (t : Time) (x : ConfigImage) (now : Time) (s : State),
      s.dev.cfg.armed = some t →
      s.dev.cfg.staged = some x →
      timeLe t (s.dev.advance now).time = true →
      Does (.configSwitch now) s fun d =>
        d.cfg = { s.dev.cfg with force := x, previous := some s.dev.cfg.force, staged := none, armed := none, switchTime := t }) ∧
  (∀ (t : Time) (now : Time) (s : State),
      s.dev.cfg.armed = some t →
      timeLe t (s.dev.advance now).time = false →
      Does (.configSwitch now) s fun d =>
        d.cfg = s.dev.cfg) ∧
  (∀ (force : ConfigImage) (staged : Option ConfigImage) (armed : Option Time) (now : Time) (s : State),
      s.dev.boot.parentPort.isSome = true →
      s.dev.boot.parentMatch = false →
      (systemScope force s.dev.cfg.force).epoch ≠ s.dev.cfg.force.epoch →
      Does (.configSynced force staged armed now) s fun d =>
        d.cfg.force = systemScope force s.dev.cfg.force ∧ d.cfg.staged = staged.map (fun x => systemScope x s.dev.cfg.force) ∧ d.cfg.armed = armed)

/-- An input below 40 V for 1 ms sets a floor of level 7 and raises 0x0603; above 41 V for 100 ms it clears (R413). -/
def Obligations.InputUndervoltage : Prop :=
  (∀ (v : BitVec 32) (now : Time) (s : State),
      nsOf (s.dev.advance now).time % sensorPeriod 0 = 0 →
      (ofF32 v).lt (extNat 40) = true →
      Does (.sensorSample 0 v true now) s fun d =>
        d.power.lowSince = some (s.dev.power.lowSince.getD (s.dev.advance now).time)) ∧
  (∀ (v : BitVec 32) (now : Time) (s : State),
      nsOf (s.dev.advance now).time % sensorPeriod 0 = 0 →
      (ofF32 v).lt (extNat 40) = false →
      Does (.sensorSample 0 v true now) s fun d =>
        d.power.lowSince = none) ∧
  (∀ (v : BitVec 32) (now : Time) (s : State),
      nsOf (s.dev.advance now).time % sensorPeriod 0 = 0 →
      (extNat 41).lt (ofF32 v) = true →
      Does (.sensorSample 0 v true now) s fun d =>
        d.power.highSince = some (s.dev.power.highSince.getD (s.dev.advance now).time)) ∧
  (∀ (v : BitVec 32) (now : Time) (s : State),
      nsOf (s.dev.advance now).time % sensorPeriod 0 = 0 →
      (extNat 41).lt (ofF32 v) = false →
      Does (.sensorSample 0 v true now) s fun d =>
        d.power.highSince = none) ∧
  (∀ (t : Time) (now : Time) (s : State),
      s.dev.power.lowSince = some t →
      s.dev.power.undervolt = false →
      reached (s.dev.advance now).time t (ms 1) = true →
      Does (.powerInputUndervolt now) s fun d =>
        (∀ c, 7 ≤ d.levelAsked c) ∧ d.fe = (({ (s.dev.advance now) with power := { s.dev.power with undervolt := true } } : Dev).notice 0x0603 0 0 0).fe) ∧
  (∀ (t : Time) (now : Time) (s : State),
      s.dev.power.highSince = some t →
      reached (s.dev.advance now).time t (ms 100) = true →
      Does (.undervoltClear now) s fun d =>
        d.power.undervolt = false ∧ d.inputFloor = (if s.dev.power.inputFailed then 3 else 0))

/-- A valve more than 10 points off its command for 5 s raises 0x0633 and is commanded to 100 % (R418). -/
def Obligations.ValveFault : Prop :=
  (∀ (v : BitVec 32) (now : Time) (s : State),
      nsOf (s.dev.advance now).time % sensorPeriod 247 = 0 →
      (extNat 10).lt (((ofF32 v).sub (ofF32 s.dev.power.valveCmd)).abs) = true →
      Does (.sensorSample 247 v true now) s fun d =>
        d.power.valveOffSince = some (s.dev.power.valveOffSince.getD (s.dev.advance now).time)) ∧
  (∀ (v : BitVec 32) (now : Time) (s : State),
      nsOf (s.dev.advance now).time % sensorPeriod 247 = 0 →
      (extNat 10).lt (((ofF32 v).sub (ofF32 s.dev.power.valveCmd)).abs) = false →
      Does (.sensorSample 247 v true now) s fun d =>
        d.power.valveOffSince = none) ∧
  (∀ (t : Time) (now : Time) (s : State),
      s.dev.power.valveOffSince = some t →
      reached (s.dev.advance now).time t (ms 5000) = true →
      Does (.valveFault now) s fun d =>
        d.power.valveCmd = 0x42C80000 ∧ d.power.valveOffSince = none ∧ d.power.valveFaulty = true ∧
          d.fe = (({ (s.dev.advance now) with power := { s.dev.power with valveCmd := 0x42C80000, valveOffSince := none, valveFaulty := true } } : Dev).notice 0x0633 2 0 0).fe)

/-- TXFAULT latches the first fault of a committed tensor instruction, counts the others, and a write clears it (R196). -/
def Obligations.TxfaultLatchesTheFirstFault : Prop :=
  (∀ (core : Fin 512) (id : Nat) (e : TiqEntry) (r : Completion) (now : Time) (s : State),
      (s.dev.core core.val).entry? id = some e →
      e.committed = true →
      e.done = some r →
      r.cause ≠ 0 →
      bit (s.dev.core core.val).tx.txfault 63 = false →
      Does (.tensorComplete core id now) s fun d =>
        bit (d.core core.val).tx.txfault 63 = true ∧ bit (d.core core.val).tx.txfault 62 = false ∧ bits (d.core core.val).tx.txfault 57 56 = e.unitCode ∧ bits (d.core core.val).tx.txfault 52 48 = e.slotNo ∧
          bits (d.core core.val).tx.txfault 47 32 = r.cause.toNat ∧ bits (d.core core.val).tx.txfault 15 0 = min (bits (s.dev.core core.val).tx.txfault 15 0 + 1) 0xFFFF) ∧
  (∀ (core : Fin 512) (id : Nat) (e : TiqEntry) (r : Completion) (now : Time) (s : State),
      (s.dev.core core.val).entry? id = some e →
      e.committed = true →
      e.done = some r →
      r.cause ≠ 0 →
      bit (s.dev.core core.val).tx.txfault 63 = true →
      Does (.tensorComplete core id now) s fun d =>
        (d.core core.val).tx.txfault = setBits (setBits (s.dev.core core.val).tx.txfault 62 62 1) 15 0 (min (bits (s.dev.core core.val).tx.txfault 15 0 + 1) 0xFFFF)) ∧
  (∀ (core : Fin 512) (id : Nat) (e : TiqEntry) (r : Completion) (now : Time) (s : State),
      (s.dev.core core.val).entry? id = some e →
      e.committed = true →
      e.done = some r →
      r.cause = 0 →
      Does (.tensorComplete core id now) s fun d =>
        (d.core core.val).tx.txfault = (s.dev.core core.val).tx.txfault) ∧
  (∀ (p : Prog) (rd : Fin 32) (now : Time) (s : State),
      (s.dev.core p.core.val).commits = true →
      s.dev.goesOn p now →
      Does (.txfaultWrite p rd now) s fun d =>
        (d.core p.core.val).tx.txfault = 0)

/-- A step runs the command at the front of the queue with the rest left waiting. That an empty queue idles is the model's choice (log entry
2); the block has no rule on it, and R9 and R11 say how the spec's sentences are read. -/
def Obligations.StepRunsTheFrontCommand : Prop :=
  (∀ (c : Instr) (rest : List Instr) (d : Dev), step { dev := d, pending := c :: rest } = exec c { dev := d, pending := rest }) ∧
  (∀ s : State, s.pending = [] → step s = .next s)

/-- The state after reset: no power, no ID, nothing configured, nothing waiting, memory with nothing listed (R486, R489, R495, R196, R285). -/
def Obligations.ResetState : Prop :=
  State.reset.pending = [] ∧ State.reset.dev.boot.phase = 0 ∧ State.reset.dev.pins.pwrGood = false ∧ State.reset.dev.boot.moduleId = 0xFFFF ∧
    State.reset.dev.boot.censusState = 0 ∧ State.reset.dev.fe.queues = [] ∧ State.reset.dev.parts = [] ∧ State.reset.dev.cfg.staged = none ∧
    State.reset.dev.cfg.armed = none ∧ State.reset.dev.cfg.force.epoch = 0 ∧ State.reset.dev.mem.mem = [] ∧
    ∀ c, (State.reset.dev.core c).tx.txfault = 0 ∧ (State.reset.dev.core c).tiq = [] ∧ (State.reset.dev.core c).arms = []

/-- The state after reset keeps memory in its canonical form and every version current (R510). -/
def Obligations.ResetMeetsTheInvariants : Prop :=
  memoryCanonical State.reset ∧ versionsCurrent State.reset

/-- Every step keeps memory in its one canonical form: rising addresses, no byte listed that an unlisted address reads as (R246, R249). -/
def Obligations.MemoryStaysCanonical : Prop :=
  Invariant memoryCanonical

/-- Every step leaves each kept version tag counting the value that its object shows then (R510). -/
def Obligations.VersionsStayCurrent : Prop :=
  Invariant versionsCurrent

/-- Queue, stream, notice and host-link commands keep memory, every core and the rest of the module (R283, R292, R297, R303, R306, R310,
R525, R530). -/
def Obligations.FrontEndAndHostFrame : Prop :=
  (∀ (part : Fin 512) (func : Fin 4097) (desc : List Byte) (now : Time), Keeps (.queueCreate part func desc now) (fun d => (d.mem, d.cores, d.coh, d.rigs, d.ports, d.pkg, d.power, d.sec, d.rel, d.rst, d.boot, d.cfg, d.dict.values, d.pins))) ∧
  (∀ (part : Fin 512) (handle : Nat) (now : Time), Keeps (.queueDestroy part handle now) (fun d => (d.mem, d.cores, d.coh, d.rigs, d.ports, d.pkg, d.power, d.sec, d.rel, d.rst, d.boot, d.cfg, d.dict.values, d.pins))) ∧
  (∀ (part : Fin 512) (dest : BitVec 14) (now : Time), Keeps (.streamOpen part dest now) (fun d => (d.mem, d.cores, d.coh, d.rigs, d.fab, d.ports, d.pkg, d.power, d.sec, d.rel, d.rst, d.boot, d.cfg, d.dict.values, d.pins))) ∧
  (∀ (part : Fin 512) (handle : Word) (now : Time), Keeps (.streamClose part handle now) (fun d => (d.mem, d.cores, d.coh, d.rigs, d.fab, d.ports, d.pkg, d.power, d.sec, d.rel, d.rst, d.boot, d.cfg, d.dict.values, d.pins))) ∧
  (∀ (now : Time), Keeps (.schedWindowEnd now) (fun d => (d.mem, d.cores, d.coh, d.rigs, d.fab, d.ports, d.pkg, d.power, d.sec, d.rel, d.rst, d.boot, d.cfg, d.dict.values, d.pins))) ∧
  (∀ (queue : Fin 4096) (now : Time), Keeps (.queueUrgent queue now) (fun d => (d.mem, d.cores, d.coh, d.rigs, d.fab, d.ports, d.pkg, d.power, d.sec, d.rel, d.rst, d.boot, d.cfg, d.dict.values, d.pins))) ∧
  (∀ (k : IdKind) (n : Nat) (now : Time), Keeps (.idQuarantineEnd k n now) (fun d => (d.mem, d.cores, d.coh, d.rigs, d.fab, d.ports, d.pkg, d.power, d.sec, d.rel, d.rst, d.boot, d.cfg, d.dict.values, d.pins))) ∧
  (∀ (queue : Fin 4096) (now : Time), Keeps (.cqHeadPoll queue now) (fun d => (d.mem, d.cores, d.coh, d.rigs, d.fab, d.ports, d.pkg, d.power, d.sec, d.rel, d.rst, d.boot, d.cfg, d.dict.values, d.pins))) ∧
  (∀ (func : Fin 4097) (member : Fin 64) (queue : Fin 4096) (w : Word) (now : Time), Keeps (.doorbellSqTail func member queue w now) (fun d => (d.mem, d.cores, d.coh, d.rigs, d.fab, d.ports, d.pkg, d.power, d.sec, d.rel, d.rst, d.boot, d.cfg, d.dict.values, d.pins))) ∧
  (∀ (func : Fin 4097) (member : Fin 64) (queue : Fin 4096) (w : Word) (now : Time), Keeps (.doorbellCqHead func member queue w now) (fun d => (d.mem, d.cores, d.coh, d.rigs, d.fab, d.ports, d.pkg, d.power, d.sec, d.rel, d.rst, d.boot, d.cfg, d.dict.values, d.pins))) ∧
  (∀ (part : Option (Fin 512)) (f : RingField) (now : Time), Keeps (.noticeRingConfig part f now) (fun d => (d.mem, d.cores, d.coh, d.rigs, d.fab, d.ports, d.pkg, d.power, d.sec, d.rel, d.rst, d.boot, d.cfg, d.dict.values, d.pins))) ∧
  (∀ (func : Fin 4097) (w : Word) (now : Time), Keeps (.noticeRingDoorbell func w now) (fun d => (d.mem, d.cores, d.coh, d.rigs, d.fab, d.ports, d.pkg, d.power, d.sec, d.rel, d.rst, d.boot, d.cfg, d.dict.values, d.pins))) ∧
  (∀ (ring : Nat) (now : Time), Keeps (.noticeFlush ring now) (fun d => (d.mem, d.cores, d.coh, d.rigs, d.fab, d.ports, d.pkg, d.power, d.sec, d.rel, d.rst, d.boot, d.cfg, d.dict.values, d.pins))) ∧
  (∀ (queue : Fin 4096) (now : Time), Keeps (.msixHoldoffExpire queue now) (fun d => (d.mem, d.cores, d.coh, d.rigs, d.fab, d.ports, d.pkg, d.power, d.sec, d.rel, d.rst, d.boot, d.cfg, d.dict.values, d.pins))) ∧
  (∀ (queue : Fin 4096) (host : HostRead) (now : Time), Keeps (.entryFetch queue host now) (fun d => (d.mem, d.cores, d.coh, d.rigs, d.ports, d.pkg, d.power, d.sec, d.rel, d.rst, d.boot, d.cfg, d.dict.values, d.pins))) ∧
  (∀ (queue : Fin 4096) (now : Time), Keeps (.feQueueStay queue now) (fun d => (d.mem, d.cores, d.coh, d.rigs, d.fab, d.ports, d.pkg, d.power, d.sec, d.rel, d.rst, d.boot, d.cfg, d.dict.values, d.pins))) ∧
  (∀ (queue : Fin 4096) (now : Time), Keeps (.pcieCompletionTimeout queue now) (fun d => (d.mem, d.cores, d.coh, d.rigs, d.ports, d.pkg, d.power, d.sec, d.rel, d.rst, d.boot, d.cfg, d.dict.values, d.pins))) ∧
  (∀ (func : Fin 4097) (off n tag : Nat) (now : Time), Keeps (.apertureRead func off n tag [] now) (fun d => (d.mem, d.cores, d.coh, d.rigs, d.ports, d.pkg, d.power, d.sec, d.rel, d.rst, d.boot, d.cfg, d.dict.values, d.pins))) ∧
  (∀ (func : Fin 4097) (off n tag : Nat) (errs : List EccEvent) (now : Time), Keeps (.apertureRead func off n tag errs now) (fun d => (d.power, d.boot, d.cfg))) ∧
  (∀ (h : HostFwd) (now : Time), Keeps (.hostFwdDoorbell h now) (fun d => (d.mem, d.cores, d.coh, d.rigs, d.fab, d.ports, d.pkg, d.power, d.sec, d.rel, d.rst, d.boot, d.cfg, d.dict.values, d.pins))) ∧
  (∀ (h : HostFwd) (now : Time), Keeps (.hostFwdNotice h now) (fun d => (d.mem, d.cores, d.coh, d.rigs, d.fab, d.ports, d.pkg, d.power, d.sec, d.rel, d.rst, d.boot, d.cfg, d.dict.values, d.pins))) ∧
  (∀ (h : HostFwd) (now : Time), Keeps (.hostFwdApertureRead h [] now) (fun d => (d.mem, d.cores, d.coh, d.rigs, d.ports, d.pkg, d.power, d.sec, d.rel, d.rst, d.boot, d.cfg, d.dict.values, d.pins))) ∧
  (∀ (h : HostFwd) (errs : List EccEvent) (now : Time), Keeps (.hostFwdApertureRead h errs now) (fun d => (d.power, d.boot, d.cfg))) ∧
  (∀ (width rate : Nat) (now : Time), Keeps (.perstNDeassert width rate now) (fun d => (d.mem, d.cores, d.coh, d.rigs, d.ports, d.pkg, d.power, d.sec, d.rel, d.rst, d.boot, d.cfg, d.pins))) ∧
  (∀ (func : Fin 4097) (now : Time), Keeps (.busMasterDisable func now) (fun d => (d.mem, d.cores, d.coh, d.rigs, d.ports, d.pkg, d.power, d.sec, d.rel, d.rst, d.boot, d.cfg, d.pins))) ∧
  (∀ (func : Fin 4097) (w : Word) (now : Time), Keeps (.apertureCtrlWrite func w now) (fun d => (d.mem, d.cores, d.coh, d.rigs, d.ports, d.pkg, d.power, d.sec, d.rel, d.rst, d.boot, d.cfg, d.pins))) ∧
  (∀ (width rate : Nat) (now : Time), Keeps (.pcieLinkUp width rate now) (fun d => (d.mem, d.cores, d.coh, d.rigs, d.ports, d.pkg, d.power, d.sec, d.rel, d.rst, d.boot, d.cfg, d.pins))) ∧
  (∀ (perst : Bool) (now : Time), Keeps (.pcieReset perst now) (fun d => (d.mem, d.cores, d.coh, d.rigs, d.ports, d.pkg, d.power, d.sec, d.rel, d.rst, d.boot, d.cfg, d.pins))) ∧
  (∀ (func : Fin 4097) (now : Time), Keeps (.vfFlr func now) (fun d => (d.mem, d.cores, d.coh, d.rigs, d.ports, d.pkg, d.power, d.sec, d.rel, d.rst, d.boot, d.cfg, d.pins))) ∧
  (∀ (now : Time), Keeps (.pfFlr now) (fun d => (d.mem, d.cores, d.coh, d.rigs, d.ports, d.pkg, d.power, d.sec, d.rel, d.rst, d.boot, d.cfg, d.pins))) ∧
  (∀ (here : Bool) (value : Nat) (now : Time), Keeps (.anchorTakeover here value now) (fun d => (d.mem, d.cores, d.coh, d.rigs, d.ports, d.pkg, d.power, d.sec, d.rel, d.rst, d.boot, d.cfg, d.pins))) ∧
  (∀ (now : Time), Keeps (.anchorLinkDownTimeout now) (fun d => (d.mem, d.cores, d.coh, d.rigs, d.ports, d.pkg, d.power, d.sec, d.rel, d.rst, d.boot, d.cfg, d.pins))) ∧
  (∀ (member : Fin 64) (fseq : BitVec 32) (now : Time), Keeps (.apertureResendTimeout member fseq now) (fun d => (d.mem, d.cores, d.coh, d.rigs, d.ports, d.pkg, d.power, d.sec, d.rel, d.rst, d.boot, d.cfg, d.pins))) ∧
  (∀ (h : HostFwd) (now : Time), Keeps (.hostFwdApertureCompletion h now) (fun d => (d.mem, d.cores, d.coh, d.rigs, d.ports, d.pkg, d.power, d.sec, d.rel, d.rst, d.boot, d.cfg, d.pins))) ∧
  (∀ (h : HostFwd) (now : Time), Keeps (.hostFwdDictResponse h now) (fun d => (d.mem, d.cores, d.coh, d.rigs, d.ports, d.pkg, d.power, d.sec, d.rel, d.rst, d.boot, d.cfg, d.pins))) ∧
  (∀ (peer txn : Nat) (now : Time), Keeps (.multicastResponseDelay peer txn now) (fun d => (d.mem, d.cores, d.coh, d.rigs, d.ports, d.pkg, d.power, d.sec, d.rel, d.rst, d.boot, d.cfg, d.pins))) ∧
  (∀ (peer txn : Nat) (now : Time), Keeps (.dictRequestRetry peer txn now) (fun d => (d.mem, d.cores, d.coh, d.rigs, d.ports, d.pkg, d.power, d.sec, d.rel, d.rst, d.boot, d.cfg, d.pins))) ∧
  (∀ (func : Fin 4097) (done overrun : Bool) (now : Time), Keeps (.mbxDoneClear func done overrun now) (fun d => (d.mem, d.cores, d.coh, d.rigs, d.ports, d.pkg, d.power, d.sec, d.rel, d.rst, d.boot, d.cfg, d.pins))) ∧
  (∀ (now : Time), Keeps (.dictSegmentTimeout now) (fun d => (d.mem, d.cores, d.coh, d.rigs, d.ports, d.pkg, d.power, d.sec, d.rel, d.rst, d.boot, d.cfg, d.pins)))

/-- Frames, training, retrains, width changes and link time keep memory, every core, the package, power, security and the configuration
(R315, R318, R323, R326, R333, R336, R338). -/
def Obligations.LinkFrame : Prop :=
  (∀ (port : Fin 32) (now : Time), Keeps (.linkLockLost port now) (fun d => (d.mem, d.cores, d.coh, d.rigs, d.pkg, d.power, d.sec, d.cfg, d.dict.values, d.pins))) ∧
  (∀ (port : Fin 32) (ok : Bool) (now : Time), Keeps (.equalizeDone port ok now) (fun d => (d.mem, d.cores, d.rigs, d.pkg, d.power, d.sec, d.cfg, d.dict.values, d.pins))) ∧
  (∀ (port : Fin 32) (b : Ident) (now : Time), Keeps (.ident port b now) (fun d => (d.mem, d.cores, d.rigs, d.pkg, d.power, d.sec, d.cfg, d.dict.values, d.pins))) ∧
  (∀ (port : Fin 32) (now : Time), Keeps (.identResend port now) (fun d => (d.mem, d.cores, d.coh, d.rigs, d.pkg, d.power, d.sec, d.cfg, d.dict.values, d.pins))) ∧
  (∀ (port : Fin 32) (serial : BitVec 64) (reason : Nat) (now : Time), Keeps (.retrainReq port serial reason now) (fun d => (d.mem, d.cores, d.coh, d.rigs, d.pkg, d.power, d.sec, d.cfg, d.dict.values, d.pins))) ∧
  (∀ (port : Fin 32) (now : Time), Keeps (.retrainReqResend port now) (fun d => (d.mem, d.cores, d.coh, d.rigs, d.pkg, d.power, d.sec, d.cfg, d.dict.values, d.pins))) ∧
  (∀ (port : Fin 32) (group : BitVec 32) (now : Time), Keeps (.retrainAccept port group now) (fun d => (d.mem, d.cores, d.coh, d.rigs, d.pkg, d.power, d.sec, d.cfg, d.dict.values, d.pins))) ∧
  (∀ (port : Fin 32) (lanes : BitVec 4) (group : BitVec 32) (now : Time), Keeps (.widthAccept port lanes group now) (fun d => (d.mem, d.cores, d.coh, d.rigs, d.pkg, d.power, d.sec, d.cfg, d.dict.values, d.pins))) ∧
  (∀ (port : Fin 32) (lanes : BitVec 4) (now : Time), Keeps (.widthPropose port lanes now) (fun d => (d.mem, d.cores, d.coh, d.rigs, d.pkg, d.power, d.sec, d.cfg, d.dict.values, d.pins))) ∧
  (∀ (port : Fin 32) (group : BitVec 32) (now : Time), Keeps (.retrainSwitchGroup port group now) (fun d => (d.mem, d.cores, d.coh, d.rigs, d.pkg, d.power, d.sec, d.cfg, d.dict.values, d.pins))) ∧
  (∀ (port : Fin 32) (now : Time), Keeps (.retrainDone port now) (fun d => (d.mem, d.cores, d.coh, d.rigs, d.pkg, d.power, d.sec, d.cfg, d.dict.values, d.pins))) ∧
  (∀ (port : Fin 32) (now : Time), Keeps (.linkCmdDisable port now) (fun d => (d.mem, d.cores, d.rigs, d.pkg, d.power, d.sec, d.cfg, d.dict.values, d.pins))) ∧
  (∀ (port : Fin 32) (now : Time), Keeps (.linkCmdRetrain port now) (fun d => (d.mem, d.cores, d.coh, d.rigs, d.pkg, d.power, d.sec, d.cfg, d.dict.values, d.pins))) ∧
  (∀ (port : Fin 32) (now : Time), Keeps (.linkCmdFullTrain port now) (fun d => (d.mem, d.cores, d.rigs, d.pkg, d.power, d.sec, d.cfg, d.dict.values, d.pins))) ∧
  (∀ (port : Fin 32) (now : Time), Keeps (.linkCmdEnable port now) (fun d => (d.mem, d.cores, d.coh, d.rigs, d.pkg, d.power, d.sec, d.cfg, d.dict.values, d.pins))) ∧
  (∀ (port : Fin 32) (now : Time), Keeps (.peerSignalDetect port now) (fun d => (d.mem, d.cores, d.coh, d.rigs, d.pkg, d.power, d.sec, d.cfg, d.dict.values, d.pins))) ∧
  (∀ (port : Fin 32) (now : Time), Keeps (.linkRetryTimeout port now) (fun d => (d.mem, d.cores, d.coh, d.rigs, d.pkg, d.power, d.sec, d.cfg, d.dict.values, d.pins))) ∧
  (∀ (port : Fin 32) (own peer : BitVec 4) (now : Time), Keeps (.laneTestDone port own peer now) (fun d => (d.mem, d.cores, d.rigs, d.pkg, d.power, d.sec, d.cfg, d.dict.values, d.pins))) ∧
  (∀ (port : Fin 32) (lanes : List (Nat × Nat)) (bad total : Nat) (now : Time), Keeps (.laneSerWindowEnd port lanes bad total now) (fun d => (d.mem, d.cores, d.coh, d.rigs, d.pkg, d.power, d.sec, d.cfg, d.dict.values, d.pins))) ∧
  (∀ (port : Fin 32) (group : BitVec 32) (now : Time), Keeps (.widthSwitchGroup port group now) (fun d => (d.mem, d.cores, d.rigs, d.pkg, d.power, d.sec, d.cfg, d.dict.values, d.pins))) ∧
  (∀ (port : Fin 32) (bs : List Byte) (now : Time), Keeps (.linkIdleFrame port bs now) (fun d => (d.mem, d.cores, d.coh, d.rigs, d.pkg, d.power, d.sec, d.cfg, d.dict.values, d.pins))) ∧
  (∀ (port : Fin 32) (bs : List Byte) (now : Time), Keeps (.linkDataFrame port bs now) (fun d => (d.mem, d.cores, d.coh, d.rigs, d.pkg, d.power, d.sec, d.cfg, d.dict.values, d.pins))) ∧
  (∀ (port : Fin 32) (now : Time), Keeps (.linkReplayTimeout port now) (fun d => (d.mem, d.cores, d.coh, d.rigs, d.pkg, d.power, d.sec, d.cfg, d.dict.values, d.pins))) ∧
  (∀ (port : Fin 32) (bs : List Byte) (now : Time), Keeps (.groupMarker port bs now) (fun d => (d.mem, d.cores, d.coh, d.rigs, d.pkg, d.power, d.sec, d.cfg, d.dict.values, d.pins))) ∧
  (∀ (port : Fin 32) (bseq : BitVec 16) (ttx : Time) (echoSeq : BitVec 16) (echoRx : Time) (root : BitVec 14) (hops : BitVec 8) (wraps : BitVec 16) (now : Time), Keeps (.beacon port bseq ttx echoSeq echoRx root hops wraps now) (fun d => (d.mem, d.cores, d.coh, d.rigs, d.pkg, d.power, d.sec, d.cfg, d.dict.values, d.pins))) ∧
  (∀ (port : Fin 32) (now : Time), Keeps (.beaconSend port now) (fun d => (d.mem, d.cores, d.coh, d.rigs, d.pkg, d.power, d.sec, d.cfg, d.dict.values, d.pins))) ∧
  (∀ (port : Fin 32) (epoch : Nat) (cfg link : BitVec 384) (ttx now : Time), Keeps (.sealFrame port epoch cfg link ttx now) (fun d => (d.mem, d.cores, d.coh, d.rigs, d.pkg, d.power, d.sec, d.cfg, d.dict.values, d.pins))) ∧
  (∀ (port : Fin 32) (now : Time), Keeps (.sealSend port now) (fun d => (d.mem, d.cores, d.coh, d.rigs, d.pkg, d.power, d.sec, d.cfg, d.dict.values, d.pins))) ∧
  (∀ (port : Fin 32) (now : Time), Keeps (.keyAgreeDone port now) (fun d => (d.mem, d.cores, d.coh, d.rigs, d.pkg, d.power, d.sec, d.cfg, d.dict.values, d.pins)))

/-- Power, droop, heat, sensor, cooling and sequencing commands keep memory, every core, the fabric and the configuration (R404, R406, R409,
R411, R412, R413, R417, R418). -/
def Obligations.PowerAndSensorFrame : Prop :=
  (∀ (core : Fin 512) (unit : Fin 2) (now : Time), Keeps (.engineWake core unit now) (fun d => (d.mem, d.cores, d.coh, d.rigs, d.fab, d.ports, d.pkg, d.sec, d.rst, d.boot, d.cfg, d.dict.values))) ∧
  (∀ (core : Fin 512) (unit : Fin 2) (now : Time), Keeps (.engineSleep core unit now) (fun d => (d.mem, d.cores, d.coh, d.rigs, d.fab, d.ports, d.pkg, d.sec, d.rst, d.boot, d.cfg, d.dict.values))) ∧
  (∀ (cluster : Fin 64) (now : Time), Keeps (.grantReturn cluster now) (fun d => (d.mem, d.cores, d.coh, d.rigs, d.fab, d.ports, d.pkg, d.sec, d.rst, d.boot, d.cfg, d.dict.values))) ∧
  (∀ (core : Fin 512) (now : Time), Keeps (.reefChange core now) (fun d => (d.mem, d.cores, d.coh, d.rigs, d.fab, d.ports, d.pkg, d.sec, d.rst, d.boot, d.cfg, d.dict.values))) ∧
  (∀ (now : Time) (k : Nat), Keeps (.arbiterTick now) (fun d => ((d.core k).sc, (d.core k).tx, (d.core k).tiq, (d.core k).run))) ∧
  (∀ (now : Time), Keeps (.arbiterTick now) (fun d => (d.mem, d.coh, d.rigs, d.fab, d.ports, d.pkg, d.sec, d.rst, d.boot, d.cfg, d.dict.values))) ∧
  (∀ (cluster : Fin 64) (now : Time), Keeps (.droopTrip cluster now) (fun d => (d.mem, d.cores, d.coh, d.rigs, d.fab, d.ports, d.pkg, d.sec, d.rst, d.boot, d.cfg, d.dict.values))) ∧
  (∀ (cluster : Fin 64) (now : Time), Keeps (.droopRelease cluster now) (fun d => (d.mem, d.cores, d.coh, d.rigs, d.fab, d.ports, d.pkg, d.sec, d.rst, d.boot, d.cfg, d.dict.values))) ∧
  (∀ (cluster : Fin 64) (now : Time), Keeps (.droopReef cluster now) (fun d => (d.mem, d.cores, d.coh, d.rigs, d.fab, d.ports, d.pkg, d.sec, d.rst, d.boot, d.cfg, d.dict.values))) ∧
  (∀ (cluster : Fin 64) (now : Time), Keeps (.droopLevelDecay cluster now) (fun d => (d.mem, d.cores, d.coh, d.rigs, d.fab, d.ports, d.pkg, d.sec, d.rst, d.boot, d.cfg, d.dict.values))) ∧
  (∀ (cluster : Fin 64) (now : Time), Keeps (.thermalReef cluster now) (fun d => (d.mem, d.cores, d.coh, d.rigs, d.fab, d.ports, d.pkg, d.sec, d.rst, d.boot, d.cfg, d.dict.values))) ∧
  (∀ (cluster : Fin 64) (now : Time), Keeps (.thermalDecay cluster now) (fun d => (d.mem, d.cores, d.coh, d.rigs, d.fab, d.ports, d.pkg, d.sec, d.rst, d.boot, d.cfg, d.dict.values))) ∧
  (∀ (now : Time), Keeps (.powerEnvelopeExceeded now) (fun d => (d.mem, d.cores, d.coh, d.rigs, d.fab, d.ports, d.pkg, d.sec, d.rst, d.boot, d.cfg, d.dict.values))) ∧
  (∀ (now : Time), Keeps (.powerPeakExceeded now) (fun d => (d.mem, d.cores, d.coh, d.rigs, d.fab, d.ports, d.pkg, d.sec, d.rst, d.boot, d.cfg, d.dict.values))) ∧
  (∀ (now : Time), Keeps (.enforcementDecay now) (fun d => (d.mem, d.cores, d.coh, d.rigs, d.fab, d.ports, d.pkg, d.sec, d.rst, d.boot, d.cfg, d.dict.values))) ∧
  (∀ (now : Time), Keeps (.powerInputUndervolt now) (fun d => (d.mem, d.cores, d.coh, d.rigs, d.fab, d.ports, d.pkg, d.sec, d.rst, d.boot, d.cfg, d.dict.values))) ∧
  (∀ (now : Time), Keeps (.undervoltClear now) (fun d => (d.mem, d.cores, d.coh, d.rigs, d.fab, d.ports, d.pkg, d.sec, d.rst, d.boot, d.cfg, d.dict.values))) ∧
  (∀ (now : Time), Keeps (.valveControl now) (fun d => (d.mem, d.cores, d.coh, d.rigs, d.fab, d.ports, d.pkg, d.sec, d.rst, d.boot, d.cfg, d.dict.values))) ∧
  (∀ (now : Time), Keeps (.valveFault now) (fun d => (d.mem, d.cores, d.coh, d.rigs, d.fab, d.ports, d.pkg, d.sec, d.rst, d.boot, d.cfg, d.dict.values))) ∧
  (∀ (sensor : Fin 248) (v : BitVec 32) (ok : Bool) (now : Time), Keeps (.sensorSample sensor v ok now) (fun d => (d.mem, d.cores, d.coh, d.rigs, d.fab, d.ports, d.pkg, d.sec, d.rst, d.boot, d.cfg, d.dict.values))) ∧
  (∀ (now : Time), Keeps (.timeHoldover now) (fun d => (d.mem, d.cores, d.coh, d.rigs, d.fab, d.ports, d.pkg, d.sec, d.rst, d.boot, d.cfg, d.dict.values))) ∧
  (∀ (now : Time), Keeps (.fabricTimeWrap now) (fun d => (d.mem, d.cores, d.coh, d.rigs, d.fab, d.ports, d.pkg, d.sec, d.rst, d.boot, d.cfg, d.dict.values))) ∧
  (∀ (now : Time), Keeps (.standbyPowerUp now) (fun d => (d.mem, d.cores, d.coh, d.rigs, d.fab, d.ports, d.pkg, d.sec, d.rst, d.boot, d.cfg, d.dict.values))) ∧
  (∀ (now : Time), Keeps (.pwrEnAssert now) (fun d => (d.mem, d.cores, d.coh, d.rigs, d.fab, d.ports, d.pkg, d.sec, d.rst, d.boot, d.cfg, d.dict.values))) ∧
  (∀ (now : Time), Keeps (.inputRangeLostInSequencing now) (fun d => (d.mem, d.cores, d.coh, d.rigs, d.fab, d.ports, d.pkg, d.sec, d.rst, d.boot, d.cfg, d.dict.values))) ∧
  (∀ (now : Time), Keeps (.inputRangeRestoredInSequencing now) (fun d => (d.mem, d.cores, d.coh, d.rigs, d.fab, d.ports, d.pkg, d.sec, d.rst, d.boot, d.cfg, d.dict.values))) ∧
  (∀ (now : Time), Keeps (.overvoltRestart now) (fun d => (d.mem, d.cores, d.coh, d.rigs, d.fab, d.ports, d.pkg, d.sec, d.rst, d.boot, d.cfg, d.dict.values)))

/-- Security, firmware, configuration, test-pack and census commands keep memory, every core and every rig (R433, R437, R440, R463, R487,
R491, R497, R498). -/
def Obligations.ManagementFrame : Prop :=
  (∀ (setup : Setup) (now : Time), Keeps (.protectStage setup now) (fun d => (d.mem, d.cores, d.coh, d.rigs, d.pkg, d.tm, d.rst, d.pins))) ∧
  (∀ (nonce : BitVec 256) (now : Time), Keeps (.hallmarkReq nonce now) (fun d => (d.mem, d.cores, d.coh, d.rigs, d.pkg, d.tm, d.rst, d.pins))) ∧
  (∀ (part : Fin 512) (nonce : BitVec 256) (now : Time), Keeps (.hallmarkReqP part nonce now) (fun d => (d.mem, d.cores, d.coh, d.rigs, d.pkg, d.tm, d.rst, d.pins))) ∧
  (∀ (b : List Byte) (now : Time), Keeps (.signetInstall b now) (fun d => (d.mem, d.cores, d.coh, d.rigs, d.pkg, d.tm, d.rst, d.pins))) ∧
  (∀ (part : Fin 512) (base bytes : Word) (now : Time), Keeps (.jrnRegionWrite part base bytes now) (fun d => (d.mem, d.cores, d.coh, d.rigs, d.pkg, d.tm, d.rst, d.pins))) ∧
  (∀ (b : List Byte) (here bcast : Bool) (now : Time), Keeps (.fwPush b here bcast now) (fun d => (d.mem, d.cores, d.coh, d.rigs, d.pkg, d.tm, d.rst, d.pins))) ∧
  (∀ (v : Nat) (now : Time), Keeps (.fwActivate v now) (fun d => (d.mem, d.cores, d.coh, d.rigs, d.pkg, d.tm, d.rst, d.pins))) ∧
  (∀ (v : Nat) (now : Time), Keeps (.fwSvnCommit v now) (fun d => (d.mem, d.cores, d.coh, d.rigs, d.pkg, d.tm, d.rst, d.pins))) ∧
  (∀ (b : List Byte) (here pf : Bool) (now : Time), Keeps (.configPush b here pf now) (fun d => (d.mem, d.cores, d.coh, d.rigs, d.pkg, d.tm, d.rst, d.pins))) ∧
  (∀ (b : List Byte) (here : Bool) (now : Time), Keeps (.configArm b here now) (fun d => (d.mem, d.cores, d.coh, d.rigs, d.pkg, d.tm, d.rst, d.pins))) ∧
  (∀ (index : BitVec 16) (sub : BitVec 8) (v : List Byte) (now : Time), Keeps (.sealObjectWrite index sub v now) (fun d => (d.mem, d.cores, d.coh, d.rigs, d.pkg, d.tm, d.rst, d.pins))) ∧
  (∀ (v : Nat) (now : Time), Keeps (.configCancel v now) (fun d => (d.mem, d.cores, d.coh, d.rigs, d.pkg, d.tm, d.rst, d.pins))) ∧
  (∀ (v : Nat) (now : Time), Keeps (.configDiscard v now) (fun d => (d.mem, d.cores, d.coh, d.rigs, d.pkg, d.tm, d.rst, d.pins))) ∧
  (∀ (now : Time), Keeps (.configSwitch now) (fun d => (d.mem, d.cores, d.coh, d.rigs, d.pkg, d.tm, d.rst, d.pins))) ∧
  (∀ (force : ConfigImage) (staged : Option ConfigImage) (armed : Option Time) (now : Time), Keeps (.configSynced force staged armed now) (fun d => (d.mem, d.cores, d.coh, d.rigs, d.pkg, d.tm, d.rst, d.pins))) ∧
  (∀ (pushed : Bool) (b : List Byte) (now : Time), Keeps (.testpackPush pushed b now) (fun d => (d.mem, d.cores, d.coh, d.rigs, d.pkg, d.tm, d.rst, d.pins))) ∧
  (∀ (security done : Bool) (now : Time), Keeps (.uncheckedPairExit security done now) (fun d => (d.mem, d.cores, d.coh, d.rigs, d.pkg, d.tm, d.rst, d.pins))) ∧
  (∀ (security ok : Bool) (now : Time), Keeps (.pairRestartDone security ok now) (fun d => (d.mem, d.cores, d.coh, d.rigs, d.pkg, d.tm, d.rst, d.pins))) ∧
  (∀ (now : Time), Keeps (.censusOriginTimeout now) (fun d => (d.mem, d.cores, d.coh, d.rigs, d.pkg, d.tm, d.rst, d.pins))) ∧
  (∀ (port : Fin 32) (src : BitVec 14) (now : Time), Keeps (.censusClaim port src now) (fun d => (d.mem, d.cores, d.coh, d.rigs, d.pkg, d.tm, d.rst, d.pins))) ∧
  (∀ (es : List CensusEntry) (now : Time), Keeps (.censusSummary es now) (fun d => (d.mem, d.cores, d.coh, d.rigs, d.pkg, d.tm, d.rst, d.pins))) ∧
  (∀ (part : Fin 512) (t : List Byte) (now : Time), Keeps (.consentToken part t now) (fun d => (d.mem, d.coh, d.rigs, d.pkg, d.tm, d.rst, d.pins))) ∧
  (∀ (part : Fin 512) (now : Time), Keeps (.consentExpired part now) (fun d => (d.mem, d.coh, d.rigs, d.pkg, d.tm, d.rst, d.pins)))

/-- Route epochs, acknowledgements, switch cycles, evictions of copies and package flits keep memory, every core and the management state
(R20, R23, R279, R280, R351, R356, R365, R366). -/
def Obligations.FabricAndPackageFrame : Prop :=
  (∀ (die : Fin 8) (table : List Byte) (now : Time), Keeps (.routeStage die table now) (fun d => (d.mem, d.cores, d.rigs, d.power, d.sec, d.rst, d.boot, d.cfg, d.dict.values, d.pins))) ∧
  (∀ (t now : Time), Keeps (.routeArmTime t now) (fun d => (d.mem, d.cores, d.rigs, d.power, d.sec, d.rst, d.boot, d.cfg, d.dict.values, d.pins))) ∧
  (∀ (now : Time), Keeps (.epochSwitch now) (fun d => (d.mem, d.cores, d.rigs, d.power, d.sec, d.rst, d.boot, d.cfg, d.dict.values, d.pins))) ∧
  (∀ (now : Time), Keeps (.epochRetire now) (fun d => (d.mem, d.cores, d.rigs, d.power, d.sec, d.rst, d.boot, d.cfg, d.dict.values, d.pins))) ∧
  (∀ (module : BitVec 14) (now : Time), Keeps (.pairAckSend module now) (fun d => (d.mem, d.cores, d.rigs, d.power, d.sec, d.rst, d.boot, d.cfg, d.dict.values, d.pins))) ∧
  (∀ (module : BitVec 14) (now : Time), Keeps (.pairAckRepeat module now) (fun d => (d.mem, d.cores, d.rigs, d.power, d.sec, d.rst, d.boot, d.cfg, d.dict.values, d.pins))) ∧
  (∀ (src : BitVec 14) (h : Nat) (first : BitVec 32) (count : Nat) (now : Time), Keeps (.halyardRepairRequest src h first count now) (fun d => (d.mem, d.cores, d.rigs, d.power, d.sec, d.rst, d.boot, d.cfg, d.dict.values, d.pins))) ∧
  (∀ (queue : Fin 4096) (now : Time), Keeps (.creditRefresh queue now) (fun d => (d.mem, d.cores, d.rigs, d.power, d.sec, d.rst, d.boot, d.cfg, d.dict.values, d.pins))) ∧
  (∀ (part : Fin 512) (req : List Byte) (now : Time), Keeps (.fillReq part req now) (fun d => (d.mem, d.cores, d.rigs, d.power, d.sec, d.rst, d.boot, d.cfg, d.dict.values, d.pins))) ∧
  (∀ (die : Fin 8) (slots : BitVec 4) (now : Time), Keeps (.switchCycle die slots now) (fun d => (d.mem, d.cores, d.rigs, d.power, d.sec, d.rst, d.boot, d.cfg, d.dict.values, d.pins))) ∧
  (∀ (msg : CohMsg) (now : Time), Keeps (.snoopInv msg now) (fun d => (d.mem, d.cores, d.rigs, d.power, d.sec, d.rst, d.boot, d.cfg, d.dict.values, d.pins))) ∧
  (∀ (msg : CohMsg) (now : Time), Keeps (.evictNotice msg now) (fun d => (d.mem, d.cores, d.rigs, d.power, d.sec, d.rst, d.boot, d.cfg, d.dict.values, d.pins))) ∧
  (∀ (key : BitVec 16) (va : Word) (now : Time), Keeps (.readerCopyEvict key va now) (fun d => (d.mem, d.cores, d.rigs, d.power, d.sec, d.rst, d.boot, d.cfg, d.dict.values, d.pins))) ∧
  (∀ (now : Time), Keeps (.evictionRecordExpire now) (fun d => (d.mem, d.cores, d.rigs, d.power, d.sec, d.rst, d.boot, d.cfg, d.dict.values, d.pins))) ∧
  (∀ (line : Nat) (now : Time), Keeps (.snoopResendTimeout line now) (fun d => (d.mem, d.cores, d.rigs, d.power, d.sec, d.rst, d.boot, d.cfg, d.dict.values, d.pins))) ∧
  (∀ (e : Fin 192) (now : Time), Keeps (.pkgFlitSend e now) (fun d => (d.mem, d.cores, d.rigs, d.power, d.sec, d.rst, d.boot, d.cfg, d.dict.values, d.pins))) ∧
  (∀ (e : Fin 192) (bs : List Byte) (now : Time), Keeps (.pkgFlitRx e bs now) (fun d => (d.mem, d.cores, d.rigs, d.power, d.sec, d.rst, d.boot, d.cfg, d.dict.values, d.pins))) ∧
  (∀ (e : Fin 192) (seq : BitVec 10) (now : Time), Keeps (.pkgNakRx e seq now) (fun d => (d.mem, d.cores, d.rigs, d.power, d.sec, d.rst, d.boot, d.cfg, d.dict.values, d.pins))) ∧
  (∀ (e : Fin 192) (vc : Fin 4) (n : Nat) (now : Time), Keeps (.pkgCreditInitRx e vc n now) (fun d => (d.mem, d.cores, d.rigs, d.power, d.sec, d.rst, d.boot, d.cfg, d.dict.values, d.pins))) ∧
  (∀ (e : Fin 192) (now : Time), Keeps (.pkgReplayTimeout e now) (fun d => (d.mem, d.cores, d.rigs, d.power, d.sec, d.rst, d.boot, d.cfg, d.dict.values, d.pins))) ∧
  (∀ (e : Fin 192) (now : Time), Keeps (.pkgReplayExhausted e now) (fun d => (d.mem, d.cores, d.rigs, d.power, d.sec, d.rst, d.boot, d.cfg, d.dict.values, d.pins)))

/-- A program's register writes change its own core only; the engines change no scalar or descriptor register of any core (R190, R193, R199,
R202, R226, R227, R233, R236). -/
def Obligations.ProgramAndEngineFrame : Prop :=
  ((∀ (prog : Prog) (v : Word) (rd : Fin 32) (now : Time) (k : Nat), k ≠ prog.core.val → Keeps (.txctlWrite prog v rd now) (fun d => (d.core k, d.mem, d.coh, d.ports, d.pkg, d.power, d.sec, d.rst, d.boot, d.cfg, d.dict.values, d.pins))) ∧
  (∀ (prog : Prog) (rd : Fin 32) (now : Time) (k : Nat), k ≠ prog.core.val → Keeps (.txfaultWrite prog rd now) (fun d => (d.core k, d.mem, d.coh, d.ports, d.pkg, d.power, d.sec, d.rst, d.boot, d.cfg, d.dict.values, d.pins))) ∧
  (∀ (prog : Prog) (hi : Bool) (v : Word) (rd : Fin 32) (now : Time) (k : Nat), k ≠ prog.core.val → Keeps (.tdWrite prog hi v rd now) (fun d => (d.core k, d.mem, d.coh, d.ports, d.pkg, d.power, d.sec, d.rst, d.boot, d.cfg, d.dict.values, d.pins))) ∧
  (∀ (prog : Prog) (v : Word) (rd : Fin 32) (now : Time) (k : Nat), k ≠ prog.core.val → Keeps (.crdataWrite prog v rd now) (fun d => (d.core k, d.mem, d.coh, d.ports, d.pkg, d.power, d.sec, d.rst, d.boot, d.cfg, d.dict.values, d.pins))) ∧
  (∀ (prog : Prog) (addr : BitVec 12) (v : Word) (rd : Fin 32) (now : Time) (k : Nat), k ≠ prog.core.val → Keeps (.csrWrite prog addr v rd now) (fun d => (d.core k, d.mem, d.coh, d.ports, d.pkg, d.power, d.sec, d.rst, d.boot, d.cfg, d.dict.values, d.pins))) ∧
  (∀ (prog : Prog) (word : BitVec 32) (now : Time) (k : Nat), k ≠ prog.core.val → Keeps (.tiqEnter prog word now) (fun d => (d.core k, d.mem, d.coh, d.ports, d.pkg, d.power, d.sec, d.rst, d.boot, d.cfg, d.dict.values, d.pins))) ∧
  (∀ (prog : Prog) (young : Nat) (now : Time) (k : Nat), k ≠ prog.core.val → Keeps (.branchMispredict prog young now) (fun d => (d.core k, d.mem, d.coh, d.ports, d.pkg, d.power, d.sec, d.rst, d.boot, d.cfg, d.dict.values, d.pins))) ∧
  (∀ (prog : Prog) (predW : Bool) (now : Time) (k : Nat), k ≠ prog.core.val → Keeps (.fence prog predW now) (fun d => (d.core k, d.mem, d.coh, d.ports, d.pkg, d.power, d.sec, d.rst, d.boot, d.cfg, d.dict.values, d.pins))) ∧
  (∀ (prog : Prog) (now : Time) (k : Nat), k ≠ prog.core.val → Keeps (.ecallEnd prog now) (fun d => (d.core k, d.mem, d.coh, d.ports, d.pkg, d.power, d.sec, d.rst, d.boot, d.cfg, d.dict.values, d.pins))) ∧
  (∀ (prog : Prog) (mcause mtval : Word) (now : Time) (k : Nat), k ≠ prog.core.val → Keeps (.programException prog mcause mtval now) (fun d => (d.core k, d.mem, d.coh, d.ports, d.pkg, d.power, d.sec, d.rst, d.boot, d.cfg, d.dict.values, d.pins)))) ∧
  ((∀ (core : Fin 512) (id cycle : Nat) (now : Time) (k : Nat), k ≠ core.val → Keeps (.engineBegin core id cycle now) (fun d => (d.core k, d.mem, d.coh, d.ports, d.pkg, d.power, d.sec, d.rst, d.boot, d.cfg, d.dict.values, d.pins))) ∧
  (∀ (core : Fin 512) (id : Nat) (now : Time) (k : Nat), k ≠ core.val → Keeps (.arrivalStayExpire core id now) (fun d => (d.core k, d.mem, d.coh, d.ports, d.pkg, d.power, d.sec, d.rst, d.boot, d.cfg, d.dict.values, d.pins))) ∧
  (∀ (core : Fin 512) (id : Nat) (now : Time) (k : Nat), k ≠ core.val → Keeps (.arm core id now) (fun d => (d.core k, d.mem, d.coh, d.ports, d.pkg, d.power, d.sec, d.rst, d.boot, d.cfg, d.dict.values, d.pins))) ∧
  (∀ (core : Fin 512) (id : Nat) (now : Time) (k : Nat), k ≠ core.val → Keeps (.disarm core id now) (fun d => (d.core k, d.mem, d.coh, d.ports, d.pkg, d.power, d.sec, d.rst, d.boot, d.cfg, d.dict.values, d.pins))) ∧
  (∀ (core : Fin 512) (id : Nat) (now : Time) (k : Nat), k ≠ core.val → Keeps (.clasp core id now) (fun d => (d.core k, d.mem, d.coh, d.ports, d.pkg, d.power, d.sec, d.rst, d.boot, d.cfg, d.dict.values, d.pins))) ∧
  (∀ (core : Fin 512) (id : Nat) (now : Time) (k : Nat), k ≠ core.val → Keeps (.cset core id now) (fun d => (d.core k, d.mem, d.coh, d.ports, d.pkg, d.power, d.sec, d.rst, d.boot, d.cfg, d.dict.values, d.pins)))) ∧
  ((∀ (core : Fin 512) (id : Nat) (errs : List EccEvent) (now : Time), Keeps (.tload core { id := id, errs := errs } now) (fun d => (d.power, d.boot, d.cfg))) ∧
  (∀ (core : Fin 512) (id : Nat) (now : Time) (k : Nat), Keeps (.tload core { id := id } now) (fun d => ((d.core k).sc.x, (d.core k).sc.f, (d.core k).sc.fcsr, (d.core k).tx.td, d.coh, d.rigs, d.power, d.sec, d.boot, d.cfg))) ∧
  (∀ (core : Fin 512) (id : Nat) (errs : List EccEvent) (now : Time), Keeps (.tstore core { id := id, errs := errs } now) (fun d => (d.power, d.boot, d.cfg))) ∧
  (∀ (core : Fin 512) (id : Nat) (now : Time) (k : Nat), Keeps (.tstore core { id := id } now) (fun d => ((d.core k).sc.x, (d.core k).sc.f, (d.core k).sc.fcsr, (d.core k).tx.td, d.coh, d.rigs, d.power, d.sec, d.boot, d.cfg))) ∧
  (∀ (core : Fin 512) (id : Nat) (errs : List EccEvent) (now : Time), Keeps (.tmove core { id := id, errs := errs } now) (fun d => (d.power, d.boot, d.cfg))) ∧
  (∀ (core : Fin 512) (id : Nat) (now : Time) (k : Nat), Keeps (.tmove core { id := id } now) (fun d => ((d.core k).sc.x, (d.core k).sc.f, (d.core k).sc.fcsr, (d.core k).tx.td, d.coh, d.rigs, d.power, d.sec, d.boot, d.cfg))) ∧
  (∀ (core : Fin 512) (id : Nat) (now : Time) (k : Nat), Keeps (.mmaOpen core id now) (fun d => ((d.core k).sc.x, (d.core k).sc.f, (d.core k).sc.fcsr, (d.core k).tx.td, d.coh, d.rigs, d.power, d.sec, d.boot, d.cfg))) ∧
  (∀ (core : Fin 512) (id : Nat) (now : Time) (k : Nat), Keeps (.mmaContinue core id now) (fun d => ((d.core k).sc.x, (d.core k).sc.f, (d.core k).sc.fcsr, (d.core k).tx.td, d.coh, d.rigs, d.power, d.sec, d.boot, d.cfg))) ∧
  (∀ (core : Fin 512) (id : Nat) (now : Time) (k : Nat), Keeps (.mmaClose core id now) (fun d => ((d.core k).sc.x, (d.core k).sc.f, (d.core k).sc.fcsr, (d.core k).tx.td, d.coh, d.rigs, d.power, d.sec, d.boot, d.cfg))) ∧
  (∀ (core : Fin 512) (id : Nat) (now : Time) (k : Nat), Keeps (.mmaOpenClose core id now) (fun d => ((d.core k).sc.x, (d.core k).sc.f, (d.core k).sc.fcsr, (d.core k).tx.td, d.coh, d.rigs, d.power, d.sec, d.boot, d.cfg))) ∧
  (∀ (core : Fin 512) (id : Nat) (now : Time) (k : Nat), Keeps (.vrun core id now) (fun d => ((d.core k).sc.x, (d.core k).sc.f, (d.core k).sc.fcsr, (d.core k).tx.td, d.coh, d.rigs, d.power, d.sec, d.boot, d.cfg))) ∧
  (∀ (core : Fin 512) (id : Nat) (now : Time) (k : Nat), Keeps (.compressBuild core id now) (fun d => ((d.core k).sc.x, (d.core k).sc.f, (d.core k).sc.fcsr, (d.core k).tx.td, d.coh, d.rigs, d.power, d.sec, d.boot, d.cfg))) ∧
  (∀ (core : Fin 512) (id : Nat) (now : Time) (k : Nat), Keeps (.compressReuse core id now) (fun d => ((d.core k).sc.x, (d.core k).sc.f, (d.core k).sc.fcsr, (d.core k).tx.td, d.coh, d.rigs, d.power, d.sec, d.boot, d.cfg))) ∧
  (∀ (core : Fin 512) (id : Nat) (now : Time) (k : Nat), Keeps (.expandFill core id now) (fun d => ((d.core k).sc.x, (d.core k).sc.f, (d.core k).sc.fcsr, (d.core k).tx.td, d.coh, d.rigs, d.power, d.sec, d.boot, d.cfg))) ∧
  (∀ (core : Fin 512) (id : Nat) (now : Time) (k : Nat), Keeps (.expandKeep core id now) (fun d => ((d.core k).sc.x, (d.core k).sc.f, (d.core k).sc.fcsr, (d.core k).tx.td, d.coh, d.rigs, d.power, d.sec, d.boot, d.cfg))) ∧
  (∀ (core : Fin 512) (id : Nat) (errs : List EccEvent) (now : Time), Keeps (.digest core { id := id, errs := errs } now) (fun d => (d.power, d.boot, d.cfg))) ∧
  (∀ (core : Fin 512) (id : Nat) (now : Time) (k : Nat), Keeps (.digest core { id := id } now) (fun d => ((d.core k).sc.x, (d.core k).sc.f, (d.core k).sc.fcsr, (d.core k).tx.td, d.coh, d.rigs, d.power, d.sec, d.boot, d.cfg))) ∧
  (∀ (core : Fin 512) (id : Nat) (errs : List EccEvent) (now : Time), Keeps (.digestAcc core { id := id, errs := errs } now) (fun d => (d.power, d.boot, d.cfg))) ∧
  (∀ (core : Fin 512) (id : Nat) (now : Time) (k : Nat), Keeps (.digestAcc core { id := id } now) (fun d => ((d.core k).sc.x, (d.core k).sc.f, (d.core k).sc.fcsr, (d.core k).tx.td, d.coh, d.rigs, d.power, d.sec, d.boot, d.cfg))) ∧
  (∀ (core : Fin 512) (id : Nat) (errs : List EccEvent) (now : Time), Keeps (.send core { id := id, errs := errs } now) (fun d => (d.power, d.boot, d.cfg))) ∧
  (∀ (core : Fin 512) (id : Nat) (now : Time) (k : Nat), Keeps (.send core { id := id } now) (fun d => ((d.core k).sc.x, (d.core k).sc.f, (d.core k).sc.fcsr, (d.core k).tx.td, d.coh, d.rigs, d.power, d.sec, d.boot, d.cfg))) ∧
  (∀ (core : Fin 512) (id : Nat) (now : Time) (k : Nat), Keeps (.recv core id now) (fun d => ((d.core k).sc.x, (d.core k).sc.f, (d.core k).sc.fcsr, (d.core k).tx.td, d.coh, d.rigs, d.power, d.sec, d.boot, d.cfg))))

/-- A scalar store, AMO or SC to memory outside a coherent window changes no byte outside those that it stores to (R188, R189, R278). -/
def Obligations.ScalarStoreFrame : Prop :=
  (∀ (prog : Prog) (va : Word) (size : Nat) (v : Word) (now : Time) (s t : State) (a : Nat), exec (.scalarStore prog va size v now) s = .next t →
    (s.dev.afterProg prog now).scalarTarget prog.core.val { w := true } va.toNat size true false = .own a ∨
      (s.dev.afterProg prog now).scalarTarget prog.core.val { w := true } va.toNat size true false = .memory a →
    (∀ b, b < a ∨ a + size ≤ b → t.dev.mem.mem.readByte b = s.dev.mem.mem.readByte b) ∧ ∀ k, (t.dev.core k).tx.td = (s.dev.core k).tx.td) ∧
  (∀ (prog : Prog) (op : Fin 32) (wide : Bool) (va v : Word) (rd : Fin 32) (rl : Bool) (now : Time) (s t : State) (a : Nat), exec (.amo prog op wide va v rd rl now) s = .next t →
    (s.dev.afterProg prog now).scalarTarget prog.core.val { r := true, w := true } va.toNat (if wide then 8 else 4) true true = .own a →
    ∀ b, b < a ∨ a + (if wide then 8 else 4) ≤ b → t.dev.mem.mem.readByte b = s.dev.mem.mem.readByte b) ∧
  (∀ (prog : Prog) (wide : Bool) (va v : Word) (rd : Fin 32) (now : Time) (s t : State) (a : Nat), exec (.sc prog wide va v rd now) s = .next t →
    (s.dev.afterProg prog now).scalarTarget prog.core.val { w := true } va.toNat (if wide then 8 else 4) true true = .own a →
    ∀ b, b < a ∨ a + (if wide then 8 else 4) ≤ b → t.dev.mem.mem.readByte b = s.dev.mem.mem.readByte b)
end

