-- ==== Sys2Proof/Laws/Memory.lean ====
section
/-!
SUPPORT. Laws of the sparse data: byte memory keeps its canonical form under every operation; a read after a write; maps and sets by key.
-/
namespace Sys2Proof.Machine

/-! ### The canonical form -/

/-- The canonical form, cell by cell: rising addresses, no zero byte. -/
theorem Memory.wf_iff (m : Memory) : m.wf = true ↔ m.Pairwise (fun c d => c.1 < d.1) ∧ ∀ c ∈ m, c.2 ≠ 0 := by
  induction m with
  | nil => simp [Memory.wf]
  | cons c m ih =>
    cases m with
    | nil => simp [Memory.wf]
    | cons c' m =>
      simp only [Memory.wf, Bool.and_eq_true, decide_eq_true_eq, ih]
      constructor
      · rintro ⟨⟨hc, hlt⟩, hp, hn⟩
        refine ⟨List.pairwise_cons.2 ⟨?_, hp⟩, ?_⟩
        · intro x hx
          rcases List.mem_cons.1 hx with rfl | hx
          · exact hlt
          · exact Nat.lt_trans hlt ((List.pairwise_cons.1 hp).1 x hx)
        · intro x hx
          rcases List.mem_cons.1 hx with rfl | hx
          · exact hc
          · exact hn x hx
      · rintro ⟨hp, hn⟩
        have h1 := List.pairwise_cons.1 hp
        exact ⟨⟨hn c (by simp), h1.1 c' (by simp)⟩, h1.2, fun x hx => hn x (by simp [List.mem_cons.1 hx])⟩

/-- A filter keeps the canonical form. -/
theorem Memory.wf_filter {m : Memory} (h : m.wf = true) (p : Host.Cell → Bool) : Memory.wf (m.filter p) = true := by
  rw [Memory.wf_iff] at h ⊢
  exact ⟨h.1.filter p, fun c hc => h.2 c (List.mem_filter.1 hc).1⟩

/-- The cells of bytes laid from an address lie at that address or above. -/
theorem Memory.cells_ge {a : Nat} {bs : List Byte} {c : Host.Cell} (h : c ∈ Memory.cells a bs) : a ≤ c.1 ∧ c.1 < a + bs.length ∧ c.2 ≠ 0 := by
  induction bs generalizing a with
  | nil => simp [Memory.cells] at h
  | cons b bs ih =>
    simp only [Memory.cells] at h
    split at h
    · have := ih h; simp only [List.length_cons]; exact ⟨by omega, by omega, this.2.2⟩
    · rcases List.mem_cons.1 h with rfl | h
      · simp only [List.length_cons]; exact ⟨Nat.le_refl _, by omega, by assumption⟩
      · have := ih h; simp only [List.length_cons]; exact ⟨by omega, by omega, this.2.2⟩

/-- The cells of bytes are canonical. -/
theorem Memory.wf_cells (a : Nat) (bs : List Byte) : Memory.wf (Memory.cells a bs) = true := by
  rw [Memory.wf_iff]
  refine ⟨?_, fun c hc => (Memory.cells_ge hc).2.2⟩
  induction bs generalizing a with
  | nil => simp [Memory.cells]
  | cons b bs ih =>
    simp only [Memory.cells]
    split
    · exact ih (a + 1)
    · exact List.pairwise_cons.2 ⟨fun c hc => by have := Memory.cells_ge hc; simp only; omega, ih (a + 1)⟩

/-- A write keeps the canonical form. -/
theorem Memory.wf_write {m : Memory} (h : m.wf = true) (a : Nat) (bs : List Byte) : (m.write a bs).wf = true := by
  have h0 := (Memory.wf_iff m).1 h
  have hc := (Memory.wf_iff _).1 (Memory.wf_cells a bs)
  rw [Memory.wf_iff, Memory.write]
  refine ⟨?_, ?_⟩
  · rw [List.pairwise_append, List.pairwise_append]
    refine ⟨⟨h0.1.filter _, hc.1, ?_⟩, h0.1.filter _, ?_⟩
    · intro x hx y hy
      have hx := (List.mem_filter.1 hx).2
      have hy := Memory.cells_ge hy
      simp only [decide_eq_true_eq] at hx; omega
    · intro x hx y hy
      have hy := (List.mem_filter.1 hy).2
      simp only [decide_eq_true_eq] at hy
      rcases List.mem_append.1 hx with hx | hx
      · have hx := (List.mem_filter.1 hx).2
        simp only [decide_eq_true_eq] at hx; omega
      · have hx := Memory.cells_ge hx; omega
  · intro c hc'
    rcases List.mem_append.1 hc' with hc' | hc'
    · rcases List.mem_append.1 hc' with hc' | hc'
      · exact h0.2 c (List.mem_filter.1 hc').1
      · exact hc.2 c hc'
    · exact h0.2 c (List.mem_filter.1 hc').1

/-- Setting bytes to zero keeps the canonical form. -/
theorem Memory.wf_zero {m : Memory} (h : m.wf = true) (a n : Nat) : (m.zero a n).wf = true := Memory.wf_filter h _

/-- Writing a number keeps the canonical form. -/
theorem Memory.wf_writeNat {m : Memory} (h : m.wf = true) (a n v : Nat) : (m.writeNat a n v).wf = true := Memory.wf_write h _ _

/-! ### A read after a write -/

/-- A byte that no cell lists reads zero. -/
theorem Memory.readByte_none {m : Memory} {a : Nat} (h : ∀ c ∈ m, c.1 ≠ a) : m.readByte a = 0 := by
  induction m with
  | nil => rfl
  | cons c m ih =>
    obtain ⟨k, v⟩ := c
    have hk : a ≠ k := fun e => h (k, v) (by simp) e.symm
    simp only [Memory.readByte, if_neg hk]
    exact ih (fun c hc => h c (List.mem_cons_of_mem _ hc))

/-- A read of two parts laid one after the other. -/
theorem Memory.readByte_append (m m' : Memory) (a : Nat) :
    Memory.readByte (m ++ m') a = if m.any (fun c => c.1 == a) then m.readByte a else m'.readByte a := by
  induction m with
  | nil => simp
  | cons c m ih =>
    obtain ⟨k, v⟩ := c
    by_cases h : a = k
    · subst h; simp [Memory.readByte]
    · have h' : (k == a) = false := by simpa using fun e => h e.symm
      simp [Memory.readByte, h, h', ih]

/-- A read of the part of a memory that a test on addresses keeps. -/
theorem Memory.readByte_filter (m : Memory) (p : Nat → Bool) (a : Nat) :
    Memory.readByte (m.filter (fun c => p c.1)) a = if p a then m.readByte a else 0 := by
  induction m with
  | nil => simp [Memory.readByte]
  | cons c m ih =>
    obtain ⟨k, v⟩ := c
    by_cases hk : p k <;> by_cases h : a = k
    · subst h; simp [Memory.readByte, hk]
    · simp [List.filter, hk, Memory.readByte, h, ih]
    · subst h; simp [List.filter, hk, ih]
    · simp [List.filter, hk, Memory.readByte, h, ih]

/-- The byte that cells laid from an address hold. -/
theorem Memory.readByte_cells (a : Nat) (bs : List Byte) (x : Nat) :
    Memory.readByte (Memory.cells a bs) x = if a ≤ x then bs.getD (x - a) 0 else 0 := by
  induction bs generalizing a with
  | nil => simp [Memory.cells, Memory.readByte]
  | cons b bs ih =>
    have step : (if a + 1 ≤ x then bs.getD (x - (a + 1)) 0 else 0) = if x = a then 0 else if a ≤ x then (b :: bs).getD (x - a) 0 else 0 := by
      by_cases h : x = a
      · subst h; simp [show ¬ x + 1 ≤ x by omega]
      · by_cases hx : a ≤ x
        · have : x - a = (x - (a + 1)) + 1 := by omega
          simp [h, hx, this, show a + 1 ≤ x by omega]
        · simp [h, hx, show ¬ a + 1 ≤ x by omega]
    simp only [Memory.cells]
    split
    · rename_i hb
      rw [ih, step]
      by_cases h : x = a
      · subst h; simp [hb]
      · simp [h]
    · by_cases h : x = a
      · subst h; simp [Memory.readByte]
      · simp only [Memory.readByte, if_neg h, ih, step]

/-- A byte of the range written reads as written; every other byte reads as before. -/
theorem Memory.readByte_write (m : Memory) (a : Nat) (bs : List Byte) (x : Nat) :
    (m.write a bs).readByte x = if a ≤ x ∧ x < a + bs.length then bs.getD (x - a) 0 else m.readByte x := by
  simp only [Memory.write]
  rw [List.append_assoc, Memory.readByte_append]
  rw [Memory.readByte_filter m (fun k => decide (k < a)) x]
  by_cases h1 : x < a
  · simp only [h1, decide_true, if_true]
    rw [if_neg (show ¬ (a ≤ x ∧ x < a + bs.length) by omega)]
    split
    · rfl
    · rename_i h
      rw [Memory.readByte_append, Memory.readByte_cells, Memory.readByte_filter m (fun k => decide (a + bs.length ≤ k)) x]
      have hm : m.readByte x = 0 := by
        apply Memory.readByte_none
        intro c hc e
        apply h
        simp only [List.any_eq_true, List.mem_filter, beq_iff_eq]
        exact ⟨c, ⟨hc, by simp [e, h1]⟩, e⟩
      simp [hm, show ¬ a ≤ x by omega, show ¬ a + bs.length ≤ x by omega]
  · have h2 : (List.any (List.filter (fun c : Host.Cell => decide (c.1 < a)) m) fun c => c.1 == x) = false := by
      simp only [List.any_eq_false, List.mem_filter, beq_iff_eq, and_imp, decide_eq_true_eq]
      intro c _ hc e; omega
    rw [h2]
    simp only [Bool.false_eq_true, if_false]
    rw [Memory.readByte_append, Memory.readByte_cells, Memory.readByte_filter m (fun k => decide (a + bs.length ≤ k)) x]
    by_cases h3 : x < a + bs.length
    · rw [if_pos (show a ≤ x ∧ x < a + bs.length by omega)]
      split
      · simp [show a ≤ x by omega]
      · rename_i h
        have : Memory.readByte (Memory.cells a bs) x = 0 := by
          apply Memory.readByte_none
          intro c hc e
          apply h
          simp only [List.any_eq_true, beq_iff_eq]
          exact ⟨c, hc, e⟩
        rw [Memory.readByte_cells, if_pos (show a ≤ x by omega)] at this
        rw [this]
        simp [show ¬ a + bs.length ≤ x by omega]
    · rw [if_neg (show ¬ (a ≤ x ∧ x < a + bs.length) by omega)]
      have h4 : (Memory.cells a bs).any (fun c => c.1 == x) = false := by
        simp only [List.any_eq_false, beq_iff_eq]
        intro c hc e
        have := Memory.cells_ge hc; omega
      simp [h4, show a + bs.length ≤ x by omega]

/-- A byte of the range set to zero reads zero; every other byte reads as before. -/
theorem Memory.readByte_zero (m : Memory) (a n x : Nat) :
    (m.zero a n).readByte x = if a ≤ x ∧ x < a + n then 0 else m.readByte x := by
  have h := Memory.readByte_filter m (fun k => decide (k < a) || decide (a + n ≤ k)) x
  simp only [Memory.zero]
  rw [h]
  by_cases h' : a ≤ x ∧ x < a + n
  · simp [h', show ¬ x < a by omega, show ¬ a + n ≤ x by omega]
  · rw [if_neg h', if_pos]
    simp only [Bool.or_eq_true, decide_eq_true_eq]; omega

/-! ### Maps and sets -/

/-- A value put at a key is found there, and the other keys stand. -/
theorem KMap.find?_set {α : Type} (m : KMap α) (i j : Nat) (v : α) : (m.set i v).find? j = if j = i then some v else m.find? j := by
  induction m with
  | nil => simp [KMap.set, KMap.find?]
  | cons c m ih =>
    obtain ⟨k, w⟩ := c
    simp only [KMap.set]
    by_cases h1 : i < k
    · simp only [h1, if_true, KMap.find?]
    · by_cases h2 : i = k
      · subst h2; by_cases h : j = i <;> simp [KMap.find?, h]
      · simp only [h1, h2, if_false, KMap.find?, ih]
        by_cases h : j = k
        · subst h; simp [show j ≠ i from fun e => h2 e.symm]
        · simp [h]

/-- The value at a key after a value is put at a key. -/
@[simp] theorem KMap.get_set {α : Type} (m : KMap α) (d : α) (i j : Nat) (v : α) : (m.set i v).get d j = if j = i then v else m.get d j := by
  simp only [KMap.get, KMap.find?_set]; split <;> rfl

/-- The value at a key after an update. -/
@[simp] theorem KMap.get_upd {α : Type} (m : KMap α) (d : α) (i j : Nat) (f : α → α) :
    (m.upd d i f).get d j = if j = i then f (m.get d i) else m.get d j := by
  simp [KMap.upd]

/-- An empty map has the default everywhere. -/
@[simp] theorem KMap.get_nil {α : Type} (d : α) (i : Nat) : KMap.get ([] : KMap α) d i = d := rfl

/-- A key removed is found no more; the other keys stand. -/
theorem KMap.find?_del {α : Type} (m : KMap α) (i j : Nat) : (m.del i).find? j = if j = i then none else m.find? j := by
  induction m with
  | nil => simp [KMap.del, KMap.find?]
  | cons c m ih =>
    obtain ⟨k, w⟩ := c
    simp only [KMap.del] at ih ⊢
    by_cases hk : k = i
    · subst hk
      simp only [List.filter, ne_eq, not_true, decide_false, ih, KMap.find?]
      by_cases h : j = k <;> simp [h]
    · simp only [List.filter, ne_eq, hk, not_false_eq_true, decide_true, KMap.find?, ih]
      by_cases h : j = k
      · subst h; simp [hk]
      · simp [h]

/-- A number put into a set is in it, and so is what was in it before. -/
theorem NSet.mem_insert (s : NSet) (i j : Nat) : j ∈ s.insert i ↔ j = i ∨ j ∈ s := by
  induction s with
  | nil => simp [NSet.insert]
  | cons k m ih =>
    simp only [NSet.insert]
    by_cases h1 : i < k
    · simp [h1]
    · by_cases h2 : i = k
      · subst h2; simp
      · simp only [h1, h2, if_false, List.mem_cons, ih]
        constructor
        · rintro (h | h | h) <;> simp [h]
        · rintro (h | h | h) <;> simp [h]

/-- A number removed from a set is not in it; the others stay. -/
theorem NSet.mem_remove (s : NSet) (i j : Nat) : j ∈ s.remove i ↔ j ≠ i ∧ j ∈ s := by
  simp [NSet.remove, and_comm]

end Sys2Proof.Machine
end

