-- ==== Sys2Proof/Laws/State.lean ====
section
/-!
SUPPORT. One lemma per field for each shared update of the device: what the update leaves as it was. Proofs cite these and unfold no
record update.
-/
namespace Sys2Proof.Machine

variable (d : Dev)

/-! ### advance -/

@[simp] theorem Dev.advance_fresh (now : Time) : (d.advance now).fresh = d.fresh := by unfold Dev.advance; split <;> rfl
@[simp] theorem Dev.advance_full (now : Time) : (d.advance now).full = d.full := by unfold Dev.advance; split <;> rfl
@[simp] theorem Dev.advance_signetMask (now : Time) : (d.advance now).signetMask = d.signetMask := by unfold Dev.advance; split <;> rfl
@[simp] theorem Dev.advance_overSignet (now : Time) : (d.advance now).overSignet = d.overSignet := by unfold Dev.advance; split <;> rfl
@[simp] theorem Dev.advance_mem (now : Time) : (d.advance now).mem = d.mem := by unfold Dev.advance; split <;> rfl
@[simp] theorem Dev.advance_cores (now : Time) : (d.advance now).cores = d.cores := by unfold Dev.advance; split <;> rfl
@[simp] theorem Dev.advance_coh (now : Time) : (d.advance now).coh = d.coh := by unfold Dev.advance; split <;> rfl
@[simp] theorem Dev.advance_fe (now : Time) : (d.advance now).fe = d.fe := by unfold Dev.advance; split <;> rfl
@[simp] theorem Dev.advance_ports (now : Time) : (d.advance now).ports = d.ports := by unfold Dev.advance; split <;> rfl
@[simp] theorem Dev.advance_fab (now : Time) : (d.advance now).fab = d.fab := by unfold Dev.advance; split <;> rfl
@[simp] theorem Dev.advance_parts (now : Time) : (d.advance now).parts = d.parts := by unfold Dev.advance; split <;> rfl
@[simp] theorem Dev.advance_rigs (now : Time) : (d.advance now).rigs = d.rigs := by unfold Dev.advance; split <;> rfl
@[simp] theorem Dev.advance_pkg (now : Time) : (d.advance now).pkg = d.pkg := by unfold Dev.advance; split <;> rfl
@[simp] theorem Dev.advance_power (now : Time) : (d.advance now).power = d.power := by unfold Dev.advance; split <;> rfl
@[simp] theorem Dev.advance_tm (now : Time) : (d.advance now).tm = d.tm := by unfold Dev.advance; split <;> rfl
@[simp] theorem Dev.advance_sec (now : Time) : (d.advance now).sec = d.sec := by unfold Dev.advance; split <;> rfl
@[simp] theorem Dev.advance_rel (now : Time) : (d.advance now).rel = d.rel := by unfold Dev.advance; split <;> rfl
@[simp] theorem Dev.advance_rst (now : Time) : (d.advance now).rst = d.rst := by unfold Dev.advance; split <;> rfl
@[simp] theorem Dev.advance_boot (now : Time) : (d.advance now).boot = d.boot := by unfold Dev.advance; split <;> rfl
@[simp] theorem Dev.advance_cfg (now : Time) : (d.advance now).cfg = d.cfg := by unfold Dev.advance; split <;> rfl
@[simp] theorem Dev.advance_dict (now : Time) : (d.advance now).dict = d.dict := by unfold Dev.advance; split <;> rfl
@[simp] theorem Dev.advance_host (now : Time) : (d.advance now).host = d.host := by unfold Dev.advance; split <;> rfl
@[simp] theorem Dev.advance_pins (now : Time) : (d.advance now).pins = d.pins := by unfold Dev.advance; split <;> rfl
@[simp] theorem Dev.advance_out (now : Time) : (d.advance now).out = d.out := by unfold Dev.advance; split <;> rfl

/-! ### draw -/

@[simp] theorem Dev.draw_time : d.draw.2.time = d.time := rfl
@[simp] theorem Dev.draw_full : d.draw.2.full = d.full := rfl
@[simp] theorem Dev.draw_signetMask : d.draw.2.signetMask = d.signetMask := rfl
@[simp] theorem Dev.draw_overSignet : d.draw.2.overSignet = d.overSignet := rfl
@[simp] theorem Dev.draw_mem : d.draw.2.mem = d.mem := rfl
@[simp] theorem Dev.draw_cores : d.draw.2.cores = d.cores := rfl
@[simp] theorem Dev.draw_coh : d.draw.2.coh = d.coh := rfl
@[simp] theorem Dev.draw_fe : d.draw.2.fe = d.fe := rfl
@[simp] theorem Dev.draw_ports : d.draw.2.ports = d.ports := rfl
@[simp] theorem Dev.draw_fab : d.draw.2.fab = d.fab := rfl
@[simp] theorem Dev.draw_parts : d.draw.2.parts = d.parts := rfl
@[simp] theorem Dev.draw_rigs : d.draw.2.rigs = d.rigs := rfl
@[simp] theorem Dev.draw_pkg : d.draw.2.pkg = d.pkg := rfl
@[simp] theorem Dev.draw_power : d.draw.2.power = d.power := rfl
@[simp] theorem Dev.draw_tm : d.draw.2.tm = d.tm := rfl
@[simp] theorem Dev.draw_sec : d.draw.2.sec = d.sec := rfl
@[simp] theorem Dev.draw_rel : d.draw.2.rel = d.rel := rfl
@[simp] theorem Dev.draw_rst : d.draw.2.rst = d.rst := rfl
@[simp] theorem Dev.draw_boot : d.draw.2.boot = d.boot := rfl
@[simp] theorem Dev.draw_cfg : d.draw.2.cfg = d.cfg := rfl
@[simp] theorem Dev.draw_dict : d.draw.2.dict = d.dict := rfl
@[simp] theorem Dev.draw_host : d.draw.2.host = d.host := rfl
@[simp] theorem Dev.draw_pins : d.draw.2.pins = d.pins := rfl
@[simp] theorem Dev.draw_out : d.draw.2.out = d.out := rfl

/-! ### emit -/

@[simp] theorem Dev.emit_time (o : Output) : (d.emit o).time = d.time := rfl
@[simp] theorem Dev.emit_fresh (o : Output) : (d.emit o).fresh = d.fresh := rfl
@[simp] theorem Dev.emit_full (o : Output) : (d.emit o).full = d.full := rfl
@[simp] theorem Dev.emit_signetMask (o : Output) : (d.emit o).signetMask = d.signetMask := rfl
@[simp] theorem Dev.emit_overSignet (o : Output) : (d.emit o).overSignet = d.overSignet := rfl
@[simp] theorem Dev.emit_mem (o : Output) : (d.emit o).mem = d.mem := rfl
@[simp] theorem Dev.emit_cores (o : Output) : (d.emit o).cores = d.cores := rfl
@[simp] theorem Dev.emit_coh (o : Output) : (d.emit o).coh = d.coh := rfl
@[simp] theorem Dev.emit_fe (o : Output) : (d.emit o).fe = d.fe := rfl
@[simp] theorem Dev.emit_ports (o : Output) : (d.emit o).ports = d.ports := rfl
@[simp] theorem Dev.emit_fab (o : Output) : (d.emit o).fab = d.fab := rfl
@[simp] theorem Dev.emit_parts (o : Output) : (d.emit o).parts = d.parts := rfl
@[simp] theorem Dev.emit_rigs (o : Output) : (d.emit o).rigs = d.rigs := rfl
@[simp] theorem Dev.emit_pkg (o : Output) : (d.emit o).pkg = d.pkg := rfl
@[simp] theorem Dev.emit_power (o : Output) : (d.emit o).power = d.power := rfl
@[simp] theorem Dev.emit_tm (o : Output) : (d.emit o).tm = d.tm := rfl
@[simp] theorem Dev.emit_sec (o : Output) : (d.emit o).sec = d.sec := rfl
@[simp] theorem Dev.emit_rel (o : Output) : (d.emit o).rel = d.rel := rfl
@[simp] theorem Dev.emit_rst (o : Output) : (d.emit o).rst = d.rst := rfl
@[simp] theorem Dev.emit_boot (o : Output) : (d.emit o).boot = d.boot := rfl
@[simp] theorem Dev.emit_cfg (o : Output) : (d.emit o).cfg = d.cfg := rfl
@[simp] theorem Dev.emit_dict (o : Output) : (d.emit o).dict = d.dict := rfl
@[simp] theorem Dev.emit_host (o : Output) : (d.emit o).host = d.host := rfl
@[simp] theorem Dev.emit_pins (o : Output) : (d.emit o).pins = d.pins := rfl

/-! ### reply -/

@[simp] theorem Dev.reply_time (c : Cause) (a b : Nat) : (d.reply c a b).time = d.time := rfl
@[simp] theorem Dev.reply_fresh (c : Cause) (a b : Nat) : (d.reply c a b).fresh = d.fresh := rfl
@[simp] theorem Dev.reply_full (c : Cause) (a b : Nat) : (d.reply c a b).full = d.full := rfl
@[simp] theorem Dev.reply_signetMask (c : Cause) (a b : Nat) : (d.reply c a b).signetMask = d.signetMask := rfl
@[simp] theorem Dev.reply_overSignet (c : Cause) (a b : Nat) : (d.reply c a b).overSignet = d.overSignet := rfl
@[simp] theorem Dev.reply_mem (c : Cause) (a b : Nat) : (d.reply c a b).mem = d.mem := rfl
@[simp] theorem Dev.reply_cores (c : Cause) (a b : Nat) : (d.reply c a b).cores = d.cores := rfl
@[simp] theorem Dev.reply_coh (c : Cause) (a b : Nat) : (d.reply c a b).coh = d.coh := rfl
@[simp] theorem Dev.reply_fe (c : Cause) (a b : Nat) : (d.reply c a b).fe = d.fe := rfl
@[simp] theorem Dev.reply_ports (c : Cause) (a b : Nat) : (d.reply c a b).ports = d.ports := rfl
@[simp] theorem Dev.reply_fab (c : Cause) (a b : Nat) : (d.reply c a b).fab = d.fab := rfl
@[simp] theorem Dev.reply_parts (c : Cause) (a b : Nat) : (d.reply c a b).parts = d.parts := rfl
@[simp] theorem Dev.reply_rigs (c : Cause) (a b : Nat) : (d.reply c a b).rigs = d.rigs := rfl
@[simp] theorem Dev.reply_pkg (c : Cause) (a b : Nat) : (d.reply c a b).pkg = d.pkg := rfl
@[simp] theorem Dev.reply_power (c : Cause) (a b : Nat) : (d.reply c a b).power = d.power := rfl
@[simp] theorem Dev.reply_tm (c : Cause) (a b : Nat) : (d.reply c a b).tm = d.tm := rfl
@[simp] theorem Dev.reply_sec (c : Cause) (a b : Nat) : (d.reply c a b).sec = d.sec := rfl
@[simp] theorem Dev.reply_rel (c : Cause) (a b : Nat) : (d.reply c a b).rel = d.rel := rfl
@[simp] theorem Dev.reply_rst (c : Cause) (a b : Nat) : (d.reply c a b).rst = d.rst := rfl
@[simp] theorem Dev.reply_boot (c : Cause) (a b : Nat) : (d.reply c a b).boot = d.boot := rfl
@[simp] theorem Dev.reply_cfg (c : Cause) (a b : Nat) : (d.reply c a b).cfg = d.cfg := rfl
@[simp] theorem Dev.reply_dict (c : Cause) (a b : Nat) : (d.reply c a b).dict = d.dict := rfl
@[simp] theorem Dev.reply_host (c : Cause) (a b : Nat) : (d.reply c a b).host = d.host := rfl
@[simp] theorem Dev.reply_pins (c : Cause) (a b : Nat) : (d.reply c a b).pins = d.pins := rfl

/-! ### modCore -/

@[simp] theorem Dev.modCore_time (c : Nat) (f : Core → Core) : (d.modCore c f).time = d.time := rfl
@[simp] theorem Dev.modCore_fresh (c : Nat) (f : Core → Core) : (d.modCore c f).fresh = d.fresh := rfl
@[simp] theorem Dev.modCore_full (c : Nat) (f : Core → Core) : (d.modCore c f).full = d.full := rfl
@[simp] theorem Dev.modCore_signetMask (c : Nat) (f : Core → Core) : (d.modCore c f).signetMask = d.signetMask := rfl
@[simp] theorem Dev.modCore_overSignet (c : Nat) (f : Core → Core) : (d.modCore c f).overSignet = d.overSignet := rfl
@[simp] theorem Dev.modCore_mem (c : Nat) (f : Core → Core) : (d.modCore c f).mem = d.mem := rfl
@[simp] theorem Dev.modCore_coh (c : Nat) (f : Core → Core) : (d.modCore c f).coh = d.coh := rfl
@[simp] theorem Dev.modCore_fe (c : Nat) (f : Core → Core) : (d.modCore c f).fe = d.fe := rfl
@[simp] theorem Dev.modCore_ports (c : Nat) (f : Core → Core) : (d.modCore c f).ports = d.ports := rfl
@[simp] theorem Dev.modCore_fab (c : Nat) (f : Core → Core) : (d.modCore c f).fab = d.fab := rfl
@[simp] theorem Dev.modCore_parts (c : Nat) (f : Core → Core) : (d.modCore c f).parts = d.parts := rfl
@[simp] theorem Dev.modCore_rigs (c : Nat) (f : Core → Core) : (d.modCore c f).rigs = d.rigs := rfl
@[simp] theorem Dev.modCore_pkg (c : Nat) (f : Core → Core) : (d.modCore c f).pkg = d.pkg := rfl
@[simp] theorem Dev.modCore_power (c : Nat) (f : Core → Core) : (d.modCore c f).power = d.power := rfl
@[simp] theorem Dev.modCore_tm (c : Nat) (f : Core → Core) : (d.modCore c f).tm = d.tm := rfl
@[simp] theorem Dev.modCore_sec (c : Nat) (f : Core → Core) : (d.modCore c f).sec = d.sec := rfl
@[simp] theorem Dev.modCore_rel (c : Nat) (f : Core → Core) : (d.modCore c f).rel = d.rel := rfl
@[simp] theorem Dev.modCore_rst (c : Nat) (f : Core → Core) : (d.modCore c f).rst = d.rst := rfl
@[simp] theorem Dev.modCore_boot (c : Nat) (f : Core → Core) : (d.modCore c f).boot = d.boot := rfl
@[simp] theorem Dev.modCore_cfg (c : Nat) (f : Core → Core) : (d.modCore c f).cfg = d.cfg := rfl
@[simp] theorem Dev.modCore_dict (c : Nat) (f : Core → Core) : (d.modCore c f).dict = d.dict := rfl
@[simp] theorem Dev.modCore_host (c : Nat) (f : Core → Core) : (d.modCore c f).host = d.host := rfl
@[simp] theorem Dev.modCore_pins (c : Nat) (f : Core → Core) : (d.modCore c f).pins = d.pins := rfl
@[simp] theorem Dev.modCore_out (c : Nat) (f : Core → Core) : (d.modCore c f).out = d.out := rfl

/-! ### modPart -/

@[simp] theorem Dev.modPart_time (p : Nat) (f : Part → Part) : (d.modPart p f).time = d.time := rfl
@[simp] theorem Dev.modPart_fresh (p : Nat) (f : Part → Part) : (d.modPart p f).fresh = d.fresh := rfl
@[simp] theorem Dev.modPart_full (p : Nat) (f : Part → Part) : (d.modPart p f).full = d.full := rfl
@[simp] theorem Dev.modPart_signetMask (p : Nat) (f : Part → Part) : (d.modPart p f).signetMask = d.signetMask := rfl
@[simp] theorem Dev.modPart_overSignet (p : Nat) (f : Part → Part) : (d.modPart p f).overSignet = d.overSignet := rfl
@[simp] theorem Dev.modPart_mem (p : Nat) (f : Part → Part) : (d.modPart p f).mem = d.mem := rfl
@[simp] theorem Dev.modPart_cores (p : Nat) (f : Part → Part) : (d.modPart p f).cores = d.cores := rfl
@[simp] theorem Dev.modPart_coh (p : Nat) (f : Part → Part) : (d.modPart p f).coh = d.coh := rfl
@[simp] theorem Dev.modPart_fe (p : Nat) (f : Part → Part) : (d.modPart p f).fe = d.fe := rfl
@[simp] theorem Dev.modPart_ports (p : Nat) (f : Part → Part) : (d.modPart p f).ports = d.ports := rfl
@[simp] theorem Dev.modPart_fab (p : Nat) (f : Part → Part) : (d.modPart p f).fab = d.fab := rfl
@[simp] theorem Dev.modPart_rigs (p : Nat) (f : Part → Part) : (d.modPart p f).rigs = d.rigs := rfl
@[simp] theorem Dev.modPart_pkg (p : Nat) (f : Part → Part) : (d.modPart p f).pkg = d.pkg := rfl
@[simp] theorem Dev.modPart_power (p : Nat) (f : Part → Part) : (d.modPart p f).power = d.power := rfl
@[simp] theorem Dev.modPart_tm (p : Nat) (f : Part → Part) : (d.modPart p f).tm = d.tm := rfl
@[simp] theorem Dev.modPart_sec (p : Nat) (f : Part → Part) : (d.modPart p f).sec = d.sec := rfl
@[simp] theorem Dev.modPart_rel (p : Nat) (f : Part → Part) : (d.modPart p f).rel = d.rel := rfl
@[simp] theorem Dev.modPart_rst (p : Nat) (f : Part → Part) : (d.modPart p f).rst = d.rst := rfl
@[simp] theorem Dev.modPart_boot (p : Nat) (f : Part → Part) : (d.modPart p f).boot = d.boot := rfl
@[simp] theorem Dev.modPart_cfg (p : Nat) (f : Part → Part) : (d.modPart p f).cfg = d.cfg := rfl
@[simp] theorem Dev.modPart_dict (p : Nat) (f : Part → Part) : (d.modPart p f).dict = d.dict := rfl
@[simp] theorem Dev.modPart_host (p : Nat) (f : Part → Part) : (d.modPart p f).host = d.host := rfl
@[simp] theorem Dev.modPart_pins (p : Nat) (f : Part → Part) : (d.modPart p f).pins = d.pins := rfl
@[simp] theorem Dev.modPart_out (p : Nat) (f : Part → Part) : (d.modPart p f).out = d.out := rfl

/-! ### modRig -/

@[simp] theorem Dev.modRig_time (i : Nat) (f : Rig → Rig) : (d.modRig i f).time = d.time := rfl
@[simp] theorem Dev.modRig_fresh (i : Nat) (f : Rig → Rig) : (d.modRig i f).fresh = d.fresh := rfl
@[simp] theorem Dev.modRig_full (i : Nat) (f : Rig → Rig) : (d.modRig i f).full = d.full := rfl
@[simp] theorem Dev.modRig_signetMask (i : Nat) (f : Rig → Rig) : (d.modRig i f).signetMask = d.signetMask := rfl
@[simp] theorem Dev.modRig_overSignet (i : Nat) (f : Rig → Rig) : (d.modRig i f).overSignet = d.overSignet := rfl
@[simp] theorem Dev.modRig_mem (i : Nat) (f : Rig → Rig) : (d.modRig i f).mem = d.mem := rfl
@[simp] theorem Dev.modRig_cores (i : Nat) (f : Rig → Rig) : (d.modRig i f).cores = d.cores := rfl
@[simp] theorem Dev.modRig_coh (i : Nat) (f : Rig → Rig) : (d.modRig i f).coh = d.coh := rfl
@[simp] theorem Dev.modRig_fe (i : Nat) (f : Rig → Rig) : (d.modRig i f).fe = d.fe := rfl
@[simp] theorem Dev.modRig_ports (i : Nat) (f : Rig → Rig) : (d.modRig i f).ports = d.ports := rfl
@[simp] theorem Dev.modRig_fab (i : Nat) (f : Rig → Rig) : (d.modRig i f).fab = d.fab := rfl
@[simp] theorem Dev.modRig_parts (i : Nat) (f : Rig → Rig) : (d.modRig i f).parts = d.parts := rfl
@[simp] theorem Dev.modRig_pkg (i : Nat) (f : Rig → Rig) : (d.modRig i f).pkg = d.pkg := rfl
@[simp] theorem Dev.modRig_power (i : Nat) (f : Rig → Rig) : (d.modRig i f).power = d.power := rfl
@[simp] theorem Dev.modRig_tm (i : Nat) (f : Rig → Rig) : (d.modRig i f).tm = d.tm := rfl
@[simp] theorem Dev.modRig_sec (i : Nat) (f : Rig → Rig) : (d.modRig i f).sec = d.sec := rfl
@[simp] theorem Dev.modRig_rel (i : Nat) (f : Rig → Rig) : (d.modRig i f).rel = d.rel := rfl
@[simp] theorem Dev.modRig_rst (i : Nat) (f : Rig → Rig) : (d.modRig i f).rst = d.rst := rfl
@[simp] theorem Dev.modRig_boot (i : Nat) (f : Rig → Rig) : (d.modRig i f).boot = d.boot := rfl
@[simp] theorem Dev.modRig_cfg (i : Nat) (f : Rig → Rig) : (d.modRig i f).cfg = d.cfg := rfl
@[simp] theorem Dev.modRig_dict (i : Nat) (f : Rig → Rig) : (d.modRig i f).dict = d.dict := rfl
@[simp] theorem Dev.modRig_host (i : Nat) (f : Rig → Rig) : (d.modRig i f).host = d.host := rfl
@[simp] theorem Dev.modRig_pins (i : Nat) (f : Rig → Rig) : (d.modRig i f).pins = d.pins := rfl
@[simp] theorem Dev.modRig_out (i : Nat) (f : Rig → Rig) : (d.modRig i f).out = d.out := rfl

/-! ### modPort -/

@[simp] theorem Dev.modPort_time (p : Nat) (f : Port → Port) : (d.modPort p f).time = d.time := rfl
@[simp] theorem Dev.modPort_fresh (p : Nat) (f : Port → Port) : (d.modPort p f).fresh = d.fresh := rfl
@[simp] theorem Dev.modPort_full (p : Nat) (f : Port → Port) : (d.modPort p f).full = d.full := rfl
@[simp] theorem Dev.modPort_signetMask (p : Nat) (f : Port → Port) : (d.modPort p f).signetMask = d.signetMask := rfl
@[simp] theorem Dev.modPort_overSignet (p : Nat) (f : Port → Port) : (d.modPort p f).overSignet = d.overSignet := rfl
@[simp] theorem Dev.modPort_mem (p : Nat) (f : Port → Port) : (d.modPort p f).mem = d.mem := rfl
@[simp] theorem Dev.modPort_cores (p : Nat) (f : Port → Port) : (d.modPort p f).cores = d.cores := rfl
@[simp] theorem Dev.modPort_coh (p : Nat) (f : Port → Port) : (d.modPort p f).coh = d.coh := rfl
@[simp] theorem Dev.modPort_fe (p : Nat) (f : Port → Port) : (d.modPort p f).fe = d.fe := rfl
@[simp] theorem Dev.modPort_fab (p : Nat) (f : Port → Port) : (d.modPort p f).fab = d.fab := rfl
@[simp] theorem Dev.modPort_parts (p : Nat) (f : Port → Port) : (d.modPort p f).parts = d.parts := rfl
@[simp] theorem Dev.modPort_rigs (p : Nat) (f : Port → Port) : (d.modPort p f).rigs = d.rigs := rfl
@[simp] theorem Dev.modPort_pkg (p : Nat) (f : Port → Port) : (d.modPort p f).pkg = d.pkg := rfl
@[simp] theorem Dev.modPort_power (p : Nat) (f : Port → Port) : (d.modPort p f).power = d.power := rfl
@[simp] theorem Dev.modPort_tm (p : Nat) (f : Port → Port) : (d.modPort p f).tm = d.tm := rfl
@[simp] theorem Dev.modPort_sec (p : Nat) (f : Port → Port) : (d.modPort p f).sec = d.sec := rfl
@[simp] theorem Dev.modPort_rel (p : Nat) (f : Port → Port) : (d.modPort p f).rel = d.rel := rfl
@[simp] theorem Dev.modPort_rst (p : Nat) (f : Port → Port) : (d.modPort p f).rst = d.rst := rfl
@[simp] theorem Dev.modPort_boot (p : Nat) (f : Port → Port) : (d.modPort p f).boot = d.boot := rfl
@[simp] theorem Dev.modPort_cfg (p : Nat) (f : Port → Port) : (d.modPort p f).cfg = d.cfg := rfl
@[simp] theorem Dev.modPort_dict (p : Nat) (f : Port → Port) : (d.modPort p f).dict = d.dict := rfl
@[simp] theorem Dev.modPort_host (p : Nat) (f : Port → Port) : (d.modPort p f).host = d.host := rfl
@[simp] theorem Dev.modPort_pins (p : Nat) (f : Port → Port) : (d.modPort p f).pins = d.pins := rfl
@[simp] theorem Dev.modPort_out (p : Nat) (f : Port → Port) : (d.modPort p f).out = d.out := rfl

/-! ### modCount -/

@[simp] theorem Dev.modCount_time (p : Nat) (f : PortCounters → PortCounters) : (d.modCount p f).time = d.time := rfl
@[simp] theorem Dev.modCount_fresh (p : Nat) (f : PortCounters → PortCounters) : (d.modCount p f).fresh = d.fresh := rfl
@[simp] theorem Dev.modCount_full (p : Nat) (f : PortCounters → PortCounters) : (d.modCount p f).full = d.full := rfl
@[simp] theorem Dev.modCount_signetMask (p : Nat) (f : PortCounters → PortCounters) : (d.modCount p f).signetMask = d.signetMask := rfl
@[simp] theorem Dev.modCount_overSignet (p : Nat) (f : PortCounters → PortCounters) : (d.modCount p f).overSignet = d.overSignet := rfl
@[simp] theorem Dev.modCount_mem (p : Nat) (f : PortCounters → PortCounters) : (d.modCount p f).mem = d.mem := rfl
@[simp] theorem Dev.modCount_cores (p : Nat) (f : PortCounters → PortCounters) : (d.modCount p f).cores = d.cores := rfl
@[simp] theorem Dev.modCount_coh (p : Nat) (f : PortCounters → PortCounters) : (d.modCount p f).coh = d.coh := rfl
@[simp] theorem Dev.modCount_fe (p : Nat) (f : PortCounters → PortCounters) : (d.modCount p f).fe = d.fe := rfl
@[simp] theorem Dev.modCount_ports (p : Nat) (f : PortCounters → PortCounters) : (d.modCount p f).ports = d.ports := rfl
@[simp] theorem Dev.modCount_parts (p : Nat) (f : PortCounters → PortCounters) : (d.modCount p f).parts = d.parts := rfl
@[simp] theorem Dev.modCount_rigs (p : Nat) (f : PortCounters → PortCounters) : (d.modCount p f).rigs = d.rigs := rfl
@[simp] theorem Dev.modCount_pkg (p : Nat) (f : PortCounters → PortCounters) : (d.modCount p f).pkg = d.pkg := rfl
@[simp] theorem Dev.modCount_power (p : Nat) (f : PortCounters → PortCounters) : (d.modCount p f).power = d.power := rfl
@[simp] theorem Dev.modCount_tm (p : Nat) (f : PortCounters → PortCounters) : (d.modCount p f).tm = d.tm := rfl
@[simp] theorem Dev.modCount_sec (p : Nat) (f : PortCounters → PortCounters) : (d.modCount p f).sec = d.sec := rfl
@[simp] theorem Dev.modCount_rel (p : Nat) (f : PortCounters → PortCounters) : (d.modCount p f).rel = d.rel := rfl
@[simp] theorem Dev.modCount_rst (p : Nat) (f : PortCounters → PortCounters) : (d.modCount p f).rst = d.rst := rfl
@[simp] theorem Dev.modCount_boot (p : Nat) (f : PortCounters → PortCounters) : (d.modCount p f).boot = d.boot := rfl
@[simp] theorem Dev.modCount_cfg (p : Nat) (f : PortCounters → PortCounters) : (d.modCount p f).cfg = d.cfg := rfl
@[simp] theorem Dev.modCount_dict (p : Nat) (f : PortCounters → PortCounters) : (d.modCount p f).dict = d.dict := rfl
@[simp] theorem Dev.modCount_host (p : Nat) (f : PortCounters → PortCounters) : (d.modCount p f).host = d.host := rfl
@[simp] theorem Dev.modCount_pins (p : Nat) (f : PortCounters → PortCounters) : (d.modCount p f).pins = d.pins := rfl
@[simp] theorem Dev.modCount_out (p : Nat) (f : PortCounters → PortCounters) : (d.modCount p f).out = d.out := rfl

/-! ### modSwitch -/

@[simp] theorem Dev.modSwitch_time (die : Nat) (f : Switch → Switch) : (d.modSwitch die f).time = d.time := rfl
@[simp] theorem Dev.modSwitch_fresh (die : Nat) (f : Switch → Switch) : (d.modSwitch die f).fresh = d.fresh := rfl
@[simp] theorem Dev.modSwitch_full (die : Nat) (f : Switch → Switch) : (d.modSwitch die f).full = d.full := rfl
@[simp] theorem Dev.modSwitch_signetMask (die : Nat) (f : Switch → Switch) : (d.modSwitch die f).signetMask = d.signetMask := rfl
@[simp] theorem Dev.modSwitch_overSignet (die : Nat) (f : Switch → Switch) : (d.modSwitch die f).overSignet = d.overSignet := rfl
@[simp] theorem Dev.modSwitch_mem (die : Nat) (f : Switch → Switch) : (d.modSwitch die f).mem = d.mem := rfl
@[simp] theorem Dev.modSwitch_cores (die : Nat) (f : Switch → Switch) : (d.modSwitch die f).cores = d.cores := rfl
@[simp] theorem Dev.modSwitch_coh (die : Nat) (f : Switch → Switch) : (d.modSwitch die f).coh = d.coh := rfl
@[simp] theorem Dev.modSwitch_fe (die : Nat) (f : Switch → Switch) : (d.modSwitch die f).fe = d.fe := rfl
@[simp] theorem Dev.modSwitch_ports (die : Nat) (f : Switch → Switch) : (d.modSwitch die f).ports = d.ports := rfl
@[simp] theorem Dev.modSwitch_parts (die : Nat) (f : Switch → Switch) : (d.modSwitch die f).parts = d.parts := rfl
@[simp] theorem Dev.modSwitch_rigs (die : Nat) (f : Switch → Switch) : (d.modSwitch die f).rigs = d.rigs := rfl
@[simp] theorem Dev.modSwitch_pkg (die : Nat) (f : Switch → Switch) : (d.modSwitch die f).pkg = d.pkg := rfl
@[simp] theorem Dev.modSwitch_power (die : Nat) (f : Switch → Switch) : (d.modSwitch die f).power = d.power := rfl
@[simp] theorem Dev.modSwitch_tm (die : Nat) (f : Switch → Switch) : (d.modSwitch die f).tm = d.tm := rfl
@[simp] theorem Dev.modSwitch_sec (die : Nat) (f : Switch → Switch) : (d.modSwitch die f).sec = d.sec := rfl
@[simp] theorem Dev.modSwitch_rel (die : Nat) (f : Switch → Switch) : (d.modSwitch die f).rel = d.rel := rfl
@[simp] theorem Dev.modSwitch_rst (die : Nat) (f : Switch → Switch) : (d.modSwitch die f).rst = d.rst := rfl
@[simp] theorem Dev.modSwitch_boot (die : Nat) (f : Switch → Switch) : (d.modSwitch die f).boot = d.boot := rfl
@[simp] theorem Dev.modSwitch_cfg (die : Nat) (f : Switch → Switch) : (d.modSwitch die f).cfg = d.cfg := rfl
@[simp] theorem Dev.modSwitch_dict (die : Nat) (f : Switch → Switch) : (d.modSwitch die f).dict = d.dict := rfl
@[simp] theorem Dev.modSwitch_host (die : Nat) (f : Switch → Switch) : (d.modSwitch die f).host = d.host := rfl
@[simp] theorem Dev.modSwitch_pins (die : Nat) (f : Switch → Switch) : (d.modSwitch die f).pins = d.pins := rfl
@[simp] theorem Dev.modSwitch_out (die : Nat) (f : Switch → Switch) : (d.modSwitch die f).out = d.out := rfl

/-! ### modQueue -/

@[simp] theorem Dev.modQueue_time (i : Nat) (f : Queue → Queue) : (d.modQueue i f).time = d.time := rfl
@[simp] theorem Dev.modQueue_fresh (i : Nat) (f : Queue → Queue) : (d.modQueue i f).fresh = d.fresh := rfl
@[simp] theorem Dev.modQueue_full (i : Nat) (f : Queue → Queue) : (d.modQueue i f).full = d.full := rfl
@[simp] theorem Dev.modQueue_signetMask (i : Nat) (f : Queue → Queue) : (d.modQueue i f).signetMask = d.signetMask := rfl
@[simp] theorem Dev.modQueue_overSignet (i : Nat) (f : Queue → Queue) : (d.modQueue i f).overSignet = d.overSignet := rfl
@[simp] theorem Dev.modQueue_mem (i : Nat) (f : Queue → Queue) : (d.modQueue i f).mem = d.mem := rfl
@[simp] theorem Dev.modQueue_cores (i : Nat) (f : Queue → Queue) : (d.modQueue i f).cores = d.cores := rfl
@[simp] theorem Dev.modQueue_coh (i : Nat) (f : Queue → Queue) : (d.modQueue i f).coh = d.coh := rfl
@[simp] theorem Dev.modQueue_ports (i : Nat) (f : Queue → Queue) : (d.modQueue i f).ports = d.ports := rfl
@[simp] theorem Dev.modQueue_fab (i : Nat) (f : Queue → Queue) : (d.modQueue i f).fab = d.fab := rfl
@[simp] theorem Dev.modQueue_parts (i : Nat) (f : Queue → Queue) : (d.modQueue i f).parts = d.parts := rfl
@[simp] theorem Dev.modQueue_rigs (i : Nat) (f : Queue → Queue) : (d.modQueue i f).rigs = d.rigs := rfl
@[simp] theorem Dev.modQueue_pkg (i : Nat) (f : Queue → Queue) : (d.modQueue i f).pkg = d.pkg := rfl
@[simp] theorem Dev.modQueue_power (i : Nat) (f : Queue → Queue) : (d.modQueue i f).power = d.power := rfl
@[simp] theorem Dev.modQueue_tm (i : Nat) (f : Queue → Queue) : (d.modQueue i f).tm = d.tm := rfl
@[simp] theorem Dev.modQueue_sec (i : Nat) (f : Queue → Queue) : (d.modQueue i f).sec = d.sec := rfl
@[simp] theorem Dev.modQueue_rel (i : Nat) (f : Queue → Queue) : (d.modQueue i f).rel = d.rel := rfl
@[simp] theorem Dev.modQueue_rst (i : Nat) (f : Queue → Queue) : (d.modQueue i f).rst = d.rst := rfl
@[simp] theorem Dev.modQueue_boot (i : Nat) (f : Queue → Queue) : (d.modQueue i f).boot = d.boot := rfl
@[simp] theorem Dev.modQueue_cfg (i : Nat) (f : Queue → Queue) : (d.modQueue i f).cfg = d.cfg := rfl
@[simp] theorem Dev.modQueue_dict (i : Nat) (f : Queue → Queue) : (d.modQueue i f).dict = d.dict := rfl
@[simp] theorem Dev.modQueue_host (i : Nat) (f : Queue → Queue) : (d.modQueue i f).host = d.host := rfl
@[simp] theorem Dev.modQueue_pins (i : Nat) (f : Queue → Queue) : (d.modQueue i f).pins = d.pins := rfl
@[simp] theorem Dev.modQueue_out (i : Nat) (f : Queue → Queue) : (d.modQueue i f).out = d.out := rfl

/-! ### modDir -/

@[simp] theorem Dev.modDir_time (l : Nat) (f : DirLine → DirLine) : (d.modDir l f).time = d.time := rfl
@[simp] theorem Dev.modDir_fresh (l : Nat) (f : DirLine → DirLine) : (d.modDir l f).fresh = d.fresh := rfl
@[simp] theorem Dev.modDir_full (l : Nat) (f : DirLine → DirLine) : (d.modDir l f).full = d.full := rfl
@[simp] theorem Dev.modDir_signetMask (l : Nat) (f : DirLine → DirLine) : (d.modDir l f).signetMask = d.signetMask := rfl
@[simp] theorem Dev.modDir_overSignet (l : Nat) (f : DirLine → DirLine) : (d.modDir l f).overSignet = d.overSignet := rfl
@[simp] theorem Dev.modDir_mem (l : Nat) (f : DirLine → DirLine) : (d.modDir l f).mem = d.mem := rfl
@[simp] theorem Dev.modDir_cores (l : Nat) (f : DirLine → DirLine) : (d.modDir l f).cores = d.cores := rfl
@[simp] theorem Dev.modDir_fe (l : Nat) (f : DirLine → DirLine) : (d.modDir l f).fe = d.fe := rfl
@[simp] theorem Dev.modDir_ports (l : Nat) (f : DirLine → DirLine) : (d.modDir l f).ports = d.ports := rfl
@[simp] theorem Dev.modDir_fab (l : Nat) (f : DirLine → DirLine) : (d.modDir l f).fab = d.fab := rfl
@[simp] theorem Dev.modDir_parts (l : Nat) (f : DirLine → DirLine) : (d.modDir l f).parts = d.parts := rfl
@[simp] theorem Dev.modDir_rigs (l : Nat) (f : DirLine → DirLine) : (d.modDir l f).rigs = d.rigs := rfl
@[simp] theorem Dev.modDir_pkg (l : Nat) (f : DirLine → DirLine) : (d.modDir l f).pkg = d.pkg := rfl
@[simp] theorem Dev.modDir_power (l : Nat) (f : DirLine → DirLine) : (d.modDir l f).power = d.power := rfl
@[simp] theorem Dev.modDir_tm (l : Nat) (f : DirLine → DirLine) : (d.modDir l f).tm = d.tm := rfl
@[simp] theorem Dev.modDir_sec (l : Nat) (f : DirLine → DirLine) : (d.modDir l f).sec = d.sec := rfl
@[simp] theorem Dev.modDir_rel (l : Nat) (f : DirLine → DirLine) : (d.modDir l f).rel = d.rel := rfl
@[simp] theorem Dev.modDir_rst (l : Nat) (f : DirLine → DirLine) : (d.modDir l f).rst = d.rst := rfl
@[simp] theorem Dev.modDir_boot (l : Nat) (f : DirLine → DirLine) : (d.modDir l f).boot = d.boot := rfl
@[simp] theorem Dev.modDir_cfg (l : Nat) (f : DirLine → DirLine) : (d.modDir l f).cfg = d.cfg := rfl
@[simp] theorem Dev.modDir_dict (l : Nat) (f : DirLine → DirLine) : (d.modDir l f).dict = d.dict := rfl
@[simp] theorem Dev.modDir_host (l : Nat) (f : DirLine → DirLine) : (d.modDir l f).host = d.host := rfl
@[simp] theorem Dev.modDir_pins (l : Nat) (f : DirLine → DirLine) : (d.modDir l f).pins = d.pins := rfl
@[simp] theorem Dev.modDir_out (l : Nat) (f : DirLine → DirLine) : (d.modDir l f).out = d.out := rfl

/-! ### modUcie -/

@[simp] theorem Dev.modUcie_time (e : Nat) (f : Ucie → Ucie) : (d.modUcie e f).time = d.time := rfl
@[simp] theorem Dev.modUcie_fresh (e : Nat) (f : Ucie → Ucie) : (d.modUcie e f).fresh = d.fresh := rfl
@[simp] theorem Dev.modUcie_full (e : Nat) (f : Ucie → Ucie) : (d.modUcie e f).full = d.full := rfl
@[simp] theorem Dev.modUcie_signetMask (e : Nat) (f : Ucie → Ucie) : (d.modUcie e f).signetMask = d.signetMask := rfl
@[simp] theorem Dev.modUcie_overSignet (e : Nat) (f : Ucie → Ucie) : (d.modUcie e f).overSignet = d.overSignet := rfl
@[simp] theorem Dev.modUcie_mem (e : Nat) (f : Ucie → Ucie) : (d.modUcie e f).mem = d.mem := rfl
@[simp] theorem Dev.modUcie_cores (e : Nat) (f : Ucie → Ucie) : (d.modUcie e f).cores = d.cores := rfl
@[simp] theorem Dev.modUcie_coh (e : Nat) (f : Ucie → Ucie) : (d.modUcie e f).coh = d.coh := rfl
@[simp] theorem Dev.modUcie_fe (e : Nat) (f : Ucie → Ucie) : (d.modUcie e f).fe = d.fe := rfl
@[simp] theorem Dev.modUcie_ports (e : Nat) (f : Ucie → Ucie) : (d.modUcie e f).ports = d.ports := rfl
@[simp] theorem Dev.modUcie_fab (e : Nat) (f : Ucie → Ucie) : (d.modUcie e f).fab = d.fab := rfl
@[simp] theorem Dev.modUcie_parts (e : Nat) (f : Ucie → Ucie) : (d.modUcie e f).parts = d.parts := rfl
@[simp] theorem Dev.modUcie_rigs (e : Nat) (f : Ucie → Ucie) : (d.modUcie e f).rigs = d.rigs := rfl
@[simp] theorem Dev.modUcie_power (e : Nat) (f : Ucie → Ucie) : (d.modUcie e f).power = d.power := rfl
@[simp] theorem Dev.modUcie_tm (e : Nat) (f : Ucie → Ucie) : (d.modUcie e f).tm = d.tm := rfl
@[simp] theorem Dev.modUcie_sec (e : Nat) (f : Ucie → Ucie) : (d.modUcie e f).sec = d.sec := rfl
@[simp] theorem Dev.modUcie_rel (e : Nat) (f : Ucie → Ucie) : (d.modUcie e f).rel = d.rel := rfl
@[simp] theorem Dev.modUcie_rst (e : Nat) (f : Ucie → Ucie) : (d.modUcie e f).rst = d.rst := rfl
@[simp] theorem Dev.modUcie_boot (e : Nat) (f : Ucie → Ucie) : (d.modUcie e f).boot = d.boot := rfl
@[simp] theorem Dev.modUcie_cfg (e : Nat) (f : Ucie → Ucie) : (d.modUcie e f).cfg = d.cfg := rfl
@[simp] theorem Dev.modUcie_dict (e : Nat) (f : Ucie → Ucie) : (d.modUcie e f).dict = d.dict := rfl
@[simp] theorem Dev.modUcie_host (e : Nat) (f : Ucie → Ucie) : (d.modUcie e f).host = d.host := rfl
@[simp] theorem Dev.modUcie_pins (e : Nat) (f : Ucie → Ucie) : (d.modUcie e f).pins = d.pins := rfl
@[simp] theorem Dev.modUcie_out (e : Nat) (f : Ucie → Ucie) : (d.modUcie e f).out = d.out := rfl

/-! ### modOut -/

@[simp] theorem Dev.modOut_time (m : BitVec 14) (f : PairOut → PairOut) : (d.modOut m f).time = d.time := rfl
@[simp] theorem Dev.modOut_fresh (m : BitVec 14) (f : PairOut → PairOut) : (d.modOut m f).fresh = d.fresh := rfl
@[simp] theorem Dev.modOut_full (m : BitVec 14) (f : PairOut → PairOut) : (d.modOut m f).full = d.full := rfl
@[simp] theorem Dev.modOut_signetMask (m : BitVec 14) (f : PairOut → PairOut) : (d.modOut m f).signetMask = d.signetMask := rfl
@[simp] theorem Dev.modOut_overSignet (m : BitVec 14) (f : PairOut → PairOut) : (d.modOut m f).overSignet = d.overSignet := rfl
@[simp] theorem Dev.modOut_mem (m : BitVec 14) (f : PairOut → PairOut) : (d.modOut m f).mem = d.mem := rfl
@[simp] theorem Dev.modOut_cores (m : BitVec 14) (f : PairOut → PairOut) : (d.modOut m f).cores = d.cores := rfl
@[simp] theorem Dev.modOut_coh (m : BitVec 14) (f : PairOut → PairOut) : (d.modOut m f).coh = d.coh := rfl
@[simp] theorem Dev.modOut_fe (m : BitVec 14) (f : PairOut → PairOut) : (d.modOut m f).fe = d.fe := rfl
@[simp] theorem Dev.modOut_ports (m : BitVec 14) (f : PairOut → PairOut) : (d.modOut m f).ports = d.ports := rfl
@[simp] theorem Dev.modOut_parts (m : BitVec 14) (f : PairOut → PairOut) : (d.modOut m f).parts = d.parts := rfl
@[simp] theorem Dev.modOut_rigs (m : BitVec 14) (f : PairOut → PairOut) : (d.modOut m f).rigs = d.rigs := rfl
@[simp] theorem Dev.modOut_pkg (m : BitVec 14) (f : PairOut → PairOut) : (d.modOut m f).pkg = d.pkg := rfl
@[simp] theorem Dev.modOut_power (m : BitVec 14) (f : PairOut → PairOut) : (d.modOut m f).power = d.power := rfl
@[simp] theorem Dev.modOut_tm (m : BitVec 14) (f : PairOut → PairOut) : (d.modOut m f).tm = d.tm := rfl
@[simp] theorem Dev.modOut_sec (m : BitVec 14) (f : PairOut → PairOut) : (d.modOut m f).sec = d.sec := rfl
@[simp] theorem Dev.modOut_rel (m : BitVec 14) (f : PairOut → PairOut) : (d.modOut m f).rel = d.rel := rfl
@[simp] theorem Dev.modOut_rst (m : BitVec 14) (f : PairOut → PairOut) : (d.modOut m f).rst = d.rst := rfl
@[simp] theorem Dev.modOut_boot (m : BitVec 14) (f : PairOut → PairOut) : (d.modOut m f).boot = d.boot := rfl
@[simp] theorem Dev.modOut_cfg (m : BitVec 14) (f : PairOut → PairOut) : (d.modOut m f).cfg = d.cfg := rfl
@[simp] theorem Dev.modOut_dict (m : BitVec 14) (f : PairOut → PairOut) : (d.modOut m f).dict = d.dict := rfl
@[simp] theorem Dev.modOut_host (m : BitVec 14) (f : PairOut → PairOut) : (d.modOut m f).host = d.host := rfl
@[simp] theorem Dev.modOut_pins (m : BitVec 14) (f : PairOut → PairOut) : (d.modOut m f).pins = d.pins := rfl
@[simp] theorem Dev.modOut_out (m : BitVec 14) (f : PairOut → PairOut) : (d.modOut m f).out = d.out := rfl

/-! ### modInn -/

@[simp] theorem Dev.modInn_time (m : BitVec 14) (f : PairIn → PairIn) : (d.modInn m f).time = d.time := rfl
@[simp] theorem Dev.modInn_fresh (m : BitVec 14) (f : PairIn → PairIn) : (d.modInn m f).fresh = d.fresh := rfl
@[simp] theorem Dev.modInn_full (m : BitVec 14) (f : PairIn → PairIn) : (d.modInn m f).full = d.full := rfl
@[simp] theorem Dev.modInn_signetMask (m : BitVec 14) (f : PairIn → PairIn) : (d.modInn m f).signetMask = d.signetMask := rfl
@[simp] theorem Dev.modInn_overSignet (m : BitVec 14) (f : PairIn → PairIn) : (d.modInn m f).overSignet = d.overSignet := rfl
@[simp] theorem Dev.modInn_mem (m : BitVec 14) (f : PairIn → PairIn) : (d.modInn m f).mem = d.mem := rfl
@[simp] theorem Dev.modInn_cores (m : BitVec 14) (f : PairIn → PairIn) : (d.modInn m f).cores = d.cores := rfl
@[simp] theorem Dev.modInn_coh (m : BitVec 14) (f : PairIn → PairIn) : (d.modInn m f).coh = d.coh := rfl
@[simp] theorem Dev.modInn_fe (m : BitVec 14) (f : PairIn → PairIn) : (d.modInn m f).fe = d.fe := rfl
@[simp] theorem Dev.modInn_ports (m : BitVec 14) (f : PairIn → PairIn) : (d.modInn m f).ports = d.ports := rfl
@[simp] theorem Dev.modInn_parts (m : BitVec 14) (f : PairIn → PairIn) : (d.modInn m f).parts = d.parts := rfl
@[simp] theorem Dev.modInn_rigs (m : BitVec 14) (f : PairIn → PairIn) : (d.modInn m f).rigs = d.rigs := rfl
@[simp] theorem Dev.modInn_pkg (m : BitVec 14) (f : PairIn → PairIn) : (d.modInn m f).pkg = d.pkg := rfl
@[simp] theorem Dev.modInn_power (m : BitVec 14) (f : PairIn → PairIn) : (d.modInn m f).power = d.power := rfl
@[simp] theorem Dev.modInn_tm (m : BitVec 14) (f : PairIn → PairIn) : (d.modInn m f).tm = d.tm := rfl
@[simp] theorem Dev.modInn_sec (m : BitVec 14) (f : PairIn → PairIn) : (d.modInn m f).sec = d.sec := rfl
@[simp] theorem Dev.modInn_rel (m : BitVec 14) (f : PairIn → PairIn) : (d.modInn m f).rel = d.rel := rfl
@[simp] theorem Dev.modInn_rst (m : BitVec 14) (f : PairIn → PairIn) : (d.modInn m f).rst = d.rst := rfl
@[simp] theorem Dev.modInn_boot (m : BitVec 14) (f : PairIn → PairIn) : (d.modInn m f).boot = d.boot := rfl
@[simp] theorem Dev.modInn_cfg (m : BitVec 14) (f : PairIn → PairIn) : (d.modInn m f).cfg = d.cfg := rfl
@[simp] theorem Dev.modInn_dict (m : BitVec 14) (f : PairIn → PairIn) : (d.modInn m f).dict = d.dict := rfl
@[simp] theorem Dev.modInn_host (m : BitVec 14) (f : PairIn → PairIn) : (d.modInn m f).host = d.host := rfl
@[simp] theorem Dev.modInn_pins (m : BitVec 14) (f : PairIn → PairIn) : (d.modInn m f).pins = d.pins := rfl
@[simp] theorem Dev.modInn_out (m : BitVec 14) (f : PairIn → PairIn) : (d.modInn m f).out = d.out := rfl

/-! ### modHaly -/

@[simp] theorem Dev.modHaly_time (h : Nat) (f : HalyardIn → HalyardIn) : (d.modHaly h f).time = d.time := rfl
@[simp] theorem Dev.modHaly_fresh (h : Nat) (f : HalyardIn → HalyardIn) : (d.modHaly h f).fresh = d.fresh := rfl
@[simp] theorem Dev.modHaly_full (h : Nat) (f : HalyardIn → HalyardIn) : (d.modHaly h f).full = d.full := rfl
@[simp] theorem Dev.modHaly_signetMask (h : Nat) (f : HalyardIn → HalyardIn) : (d.modHaly h f).signetMask = d.signetMask := rfl
@[simp] theorem Dev.modHaly_overSignet (h : Nat) (f : HalyardIn → HalyardIn) : (d.modHaly h f).overSignet = d.overSignet := rfl
@[simp] theorem Dev.modHaly_mem (h : Nat) (f : HalyardIn → HalyardIn) : (d.modHaly h f).mem = d.mem := rfl
@[simp] theorem Dev.modHaly_cores (h : Nat) (f : HalyardIn → HalyardIn) : (d.modHaly h f).cores = d.cores := rfl
@[simp] theorem Dev.modHaly_coh (h : Nat) (f : HalyardIn → HalyardIn) : (d.modHaly h f).coh = d.coh := rfl
@[simp] theorem Dev.modHaly_fe (h : Nat) (f : HalyardIn → HalyardIn) : (d.modHaly h f).fe = d.fe := rfl
@[simp] theorem Dev.modHaly_ports (h : Nat) (f : HalyardIn → HalyardIn) : (d.modHaly h f).ports = d.ports := rfl
@[simp] theorem Dev.modHaly_parts (h : Nat) (f : HalyardIn → HalyardIn) : (d.modHaly h f).parts = d.parts := rfl
@[simp] theorem Dev.modHaly_rigs (h : Nat) (f : HalyardIn → HalyardIn) : (d.modHaly h f).rigs = d.rigs := rfl
@[simp] theorem Dev.modHaly_pkg (h : Nat) (f : HalyardIn → HalyardIn) : (d.modHaly h f).pkg = d.pkg := rfl
@[simp] theorem Dev.modHaly_power (h : Nat) (f : HalyardIn → HalyardIn) : (d.modHaly h f).power = d.power := rfl
@[simp] theorem Dev.modHaly_tm (h : Nat) (f : HalyardIn → HalyardIn) : (d.modHaly h f).tm = d.tm := rfl
@[simp] theorem Dev.modHaly_sec (h : Nat) (f : HalyardIn → HalyardIn) : (d.modHaly h f).sec = d.sec := rfl
@[simp] theorem Dev.modHaly_rel (h : Nat) (f : HalyardIn → HalyardIn) : (d.modHaly h f).rel = d.rel := rfl
@[simp] theorem Dev.modHaly_rst (h : Nat) (f : HalyardIn → HalyardIn) : (d.modHaly h f).rst = d.rst := rfl
@[simp] theorem Dev.modHaly_boot (h : Nat) (f : HalyardIn → HalyardIn) : (d.modHaly h f).boot = d.boot := rfl
@[simp] theorem Dev.modHaly_cfg (h : Nat) (f : HalyardIn → HalyardIn) : (d.modHaly h f).cfg = d.cfg := rfl
@[simp] theorem Dev.modHaly_dict (h : Nat) (f : HalyardIn → HalyardIn) : (d.modHaly h f).dict = d.dict := rfl
@[simp] theorem Dev.modHaly_host (h : Nat) (f : HalyardIn → HalyardIn) : (d.modHaly h f).host = d.host := rfl
@[simp] theorem Dev.modHaly_pins (h : Nat) (f : HalyardIn → HalyardIn) : (d.modHaly h f).pins = d.pins := rfl
@[simp] theorem Dev.modHaly_out (h : Nat) (f : HalyardIn → HalyardIn) : (d.modHaly h f).out = d.out := rfl

/-! ### modPair -/

@[simp] theorem Dev.modPair_time (s : Bool) (f : Pair → Pair) : (d.modPair s f).time = d.time := by unfold Dev.modPair; split <;> rfl
@[simp] theorem Dev.modPair_fresh (s : Bool) (f : Pair → Pair) : (d.modPair s f).fresh = d.fresh := by unfold Dev.modPair; split <;> rfl
@[simp] theorem Dev.modPair_full (s : Bool) (f : Pair → Pair) : (d.modPair s f).full = d.full := by unfold Dev.modPair; split <;> rfl
@[simp] theorem Dev.modPair_signetMask (s : Bool) (f : Pair → Pair) : (d.modPair s f).signetMask = d.signetMask := by unfold Dev.modPair; split <;> rfl
@[simp] theorem Dev.modPair_overSignet (s : Bool) (f : Pair → Pair) : (d.modPair s f).overSignet = d.overSignet := by unfold Dev.modPair; split <;> rfl
@[simp] theorem Dev.modPair_mem (s : Bool) (f : Pair → Pair) : (d.modPair s f).mem = d.mem := by unfold Dev.modPair; split <;> rfl
@[simp] theorem Dev.modPair_cores (s : Bool) (f : Pair → Pair) : (d.modPair s f).cores = d.cores := by unfold Dev.modPair; split <;> rfl
@[simp] theorem Dev.modPair_coh (s : Bool) (f : Pair → Pair) : (d.modPair s f).coh = d.coh := by unfold Dev.modPair; split <;> rfl
@[simp] theorem Dev.modPair_fe (s : Bool) (f : Pair → Pair) : (d.modPair s f).fe = d.fe := by unfold Dev.modPair; split <;> rfl
@[simp] theorem Dev.modPair_ports (s : Bool) (f : Pair → Pair) : (d.modPair s f).ports = d.ports := by unfold Dev.modPair; split <;> rfl
@[simp] theorem Dev.modPair_fab (s : Bool) (f : Pair → Pair) : (d.modPair s f).fab = d.fab := by unfold Dev.modPair; split <;> rfl
@[simp] theorem Dev.modPair_parts (s : Bool) (f : Pair → Pair) : (d.modPair s f).parts = d.parts := by unfold Dev.modPair; split <;> rfl
@[simp] theorem Dev.modPair_rigs (s : Bool) (f : Pair → Pair) : (d.modPair s f).rigs = d.rigs := by unfold Dev.modPair; split <;> rfl
@[simp] theorem Dev.modPair_pkg (s : Bool) (f : Pair → Pair) : (d.modPair s f).pkg = d.pkg := by unfold Dev.modPair; split <;> rfl
@[simp] theorem Dev.modPair_power (s : Bool) (f : Pair → Pair) : (d.modPair s f).power = d.power := by unfold Dev.modPair; split <;> rfl
@[simp] theorem Dev.modPair_tm (s : Bool) (f : Pair → Pair) : (d.modPair s f).tm = d.tm := by unfold Dev.modPair; split <;> rfl
@[simp] theorem Dev.modPair_sec (s : Bool) (f : Pair → Pair) : (d.modPair s f).sec = d.sec := by unfold Dev.modPair; split <;> rfl
@[simp] theorem Dev.modPair_rst (s : Bool) (f : Pair → Pair) : (d.modPair s f).rst = d.rst := by unfold Dev.modPair; split <;> rfl
@[simp] theorem Dev.modPair_boot (s : Bool) (f : Pair → Pair) : (d.modPair s f).boot = d.boot := by unfold Dev.modPair; split <;> rfl
@[simp] theorem Dev.modPair_cfg (s : Bool) (f : Pair → Pair) : (d.modPair s f).cfg = d.cfg := by unfold Dev.modPair; split <;> rfl
@[simp] theorem Dev.modPair_dict (s : Bool) (f : Pair → Pair) : (d.modPair s f).dict = d.dict := by unfold Dev.modPair; split <;> rfl
@[simp] theorem Dev.modPair_host (s : Bool) (f : Pair → Pair) : (d.modPair s f).host = d.host := by unfold Dev.modPair; split <;> rfl
@[simp] theorem Dev.modPair_pins (s : Bool) (f : Pair → Pair) : (d.modPair s f).pins = d.pins := by unfold Dev.modPair; split <;> rfl
@[simp] theorem Dev.modPair_out (s : Bool) (f : Pair → Pair) : (d.modPair s f).out = d.out := by unfold Dev.modPair; split <;> rfl

/-! ### modCorePower -/

@[simp] theorem Dev.modCorePower_time (c : Nat) (f : CorePower → CorePower) : (d.modCorePower c f).time = d.time := rfl
@[simp] theorem Dev.modCorePower_fresh (c : Nat) (f : CorePower → CorePower) : (d.modCorePower c f).fresh = d.fresh := rfl
@[simp] theorem Dev.modCorePower_full (c : Nat) (f : CorePower → CorePower) : (d.modCorePower c f).full = d.full := rfl
@[simp] theorem Dev.modCorePower_signetMask (c : Nat) (f : CorePower → CorePower) : (d.modCorePower c f).signetMask = d.signetMask := rfl
@[simp] theorem Dev.modCorePower_overSignet (c : Nat) (f : CorePower → CorePower) : (d.modCorePower c f).overSignet = d.overSignet := rfl
@[simp] theorem Dev.modCorePower_mem (c : Nat) (f : CorePower → CorePower) : (d.modCorePower c f).mem = d.mem := rfl
@[simp] theorem Dev.modCorePower_cores (c : Nat) (f : CorePower → CorePower) : (d.modCorePower c f).cores = d.cores := rfl
@[simp] theorem Dev.modCorePower_coh (c : Nat) (f : CorePower → CorePower) : (d.modCorePower c f).coh = d.coh := rfl
@[simp] theorem Dev.modCorePower_fe (c : Nat) (f : CorePower → CorePower) : (d.modCorePower c f).fe = d.fe := rfl
@[simp] theorem Dev.modCorePower_ports (c : Nat) (f : CorePower → CorePower) : (d.modCorePower c f).ports = d.ports := rfl
@[simp] theorem Dev.modCorePower_fab (c : Nat) (f : CorePower → CorePower) : (d.modCorePower c f).fab = d.fab := rfl
@[simp] theorem Dev.modCorePower_parts (c : Nat) (f : CorePower → CorePower) : (d.modCorePower c f).parts = d.parts := rfl
@[simp] theorem Dev.modCorePower_rigs (c : Nat) (f : CorePower → CorePower) : (d.modCorePower c f).rigs = d.rigs := rfl
@[simp] theorem Dev.modCorePower_pkg (c : Nat) (f : CorePower → CorePower) : (d.modCorePower c f).pkg = d.pkg := rfl
@[simp] theorem Dev.modCorePower_tm (c : Nat) (f : CorePower → CorePower) : (d.modCorePower c f).tm = d.tm := rfl
@[simp] theorem Dev.modCorePower_sec (c : Nat) (f : CorePower → CorePower) : (d.modCorePower c f).sec = d.sec := rfl
@[simp] theorem Dev.modCorePower_rel (c : Nat) (f : CorePower → CorePower) : (d.modCorePower c f).rel = d.rel := rfl
@[simp] theorem Dev.modCorePower_rst (c : Nat) (f : CorePower → CorePower) : (d.modCorePower c f).rst = d.rst := rfl
@[simp] theorem Dev.modCorePower_boot (c : Nat) (f : CorePower → CorePower) : (d.modCorePower c f).boot = d.boot := rfl
@[simp] theorem Dev.modCorePower_cfg (c : Nat) (f : CorePower → CorePower) : (d.modCorePower c f).cfg = d.cfg := rfl
@[simp] theorem Dev.modCorePower_dict (c : Nat) (f : CorePower → CorePower) : (d.modCorePower c f).dict = d.dict := rfl
@[simp] theorem Dev.modCorePower_host (c : Nat) (f : CorePower → CorePower) : (d.modCorePower c f).host = d.host := rfl
@[simp] theorem Dev.modCorePower_pins (c : Nat) (f : CorePower → CorePower) : (d.modCorePower c f).pins = d.pins := rfl
@[simp] theorem Dev.modCorePower_out (c : Nat) (f : CorePower → CorePower) : (d.modCorePower c f).out = d.out := rfl

/-! ### modClusterPower -/

@[simp] theorem Dev.modClusterPower_time (k : Nat) (f : ClusterPower → ClusterPower) : (d.modClusterPower k f).time = d.time := rfl
@[simp] theorem Dev.modClusterPower_fresh (k : Nat) (f : ClusterPower → ClusterPower) : (d.modClusterPower k f).fresh = d.fresh := rfl
@[simp] theorem Dev.modClusterPower_full (k : Nat) (f : ClusterPower → ClusterPower) : (d.modClusterPower k f).full = d.full := rfl
@[simp] theorem Dev.modClusterPower_signetMask (k : Nat) (f : ClusterPower → ClusterPower) : (d.modClusterPower k f).signetMask = d.signetMask := rfl
@[simp] theorem Dev.modClusterPower_overSignet (k : Nat) (f : ClusterPower → ClusterPower) : (d.modClusterPower k f).overSignet = d.overSignet := rfl
@[simp] theorem Dev.modClusterPower_mem (k : Nat) (f : ClusterPower → ClusterPower) : (d.modClusterPower k f).mem = d.mem := rfl
@[simp] theorem Dev.modClusterPower_cores (k : Nat) (f : ClusterPower → ClusterPower) : (d.modClusterPower k f).cores = d.cores := rfl
@[simp] theorem Dev.modClusterPower_coh (k : Nat) (f : ClusterPower → ClusterPower) : (d.modClusterPower k f).coh = d.coh := rfl
@[simp] theorem Dev.modClusterPower_fe (k : Nat) (f : ClusterPower → ClusterPower) : (d.modClusterPower k f).fe = d.fe := rfl
@[simp] theorem Dev.modClusterPower_ports (k : Nat) (f : ClusterPower → ClusterPower) : (d.modClusterPower k f).ports = d.ports := rfl
@[simp] theorem Dev.modClusterPower_fab (k : Nat) (f : ClusterPower → ClusterPower) : (d.modClusterPower k f).fab = d.fab := rfl
@[simp] theorem Dev.modClusterPower_parts (k : Nat) (f : ClusterPower → ClusterPower) : (d.modClusterPower k f).parts = d.parts := rfl
@[simp] theorem Dev.modClusterPower_rigs (k : Nat) (f : ClusterPower → ClusterPower) : (d.modClusterPower k f).rigs = d.rigs := rfl
@[simp] theorem Dev.modClusterPower_pkg (k : Nat) (f : ClusterPower → ClusterPower) : (d.modClusterPower k f).pkg = d.pkg := rfl
@[simp] theorem Dev.modClusterPower_tm (k : Nat) (f : ClusterPower → ClusterPower) : (d.modClusterPower k f).tm = d.tm := rfl
@[simp] theorem Dev.modClusterPower_sec (k : Nat) (f : ClusterPower → ClusterPower) : (d.modClusterPower k f).sec = d.sec := rfl
@[simp] theorem Dev.modClusterPower_rel (k : Nat) (f : ClusterPower → ClusterPower) : (d.modClusterPower k f).rel = d.rel := rfl
@[simp] theorem Dev.modClusterPower_rst (k : Nat) (f : ClusterPower → ClusterPower) : (d.modClusterPower k f).rst = d.rst := rfl
@[simp] theorem Dev.modClusterPower_boot (k : Nat) (f : ClusterPower → ClusterPower) : (d.modClusterPower k f).boot = d.boot := rfl
@[simp] theorem Dev.modClusterPower_cfg (k : Nat) (f : ClusterPower → ClusterPower) : (d.modClusterPower k f).cfg = d.cfg := rfl
@[simp] theorem Dev.modClusterPower_dict (k : Nat) (f : ClusterPower → ClusterPower) : (d.modClusterPower k f).dict = d.dict := rfl
@[simp] theorem Dev.modClusterPower_host (k : Nat) (f : ClusterPower → ClusterPower) : (d.modClusterPower k f).host = d.host := rfl
@[simp] theorem Dev.modClusterPower_pins (k : Nat) (f : ClusterPower → ClusterPower) : (d.modClusterPower k f).pins = d.pins := rfl
@[simp] theorem Dev.modClusterPower_out (k : Nat) (f : ClusterPower → ClusterPower) : (d.modClusterPower k f).out = d.out := rfl

/-! ### setBox -/

@[simp] theorem Dev.setBox_time (i : Nat) (b : Mailbox) : (d.setBox i b).time = d.time := rfl
@[simp] theorem Dev.setBox_fresh (i : Nat) (b : Mailbox) : (d.setBox i b).fresh = d.fresh := rfl
@[simp] theorem Dev.setBox_full (i : Nat) (b : Mailbox) : (d.setBox i b).full = d.full := rfl
@[simp] theorem Dev.setBox_signetMask (i : Nat) (b : Mailbox) : (d.setBox i b).signetMask = d.signetMask := rfl
@[simp] theorem Dev.setBox_overSignet (i : Nat) (b : Mailbox) : (d.setBox i b).overSignet = d.overSignet := rfl
@[simp] theorem Dev.setBox_mem (i : Nat) (b : Mailbox) : (d.setBox i b).mem = d.mem := rfl
@[simp] theorem Dev.setBox_cores (i : Nat) (b : Mailbox) : (d.setBox i b).cores = d.cores := rfl
@[simp] theorem Dev.setBox_coh (i : Nat) (b : Mailbox) : (d.setBox i b).coh = d.coh := rfl
@[simp] theorem Dev.setBox_fe (i : Nat) (b : Mailbox) : (d.setBox i b).fe = d.fe := rfl
@[simp] theorem Dev.setBox_ports (i : Nat) (b : Mailbox) : (d.setBox i b).ports = d.ports := rfl
@[simp] theorem Dev.setBox_fab (i : Nat) (b : Mailbox) : (d.setBox i b).fab = d.fab := rfl
@[simp] theorem Dev.setBox_parts (i : Nat) (b : Mailbox) : (d.setBox i b).parts = d.parts := rfl
@[simp] theorem Dev.setBox_rigs (i : Nat) (b : Mailbox) : (d.setBox i b).rigs = d.rigs := rfl
@[simp] theorem Dev.setBox_pkg (i : Nat) (b : Mailbox) : (d.setBox i b).pkg = d.pkg := rfl
@[simp] theorem Dev.setBox_power (i : Nat) (b : Mailbox) : (d.setBox i b).power = d.power := rfl
@[simp] theorem Dev.setBox_tm (i : Nat) (b : Mailbox) : (d.setBox i b).tm = d.tm := rfl
@[simp] theorem Dev.setBox_sec (i : Nat) (b : Mailbox) : (d.setBox i b).sec = d.sec := rfl
@[simp] theorem Dev.setBox_rel (i : Nat) (b : Mailbox) : (d.setBox i b).rel = d.rel := rfl
@[simp] theorem Dev.setBox_rst (i : Nat) (b : Mailbox) : (d.setBox i b).rst = d.rst := rfl
@[simp] theorem Dev.setBox_boot (i : Nat) (b : Mailbox) : (d.setBox i b).boot = d.boot := rfl
@[simp] theorem Dev.setBox_cfg (i : Nat) (b : Mailbox) : (d.setBox i b).cfg = d.cfg := rfl
@[simp] theorem Dev.setBox_host (i : Nat) (b : Mailbox) : (d.setBox i b).host = d.host := rfl
@[simp] theorem Dev.setBox_pins (i : Nat) (b : Mailbox) : (d.setBox i b).pins = d.pins := rfl
@[simp] theorem Dev.setBox_out (i : Nat) (b : Mailbox) : (d.setBox i b).out = d.out := rfl

/-! ### stale -/

@[simp] theorem Dev.stale_time : d.stale.time = d.time := rfl
@[simp] theorem Dev.stale_fresh : d.stale.fresh = d.fresh := rfl
@[simp] theorem Dev.stale_full : d.stale.full = d.full := rfl
@[simp] theorem Dev.stale_signetMask : d.stale.signetMask = d.signetMask := rfl
@[simp] theorem Dev.stale_overSignet : d.stale.overSignet = d.overSignet := rfl
@[simp] theorem Dev.stale_mem : d.stale.mem = d.mem := rfl
@[simp] theorem Dev.stale_cores : d.stale.cores = d.cores := rfl
@[simp] theorem Dev.stale_coh : d.stale.coh = d.coh := rfl
@[simp] theorem Dev.stale_ports : d.stale.ports = d.ports := rfl
@[simp] theorem Dev.stale_fab : d.stale.fab = d.fab := rfl
@[simp] theorem Dev.stale_parts : d.stale.parts = d.parts := rfl
@[simp] theorem Dev.stale_rigs : d.stale.rigs = d.rigs := rfl
@[simp] theorem Dev.stale_pkg : d.stale.pkg = d.pkg := rfl
@[simp] theorem Dev.stale_power : d.stale.power = d.power := rfl
@[simp] theorem Dev.stale_tm : d.stale.tm = d.tm := rfl
@[simp] theorem Dev.stale_sec : d.stale.sec = d.sec := rfl
@[simp] theorem Dev.stale_rel : d.stale.rel = d.rel := rfl
@[simp] theorem Dev.stale_rst : d.stale.rst = d.rst := rfl
@[simp] theorem Dev.stale_boot : d.stale.boot = d.boot := rfl
@[simp] theorem Dev.stale_cfg : d.stale.cfg = d.cfg := rfl
@[simp] theorem Dev.stale_dict : d.stale.dict = d.dict := rfl
@[simp] theorem Dev.stale_host : d.stale.host = d.host := rfl
@[simp] theorem Dev.stale_pins : d.stale.pins = d.pins := rfl
@[simp] theorem Dev.stale_out : d.stale.out = d.out := rfl

/-! ### retry -/

@[simp] theorem Dev.retry_time (c n : Nat) : (d.retry c n).time = d.time := rfl
@[simp] theorem Dev.retry_fresh (c n : Nat) : (d.retry c n).fresh = d.fresh := rfl
@[simp] theorem Dev.retry_full (c n : Nat) : (d.retry c n).full = d.full := rfl
@[simp] theorem Dev.retry_signetMask (c n : Nat) : (d.retry c n).signetMask = d.signetMask := rfl
@[simp] theorem Dev.retry_overSignet (c n : Nat) : (d.retry c n).overSignet = d.overSignet := rfl
@[simp] theorem Dev.retry_mem (c n : Nat) : (d.retry c n).mem = d.mem := rfl
@[simp] theorem Dev.retry_coh (c n : Nat) : (d.retry c n).coh = d.coh := rfl
@[simp] theorem Dev.retry_fe (c n : Nat) : (d.retry c n).fe = d.fe := rfl
@[simp] theorem Dev.retry_ports (c n : Nat) : (d.retry c n).ports = d.ports := rfl
@[simp] theorem Dev.retry_fab (c n : Nat) : (d.retry c n).fab = d.fab := rfl
@[simp] theorem Dev.retry_parts (c n : Nat) : (d.retry c n).parts = d.parts := rfl
@[simp] theorem Dev.retry_rigs (c n : Nat) : (d.retry c n).rigs = d.rigs := rfl
@[simp] theorem Dev.retry_pkg (c n : Nat) : (d.retry c n).pkg = d.pkg := rfl
@[simp] theorem Dev.retry_power (c n : Nat) : (d.retry c n).power = d.power := rfl
@[simp] theorem Dev.retry_tm (c n : Nat) : (d.retry c n).tm = d.tm := rfl
@[simp] theorem Dev.retry_sec (c n : Nat) : (d.retry c n).sec = d.sec := rfl
@[simp] theorem Dev.retry_rel (c n : Nat) : (d.retry c n).rel = d.rel := rfl
@[simp] theorem Dev.retry_rst (c n : Nat) : (d.retry c n).rst = d.rst := rfl
@[simp] theorem Dev.retry_boot (c n : Nat) : (d.retry c n).boot = d.boot := rfl
@[simp] theorem Dev.retry_cfg (c n : Nat) : (d.retry c n).cfg = d.cfg := rfl
@[simp] theorem Dev.retry_dict (c n : Nat) : (d.retry c n).dict = d.dict := rfl
@[simp] theorem Dev.retry_host (c n : Nat) : (d.retry c n).host = d.host := rfl
@[simp] theorem Dev.retry_pins (c n : Nat) : (d.retry c n).pins = d.pins := rfl
@[simp] theorem Dev.retry_out (c n : Nat) : (d.retry c n).out = d.out := rfl

/-! ### event -/

@[simp] theorem Dev.event_time (p : Nat) : (d.event p).time = d.time := rfl
@[simp] theorem Dev.event_fresh (p : Nat) : (d.event p).fresh = d.fresh := rfl
@[simp] theorem Dev.event_full (p : Nat) : (d.event p).full = d.full := rfl
@[simp] theorem Dev.event_signetMask (p : Nat) : (d.event p).signetMask = d.signetMask := rfl
@[simp] theorem Dev.event_overSignet (p : Nat) : (d.event p).overSignet = d.overSignet := rfl
@[simp] theorem Dev.event_mem (p : Nat) : (d.event p).mem = d.mem := rfl
@[simp] theorem Dev.event_cores (p : Nat) : (d.event p).cores = d.cores := rfl
@[simp] theorem Dev.event_coh (p : Nat) : (d.event p).coh = d.coh := rfl
@[simp] theorem Dev.event_fe (p : Nat) : (d.event p).fe = d.fe := rfl
@[simp] theorem Dev.event_ports (p : Nat) : (d.event p).ports = d.ports := rfl
@[simp] theorem Dev.event_fab (p : Nat) : (d.event p).fab = d.fab := rfl
@[simp] theorem Dev.event_rigs (p : Nat) : (d.event p).rigs = d.rigs := rfl
@[simp] theorem Dev.event_pkg (p : Nat) : (d.event p).pkg = d.pkg := rfl
@[simp] theorem Dev.event_power (p : Nat) : (d.event p).power = d.power := rfl
@[simp] theorem Dev.event_tm (p : Nat) : (d.event p).tm = d.tm := rfl
@[simp] theorem Dev.event_sec (p : Nat) : (d.event p).sec = d.sec := rfl
@[simp] theorem Dev.event_rel (p : Nat) : (d.event p).rel = d.rel := rfl
@[simp] theorem Dev.event_rst (p : Nat) : (d.event p).rst = d.rst := rfl
@[simp] theorem Dev.event_boot (p : Nat) : (d.event p).boot = d.boot := rfl
@[simp] theorem Dev.event_cfg (p : Nat) : (d.event p).cfg = d.cfg := rfl
@[simp] theorem Dev.event_dict (p : Nat) : (d.event p).dict = d.dict := rfl
@[simp] theorem Dev.event_host (p : Nat) : (d.event p).host = d.host := rfl
@[simp] theorem Dev.event_pins (p : Nat) : (d.event p).pins = d.pins := rfl
@[simp] theorem Dev.event_out (p : Nat) : (d.event p).out = d.out := rfl

/-! ### finish -/

@[simp] theorem Dev.finish_time (c i : Nat) (r : Completion) : (d.finish c i r).time = d.time := rfl
@[simp] theorem Dev.finish_fresh (c i : Nat) (r : Completion) : (d.finish c i r).fresh = d.fresh := rfl
@[simp] theorem Dev.finish_full (c i : Nat) (r : Completion) : (d.finish c i r).full = d.full := rfl
@[simp] theorem Dev.finish_signetMask (c i : Nat) (r : Completion) : (d.finish c i r).signetMask = d.signetMask := rfl
@[simp] theorem Dev.finish_overSignet (c i : Nat) (r : Completion) : (d.finish c i r).overSignet = d.overSignet := rfl
@[simp] theorem Dev.finish_mem (c i : Nat) (r : Completion) : (d.finish c i r).mem = d.mem := rfl
@[simp] theorem Dev.finish_coh (c i : Nat) (r : Completion) : (d.finish c i r).coh = d.coh := rfl
@[simp] theorem Dev.finish_fe (c i : Nat) (r : Completion) : (d.finish c i r).fe = d.fe := rfl
@[simp] theorem Dev.finish_ports (c i : Nat) (r : Completion) : (d.finish c i r).ports = d.ports := rfl
@[simp] theorem Dev.finish_fab (c i : Nat) (r : Completion) : (d.finish c i r).fab = d.fab := rfl
@[simp] theorem Dev.finish_parts (c i : Nat) (r : Completion) : (d.finish c i r).parts = d.parts := rfl
@[simp] theorem Dev.finish_rigs (c i : Nat) (r : Completion) : (d.finish c i r).rigs = d.rigs := rfl
@[simp] theorem Dev.finish_pkg (c i : Nat) (r : Completion) : (d.finish c i r).pkg = d.pkg := rfl
@[simp] theorem Dev.finish_power (c i : Nat) (r : Completion) : (d.finish c i r).power = d.power := rfl
@[simp] theorem Dev.finish_tm (c i : Nat) (r : Completion) : (d.finish c i r).tm = d.tm := rfl
@[simp] theorem Dev.finish_sec (c i : Nat) (r : Completion) : (d.finish c i r).sec = d.sec := rfl
@[simp] theorem Dev.finish_rel (c i : Nat) (r : Completion) : (d.finish c i r).rel = d.rel := rfl
@[simp] theorem Dev.finish_rst (c i : Nat) (r : Completion) : (d.finish c i r).rst = d.rst := rfl
@[simp] theorem Dev.finish_boot (c i : Nat) (r : Completion) : (d.finish c i r).boot = d.boot := rfl
@[simp] theorem Dev.finish_cfg (c i : Nat) (r : Completion) : (d.finish c i r).cfg = d.cfg := rfl
@[simp] theorem Dev.finish_dict (c i : Nat) (r : Completion) : (d.finish c i r).dict = d.dict := rfl
@[simp] theorem Dev.finish_host (c i : Nat) (r : Completion) : (d.finish c i r).host = d.host := rfl
@[simp] theorem Dev.finish_pins (c i : Nat) (r : Completion) : (d.finish c i r).pins = d.pins := rfl
@[simp] theorem Dev.finish_out (c i : Nat) (r : Completion) : (d.finish c i r).out = d.out := rfl

/-! ### hubSend -/

@[simp] theorem Dev.hubSend_time (p : Packet) : (d.hubSend p).time = d.time := rfl
@[simp] theorem Dev.hubSend_fresh (p : Packet) : (d.hubSend p).fresh = d.fresh := rfl
@[simp] theorem Dev.hubSend_full (p : Packet) : (d.hubSend p).full = d.full := rfl
@[simp] theorem Dev.hubSend_signetMask (p : Packet) : (d.hubSend p).signetMask = d.signetMask := rfl
@[simp] theorem Dev.hubSend_overSignet (p : Packet) : (d.hubSend p).overSignet = d.overSignet := rfl
@[simp] theorem Dev.hubSend_mem (p : Packet) : (d.hubSend p).mem = d.mem := rfl
@[simp] theorem Dev.hubSend_cores (p : Packet) : (d.hubSend p).cores = d.cores := rfl
@[simp] theorem Dev.hubSend_coh (p : Packet) : (d.hubSend p).coh = d.coh := rfl
@[simp] theorem Dev.hubSend_fe (p : Packet) : (d.hubSend p).fe = d.fe := rfl
@[simp] theorem Dev.hubSend_ports (p : Packet) : (d.hubSend p).ports = d.ports := rfl
@[simp] theorem Dev.hubSend_parts (p : Packet) : (d.hubSend p).parts = d.parts := rfl
@[simp] theorem Dev.hubSend_rigs (p : Packet) : (d.hubSend p).rigs = d.rigs := rfl
@[simp] theorem Dev.hubSend_pkg (p : Packet) : (d.hubSend p).pkg = d.pkg := rfl
@[simp] theorem Dev.hubSend_power (p : Packet) : (d.hubSend p).power = d.power := rfl
@[simp] theorem Dev.hubSend_tm (p : Packet) : (d.hubSend p).tm = d.tm := rfl
@[simp] theorem Dev.hubSend_sec (p : Packet) : (d.hubSend p).sec = d.sec := rfl
@[simp] theorem Dev.hubSend_rel (p : Packet) : (d.hubSend p).rel = d.rel := rfl
@[simp] theorem Dev.hubSend_rst (p : Packet) : (d.hubSend p).rst = d.rst := rfl
@[simp] theorem Dev.hubSend_boot (p : Packet) : (d.hubSend p).boot = d.boot := rfl
@[simp] theorem Dev.hubSend_cfg (p : Packet) : (d.hubSend p).cfg = d.cfg := rfl
@[simp] theorem Dev.hubSend_dict (p : Packet) : (d.hubSend p).dict = d.dict := rfl
@[simp] theorem Dev.hubSend_host (p : Packet) : (d.hubSend p).host = d.host := rfl
@[simp] theorem Dev.hubSend_pins (p : Packet) : (d.hubSend p).pins = d.pins := rfl
@[simp] theorem Dev.hubSend_out (p : Packet) : (d.hubSend p).out = d.out := rfl

/-! ### mgmt -/

@[simp] theorem Dev.mgmt_time (m : BitVec 14) (k : Nat) (as : List Nat) (bs : List Byte) : (d.mgmt m k as bs).time = d.time := rfl
@[simp] theorem Dev.mgmt_fresh (m : BitVec 14) (k : Nat) (as : List Nat) (bs : List Byte) : (d.mgmt m k as bs).fresh = d.fresh := rfl
@[simp] theorem Dev.mgmt_full (m : BitVec 14) (k : Nat) (as : List Nat) (bs : List Byte) : (d.mgmt m k as bs).full = d.full := rfl
@[simp] theorem Dev.mgmt_signetMask (m : BitVec 14) (k : Nat) (as : List Nat) (bs : List Byte) : (d.mgmt m k as bs).signetMask = d.signetMask := rfl
@[simp] theorem Dev.mgmt_overSignet (m : BitVec 14) (k : Nat) (as : List Nat) (bs : List Byte) : (d.mgmt m k as bs).overSignet = d.overSignet := rfl
@[simp] theorem Dev.mgmt_mem (m : BitVec 14) (k : Nat) (as : List Nat) (bs : List Byte) : (d.mgmt m k as bs).mem = d.mem := rfl
@[simp] theorem Dev.mgmt_cores (m : BitVec 14) (k : Nat) (as : List Nat) (bs : List Byte) : (d.mgmt m k as bs).cores = d.cores := rfl
@[simp] theorem Dev.mgmt_coh (m : BitVec 14) (k : Nat) (as : List Nat) (bs : List Byte) : (d.mgmt m k as bs).coh = d.coh := rfl
@[simp] theorem Dev.mgmt_fe (m : BitVec 14) (k : Nat) (as : List Nat) (bs : List Byte) : (d.mgmt m k as bs).fe = d.fe := rfl
@[simp] theorem Dev.mgmt_ports (m : BitVec 14) (k : Nat) (as : List Nat) (bs : List Byte) : (d.mgmt m k as bs).ports = d.ports := rfl
@[simp] theorem Dev.mgmt_parts (m : BitVec 14) (k : Nat) (as : List Nat) (bs : List Byte) : (d.mgmt m k as bs).parts = d.parts := rfl
@[simp] theorem Dev.mgmt_rigs (m : BitVec 14) (k : Nat) (as : List Nat) (bs : List Byte) : (d.mgmt m k as bs).rigs = d.rigs := rfl
@[simp] theorem Dev.mgmt_pkg (m : BitVec 14) (k : Nat) (as : List Nat) (bs : List Byte) : (d.mgmt m k as bs).pkg = d.pkg := rfl
@[simp] theorem Dev.mgmt_power (m : BitVec 14) (k : Nat) (as : List Nat) (bs : List Byte) : (d.mgmt m k as bs).power = d.power := rfl
@[simp] theorem Dev.mgmt_tm (m : BitVec 14) (k : Nat) (as : List Nat) (bs : List Byte) : (d.mgmt m k as bs).tm = d.tm := rfl
@[simp] theorem Dev.mgmt_sec (m : BitVec 14) (k : Nat) (as : List Nat) (bs : List Byte) : (d.mgmt m k as bs).sec = d.sec := rfl
@[simp] theorem Dev.mgmt_rel (m : BitVec 14) (k : Nat) (as : List Nat) (bs : List Byte) : (d.mgmt m k as bs).rel = d.rel := rfl
@[simp] theorem Dev.mgmt_rst (m : BitVec 14) (k : Nat) (as : List Nat) (bs : List Byte) : (d.mgmt m k as bs).rst = d.rst := rfl
@[simp] theorem Dev.mgmt_boot (m : BitVec 14) (k : Nat) (as : List Nat) (bs : List Byte) : (d.mgmt m k as bs).boot = d.boot := rfl
@[simp] theorem Dev.mgmt_cfg (m : BitVec 14) (k : Nat) (as : List Nat) (bs : List Byte) : (d.mgmt m k as bs).cfg = d.cfg := rfl
@[simp] theorem Dev.mgmt_dict (m : BitVec 14) (k : Nat) (as : List Nat) (bs : List Byte) : (d.mgmt m k as bs).dict = d.dict := rfl
@[simp] theorem Dev.mgmt_host (m : BitVec 14) (k : Nat) (as : List Nat) (bs : List Byte) : (d.mgmt m k as bs).host = d.host := rfl
@[simp] theorem Dev.mgmt_pins (m : BitVec 14) (k : Nat) (as : List Nat) (bs : List Byte) : (d.mgmt m k as bs).pins = d.pins := rfl
@[simp] theorem Dev.mgmt_out (m : BitVec 14) (k : Nat) (as : List Nat) (bs : List Byte) : (d.mgmt m k as bs).out = d.out := rfl

/-! ### egress -/

@[simp] theorem Dev.egress_time (p : Packet) (o : Owner) : (d.egress p o).time = d.time := rfl
@[simp] theorem Dev.egress_fresh (p : Packet) (o : Owner) : (d.egress p o).fresh = d.fresh := rfl
@[simp] theorem Dev.egress_full (p : Packet) (o : Owner) : (d.egress p o).full = d.full := rfl
@[simp] theorem Dev.egress_signetMask (p : Packet) (o : Owner) : (d.egress p o).signetMask = d.signetMask := rfl
@[simp] theorem Dev.egress_overSignet (p : Packet) (o : Owner) : (d.egress p o).overSignet = d.overSignet := rfl
@[simp] theorem Dev.egress_mem (p : Packet) (o : Owner) : (d.egress p o).mem = d.mem := rfl
@[simp] theorem Dev.egress_cores (p : Packet) (o : Owner) : (d.egress p o).cores = d.cores := rfl
@[simp] theorem Dev.egress_coh (p : Packet) (o : Owner) : (d.egress p o).coh = d.coh := rfl
@[simp] theorem Dev.egress_fe (p : Packet) (o : Owner) : (d.egress p o).fe = d.fe := rfl
@[simp] theorem Dev.egress_ports (p : Packet) (o : Owner) : (d.egress p o).ports = d.ports := rfl
@[simp] theorem Dev.egress_parts (p : Packet) (o : Owner) : (d.egress p o).parts = d.parts := rfl
@[simp] theorem Dev.egress_rigs (p : Packet) (o : Owner) : (d.egress p o).rigs = d.rigs := rfl
@[simp] theorem Dev.egress_pkg (p : Packet) (o : Owner) : (d.egress p o).pkg = d.pkg := rfl
@[simp] theorem Dev.egress_power (p : Packet) (o : Owner) : (d.egress p o).power = d.power := rfl
@[simp] theorem Dev.egress_tm (p : Packet) (o : Owner) : (d.egress p o).tm = d.tm := rfl
@[simp] theorem Dev.egress_sec (p : Packet) (o : Owner) : (d.egress p o).sec = d.sec := rfl
@[simp] theorem Dev.egress_rel (p : Packet) (o : Owner) : (d.egress p o).rel = d.rel := rfl
@[simp] theorem Dev.egress_rst (p : Packet) (o : Owner) : (d.egress p o).rst = d.rst := rfl
@[simp] theorem Dev.egress_boot (p : Packet) (o : Owner) : (d.egress p o).boot = d.boot := rfl
@[simp] theorem Dev.egress_cfg (p : Packet) (o : Owner) : (d.egress p o).cfg = d.cfg := rfl
@[simp] theorem Dev.egress_dict (p : Packet) (o : Owner) : (d.egress p o).dict = d.dict := rfl
@[simp] theorem Dev.egress_host (p : Packet) (o : Owner) : (d.egress p o).host = d.host := rfl
@[simp] theorem Dev.egress_pins (p : Packet) (o : Owner) : (d.egress p o).pins = d.pins := rfl
@[simp] theorem Dev.egress_out (p : Packet) (o : Owner) : (d.egress p o).out = d.out := rfl

/-! ### retag -/

@[simp] theorem Dev.retag_time : d.retag.time = d.time := rfl
@[simp] theorem Dev.retag_fresh : d.retag.fresh = d.fresh := rfl
@[simp] theorem Dev.retag_full : d.retag.full = d.full := rfl
@[simp] theorem Dev.retag_signetMask : d.retag.signetMask = d.signetMask := rfl
@[simp] theorem Dev.retag_overSignet : d.retag.overSignet = d.overSignet := rfl
@[simp] theorem Dev.retag_mem : d.retag.mem = d.mem := rfl
@[simp] theorem Dev.retag_cores : d.retag.cores = d.cores := rfl
@[simp] theorem Dev.retag_coh : d.retag.coh = d.coh := rfl
@[simp] theorem Dev.retag_fe : d.retag.fe = d.fe := rfl
@[simp] theorem Dev.retag_ports : d.retag.ports = d.ports := rfl
@[simp] theorem Dev.retag_fab : d.retag.fab = d.fab := rfl
@[simp] theorem Dev.retag_parts : d.retag.parts = d.parts := rfl
@[simp] theorem Dev.retag_rigs : d.retag.rigs = d.rigs := rfl
@[simp] theorem Dev.retag_pkg : d.retag.pkg = d.pkg := rfl
@[simp] theorem Dev.retag_power : d.retag.power = d.power := rfl
@[simp] theorem Dev.retag_tm : d.retag.tm = d.tm := rfl
@[simp] theorem Dev.retag_sec : d.retag.sec = d.sec := rfl
@[simp] theorem Dev.retag_rel : d.retag.rel = d.rel := rfl
@[simp] theorem Dev.retag_rst : d.retag.rst = d.rst := rfl
@[simp] theorem Dev.retag_boot : d.retag.boot = d.boot := rfl
@[simp] theorem Dev.retag_cfg : d.retag.cfg = d.cfg := rfl
@[simp] theorem Dev.retag_host : d.retag.host = d.host := rfl
@[simp] theorem Dev.retag_pins : d.retag.pins = d.pins := rfl
@[simp] theorem Dev.retag_out : d.retag.out = d.out := rfl

/-! ### writeRing -/

@[simp] theorem Dev.writeRing_time (r : Nat) (n : Notice) : (d.writeRing r n).time = d.time := by unfold Dev.writeRing; simp only []; split <;> rfl
@[simp] theorem Dev.writeRing_fresh (r : Nat) (n : Notice) : (d.writeRing r n).fresh = d.fresh := by unfold Dev.writeRing; simp only []; split <;> rfl
@[simp] theorem Dev.writeRing_full (r : Nat) (n : Notice) : (d.writeRing r n).full = d.full := by unfold Dev.writeRing; simp only []; split <;> rfl
@[simp] theorem Dev.writeRing_signetMask (r : Nat) (n : Notice) : (d.writeRing r n).signetMask = d.signetMask := by unfold Dev.writeRing; simp only []; split <;> rfl
@[simp] theorem Dev.writeRing_overSignet (r : Nat) (n : Notice) : (d.writeRing r n).overSignet = d.overSignet := by unfold Dev.writeRing; simp only []; split <;> rfl
@[simp] theorem Dev.writeRing_mem (r : Nat) (n : Notice) : (d.writeRing r n).mem = d.mem := by unfold Dev.writeRing; simp only []; split <;> rfl
@[simp] theorem Dev.writeRing_cores (r : Nat) (n : Notice) : (d.writeRing r n).cores = d.cores := by unfold Dev.writeRing; simp only []; split <;> rfl
@[simp] theorem Dev.writeRing_coh (r : Nat) (n : Notice) : (d.writeRing r n).coh = d.coh := by unfold Dev.writeRing; simp only []; split <;> rfl
@[simp] theorem Dev.writeRing_ports (r : Nat) (n : Notice) : (d.writeRing r n).ports = d.ports := by unfold Dev.writeRing; simp only []; split <;> rfl
@[simp] theorem Dev.writeRing_fab (r : Nat) (n : Notice) : (d.writeRing r n).fab = d.fab := by unfold Dev.writeRing; simp only []; split <;> rfl
@[simp] theorem Dev.writeRing_parts (r : Nat) (n : Notice) : (d.writeRing r n).parts = d.parts := by unfold Dev.writeRing; simp only []; split <;> rfl
@[simp] theorem Dev.writeRing_rigs (r : Nat) (n : Notice) : (d.writeRing r n).rigs = d.rigs := by unfold Dev.writeRing; simp only []; split <;> rfl
@[simp] theorem Dev.writeRing_pkg (r : Nat) (n : Notice) : (d.writeRing r n).pkg = d.pkg := by unfold Dev.writeRing; simp only []; split <;> rfl
@[simp] theorem Dev.writeRing_power (r : Nat) (n : Notice) : (d.writeRing r n).power = d.power := by unfold Dev.writeRing; simp only []; split <;> rfl
@[simp] theorem Dev.writeRing_tm (r : Nat) (n : Notice) : (d.writeRing r n).tm = d.tm := by unfold Dev.writeRing; simp only []; split <;> rfl
@[simp] theorem Dev.writeRing_sec (r : Nat) (n : Notice) : (d.writeRing r n).sec = d.sec := by unfold Dev.writeRing; simp only []; split <;> rfl
@[simp] theorem Dev.writeRing_rel (r : Nat) (n : Notice) : (d.writeRing r n).rel = d.rel := by unfold Dev.writeRing; simp only []; split <;> rfl
@[simp] theorem Dev.writeRing_rst (r : Nat) (n : Notice) : (d.writeRing r n).rst = d.rst := by unfold Dev.writeRing; simp only []; split <;> rfl
@[simp] theorem Dev.writeRing_boot (r : Nat) (n : Notice) : (d.writeRing r n).boot = d.boot := by unfold Dev.writeRing; simp only []; split <;> rfl
@[simp] theorem Dev.writeRing_cfg (r : Nat) (n : Notice) : (d.writeRing r n).cfg = d.cfg := by unfold Dev.writeRing; simp only []; split <;> rfl
@[simp] theorem Dev.writeRing_dict (r : Nat) (n : Notice) : (d.writeRing r n).dict = d.dict := by unfold Dev.writeRing; simp only []; split <;> rfl
@[simp] theorem Dev.writeRing_host (r : Nat) (n : Notice) : (d.writeRing r n).host = d.host := by unfold Dev.writeRing; simp only []; split <;> rfl
@[simp] theorem Dev.writeRing_pins (r : Nat) (n : Notice) : (d.writeRing r n).pins = d.pins := by unfold Dev.writeRing; simp only []; split <;> rfl

/-! ### ringNotice -/

@[simp] theorem Dev.ringNotice_time (r : Nat) (n : Notice) : (d.ringNotice r n).time = d.time := by
  unfold Dev.ringNotice; split
  · simp
  · split <;> rfl
@[simp] theorem Dev.ringNotice_fresh (r : Nat) (n : Notice) : (d.ringNotice r n).fresh = d.fresh := by
  unfold Dev.ringNotice; split
  · simp
  · split <;> rfl
@[simp] theorem Dev.ringNotice_full (r : Nat) (n : Notice) : (d.ringNotice r n).full = d.full := by
  unfold Dev.ringNotice; split
  · simp
  · split <;> rfl
@[simp] theorem Dev.ringNotice_signetMask (r : Nat) (n : Notice) : (d.ringNotice r n).signetMask = d.signetMask := by
  unfold Dev.ringNotice; split
  · simp
  · split <;> rfl
@[simp] theorem Dev.ringNotice_overSignet (r : Nat) (n : Notice) : (d.ringNotice r n).overSignet = d.overSignet := by
  unfold Dev.ringNotice; split
  · simp
  · split <;> rfl
@[simp] theorem Dev.ringNotice_mem (r : Nat) (n : Notice) : (d.ringNotice r n).mem = d.mem := by
  unfold Dev.ringNotice; split
  · simp
  · split <;> rfl
@[simp] theorem Dev.ringNotice_cores (r : Nat) (n : Notice) : (d.ringNotice r n).cores = d.cores := by
  unfold Dev.ringNotice; split
  · simp
  · split <;> rfl
@[simp] theorem Dev.ringNotice_coh (r : Nat) (n : Notice) : (d.ringNotice r n).coh = d.coh := by
  unfold Dev.ringNotice; split
  · simp
  · split <;> rfl
@[simp] theorem Dev.ringNotice_ports (r : Nat) (n : Notice) : (d.ringNotice r n).ports = d.ports := by
  unfold Dev.ringNotice; split
  · simp
  · split <;> rfl
@[simp] theorem Dev.ringNotice_fab (r : Nat) (n : Notice) : (d.ringNotice r n).fab = d.fab := by
  unfold Dev.ringNotice; split
  · simp
  · split <;> rfl
@[simp] theorem Dev.ringNotice_parts (r : Nat) (n : Notice) : (d.ringNotice r n).parts = d.parts := by
  unfold Dev.ringNotice; split
  · simp
  · split <;> rfl
@[simp] theorem Dev.ringNotice_rigs (r : Nat) (n : Notice) : (d.ringNotice r n).rigs = d.rigs := by
  unfold Dev.ringNotice; split
  · simp
  · split <;> rfl
@[simp] theorem Dev.ringNotice_pkg (r : Nat) (n : Notice) : (d.ringNotice r n).pkg = d.pkg := by
  unfold Dev.ringNotice; split
  · simp
  · split <;> rfl
@[simp] theorem Dev.ringNotice_power (r : Nat) (n : Notice) : (d.ringNotice r n).power = d.power := by
  unfold Dev.ringNotice; split
  · simp
  · split <;> rfl
@[simp] theorem Dev.ringNotice_tm (r : Nat) (n : Notice) : (d.ringNotice r n).tm = d.tm := by
  unfold Dev.ringNotice; split
  · simp
  · split <;> rfl
@[simp] theorem Dev.ringNotice_sec (r : Nat) (n : Notice) : (d.ringNotice r n).sec = d.sec := by
  unfold Dev.ringNotice; split
  · simp
  · split <;> rfl
@[simp] theorem Dev.ringNotice_rel (r : Nat) (n : Notice) : (d.ringNotice r n).rel = d.rel := by
  unfold Dev.ringNotice; split
  · simp
  · split <;> rfl
@[simp] theorem Dev.ringNotice_rst (r : Nat) (n : Notice) : (d.ringNotice r n).rst = d.rst := by
  unfold Dev.ringNotice; split
  · simp
  · split <;> rfl
@[simp] theorem Dev.ringNotice_boot (r : Nat) (n : Notice) : (d.ringNotice r n).boot = d.boot := by
  unfold Dev.ringNotice; split
  · simp
  · split <;> rfl
@[simp] theorem Dev.ringNotice_cfg (r : Nat) (n : Notice) : (d.ringNotice r n).cfg = d.cfg := by
  unfold Dev.ringNotice; split
  · simp
  · split <;> rfl
@[simp] theorem Dev.ringNotice_dict (r : Nat) (n : Notice) : (d.ringNotice r n).dict = d.dict := by
  unfold Dev.ringNotice; split
  · simp
  · split <;> rfl
@[simp] theorem Dev.ringNotice_host (r : Nat) (n : Notice) : (d.ringNotice r n).host = d.host := by
  unfold Dev.ringNotice; split
  · simp
  · split <;> rfl
@[simp] theorem Dev.ringNotice_pins (r : Nat) (n : Notice) : (d.ringNotice r n).pins = d.pins := by
  unfold Dev.ringNotice; split
  · simp
  · split <;> rfl

/-! ### deliverNotice -/

@[simp] theorem Dev.deliverNotice_time (n : Notice) (p : Option Nat) : (d.deliverNotice n p).time = d.time := by
  unfold Dev.deliverNotice; simp only []
  cases p with
  | none => simp
  | some p =>
    suffices ∀ (l : List Nat) (d : Dev), (l.foldl (fun d f => d.ringNotice f n) d).time = d.time by simp [this]
    intro l; induction l with
    | nil => simp
    | cons x l ih => intro d; simp [ih]
@[simp] theorem Dev.deliverNotice_fresh (n : Notice) (p : Option Nat) : (d.deliverNotice n p).fresh = d.fresh := by
  unfold Dev.deliverNotice; simp only []
  cases p with
  | none => simp
  | some p =>
    suffices ∀ (l : List Nat) (d : Dev), (l.foldl (fun d f => d.ringNotice f n) d).fresh = d.fresh by simp [this]
    intro l; induction l with
    | nil => simp
    | cons x l ih => intro d; simp [ih]
@[simp] theorem Dev.deliverNotice_full (n : Notice) (p : Option Nat) : (d.deliverNotice n p).full = d.full := by
  unfold Dev.deliverNotice; simp only []
  cases p with
  | none => simp
  | some p =>
    suffices ∀ (l : List Nat) (d : Dev), (l.foldl (fun d f => d.ringNotice f n) d).full = d.full by simp [this]
    intro l; induction l with
    | nil => simp
    | cons x l ih => intro d; simp [ih]
@[simp] theorem Dev.deliverNotice_signetMask (n : Notice) (p : Option Nat) : (d.deliverNotice n p).signetMask = d.signetMask := by
  unfold Dev.deliverNotice; simp only []
  cases p with
  | none => simp
  | some p =>
    suffices ∀ (l : List Nat) (d : Dev), (l.foldl (fun d f => d.ringNotice f n) d).signetMask = d.signetMask by simp [this]
    intro l; induction l with
    | nil => simp
    | cons x l ih => intro d; simp [ih]
@[simp] theorem Dev.deliverNotice_overSignet (n : Notice) (p : Option Nat) : (d.deliverNotice n p).overSignet = d.overSignet := by
  unfold Dev.deliverNotice; simp only []
  cases p with
  | none => simp
  | some p =>
    suffices ∀ (l : List Nat) (d : Dev), (l.foldl (fun d f => d.ringNotice f n) d).overSignet = d.overSignet by simp [this]
    intro l; induction l with
    | nil => simp
    | cons x l ih => intro d; simp [ih]
@[simp] theorem Dev.deliverNotice_mem (n : Notice) (p : Option Nat) : (d.deliverNotice n p).mem = d.mem := by
  unfold Dev.deliverNotice; simp only []
  cases p with
  | none => simp
  | some p =>
    suffices ∀ (l : List Nat) (d : Dev), (l.foldl (fun d f => d.ringNotice f n) d).mem = d.mem by simp [this]
    intro l; induction l with
    | nil => simp
    | cons x l ih => intro d; simp [ih]
@[simp] theorem Dev.deliverNotice_cores (n : Notice) (p : Option Nat) : (d.deliverNotice n p).cores = d.cores := by
  unfold Dev.deliverNotice; simp only []
  cases p with
  | none => simp
  | some p =>
    suffices ∀ (l : List Nat) (d : Dev), (l.foldl (fun d f => d.ringNotice f n) d).cores = d.cores by simp [this]
    intro l; induction l with
    | nil => simp
    | cons x l ih => intro d; simp [ih]
@[simp] theorem Dev.deliverNotice_coh (n : Notice) (p : Option Nat) : (d.deliverNotice n p).coh = d.coh := by
  unfold Dev.deliverNotice; simp only []
  cases p with
  | none => simp
  | some p =>
    suffices ∀ (l : List Nat) (d : Dev), (l.foldl (fun d f => d.ringNotice f n) d).coh = d.coh by simp [this]
    intro l; induction l with
    | nil => simp
    | cons x l ih => intro d; simp [ih]
@[simp] theorem Dev.deliverNotice_ports (n : Notice) (p : Option Nat) : (d.deliverNotice n p).ports = d.ports := by
  unfold Dev.deliverNotice; simp only []
  cases p with
  | none => simp
  | some p =>
    suffices ∀ (l : List Nat) (d : Dev), (l.foldl (fun d f => d.ringNotice f n) d).ports = d.ports by simp [this]
    intro l; induction l with
    | nil => simp
    | cons x l ih => intro d; simp [ih]
@[simp] theorem Dev.deliverNotice_fab (n : Notice) (p : Option Nat) : (d.deliverNotice n p).fab = d.fab := by
  unfold Dev.deliverNotice; simp only []
  cases p with
  | none => simp
  | some p =>
    suffices ∀ (l : List Nat) (d : Dev), (l.foldl (fun d f => d.ringNotice f n) d).fab = d.fab by simp [this]
    intro l; induction l with
    | nil => simp
    | cons x l ih => intro d; simp [ih]
@[simp] theorem Dev.deliverNotice_parts (n : Notice) (p : Option Nat) : (d.deliverNotice n p).parts = d.parts := by
  unfold Dev.deliverNotice; simp only []
  cases p with
  | none => simp
  | some p =>
    suffices ∀ (l : List Nat) (d : Dev), (l.foldl (fun d f => d.ringNotice f n) d).parts = d.parts by simp [this]
    intro l; induction l with
    | nil => simp
    | cons x l ih => intro d; simp [ih]
@[simp] theorem Dev.deliverNotice_rigs (n : Notice) (p : Option Nat) : (d.deliverNotice n p).rigs = d.rigs := by
  unfold Dev.deliverNotice; simp only []
  cases p with
  | none => simp
  | some p =>
    suffices ∀ (l : List Nat) (d : Dev), (l.foldl (fun d f => d.ringNotice f n) d).rigs = d.rigs by simp [this]
    intro l; induction l with
    | nil => simp
    | cons x l ih => intro d; simp [ih]
@[simp] theorem Dev.deliverNotice_pkg (n : Notice) (p : Option Nat) : (d.deliverNotice n p).pkg = d.pkg := by
  unfold Dev.deliverNotice; simp only []
  cases p with
  | none => simp
  | some p =>
    suffices ∀ (l : List Nat) (d : Dev), (l.foldl (fun d f => d.ringNotice f n) d).pkg = d.pkg by simp [this]
    intro l; induction l with
    | nil => simp
    | cons x l ih => intro d; simp [ih]
@[simp] theorem Dev.deliverNotice_power (n : Notice) (p : Option Nat) : (d.deliverNotice n p).power = d.power := by
  unfold Dev.deliverNotice; simp only []
  cases p with
  | none => simp
  | some p =>
    suffices ∀ (l : List Nat) (d : Dev), (l.foldl (fun d f => d.ringNotice f n) d).power = d.power by simp [this]
    intro l; induction l with
    | nil => simp
    | cons x l ih => intro d; simp [ih]
@[simp] theorem Dev.deliverNotice_tm (n : Notice) (p : Option Nat) : (d.deliverNotice n p).tm = d.tm := by
  unfold Dev.deliverNotice; simp only []
  cases p with
  | none => simp
  | some p =>
    suffices ∀ (l : List Nat) (d : Dev), (l.foldl (fun d f => d.ringNotice f n) d).tm = d.tm by simp [this]
    intro l; induction l with
    | nil => simp
    | cons x l ih => intro d; simp [ih]
@[simp] theorem Dev.deliverNotice_sec (n : Notice) (p : Option Nat) : (d.deliverNotice n p).sec = d.sec := by
  unfold Dev.deliverNotice; simp only []
  cases p with
  | none => simp
  | some p =>
    suffices ∀ (l : List Nat) (d : Dev), (l.foldl (fun d f => d.ringNotice f n) d).sec = d.sec by simp [this]
    intro l; induction l with
    | nil => simp
    | cons x l ih => intro d; simp [ih]
@[simp] theorem Dev.deliverNotice_rel (n : Notice) (p : Option Nat) : (d.deliverNotice n p).rel = d.rel := by
  unfold Dev.deliverNotice; simp only []
  cases p with
  | none => simp
  | some p =>
    suffices ∀ (l : List Nat) (d : Dev), (l.foldl (fun d f => d.ringNotice f n) d).rel = d.rel by simp [this]
    intro l; induction l with
    | nil => simp
    | cons x l ih => intro d; simp [ih]
@[simp] theorem Dev.deliverNotice_rst (n : Notice) (p : Option Nat) : (d.deliverNotice n p).rst = d.rst := by
  unfold Dev.deliverNotice; simp only []
  cases p with
  | none => simp
  | some p =>
    suffices ∀ (l : List Nat) (d : Dev), (l.foldl (fun d f => d.ringNotice f n) d).rst = d.rst by simp [this]
    intro l; induction l with
    | nil => simp
    | cons x l ih => intro d; simp [ih]
@[simp] theorem Dev.deliverNotice_boot (n : Notice) (p : Option Nat) : (d.deliverNotice n p).boot = d.boot := by
  unfold Dev.deliverNotice; simp only []
  cases p with
  | none => simp
  | some p =>
    suffices ∀ (l : List Nat) (d : Dev), (l.foldl (fun d f => d.ringNotice f n) d).boot = d.boot by simp [this]
    intro l; induction l with
    | nil => simp
    | cons x l ih => intro d; simp [ih]
@[simp] theorem Dev.deliverNotice_cfg (n : Notice) (p : Option Nat) : (d.deliverNotice n p).cfg = d.cfg := by
  unfold Dev.deliverNotice; simp only []
  cases p with
  | none => simp
  | some p =>
    suffices ∀ (l : List Nat) (d : Dev), (l.foldl (fun d f => d.ringNotice f n) d).cfg = d.cfg by simp [this]
    intro l; induction l with
    | nil => simp
    | cons x l ih => intro d; simp [ih]
@[simp] theorem Dev.deliverNotice_dict (n : Notice) (p : Option Nat) : (d.deliverNotice n p).dict = d.dict := by
  unfold Dev.deliverNotice; simp only []
  cases p with
  | none => simp
  | some p =>
    suffices ∀ (l : List Nat) (d : Dev), (l.foldl (fun d f => d.ringNotice f n) d).dict = d.dict by simp [this]
    intro l; induction l with
    | nil => simp
    | cons x l ih => intro d; simp [ih]
@[simp] theorem Dev.deliverNotice_host (n : Notice) (p : Option Nat) : (d.deliverNotice n p).host = d.host := by
  unfold Dev.deliverNotice; simp only []
  cases p with
  | none => simp
  | some p =>
    suffices ∀ (l : List Nat) (d : Dev), (l.foldl (fun d f => d.ringNotice f n) d).host = d.host by simp [this]
    intro l; induction l with
    | nil => simp
    | cons x l ih => intro d; simp [ih]
@[simp] theorem Dev.deliverNotice_pins (n : Notice) (p : Option Nat) : (d.deliverNotice n p).pins = d.pins := by
  unfold Dev.deliverNotice; simp only []
  cases p with
  | none => simp
  | some p =>
    suffices ∀ (l : List Nat) (d : Dev), (l.foldl (fun d f => d.ringNotice f n) d).pins = d.pins by simp [this]
    intro l; induction l with
    | nil => simp
    | cons x l ih => intro d; simp [ih]

/-! ### forwardNotice -/

@[simp] theorem Dev.forwardNotice_time (n : Notice) : (d.forwardNotice n).time = d.time := rfl
@[simp] theorem Dev.forwardNotice_fresh (n : Notice) : (d.forwardNotice n).fresh = d.fresh := rfl
@[simp] theorem Dev.forwardNotice_full (n : Notice) : (d.forwardNotice n).full = d.full := rfl
@[simp] theorem Dev.forwardNotice_signetMask (n : Notice) : (d.forwardNotice n).signetMask = d.signetMask := rfl
@[simp] theorem Dev.forwardNotice_overSignet (n : Notice) : (d.forwardNotice n).overSignet = d.overSignet := rfl
@[simp] theorem Dev.forwardNotice_mem (n : Notice) : (d.forwardNotice n).mem = d.mem := rfl
@[simp] theorem Dev.forwardNotice_cores (n : Notice) : (d.forwardNotice n).cores = d.cores := rfl
@[simp] theorem Dev.forwardNotice_coh (n : Notice) : (d.forwardNotice n).coh = d.coh := rfl
@[simp] theorem Dev.forwardNotice_ports (n : Notice) : (d.forwardNotice n).ports = d.ports := rfl
@[simp] theorem Dev.forwardNotice_fab (n : Notice) : (d.forwardNotice n).fab = d.fab := rfl
@[simp] theorem Dev.forwardNotice_parts (n : Notice) : (d.forwardNotice n).parts = d.parts := rfl
@[simp] theorem Dev.forwardNotice_rigs (n : Notice) : (d.forwardNotice n).rigs = d.rigs := rfl
@[simp] theorem Dev.forwardNotice_pkg (n : Notice) : (d.forwardNotice n).pkg = d.pkg := rfl
@[simp] theorem Dev.forwardNotice_power (n : Notice) : (d.forwardNotice n).power = d.power := rfl
@[simp] theorem Dev.forwardNotice_tm (n : Notice) : (d.forwardNotice n).tm = d.tm := rfl
@[simp] theorem Dev.forwardNotice_sec (n : Notice) : (d.forwardNotice n).sec = d.sec := rfl
@[simp] theorem Dev.forwardNotice_rel (n : Notice) : (d.forwardNotice n).rel = d.rel := rfl
@[simp] theorem Dev.forwardNotice_rst (n : Notice) : (d.forwardNotice n).rst = d.rst := rfl
@[simp] theorem Dev.forwardNotice_boot (n : Notice) : (d.forwardNotice n).boot = d.boot := rfl
@[simp] theorem Dev.forwardNotice_cfg (n : Notice) : (d.forwardNotice n).cfg = d.cfg := rfl
@[simp] theorem Dev.forwardNotice_dict (n : Notice) : (d.forwardNotice n).dict = d.dict := rfl
@[simp] theorem Dev.forwardNotice_host (n : Notice) : (d.forwardNotice n).host = d.host := rfl
@[simp] theorem Dev.forwardNotice_pins (n : Notice) : (d.forwardNotice n).pins = d.pins := rfl
@[simp] theorem Dev.forwardNotice_fe (n : Notice) : (d.forwardNotice n).fe = d.fe := rfl

/-! ### notify -/

@[simp] theorem Dev.notify_time (n : Notice) : (d.notify n).time = d.time := by unfold Dev.notify; split <;> simp
@[simp] theorem Dev.notify_fresh (n : Notice) : (d.notify n).fresh = d.fresh := by unfold Dev.notify; split <;> simp
@[simp] theorem Dev.notify_full (n : Notice) : (d.notify n).full = d.full := by unfold Dev.notify; split <;> simp
@[simp] theorem Dev.notify_signetMask (n : Notice) : (d.notify n).signetMask = d.signetMask := by unfold Dev.notify; split <;> simp
@[simp] theorem Dev.notify_overSignet (n : Notice) : (d.notify n).overSignet = d.overSignet := by unfold Dev.notify; split <;> simp
@[simp] theorem Dev.notify_mem (n : Notice) : (d.notify n).mem = d.mem := by unfold Dev.notify; split <;> simp
@[simp] theorem Dev.notify_cores (n : Notice) : (d.notify n).cores = d.cores := by unfold Dev.notify; split <;> simp
@[simp] theorem Dev.notify_coh (n : Notice) : (d.notify n).coh = d.coh := by unfold Dev.notify; split <;> simp
@[simp] theorem Dev.notify_ports (n : Notice) : (d.notify n).ports = d.ports := by unfold Dev.notify; split <;> simp
@[simp] theorem Dev.notify_fab (n : Notice) : (d.notify n).fab = d.fab := by unfold Dev.notify; split <;> simp
@[simp] theorem Dev.notify_parts (n : Notice) : (d.notify n).parts = d.parts := by unfold Dev.notify; split <;> simp
@[simp] theorem Dev.notify_rigs (n : Notice) : (d.notify n).rigs = d.rigs := by unfold Dev.notify; split <;> simp
@[simp] theorem Dev.notify_pkg (n : Notice) : (d.notify n).pkg = d.pkg := by unfold Dev.notify; split <;> simp
@[simp] theorem Dev.notify_power (n : Notice) : (d.notify n).power = d.power := by unfold Dev.notify; split <;> simp
@[simp] theorem Dev.notify_tm (n : Notice) : (d.notify n).tm = d.tm := by unfold Dev.notify; split <;> simp
@[simp] theorem Dev.notify_sec (n : Notice) : (d.notify n).sec = d.sec := by unfold Dev.notify; split <;> simp
@[simp] theorem Dev.notify_rel (n : Notice) : (d.notify n).rel = d.rel := by unfold Dev.notify; split <;> simp
@[simp] theorem Dev.notify_rst (n : Notice) : (d.notify n).rst = d.rst := by unfold Dev.notify; split <;> simp
@[simp] theorem Dev.notify_boot (n : Notice) : (d.notify n).boot = d.boot := by unfold Dev.notify; split <;> simp
@[simp] theorem Dev.notify_cfg (n : Notice) : (d.notify n).cfg = d.cfg := by unfold Dev.notify; split <;> simp
@[simp] theorem Dev.notify_dict (n : Notice) : (d.notify n).dict = d.dict := by unfold Dev.notify; split <;> simp
@[simp] theorem Dev.notify_host (n : Notice) : (d.notify n).host = d.host := by unfold Dev.notify; split <;> simp
@[simp] theorem Dev.notify_pins (n : Notice) : (d.notify n).pins = d.pins := by unfold Dev.notify; split <;> simp

/-! ### notice -/

@[simp] theorem Dev.notice_time (c : Cause) (k a b : Nat) : (d.notice c k a b).time = d.time := by unfold Dev.notice; simp
@[simp] theorem Dev.notice_fresh (c : Cause) (k a b : Nat) : (d.notice c k a b).fresh = d.fresh := by unfold Dev.notice; simp
@[simp] theorem Dev.notice_full (c : Cause) (k a b : Nat) : (d.notice c k a b).full = d.full := by unfold Dev.notice; simp
@[simp] theorem Dev.notice_signetMask (c : Cause) (k a b : Nat) : (d.notice c k a b).signetMask = d.signetMask := by unfold Dev.notice; simp
@[simp] theorem Dev.notice_overSignet (c : Cause) (k a b : Nat) : (d.notice c k a b).overSignet = d.overSignet := by unfold Dev.notice; simp
@[simp] theorem Dev.notice_mem (c : Cause) (k a b : Nat) : (d.notice c k a b).mem = d.mem := by unfold Dev.notice; simp
@[simp] theorem Dev.notice_cores (c : Cause) (k a b : Nat) : (d.notice c k a b).cores = d.cores := by unfold Dev.notice; simp
@[simp] theorem Dev.notice_coh (c : Cause) (k a b : Nat) : (d.notice c k a b).coh = d.coh := by unfold Dev.notice; simp
@[simp] theorem Dev.notice_ports (c : Cause) (k a b : Nat) : (d.notice c k a b).ports = d.ports := by unfold Dev.notice; simp
@[simp] theorem Dev.notice_fab (c : Cause) (k a b : Nat) : (d.notice c k a b).fab = d.fab := by unfold Dev.notice; simp
@[simp] theorem Dev.notice_parts (c : Cause) (k a b : Nat) : (d.notice c k a b).parts = d.parts := by unfold Dev.notice; simp
@[simp] theorem Dev.notice_rigs (c : Cause) (k a b : Nat) : (d.notice c k a b).rigs = d.rigs := by unfold Dev.notice; simp
@[simp] theorem Dev.notice_pkg (c : Cause) (k a b : Nat) : (d.notice c k a b).pkg = d.pkg := by unfold Dev.notice; simp
@[simp] theorem Dev.notice_power (c : Cause) (k a b : Nat) : (d.notice c k a b).power = d.power := by unfold Dev.notice; simp
@[simp] theorem Dev.notice_tm (c : Cause) (k a b : Nat) : (d.notice c k a b).tm = d.tm := by unfold Dev.notice; simp
@[simp] theorem Dev.notice_sec (c : Cause) (k a b : Nat) : (d.notice c k a b).sec = d.sec := by unfold Dev.notice; simp
@[simp] theorem Dev.notice_rel (c : Cause) (k a b : Nat) : (d.notice c k a b).rel = d.rel := by unfold Dev.notice; simp
@[simp] theorem Dev.notice_rst (c : Cause) (k a b : Nat) : (d.notice c k a b).rst = d.rst := by unfold Dev.notice; simp
@[simp] theorem Dev.notice_boot (c : Cause) (k a b : Nat) : (d.notice c k a b).boot = d.boot := by unfold Dev.notice; simp
@[simp] theorem Dev.notice_cfg (c : Cause) (k a b : Nat) : (d.notice c k a b).cfg = d.cfg := by unfold Dev.notice; simp
@[simp] theorem Dev.notice_dict (c : Cause) (k a b : Nat) : (d.notice c k a b).dict = d.dict := by unfold Dev.notice; simp
@[simp] theorem Dev.notice_host (c : Cause) (k a b : Nat) : (d.notice c k a b).host = d.host := by unfold Dev.notice; simp
@[simp] theorem Dev.notice_pins (c : Cause) (k a b : Nat) : (d.notice c k a b).pins = d.pins := by unfold Dev.notice; simp

/-! ### coreNotice -/

@[simp] theorem Dev.coreNotice_time (c : Nat) (x : Cause) (k : Nat) (p : Option Nat) (a b : Nat) : (d.coreNotice c x k p a b).time = d.time := by unfold Dev.coreNotice; simp
@[simp] theorem Dev.coreNotice_fresh (c : Nat) (x : Cause) (k : Nat) (p : Option Nat) (a b : Nat) : (d.coreNotice c x k p a b).fresh = d.fresh := by unfold Dev.coreNotice; simp
@[simp] theorem Dev.coreNotice_full (c : Nat) (x : Cause) (k : Nat) (p : Option Nat) (a b : Nat) : (d.coreNotice c x k p a b).full = d.full := by unfold Dev.coreNotice; simp
@[simp] theorem Dev.coreNotice_signetMask (c : Nat) (x : Cause) (k : Nat) (p : Option Nat) (a b : Nat) : (d.coreNotice c x k p a b).signetMask = d.signetMask := by unfold Dev.coreNotice; simp
@[simp] theorem Dev.coreNotice_overSignet (c : Nat) (x : Cause) (k : Nat) (p : Option Nat) (a b : Nat) : (d.coreNotice c x k p a b).overSignet = d.overSignet := by unfold Dev.coreNotice; simp
@[simp] theorem Dev.coreNotice_mem (c : Nat) (x : Cause) (k : Nat) (p : Option Nat) (a b : Nat) : (d.coreNotice c x k p a b).mem = d.mem := by unfold Dev.coreNotice; simp
@[simp] theorem Dev.coreNotice_cores (c : Nat) (x : Cause) (k : Nat) (p : Option Nat) (a b : Nat) : (d.coreNotice c x k p a b).cores = d.cores := by unfold Dev.coreNotice; simp
@[simp] theorem Dev.coreNotice_coh (c : Nat) (x : Cause) (k : Nat) (p : Option Nat) (a b : Nat) : (d.coreNotice c x k p a b).coh = d.coh := by unfold Dev.coreNotice; simp
@[simp] theorem Dev.coreNotice_ports (c : Nat) (x : Cause) (k : Nat) (p : Option Nat) (a b : Nat) : (d.coreNotice c x k p a b).ports = d.ports := by unfold Dev.coreNotice; simp
@[simp] theorem Dev.coreNotice_fab (c : Nat) (x : Cause) (k : Nat) (p : Option Nat) (a b : Nat) : (d.coreNotice c x k p a b).fab = d.fab := by unfold Dev.coreNotice; simp
@[simp] theorem Dev.coreNotice_parts (c : Nat) (x : Cause) (k : Nat) (p : Option Nat) (a b : Nat) : (d.coreNotice c x k p a b).parts = d.parts := by unfold Dev.coreNotice; simp
@[simp] theorem Dev.coreNotice_rigs (c : Nat) (x : Cause) (k : Nat) (p : Option Nat) (a b : Nat) : (d.coreNotice c x k p a b).rigs = d.rigs := by unfold Dev.coreNotice; simp
@[simp] theorem Dev.coreNotice_pkg (c : Nat) (x : Cause) (k : Nat) (p : Option Nat) (a b : Nat) : (d.coreNotice c x k p a b).pkg = d.pkg := by unfold Dev.coreNotice; simp
@[simp] theorem Dev.coreNotice_power (c : Nat) (x : Cause) (k : Nat) (p : Option Nat) (a b : Nat) : (d.coreNotice c x k p a b).power = d.power := by unfold Dev.coreNotice; simp
@[simp] theorem Dev.coreNotice_tm (c : Nat) (x : Cause) (k : Nat) (p : Option Nat) (a b : Nat) : (d.coreNotice c x k p a b).tm = d.tm := by unfold Dev.coreNotice; simp
@[simp] theorem Dev.coreNotice_sec (c : Nat) (x : Cause) (k : Nat) (p : Option Nat) (a b : Nat) : (d.coreNotice c x k p a b).sec = d.sec := by unfold Dev.coreNotice; simp
@[simp] theorem Dev.coreNotice_rel (c : Nat) (x : Cause) (k : Nat) (p : Option Nat) (a b : Nat) : (d.coreNotice c x k p a b).rel = d.rel := by unfold Dev.coreNotice; simp
@[simp] theorem Dev.coreNotice_rst (c : Nat) (x : Cause) (k : Nat) (p : Option Nat) (a b : Nat) : (d.coreNotice c x k p a b).rst = d.rst := by unfold Dev.coreNotice; simp
@[simp] theorem Dev.coreNotice_boot (c : Nat) (x : Cause) (k : Nat) (p : Option Nat) (a b : Nat) : (d.coreNotice c x k p a b).boot = d.boot := by unfold Dev.coreNotice; simp
@[simp] theorem Dev.coreNotice_cfg (c : Nat) (x : Cause) (k : Nat) (p : Option Nat) (a b : Nat) : (d.coreNotice c x k p a b).cfg = d.cfg := by unfold Dev.coreNotice; simp
@[simp] theorem Dev.coreNotice_dict (c : Nat) (x : Cause) (k : Nat) (p : Option Nat) (a b : Nat) : (d.coreNotice c x k p a b).dict = d.dict := by unfold Dev.coreNotice; simp
@[simp] theorem Dev.coreNotice_host (c : Nat) (x : Cause) (k : Nat) (p : Option Nat) (a b : Nat) : (d.coreNotice c x k p a b).host = d.host := by unfold Dev.coreNotice; simp
@[simp] theorem Dev.coreNotice_pins (c : Nat) (x : Cause) (k : Nat) (p : Option Nat) (a b : Nat) : (d.coreNotice c x k p a b).pins = d.pins := by unfold Dev.coreNotice; simp

/-! ### The changed field of each update -/

@[simp] theorem Dev.emit_out (o : Output) : (d.emit o).out = d.out ++ [o] := rfl
@[simp] theorem Dev.reply_out (c : Cause) (a b : Nat) :
    (d.reply c a b).out = d.out ++ [.reply c (BitVec.ofNat 64 a) (BitVec.ofNat 64 b) []] := rfl
@[simp] theorem Dev.draw_fresh : d.draw.2.fresh = d.fresh + 1 := rfl
@[simp] theorem Dev.retag_values : d.retag.dict.values = d.dict.values := rfl
@[simp] theorem Dev.retag_boxes : d.retag.dict.boxes = d.dict.boxes := rfl
@[simp] theorem Dev.retag_kept : d.retag.dict.kept = d.dict.kept := rfl
@[simp] theorem Dev.retag_sent : d.retag.dict.sent = d.dict.sent := rfl
@[simp] theorem Dev.retag_opens : d.retag.dict.opens = d.dict.opens := rfl
@[simp] theorem Dev.core_modCore (c c' : Nat) (f : Core → Core) :
    (d.modCore c f).core c' = if c' = c then f (d.core c) else d.core c' := KMap.get_upd ..
@[simp] theorem Dev.part_modPart (p p' : Nat) (f : Part → Part) :
    (d.modPart p f).part p' = if p' = p then f (d.part p) else d.part p' := KMap.get_upd ..
@[simp] theorem Dev.rig_modRig (i i' : Nat) (f : Rig → Rig) :
    (d.modRig i f).rig i' = if i' = i then f (d.rig i) else d.rig i' := KMap.get_upd ..
@[simp] theorem Dev.port_modPort (p p' : Nat) (f : Port → Port) :
    (d.modPort p f).port p' = if p' = p then f (d.port p) else d.port p' := KMap.get_upd ..

/-- Fabric time moves on to a time that does not lie behind it. -/
theorem Dev.advance_of_le {now : Time} (h : d.time.toNat ≤ now.toNat) : d.advance now = { d with time := now } := by
  simp [Dev.advance, h]

/-- Fabric time never falls. -/
theorem Dev.advance_time_le (now : Time) : d.time.toNat ≤ (d.advance now).time.toNat := by
  unfold Dev.advance; split <;> simp [*]

/-! ### Steps -/

/-- A command's effect on the module answers a next state, the queue as it was. -/
@[simp] theorem State.run_eq (s : State) (f : Dev → Dev) : s.run f = .next { s with dev := (f s.dev).retag } := rfl

end Sys2Proof.Machine
end

