-- ==== Sys2Proof/Laws/Ops.lean ====
section
/-!
SUPPORT. The shared operations of the chapters: what each leaves as it was, and that memory keeps its canonical form through every one that
writes it.
-/
namespace Sys2Proof.Machine

/-- What every step of a fold keeps, the fold keeps. -/
theorem foldl_keeps {α β : Type} (g : Dev → α) (f : Dev → β → Dev) (h : ∀ d b, g (f d b) = g d) (l : List β) (d : Dev) :
    g (l.foldl f d) = g d := by
  induction l generalizing d with
  | nil => rfl
  | cons x l ih => rw [List.foldl_cons, ih, h]

variable (d : Dev)

/-! ### queueNotice -/

@[simp] theorem Dev.queueNotice_time (q : Queue) (c : Cause) (k a b : Nat) : (d.queueNotice q c k a b).time = d.time := by unfold Dev.queueNotice; simp
@[simp] theorem Dev.queueNotice_fresh (q : Queue) (c : Cause) (k a b : Nat) : (d.queueNotice q c k a b).fresh = d.fresh := by unfold Dev.queueNotice; simp
@[simp] theorem Dev.queueNotice_full (q : Queue) (c : Cause) (k a b : Nat) : (d.queueNotice q c k a b).full = d.full := by unfold Dev.queueNotice; simp
@[simp] theorem Dev.queueNotice_signetMask (q : Queue) (c : Cause) (k a b : Nat) : (d.queueNotice q c k a b).signetMask = d.signetMask := by unfold Dev.queueNotice; simp
@[simp] theorem Dev.queueNotice_overSignet (q : Queue) (c : Cause) (k a b : Nat) : (d.queueNotice q c k a b).overSignet = d.overSignet := by unfold Dev.queueNotice; simp
@[simp] theorem Dev.queueNotice_mem (q : Queue) (c : Cause) (k a b : Nat) : (d.queueNotice q c k a b).mem = d.mem := by unfold Dev.queueNotice; simp
@[simp] theorem Dev.queueNotice_cores (q : Queue) (c : Cause) (k a b : Nat) : (d.queueNotice q c k a b).cores = d.cores := by unfold Dev.queueNotice; simp
@[simp] theorem Dev.queueNotice_coh (q : Queue) (c : Cause) (k a b : Nat) : (d.queueNotice q c k a b).coh = d.coh := by unfold Dev.queueNotice; simp
@[simp] theorem Dev.queueNotice_ports (q : Queue) (c : Cause) (k a b : Nat) : (d.queueNotice q c k a b).ports = d.ports := by unfold Dev.queueNotice; simp
@[simp] theorem Dev.queueNotice_fab (q : Queue) (c : Cause) (k a b : Nat) : (d.queueNotice q c k a b).fab = d.fab := by unfold Dev.queueNotice; simp
@[simp] theorem Dev.queueNotice_parts (q : Queue) (c : Cause) (k a b : Nat) : (d.queueNotice q c k a b).parts = d.parts := by unfold Dev.queueNotice; simp
@[simp] theorem Dev.queueNotice_rigs (q : Queue) (c : Cause) (k a b : Nat) : (d.queueNotice q c k a b).rigs = d.rigs := by unfold Dev.queueNotice; simp
@[simp] theorem Dev.queueNotice_pkg (q : Queue) (c : Cause) (k a b : Nat) : (d.queueNotice q c k a b).pkg = d.pkg := by unfold Dev.queueNotice; simp
@[simp] theorem Dev.queueNotice_power (q : Queue) (c : Cause) (k a b : Nat) : (d.queueNotice q c k a b).power = d.power := by unfold Dev.queueNotice; simp
@[simp] theorem Dev.queueNotice_tm (q : Queue) (c : Cause) (k a b : Nat) : (d.queueNotice q c k a b).tm = d.tm := by unfold Dev.queueNotice; simp
@[simp] theorem Dev.queueNotice_sec (q : Queue) (c : Cause) (k a b : Nat) : (d.queueNotice q c k a b).sec = d.sec := by unfold Dev.queueNotice; simp
@[simp] theorem Dev.queueNotice_rel (q : Queue) (c : Cause) (k a b : Nat) : (d.queueNotice q c k a b).rel = d.rel := by unfold Dev.queueNotice; simp
@[simp] theorem Dev.queueNotice_rst (q : Queue) (c : Cause) (k a b : Nat) : (d.queueNotice q c k a b).rst = d.rst := by unfold Dev.queueNotice; simp
@[simp] theorem Dev.queueNotice_boot (q : Queue) (c : Cause) (k a b : Nat) : (d.queueNotice q c k a b).boot = d.boot := by unfold Dev.queueNotice; simp
@[simp] theorem Dev.queueNotice_cfg (q : Queue) (c : Cause) (k a b : Nat) : (d.queueNotice q c k a b).cfg = d.cfg := by unfold Dev.queueNotice; simp
@[simp] theorem Dev.queueNotice_dict (q : Queue) (c : Cause) (k a b : Nat) : (d.queueNotice q c k a b).dict = d.dict := by unfold Dev.queueNotice; simp
@[simp] theorem Dev.queueNotice_host (q : Queue) (c : Cause) (k a b : Nat) : (d.queueNotice q c k a b).host = d.host := by unfold Dev.queueNotice; simp
@[simp] theorem Dev.queueNotice_pins (q : Queue) (c : Cause) (k a b : Nat) : (d.queueNotice q c k a b).pins = d.pins := by unfold Dev.queueNotice; simp

/-! ### settleQueue -/

@[simp] theorem Dev.settleQueue_time (i : Nat) : (d.settleQueue i).time = d.time := by
  unfold Dev.settleQueue; (repeat' split) <;> first | rfl | simp
@[simp] theorem Dev.settleQueue_fresh (i : Nat) : (d.settleQueue i).fresh = d.fresh := by
  unfold Dev.settleQueue; (repeat' split) <;> first | rfl | simp
@[simp] theorem Dev.settleQueue_full (i : Nat) : (d.settleQueue i).full = d.full := by
  unfold Dev.settleQueue; (repeat' split) <;> first | rfl | simp
@[simp] theorem Dev.settleQueue_signetMask (i : Nat) : (d.settleQueue i).signetMask = d.signetMask := by
  unfold Dev.settleQueue; (repeat' split) <;> first | rfl | simp
@[simp] theorem Dev.settleQueue_overSignet (i : Nat) : (d.settleQueue i).overSignet = d.overSignet := by
  unfold Dev.settleQueue; (repeat' split) <;> first | rfl | simp
@[simp] theorem Dev.settleQueue_mem (i : Nat) : (d.settleQueue i).mem = d.mem := by
  unfold Dev.settleQueue; (repeat' split) <;> first | rfl | simp
@[simp] theorem Dev.settleQueue_cores (i : Nat) : (d.settleQueue i).cores = d.cores := by
  unfold Dev.settleQueue; (repeat' split) <;> first | rfl | simp
@[simp] theorem Dev.settleQueue_coh (i : Nat) : (d.settleQueue i).coh = d.coh := by
  unfold Dev.settleQueue; (repeat' split) <;> first | rfl | simp
@[simp] theorem Dev.settleQueue_ports (i : Nat) : (d.settleQueue i).ports = d.ports := by
  unfold Dev.settleQueue; (repeat' split) <;> first | rfl | simp
@[simp] theorem Dev.settleQueue_fab (i : Nat) : (d.settleQueue i).fab = d.fab := by
  unfold Dev.settleQueue; (repeat' split) <;> first | rfl | simp
@[simp] theorem Dev.settleQueue_parts (i : Nat) : (d.settleQueue i).parts = d.parts := by
  unfold Dev.settleQueue; (repeat' split) <;> first | rfl | simp
@[simp] theorem Dev.settleQueue_rigs (i : Nat) : (d.settleQueue i).rigs = d.rigs := by
  unfold Dev.settleQueue; (repeat' split) <;> first | rfl | simp
@[simp] theorem Dev.settleQueue_pkg (i : Nat) : (d.settleQueue i).pkg = d.pkg := by
  unfold Dev.settleQueue; (repeat' split) <;> first | rfl | simp
@[simp] theorem Dev.settleQueue_power (i : Nat) : (d.settleQueue i).power = d.power := by
  unfold Dev.settleQueue; (repeat' split) <;> first | rfl | simp
@[simp] theorem Dev.settleQueue_tm (i : Nat) : (d.settleQueue i).tm = d.tm := by
  unfold Dev.settleQueue; (repeat' split) <;> first | rfl | simp
@[simp] theorem Dev.settleQueue_sec (i : Nat) : (d.settleQueue i).sec = d.sec := by
  unfold Dev.settleQueue; (repeat' split) <;> first | rfl | simp
@[simp] theorem Dev.settleQueue_rel (i : Nat) : (d.settleQueue i).rel = d.rel := by
  unfold Dev.settleQueue; (repeat' split) <;> first | rfl | simp
@[simp] theorem Dev.settleQueue_rst (i : Nat) : (d.settleQueue i).rst = d.rst := by
  unfold Dev.settleQueue; (repeat' split) <;> first | rfl | simp
@[simp] theorem Dev.settleQueue_boot (i : Nat) : (d.settleQueue i).boot = d.boot := by
  unfold Dev.settleQueue; (repeat' split) <;> first | rfl | simp
@[simp] theorem Dev.settleQueue_cfg (i : Nat) : (d.settleQueue i).cfg = d.cfg := by
  unfold Dev.settleQueue; (repeat' split) <;> first | rfl | simp
@[simp] theorem Dev.settleQueue_dict (i : Nat) : (d.settleQueue i).dict = d.dict := by
  unfold Dev.settleQueue; (repeat' split) <;> first | rfl | simp
@[simp] theorem Dev.settleQueue_host (i : Nat) : (d.settleQueue i).host = d.host := by
  unfold Dev.settleQueue; (repeat' split) <;> first | rfl | simp
@[simp] theorem Dev.settleQueue_pins (i : Nat) : (d.settleQueue i).pins = d.pins := by
  unfold Dev.settleQueue; (repeat' split) <;> first | rfl | simp
@[simp] theorem Dev.settleQueue_out (i : Nat) : (d.settleQueue i).out = d.out := by
  unfold Dev.settleQueue; (repeat' split) <;> first | rfl | simp

/-! ### settleCore -/

@[simp] theorem Dev.settleCore_time (c : Nat) : (d.settleCore c).time = d.time := rfl
@[simp] theorem Dev.settleCore_fresh (c : Nat) : (d.settleCore c).fresh = d.fresh := rfl
@[simp] theorem Dev.settleCore_full (c : Nat) : (d.settleCore c).full = d.full := rfl
@[simp] theorem Dev.settleCore_signetMask (c : Nat) : (d.settleCore c).signetMask = d.signetMask := rfl
@[simp] theorem Dev.settleCore_overSignet (c : Nat) : (d.settleCore c).overSignet = d.overSignet := rfl
@[simp] theorem Dev.settleCore_mem (c : Nat) : (d.settleCore c).mem = d.mem := rfl
@[simp] theorem Dev.settleCore_cores (c : Nat) : (d.settleCore c).cores = d.cores := rfl
@[simp] theorem Dev.settleCore_coh (c : Nat) : (d.settleCore c).coh = d.coh := rfl
@[simp] theorem Dev.settleCore_ports (c : Nat) : (d.settleCore c).ports = d.ports := rfl
@[simp] theorem Dev.settleCore_fab (c : Nat) : (d.settleCore c).fab = d.fab := rfl
@[simp] theorem Dev.settleCore_parts (c : Nat) : (d.settleCore c).parts = d.parts := rfl
@[simp] theorem Dev.settleCore_rigs (c : Nat) : (d.settleCore c).rigs = d.rigs := rfl
@[simp] theorem Dev.settleCore_pkg (c : Nat) : (d.settleCore c).pkg = d.pkg := rfl
@[simp] theorem Dev.settleCore_power (c : Nat) : (d.settleCore c).power = d.power := rfl
@[simp] theorem Dev.settleCore_tm (c : Nat) : (d.settleCore c).tm = d.tm := rfl
@[simp] theorem Dev.settleCore_sec (c : Nat) : (d.settleCore c).sec = d.sec := rfl
@[simp] theorem Dev.settleCore_rel (c : Nat) : (d.settleCore c).rel = d.rel := rfl
@[simp] theorem Dev.settleCore_rst (c : Nat) : (d.settleCore c).rst = d.rst := rfl
@[simp] theorem Dev.settleCore_boot (c : Nat) : (d.settleCore c).boot = d.boot := rfl
@[simp] theorem Dev.settleCore_cfg (c : Nat) : (d.settleCore c).cfg = d.cfg := rfl
@[simp] theorem Dev.settleCore_dict (c : Nat) : (d.settleCore c).dict = d.dict := rfl
@[simp] theorem Dev.settleCore_host (c : Nat) : (d.settleCore c).host = d.host := rfl
@[simp] theorem Dev.settleCore_pins (c : Nat) : (d.settleCore c).pins = d.pins := rfl
@[simp] theorem Dev.settleCore_out (c : Nat) : (d.settleCore c).out = d.out := rfl

/-! ### settleAll -/

@[simp] theorem Dev.settleAll_time  : d.settleAll.time = d.time := by
  unfold Dev.settleAll
  exact (foldl_keeps (fun d => d.time) _ (by intros; simp) _ _).trans (foldl_keeps (fun d => d.time) _ (by intros; simp) _ _)
@[simp] theorem Dev.settleAll_fresh  : d.settleAll.fresh = d.fresh := by
  unfold Dev.settleAll
  exact (foldl_keeps (fun d => d.fresh) _ (by intros; simp) _ _).trans (foldl_keeps (fun d => d.fresh) _ (by intros; simp) _ _)
@[simp] theorem Dev.settleAll_full  : d.settleAll.full = d.full := by
  unfold Dev.settleAll
  exact (foldl_keeps (fun d => d.full) _ (by intros; simp) _ _).trans (foldl_keeps (fun d => d.full) _ (by intros; simp) _ _)
@[simp] theorem Dev.settleAll_signetMask  : d.settleAll.signetMask = d.signetMask := by
  unfold Dev.settleAll
  exact (foldl_keeps (fun d => d.signetMask) _ (by intros; simp) _ _).trans (foldl_keeps (fun d => d.signetMask) _ (by intros; simp) _ _)
@[simp] theorem Dev.settleAll_overSignet  : d.settleAll.overSignet = d.overSignet := by
  unfold Dev.settleAll
  exact (foldl_keeps (fun d => d.overSignet) _ (by intros; simp) _ _).trans (foldl_keeps (fun d => d.overSignet) _ (by intros; simp) _ _)
@[simp] theorem Dev.settleAll_mem  : d.settleAll.mem = d.mem := by
  unfold Dev.settleAll
  exact (foldl_keeps (fun d => d.mem) _ (by intros; simp) _ _).trans (foldl_keeps (fun d => d.mem) _ (by intros; simp) _ _)
@[simp] theorem Dev.settleAll_cores  : d.settleAll.cores = d.cores := by
  unfold Dev.settleAll
  exact (foldl_keeps (fun d => d.cores) _ (by intros; simp) _ _).trans (foldl_keeps (fun d => d.cores) _ (by intros; simp) _ _)
@[simp] theorem Dev.settleAll_coh  : d.settleAll.coh = d.coh := by
  unfold Dev.settleAll
  exact (foldl_keeps (fun d => d.coh) _ (by intros; simp) _ _).trans (foldl_keeps (fun d => d.coh) _ (by intros; simp) _ _)
@[simp] theorem Dev.settleAll_ports  : d.settleAll.ports = d.ports := by
  unfold Dev.settleAll
  exact (foldl_keeps (fun d => d.ports) _ (by intros; simp) _ _).trans (foldl_keeps (fun d => d.ports) _ (by intros; simp) _ _)
@[simp] theorem Dev.settleAll_fab  : d.settleAll.fab = d.fab := by
  unfold Dev.settleAll
  exact (foldl_keeps (fun d => d.fab) _ (by intros; simp) _ _).trans (foldl_keeps (fun d => d.fab) _ (by intros; simp) _ _)
@[simp] theorem Dev.settleAll_parts  : d.settleAll.parts = d.parts := by
  unfold Dev.settleAll
  exact (foldl_keeps (fun d => d.parts) _ (by intros; simp) _ _).trans (foldl_keeps (fun d => d.parts) _ (by intros; simp) _ _)
@[simp] theorem Dev.settleAll_rigs  : d.settleAll.rigs = d.rigs := by
  unfold Dev.settleAll
  exact (foldl_keeps (fun d => d.rigs) _ (by intros; simp) _ _).trans (foldl_keeps (fun d => d.rigs) _ (by intros; simp) _ _)
@[simp] theorem Dev.settleAll_pkg  : d.settleAll.pkg = d.pkg := by
  unfold Dev.settleAll
  exact (foldl_keeps (fun d => d.pkg) _ (by intros; simp) _ _).trans (foldl_keeps (fun d => d.pkg) _ (by intros; simp) _ _)
@[simp] theorem Dev.settleAll_power  : d.settleAll.power = d.power := by
  unfold Dev.settleAll
  exact (foldl_keeps (fun d => d.power) _ (by intros; simp) _ _).trans (foldl_keeps (fun d => d.power) _ (by intros; simp) _ _)
@[simp] theorem Dev.settleAll_tm  : d.settleAll.tm = d.tm := by
  unfold Dev.settleAll
  exact (foldl_keeps (fun d => d.tm) _ (by intros; simp) _ _).trans (foldl_keeps (fun d => d.tm) _ (by intros; simp) _ _)
@[simp] theorem Dev.settleAll_sec  : d.settleAll.sec = d.sec := by
  unfold Dev.settleAll
  exact (foldl_keeps (fun d => d.sec) _ (by intros; simp) _ _).trans (foldl_keeps (fun d => d.sec) _ (by intros; simp) _ _)
@[simp] theorem Dev.settleAll_rel  : d.settleAll.rel = d.rel := by
  unfold Dev.settleAll
  exact (foldl_keeps (fun d => d.rel) _ (by intros; simp) _ _).trans (foldl_keeps (fun d => d.rel) _ (by intros; simp) _ _)
@[simp] theorem Dev.settleAll_rst  : d.settleAll.rst = d.rst := by
  unfold Dev.settleAll
  exact (foldl_keeps (fun d => d.rst) _ (by intros; simp) _ _).trans (foldl_keeps (fun d => d.rst) _ (by intros; simp) _ _)
@[simp] theorem Dev.settleAll_boot  : d.settleAll.boot = d.boot := by
  unfold Dev.settleAll
  exact (foldl_keeps (fun d => d.boot) _ (by intros; simp) _ _).trans (foldl_keeps (fun d => d.boot) _ (by intros; simp) _ _)
@[simp] theorem Dev.settleAll_cfg  : d.settleAll.cfg = d.cfg := by
  unfold Dev.settleAll
  exact (foldl_keeps (fun d => d.cfg) _ (by intros; simp) _ _).trans (foldl_keeps (fun d => d.cfg) _ (by intros; simp) _ _)
@[simp] theorem Dev.settleAll_dict  : d.settleAll.dict = d.dict := by
  unfold Dev.settleAll
  exact (foldl_keeps (fun d => d.dict) _ (by intros; simp) _ _).trans (foldl_keeps (fun d => d.dict) _ (by intros; simp) _ _)
@[simp] theorem Dev.settleAll_host  : d.settleAll.host = d.host := by
  unfold Dev.settleAll
  exact (foldl_keeps (fun d => d.host) _ (by intros; simp) _ _).trans (foldl_keeps (fun d => d.host) _ (by intros; simp) _ _)
@[simp] theorem Dev.settleAll_pins  : d.settleAll.pins = d.pins := by
  unfold Dev.settleAll
  exact (foldl_keeps (fun d => d.pins) _ (by intros; simp) _ _).trans (foldl_keeps (fun d => d.pins) _ (by intros; simp) _ _)
@[simp] theorem Dev.settleAll_out  : d.settleAll.out = d.out := by
  unfold Dev.settleAll
  exact (foldl_keeps (fun d => d.out) _ (by intros; simp) _ _).trans (foldl_keeps (fun d => d.out) _ (by intros; simp) _ _)

/-! ### Shares told, queues that leave ACTIVE -/

@[simp] theorem Dev.tellShare_time (i : Nat) (q : Queue) (n : Nat) : (d.tellShare i q n).time = d.time := by
  unfold Dev.tellShare; split
  · rfl
  · exact (foldl_keeps (fun d => d.time) _ (by intros; simp) _ _).trans (foldl_keeps (fun d => d.time) _ (by intros; simp) _ _)
@[simp] theorem Dev.tellShare_fresh (i : Nat) (q : Queue) (n : Nat) : (d.tellShare i q n).fresh = d.fresh := by
  unfold Dev.tellShare; split
  · rfl
  · exact (foldl_keeps (fun d => d.fresh) _ (by intros; simp) _ _).trans (foldl_keeps (fun d => d.fresh) _ (by intros; simp) _ _)
@[simp] theorem Dev.tellShare_full (i : Nat) (q : Queue) (n : Nat) : (d.tellShare i q n).full = d.full := by
  unfold Dev.tellShare; split
  · rfl
  · exact (foldl_keeps (fun d => d.full) _ (by intros; simp) _ _).trans (foldl_keeps (fun d => d.full) _ (by intros; simp) _ _)
@[simp] theorem Dev.tellShare_signetMask (i : Nat) (q : Queue) (n : Nat) : (d.tellShare i q n).signetMask = d.signetMask := by
  unfold Dev.tellShare; split
  · rfl
  · exact (foldl_keeps (fun d => d.signetMask) _ (by intros; simp) _ _).trans (foldl_keeps (fun d => d.signetMask) _ (by intros; simp) _ _)
@[simp] theorem Dev.tellShare_overSignet (i : Nat) (q : Queue) (n : Nat) : (d.tellShare i q n).overSignet = d.overSignet := by
  unfold Dev.tellShare; split
  · rfl
  · exact (foldl_keeps (fun d => d.overSignet) _ (by intros; simp) _ _).trans (foldl_keeps (fun d => d.overSignet) _ (by intros; simp) _ _)
@[simp] theorem Dev.tellShare_mem (i : Nat) (q : Queue) (n : Nat) : (d.tellShare i q n).mem = d.mem := by
  unfold Dev.tellShare; split
  · rfl
  · exact (foldl_keeps (fun d => d.mem) _ (by intros; simp) _ _).trans (foldl_keeps (fun d => d.mem) _ (by intros; simp) _ _)
@[simp] theorem Dev.tellShare_cores (i : Nat) (q : Queue) (n : Nat) : (d.tellShare i q n).cores = d.cores := by
  unfold Dev.tellShare; split
  · rfl
  · exact (foldl_keeps (fun d => d.cores) _ (by intros; simp) _ _).trans (foldl_keeps (fun d => d.cores) _ (by intros; simp) _ _)
@[simp] theorem Dev.tellShare_coh (i : Nat) (q : Queue) (n : Nat) : (d.tellShare i q n).coh = d.coh := by
  unfold Dev.tellShare; split
  · rfl
  · exact (foldl_keeps (fun d => d.coh) _ (by intros; simp) _ _).trans (foldl_keeps (fun d => d.coh) _ (by intros; simp) _ _)
@[simp] theorem Dev.tellShare_ports (i : Nat) (q : Queue) (n : Nat) : (d.tellShare i q n).ports = d.ports := by
  unfold Dev.tellShare; split
  · rfl
  · exact (foldl_keeps (fun d => d.ports) _ (by intros; simp) _ _).trans (foldl_keeps (fun d => d.ports) _ (by intros; simp) _ _)
@[simp] theorem Dev.tellShare_parts (i : Nat) (q : Queue) (n : Nat) : (d.tellShare i q n).parts = d.parts := by
  unfold Dev.tellShare; split
  · rfl
  · exact (foldl_keeps (fun d => d.parts) _ (by intros; simp) _ _).trans (foldl_keeps (fun d => d.parts) _ (by intros; simp) _ _)
@[simp] theorem Dev.tellShare_rigs (i : Nat) (q : Queue) (n : Nat) : (d.tellShare i q n).rigs = d.rigs := by
  unfold Dev.tellShare; split
  · rfl
  · exact (foldl_keeps (fun d => d.rigs) _ (by intros; simp) _ _).trans (foldl_keeps (fun d => d.rigs) _ (by intros; simp) _ _)
@[simp] theorem Dev.tellShare_pkg (i : Nat) (q : Queue) (n : Nat) : (d.tellShare i q n).pkg = d.pkg := by
  unfold Dev.tellShare; split
  · rfl
  · exact (foldl_keeps (fun d => d.pkg) _ (by intros; simp) _ _).trans (foldl_keeps (fun d => d.pkg) _ (by intros; simp) _ _)
@[simp] theorem Dev.tellShare_power (i : Nat) (q : Queue) (n : Nat) : (d.tellShare i q n).power = d.power := by
  unfold Dev.tellShare; split
  · rfl
  · exact (foldl_keeps (fun d => d.power) _ (by intros; simp) _ _).trans (foldl_keeps (fun d => d.power) _ (by intros; simp) _ _)
@[simp] theorem Dev.tellShare_tm (i : Nat) (q : Queue) (n : Nat) : (d.tellShare i q n).tm = d.tm := by
  unfold Dev.tellShare; split
  · rfl
  · exact (foldl_keeps (fun d => d.tm) _ (by intros; simp) _ _).trans (foldl_keeps (fun d => d.tm) _ (by intros; simp) _ _)
@[simp] theorem Dev.tellShare_sec (i : Nat) (q : Queue) (n : Nat) : (d.tellShare i q n).sec = d.sec := by
  unfold Dev.tellShare; split
  · rfl
  · exact (foldl_keeps (fun d => d.sec) _ (by intros; simp) _ _).trans (foldl_keeps (fun d => d.sec) _ (by intros; simp) _ _)
@[simp] theorem Dev.tellShare_rel (i : Nat) (q : Queue) (n : Nat) : (d.tellShare i q n).rel = d.rel := by
  unfold Dev.tellShare; split
  · rfl
  · exact (foldl_keeps (fun d => d.rel) _ (by intros; simp) _ _).trans (foldl_keeps (fun d => d.rel) _ (by intros; simp) _ _)
@[simp] theorem Dev.tellShare_rst (i : Nat) (q : Queue) (n : Nat) : (d.tellShare i q n).rst = d.rst := by
  unfold Dev.tellShare; split
  · rfl
  · exact (foldl_keeps (fun d => d.rst) _ (by intros; simp) _ _).trans (foldl_keeps (fun d => d.rst) _ (by intros; simp) _ _)
@[simp] theorem Dev.tellShare_boot (i : Nat) (q : Queue) (n : Nat) : (d.tellShare i q n).boot = d.boot := by
  unfold Dev.tellShare; split
  · rfl
  · exact (foldl_keeps (fun d => d.boot) _ (by intros; simp) _ _).trans (foldl_keeps (fun d => d.boot) _ (by intros; simp) _ _)
@[simp] theorem Dev.tellShare_cfg (i : Nat) (q : Queue) (n : Nat) : (d.tellShare i q n).cfg = d.cfg := by
  unfold Dev.tellShare; split
  · rfl
  · exact (foldl_keeps (fun d => d.cfg) _ (by intros; simp) _ _).trans (foldl_keeps (fun d => d.cfg) _ (by intros; simp) _ _)
@[simp] theorem Dev.tellShare_dict (i : Nat) (q : Queue) (n : Nat) : (d.tellShare i q n).dict = d.dict := by
  unfold Dev.tellShare; split
  · rfl
  · exact (foldl_keeps (fun d => d.dict) _ (by intros; simp) _ _).trans (foldl_keeps (fun d => d.dict) _ (by intros; simp) _ _)
@[simp] theorem Dev.tellShare_host (i : Nat) (q : Queue) (n : Nat) : (d.tellShare i q n).host = d.host := by
  unfold Dev.tellShare; split
  · rfl
  · exact (foldl_keeps (fun d => d.host) _ (by intros; simp) _ _).trans (foldl_keeps (fun d => d.host) _ (by intros; simp) _ _)
@[simp] theorem Dev.tellShare_pins (i : Nat) (q : Queue) (n : Nat) : (d.tellShare i q n).pins = d.pins := by
  unfold Dev.tellShare; split
  · rfl
  · exact (foldl_keeps (fun d => d.pins) _ (by intros; simp) _ _).trans (foldl_keeps (fun d => d.pins) _ (by intros; simp) _ _)
@[simp] theorem Dev.tellShare_out (i : Nat) (q : Queue) (n : Nat) : (d.tellShare i q n).out = d.out := by
  unfold Dev.tellShare; split
  · rfl
  · exact (foldl_keeps (fun d => d.out) _ (by intros; simp) _ _).trans (foldl_keeps (fun d => d.out) _ (by intros; simp) _ _)

@[simp] theorem Dev.deactivate_time (i : Nat) (q : Queue) (g : Queue → Queue) : (d.deactivate i q g).time = d.time := by
  unfold Dev.deactivate; simp only []; split <;> simp
@[simp] theorem Dev.deactivate_fresh (i : Nat) (q : Queue) (g : Queue → Queue) : (d.deactivate i q g).fresh = d.fresh := by
  unfold Dev.deactivate; simp only []; split <;> simp
@[simp] theorem Dev.deactivate_full (i : Nat) (q : Queue) (g : Queue → Queue) : (d.deactivate i q g).full = d.full := by
  unfold Dev.deactivate; simp only []; split <;> simp
@[simp] theorem Dev.deactivate_signetMask (i : Nat) (q : Queue) (g : Queue → Queue) : (d.deactivate i q g).signetMask = d.signetMask := by
  unfold Dev.deactivate; simp only []; split <;> simp
@[simp] theorem Dev.deactivate_overSignet (i : Nat) (q : Queue) (g : Queue → Queue) : (d.deactivate i q g).overSignet = d.overSignet := by
  unfold Dev.deactivate; simp only []; split <;> simp
@[simp] theorem Dev.deactivate_mem (i : Nat) (q : Queue) (g : Queue → Queue) : (d.deactivate i q g).mem = d.mem := by
  unfold Dev.deactivate; simp only []; split <;> simp
@[simp] theorem Dev.deactivate_cores (i : Nat) (q : Queue) (g : Queue → Queue) : (d.deactivate i q g).cores = d.cores := by
  unfold Dev.deactivate; simp only []; split <;> simp
@[simp] theorem Dev.deactivate_coh (i : Nat) (q : Queue) (g : Queue → Queue) : (d.deactivate i q g).coh = d.coh := by
  unfold Dev.deactivate; simp only []; split <;> simp
@[simp] theorem Dev.deactivate_ports (i : Nat) (q : Queue) (g : Queue → Queue) : (d.deactivate i q g).ports = d.ports := by
  unfold Dev.deactivate; simp only []; split <;> simp
@[simp] theorem Dev.deactivate_parts (i : Nat) (q : Queue) (g : Queue → Queue) : (d.deactivate i q g).parts = d.parts := by
  unfold Dev.deactivate; simp only []; split <;> simp
@[simp] theorem Dev.deactivate_rigs (i : Nat) (q : Queue) (g : Queue → Queue) : (d.deactivate i q g).rigs = d.rigs := by
  unfold Dev.deactivate; simp only []; split <;> simp
@[simp] theorem Dev.deactivate_pkg (i : Nat) (q : Queue) (g : Queue → Queue) : (d.deactivate i q g).pkg = d.pkg := by
  unfold Dev.deactivate; simp only []; split <;> simp
@[simp] theorem Dev.deactivate_power (i : Nat) (q : Queue) (g : Queue → Queue) : (d.deactivate i q g).power = d.power := by
  unfold Dev.deactivate; simp only []; split <;> simp
@[simp] theorem Dev.deactivate_tm (i : Nat) (q : Queue) (g : Queue → Queue) : (d.deactivate i q g).tm = d.tm := by
  unfold Dev.deactivate; simp only []; split <;> simp
@[simp] theorem Dev.deactivate_sec (i : Nat) (q : Queue) (g : Queue → Queue) : (d.deactivate i q g).sec = d.sec := by
  unfold Dev.deactivate; simp only []; split <;> simp
@[simp] theorem Dev.deactivate_rel (i : Nat) (q : Queue) (g : Queue → Queue) : (d.deactivate i q g).rel = d.rel := by
  unfold Dev.deactivate; simp only []; split <;> simp
@[simp] theorem Dev.deactivate_rst (i : Nat) (q : Queue) (g : Queue → Queue) : (d.deactivate i q g).rst = d.rst := by
  unfold Dev.deactivate; simp only []; split <;> simp
@[simp] theorem Dev.deactivate_boot (i : Nat) (q : Queue) (g : Queue → Queue) : (d.deactivate i q g).boot = d.boot := by
  unfold Dev.deactivate; simp only []; split <;> simp
@[simp] theorem Dev.deactivate_cfg (i : Nat) (q : Queue) (g : Queue → Queue) : (d.deactivate i q g).cfg = d.cfg := by
  unfold Dev.deactivate; simp only []; split <;> simp
@[simp] theorem Dev.deactivate_dict (i : Nat) (q : Queue) (g : Queue → Queue) : (d.deactivate i q g).dict = d.dict := by
  unfold Dev.deactivate; simp only []; split <;> simp
@[simp] theorem Dev.deactivate_host (i : Nat) (q : Queue) (g : Queue → Queue) : (d.deactivate i q g).host = d.host := by
  unfold Dev.deactivate; simp only []; split <;> simp
@[simp] theorem Dev.deactivate_pins (i : Nat) (q : Queue) (g : Queue → Queue) : (d.deactivate i q g).pins = d.pins := by
  unfold Dev.deactivate; simp only []; split <;> simp
@[simp] theorem Dev.deactivate_out (i : Nat) (q : Queue) (g : Queue → Queue) : (d.deactivate i q g).out = d.out := by
  unfold Dev.deactivate; simp only []; split <;> simp

/-! ### ringFault -/

@[simp] theorem Dev.ringFault_time (i : Nat) : (d.ringFault i).time = d.time := by
  unfold Dev.ringFault; (repeat' split) <;> first | rfl | simp
@[simp] theorem Dev.ringFault_fresh (i : Nat) : (d.ringFault i).fresh = d.fresh := by
  unfold Dev.ringFault; (repeat' split) <;> first | rfl | simp
@[simp] theorem Dev.ringFault_full (i : Nat) : (d.ringFault i).full = d.full := by
  unfold Dev.ringFault; (repeat' split) <;> first | rfl | simp
@[simp] theorem Dev.ringFault_signetMask (i : Nat) : (d.ringFault i).signetMask = d.signetMask := by
  unfold Dev.ringFault; (repeat' split) <;> first | rfl | simp
@[simp] theorem Dev.ringFault_overSignet (i : Nat) : (d.ringFault i).overSignet = d.overSignet := by
  unfold Dev.ringFault; (repeat' split) <;> first | rfl | simp
@[simp] theorem Dev.ringFault_mem (i : Nat) : (d.ringFault i).mem = d.mem := by
  unfold Dev.ringFault; (repeat' split) <;> first | rfl | simp
@[simp] theorem Dev.ringFault_cores (i : Nat) : (d.ringFault i).cores = d.cores := by
  unfold Dev.ringFault; (repeat' split) <;> first | rfl | simp
@[simp] theorem Dev.ringFault_coh (i : Nat) : (d.ringFault i).coh = d.coh := by
  unfold Dev.ringFault; (repeat' split) <;> first | rfl | simp
@[simp] theorem Dev.ringFault_ports (i : Nat) : (d.ringFault i).ports = d.ports := by
  unfold Dev.ringFault; (repeat' split) <;> first | rfl | simp
@[simp] theorem Dev.ringFault_parts (i : Nat) : (d.ringFault i).parts = d.parts := by
  unfold Dev.ringFault; (repeat' split) <;> first | rfl | simp
@[simp] theorem Dev.ringFault_rigs (i : Nat) : (d.ringFault i).rigs = d.rigs := by
  unfold Dev.ringFault; (repeat' split) <;> first | rfl | simp
@[simp] theorem Dev.ringFault_pkg (i : Nat) : (d.ringFault i).pkg = d.pkg := by
  unfold Dev.ringFault; (repeat' split) <;> first | rfl | simp
@[simp] theorem Dev.ringFault_power (i : Nat) : (d.ringFault i).power = d.power := by
  unfold Dev.ringFault; (repeat' split) <;> first | rfl | simp
@[simp] theorem Dev.ringFault_tm (i : Nat) : (d.ringFault i).tm = d.tm := by
  unfold Dev.ringFault; (repeat' split) <;> first | rfl | simp
@[simp] theorem Dev.ringFault_sec (i : Nat) : (d.ringFault i).sec = d.sec := by
  unfold Dev.ringFault; (repeat' split) <;> first | rfl | simp
@[simp] theorem Dev.ringFault_rel (i : Nat) : (d.ringFault i).rel = d.rel := by
  unfold Dev.ringFault; (repeat' split) <;> first | rfl | simp
@[simp] theorem Dev.ringFault_rst (i : Nat) : (d.ringFault i).rst = d.rst := by
  unfold Dev.ringFault; (repeat' split) <;> first | rfl | simp
@[simp] theorem Dev.ringFault_boot (i : Nat) : (d.ringFault i).boot = d.boot := by
  unfold Dev.ringFault; (repeat' split) <;> first | rfl | simp
@[simp] theorem Dev.ringFault_cfg (i : Nat) : (d.ringFault i).cfg = d.cfg := by
  unfold Dev.ringFault; (repeat' split) <;> first | rfl | simp
@[simp] theorem Dev.ringFault_dict (i : Nat) : (d.ringFault i).dict = d.dict := by
  unfold Dev.ringFault; (repeat' split) <;> first | rfl | simp
@[simp] theorem Dev.ringFault_host (i : Nat) : (d.ringFault i).host = d.host := by
  unfold Dev.ringFault; (repeat' split) <;> first | rfl | simp
@[simp] theorem Dev.ringFault_pins (i : Nat) : (d.ringFault i).pins = d.pins := by
  unfold Dev.ringFault; (repeat' split) <;> first | rfl | simp

/-! ### hostRingGone -/

@[simp] theorem Dev.hostRingGone_time (q : Nat × Queue) : (d.hostRingGone q).time = d.time := by
  unfold Dev.hostRingGone; (repeat' split) <;> first | rfl | simp
@[simp] theorem Dev.hostRingGone_fresh (q : Nat × Queue) : (d.hostRingGone q).fresh = d.fresh := by
  unfold Dev.hostRingGone; (repeat' split) <;> first | rfl | simp
@[simp] theorem Dev.hostRingGone_full (q : Nat × Queue) : (d.hostRingGone q).full = d.full := by
  unfold Dev.hostRingGone; (repeat' split) <;> first | rfl | simp
@[simp] theorem Dev.hostRingGone_signetMask (q : Nat × Queue) : (d.hostRingGone q).signetMask = d.signetMask := by
  unfold Dev.hostRingGone; (repeat' split) <;> first | rfl | simp
@[simp] theorem Dev.hostRingGone_overSignet (q : Nat × Queue) : (d.hostRingGone q).overSignet = d.overSignet := by
  unfold Dev.hostRingGone; (repeat' split) <;> first | rfl | simp
@[simp] theorem Dev.hostRingGone_mem (q : Nat × Queue) : (d.hostRingGone q).mem = d.mem := by
  unfold Dev.hostRingGone; (repeat' split) <;> first | rfl | simp
@[simp] theorem Dev.hostRingGone_cores (q : Nat × Queue) : (d.hostRingGone q).cores = d.cores := by
  unfold Dev.hostRingGone; (repeat' split) <;> first | rfl | simp
@[simp] theorem Dev.hostRingGone_coh (q : Nat × Queue) : (d.hostRingGone q).coh = d.coh := by
  unfold Dev.hostRingGone; (repeat' split) <;> first | rfl | simp
@[simp] theorem Dev.hostRingGone_ports (q : Nat × Queue) : (d.hostRingGone q).ports = d.ports := by
  unfold Dev.hostRingGone; (repeat' split) <;> first | rfl | simp
@[simp] theorem Dev.hostRingGone_parts (q : Nat × Queue) : (d.hostRingGone q).parts = d.parts := by
  unfold Dev.hostRingGone; (repeat' split) <;> first | rfl | simp
@[simp] theorem Dev.hostRingGone_rigs (q : Nat × Queue) : (d.hostRingGone q).rigs = d.rigs := by
  unfold Dev.hostRingGone; (repeat' split) <;> first | rfl | simp
@[simp] theorem Dev.hostRingGone_pkg (q : Nat × Queue) : (d.hostRingGone q).pkg = d.pkg := by
  unfold Dev.hostRingGone; (repeat' split) <;> first | rfl | simp
@[simp] theorem Dev.hostRingGone_power (q : Nat × Queue) : (d.hostRingGone q).power = d.power := by
  unfold Dev.hostRingGone; (repeat' split) <;> first | rfl | simp
@[simp] theorem Dev.hostRingGone_tm (q : Nat × Queue) : (d.hostRingGone q).tm = d.tm := by
  unfold Dev.hostRingGone; (repeat' split) <;> first | rfl | simp
@[simp] theorem Dev.hostRingGone_sec (q : Nat × Queue) : (d.hostRingGone q).sec = d.sec := by
  unfold Dev.hostRingGone; (repeat' split) <;> first | rfl | simp
@[simp] theorem Dev.hostRingGone_rel (q : Nat × Queue) : (d.hostRingGone q).rel = d.rel := by
  unfold Dev.hostRingGone; (repeat' split) <;> first | rfl | simp
@[simp] theorem Dev.hostRingGone_rst (q : Nat × Queue) : (d.hostRingGone q).rst = d.rst := by
  unfold Dev.hostRingGone; (repeat' split) <;> first | rfl | simp
@[simp] theorem Dev.hostRingGone_boot (q : Nat × Queue) : (d.hostRingGone q).boot = d.boot := by
  unfold Dev.hostRingGone; (repeat' split) <;> first | rfl | simp
@[simp] theorem Dev.hostRingGone_cfg (q : Nat × Queue) : (d.hostRingGone q).cfg = d.cfg := by
  unfold Dev.hostRingGone; (repeat' split) <;> first | rfl | simp
@[simp] theorem Dev.hostRingGone_dict (q : Nat × Queue) : (d.hostRingGone q).dict = d.dict := by
  unfold Dev.hostRingGone; (repeat' split) <;> first | rfl | simp
@[simp] theorem Dev.hostRingGone_host (q : Nat × Queue) : (d.hostRingGone q).host = d.host := by
  unfold Dev.hostRingGone; (repeat' split) <;> first | rfl | simp
@[simp] theorem Dev.hostRingGone_pins (q : Nat × Queue) : (d.hostRingGone q).pins = d.pins := by
  unfold Dev.hostRingGone; (repeat' split) <;> first | rfl | simp

/-! ### drainNotices -/

@[simp] theorem Dev.drainNotices_time (r n : Nat) : (Dev.drainNotices r n d).time = d.time := by
  induction n generalizing d with
  | zero => rfl
  | succ n ih => unfold Dev.drainNotices; (repeat' split) <;> simp [ih]
@[simp] theorem Dev.drainNotices_fresh (r n : Nat) : (Dev.drainNotices r n d).fresh = d.fresh := by
  induction n generalizing d with
  | zero => rfl
  | succ n ih => unfold Dev.drainNotices; (repeat' split) <;> simp [ih]
@[simp] theorem Dev.drainNotices_full (r n : Nat) : (Dev.drainNotices r n d).full = d.full := by
  induction n generalizing d with
  | zero => rfl
  | succ n ih => unfold Dev.drainNotices; (repeat' split) <;> simp [ih]
@[simp] theorem Dev.drainNotices_signetMask (r n : Nat) : (Dev.drainNotices r n d).signetMask = d.signetMask := by
  induction n generalizing d with
  | zero => rfl
  | succ n ih => unfold Dev.drainNotices; (repeat' split) <;> simp [ih]
@[simp] theorem Dev.drainNotices_overSignet (r n : Nat) : (Dev.drainNotices r n d).overSignet = d.overSignet := by
  induction n generalizing d with
  | zero => rfl
  | succ n ih => unfold Dev.drainNotices; (repeat' split) <;> simp [ih]
@[simp] theorem Dev.drainNotices_mem (r n : Nat) : (Dev.drainNotices r n d).mem = d.mem := by
  induction n generalizing d with
  | zero => rfl
  | succ n ih => unfold Dev.drainNotices; (repeat' split) <;> simp [ih]
@[simp] theorem Dev.drainNotices_cores (r n : Nat) : (Dev.drainNotices r n d).cores = d.cores := by
  induction n generalizing d with
  | zero => rfl
  | succ n ih => unfold Dev.drainNotices; (repeat' split) <;> simp [ih]
@[simp] theorem Dev.drainNotices_coh (r n : Nat) : (Dev.drainNotices r n d).coh = d.coh := by
  induction n generalizing d with
  | zero => rfl
  | succ n ih => unfold Dev.drainNotices; (repeat' split) <;> simp [ih]
@[simp] theorem Dev.drainNotices_ports (r n : Nat) : (Dev.drainNotices r n d).ports = d.ports := by
  induction n generalizing d with
  | zero => rfl
  | succ n ih => unfold Dev.drainNotices; (repeat' split) <;> simp [ih]
@[simp] theorem Dev.drainNotices_fab (r n : Nat) : (Dev.drainNotices r n d).fab = d.fab := by
  induction n generalizing d with
  | zero => rfl
  | succ n ih => unfold Dev.drainNotices; (repeat' split) <;> simp [ih]
@[simp] theorem Dev.drainNotices_parts (r n : Nat) : (Dev.drainNotices r n d).parts = d.parts := by
  induction n generalizing d with
  | zero => rfl
  | succ n ih => unfold Dev.drainNotices; (repeat' split) <;> simp [ih]
@[simp] theorem Dev.drainNotices_rigs (r n : Nat) : (Dev.drainNotices r n d).rigs = d.rigs := by
  induction n generalizing d with
  | zero => rfl
  | succ n ih => unfold Dev.drainNotices; (repeat' split) <;> simp [ih]
@[simp] theorem Dev.drainNotices_pkg (r n : Nat) : (Dev.drainNotices r n d).pkg = d.pkg := by
  induction n generalizing d with
  | zero => rfl
  | succ n ih => unfold Dev.drainNotices; (repeat' split) <;> simp [ih]
@[simp] theorem Dev.drainNotices_power (r n : Nat) : (Dev.drainNotices r n d).power = d.power := by
  induction n generalizing d with
  | zero => rfl
  | succ n ih => unfold Dev.drainNotices; (repeat' split) <;> simp [ih]
@[simp] theorem Dev.drainNotices_tm (r n : Nat) : (Dev.drainNotices r n d).tm = d.tm := by
  induction n generalizing d with
  | zero => rfl
  | succ n ih => unfold Dev.drainNotices; (repeat' split) <;> simp [ih]
@[simp] theorem Dev.drainNotices_sec (r n : Nat) : (Dev.drainNotices r n d).sec = d.sec := by
  induction n generalizing d with
  | zero => rfl
  | succ n ih => unfold Dev.drainNotices; (repeat' split) <;> simp [ih]
@[simp] theorem Dev.drainNotices_rel (r n : Nat) : (Dev.drainNotices r n d).rel = d.rel := by
  induction n generalizing d with
  | zero => rfl
  | succ n ih => unfold Dev.drainNotices; (repeat' split) <;> simp [ih]
@[simp] theorem Dev.drainNotices_rst (r n : Nat) : (Dev.drainNotices r n d).rst = d.rst := by
  induction n generalizing d with
  | zero => rfl
  | succ n ih => unfold Dev.drainNotices; (repeat' split) <;> simp [ih]
@[simp] theorem Dev.drainNotices_boot (r n : Nat) : (Dev.drainNotices r n d).boot = d.boot := by
  induction n generalizing d with
  | zero => rfl
  | succ n ih => unfold Dev.drainNotices; (repeat' split) <;> simp [ih]
@[simp] theorem Dev.drainNotices_cfg (r n : Nat) : (Dev.drainNotices r n d).cfg = d.cfg := by
  induction n generalizing d with
  | zero => rfl
  | succ n ih => unfold Dev.drainNotices; (repeat' split) <;> simp [ih]
@[simp] theorem Dev.drainNotices_dict (r n : Nat) : (Dev.drainNotices r n d).dict = d.dict := by
  induction n generalizing d with
  | zero => rfl
  | succ n ih => unfold Dev.drainNotices; (repeat' split) <;> simp [ih]
@[simp] theorem Dev.drainNotices_host (r n : Nat) : (Dev.drainNotices r n d).host = d.host := by
  induction n generalizing d with
  | zero => rfl
  | succ n ih => unfold Dev.drainNotices; (repeat' split) <;> simp [ih]
@[simp] theorem Dev.drainNotices_pins (r n : Nat) : (Dev.drainNotices r n d).pins = d.pins := by
  induction n generalizing d with
  | zero => rfl
  | succ n ih => unfold Dev.drainNotices; (repeat' split) <;> simp [ih]

/-! ### ringConfig -/

@[simp] theorem Dev.ringConfig_time (r : Nat) (f : RingField) : (d.ringConfig r f).time = d.time := by unfold Dev.ringConfig; simp
@[simp] theorem Dev.ringConfig_fresh (r : Nat) (f : RingField) : (d.ringConfig r f).fresh = d.fresh := by unfold Dev.ringConfig; simp
@[simp] theorem Dev.ringConfig_full (r : Nat) (f : RingField) : (d.ringConfig r f).full = d.full := by unfold Dev.ringConfig; simp
@[simp] theorem Dev.ringConfig_signetMask (r : Nat) (f : RingField) : (d.ringConfig r f).signetMask = d.signetMask := by unfold Dev.ringConfig; simp
@[simp] theorem Dev.ringConfig_overSignet (r : Nat) (f : RingField) : (d.ringConfig r f).overSignet = d.overSignet := by unfold Dev.ringConfig; simp
@[simp] theorem Dev.ringConfig_mem (r : Nat) (f : RingField) : (d.ringConfig r f).mem = d.mem := by unfold Dev.ringConfig; simp
@[simp] theorem Dev.ringConfig_cores (r : Nat) (f : RingField) : (d.ringConfig r f).cores = d.cores := by unfold Dev.ringConfig; simp
@[simp] theorem Dev.ringConfig_coh (r : Nat) (f : RingField) : (d.ringConfig r f).coh = d.coh := by unfold Dev.ringConfig; simp
@[simp] theorem Dev.ringConfig_ports (r : Nat) (f : RingField) : (d.ringConfig r f).ports = d.ports := by unfold Dev.ringConfig; simp
@[simp] theorem Dev.ringConfig_fab (r : Nat) (f : RingField) : (d.ringConfig r f).fab = d.fab := by unfold Dev.ringConfig; simp
@[simp] theorem Dev.ringConfig_parts (r : Nat) (f : RingField) : (d.ringConfig r f).parts = d.parts := by unfold Dev.ringConfig; simp
@[simp] theorem Dev.ringConfig_rigs (r : Nat) (f : RingField) : (d.ringConfig r f).rigs = d.rigs := by unfold Dev.ringConfig; simp
@[simp] theorem Dev.ringConfig_pkg (r : Nat) (f : RingField) : (d.ringConfig r f).pkg = d.pkg := by unfold Dev.ringConfig; simp
@[simp] theorem Dev.ringConfig_power (r : Nat) (f : RingField) : (d.ringConfig r f).power = d.power := by unfold Dev.ringConfig; simp
@[simp] theorem Dev.ringConfig_tm (r : Nat) (f : RingField) : (d.ringConfig r f).tm = d.tm := by unfold Dev.ringConfig; simp
@[simp] theorem Dev.ringConfig_sec (r : Nat) (f : RingField) : (d.ringConfig r f).sec = d.sec := by unfold Dev.ringConfig; simp
@[simp] theorem Dev.ringConfig_rel (r : Nat) (f : RingField) : (d.ringConfig r f).rel = d.rel := by unfold Dev.ringConfig; simp
@[simp] theorem Dev.ringConfig_rst (r : Nat) (f : RingField) : (d.ringConfig r f).rst = d.rst := by unfold Dev.ringConfig; simp
@[simp] theorem Dev.ringConfig_boot (r : Nat) (f : RingField) : (d.ringConfig r f).boot = d.boot := by unfold Dev.ringConfig; simp
@[simp] theorem Dev.ringConfig_cfg (r : Nat) (f : RingField) : (d.ringConfig r f).cfg = d.cfg := by unfold Dev.ringConfig; simp
@[simp] theorem Dev.ringConfig_dict (r : Nat) (f : RingField) : (d.ringConfig r f).dict = d.dict := by unfold Dev.ringConfig; simp
@[simp] theorem Dev.ringConfig_host (r : Nat) (f : RingField) : (d.ringConfig r f).host = d.host := by unfold Dev.ringConfig; simp
@[simp] theorem Dev.ringConfig_pins (r : Nat) (f : RingField) : (d.ringConfig r f).pins = d.pins := by unfold Dev.ringConfig; simp

/-! ### funcQueues -/

@[simp] theorem Dev.funcQueues_time (f : Nat) : (d.funcQueues f).time = d.time := by
  unfold Dev.funcQueues
  exact foldl_keeps (fun d => d.time) _ (by intros; simp) _ _
@[simp] theorem Dev.funcQueues_fresh (f : Nat) : (d.funcQueues f).fresh = d.fresh := by
  unfold Dev.funcQueues
  exact foldl_keeps (fun d => d.fresh) _ (by intros; simp) _ _
@[simp] theorem Dev.funcQueues_full (f : Nat) : (d.funcQueues f).full = d.full := by
  unfold Dev.funcQueues
  exact foldl_keeps (fun d => d.full) _ (by intros; simp) _ _
@[simp] theorem Dev.funcQueues_signetMask (f : Nat) : (d.funcQueues f).signetMask = d.signetMask := by
  unfold Dev.funcQueues
  exact foldl_keeps (fun d => d.signetMask) _ (by intros; simp) _ _
@[simp] theorem Dev.funcQueues_overSignet (f : Nat) : (d.funcQueues f).overSignet = d.overSignet := by
  unfold Dev.funcQueues
  exact foldl_keeps (fun d => d.overSignet) _ (by intros; simp) _ _
@[simp] theorem Dev.funcQueues_mem (f : Nat) : (d.funcQueues f).mem = d.mem := by
  unfold Dev.funcQueues
  exact foldl_keeps (fun d => d.mem) _ (by intros; simp) _ _
@[simp] theorem Dev.funcQueues_cores (f : Nat) : (d.funcQueues f).cores = d.cores := by
  unfold Dev.funcQueues
  exact foldl_keeps (fun d => d.cores) _ (by intros; simp) _ _
@[simp] theorem Dev.funcQueues_coh (f : Nat) : (d.funcQueues f).coh = d.coh := by
  unfold Dev.funcQueues
  exact foldl_keeps (fun d => d.coh) _ (by intros; simp) _ _
@[simp] theorem Dev.funcQueues_ports (f : Nat) : (d.funcQueues f).ports = d.ports := by
  unfold Dev.funcQueues
  exact foldl_keeps (fun d => d.ports) _ (by intros; simp) _ _
@[simp] theorem Dev.funcQueues_parts (f : Nat) : (d.funcQueues f).parts = d.parts := by
  unfold Dev.funcQueues
  exact foldl_keeps (fun d => d.parts) _ (by intros; simp) _ _
@[simp] theorem Dev.funcQueues_rigs (f : Nat) : (d.funcQueues f).rigs = d.rigs := by
  unfold Dev.funcQueues
  exact foldl_keeps (fun d => d.rigs) _ (by intros; simp) _ _
@[simp] theorem Dev.funcQueues_pkg (f : Nat) : (d.funcQueues f).pkg = d.pkg := by
  unfold Dev.funcQueues
  exact foldl_keeps (fun d => d.pkg) _ (by intros; simp) _ _
@[simp] theorem Dev.funcQueues_power (f : Nat) : (d.funcQueues f).power = d.power := by
  unfold Dev.funcQueues
  exact foldl_keeps (fun d => d.power) _ (by intros; simp) _ _
@[simp] theorem Dev.funcQueues_tm (f : Nat) : (d.funcQueues f).tm = d.tm := by
  unfold Dev.funcQueues
  exact foldl_keeps (fun d => d.tm) _ (by intros; simp) _ _
@[simp] theorem Dev.funcQueues_sec (f : Nat) : (d.funcQueues f).sec = d.sec := by
  unfold Dev.funcQueues
  exact foldl_keeps (fun d => d.sec) _ (by intros; simp) _ _
@[simp] theorem Dev.funcQueues_rel (f : Nat) : (d.funcQueues f).rel = d.rel := by
  unfold Dev.funcQueues
  exact foldl_keeps (fun d => d.rel) _ (by intros; simp) _ _
@[simp] theorem Dev.funcQueues_rst (f : Nat) : (d.funcQueues f).rst = d.rst := by
  unfold Dev.funcQueues
  exact foldl_keeps (fun d => d.rst) _ (by intros; simp) _ _
@[simp] theorem Dev.funcQueues_boot (f : Nat) : (d.funcQueues f).boot = d.boot := by
  unfold Dev.funcQueues
  exact foldl_keeps (fun d => d.boot) _ (by intros; simp) _ _
@[simp] theorem Dev.funcQueues_cfg (f : Nat) : (d.funcQueues f).cfg = d.cfg := by
  unfold Dev.funcQueues
  exact foldl_keeps (fun d => d.cfg) _ (by intros; simp) _ _
@[simp] theorem Dev.funcQueues_dict (f : Nat) : (d.funcQueues f).dict = d.dict := by
  unfold Dev.funcQueues
  exact foldl_keeps (fun d => d.dict) _ (by intros; simp) _ _
@[simp] theorem Dev.funcQueues_host (f : Nat) : (d.funcQueues f).host = d.host := by
  unfold Dev.funcQueues
  exact foldl_keeps (fun d => d.host) _ (by intros; simp) _ _
@[simp] theorem Dev.funcQueues_pins (f : Nat) : (d.funcQueues f).pins = d.pins := by
  unfold Dev.funcQueues
  exact foldl_keeps (fun d => d.pins) _ (by intros; simp) _ _

/-! ### vfReset -/

@[simp] theorem Dev.vfReset_time (f : Nat) : (d.vfReset f).time = d.time := by
  unfold Dev.vfReset Dev.funcClear; simp only []
  refine (foldl_keeps (fun d => d.time) _ (by intros; simp) _ _).trans ?_
  split <;> simp
@[simp] theorem Dev.vfReset_fresh (f : Nat) : (d.vfReset f).fresh = d.fresh := by
  unfold Dev.vfReset Dev.funcClear; simp only []
  refine (foldl_keeps (fun d => d.fresh) _ (by intros; simp) _ _).trans ?_
  split <;> simp
@[simp] theorem Dev.vfReset_full (f : Nat) : (d.vfReset f).full = d.full := by
  unfold Dev.vfReset Dev.funcClear; simp only []
  refine (foldl_keeps (fun d => d.full) _ (by intros; simp) _ _).trans ?_
  split <;> simp
@[simp] theorem Dev.vfReset_signetMask (f : Nat) : (d.vfReset f).signetMask = d.signetMask := by
  unfold Dev.vfReset Dev.funcClear; simp only []
  refine (foldl_keeps (fun d => d.signetMask) _ (by intros; simp) _ _).trans ?_
  split <;> simp
@[simp] theorem Dev.vfReset_overSignet (f : Nat) : (d.vfReset f).overSignet = d.overSignet := by
  unfold Dev.vfReset Dev.funcClear; simp only []
  refine (foldl_keeps (fun d => d.overSignet) _ (by intros; simp) _ _).trans ?_
  split <;> simp
@[simp] theorem Dev.vfReset_mem (f : Nat) : (d.vfReset f).mem = d.mem := by
  unfold Dev.vfReset Dev.funcClear; simp only []
  refine (foldl_keeps (fun d => d.mem) _ (by intros; simp) _ _).trans ?_
  split <;> simp
@[simp] theorem Dev.vfReset_cores (f : Nat) : (d.vfReset f).cores = d.cores := by
  unfold Dev.vfReset Dev.funcClear; simp only []
  refine (foldl_keeps (fun d => d.cores) _ (by intros; simp) _ _).trans ?_
  split <;> simp
@[simp] theorem Dev.vfReset_coh (f : Nat) : (d.vfReset f).coh = d.coh := by
  unfold Dev.vfReset Dev.funcClear; simp only []
  refine (foldl_keeps (fun d => d.coh) _ (by intros; simp) _ _).trans ?_
  split <;> simp
@[simp] theorem Dev.vfReset_ports (f : Nat) : (d.vfReset f).ports = d.ports := by
  unfold Dev.vfReset Dev.funcClear; simp only []
  refine (foldl_keeps (fun d => d.ports) _ (by intros; simp) _ _).trans ?_
  split <;> simp
@[simp] theorem Dev.vfReset_parts (f : Nat) : (d.vfReset f).parts = d.parts := by
  unfold Dev.vfReset Dev.funcClear; simp only []
  refine (foldl_keeps (fun d => d.parts) _ (by intros; simp) _ _).trans ?_
  split <;> simp
@[simp] theorem Dev.vfReset_rigs (f : Nat) : (d.vfReset f).rigs = d.rigs := by
  unfold Dev.vfReset Dev.funcClear; simp only []
  refine (foldl_keeps (fun d => d.rigs) _ (by intros; simp) _ _).trans ?_
  split <;> simp
@[simp] theorem Dev.vfReset_pkg (f : Nat) : (d.vfReset f).pkg = d.pkg := by
  unfold Dev.vfReset Dev.funcClear; simp only []
  refine (foldl_keeps (fun d => d.pkg) _ (by intros; simp) _ _).trans ?_
  split <;> simp
@[simp] theorem Dev.vfReset_power (f : Nat) : (d.vfReset f).power = d.power := by
  unfold Dev.vfReset Dev.funcClear; simp only []
  refine (foldl_keeps (fun d => d.power) _ (by intros; simp) _ _).trans ?_
  split <;> simp
@[simp] theorem Dev.vfReset_tm (f : Nat) : (d.vfReset f).tm = d.tm := by
  unfold Dev.vfReset Dev.funcClear; simp only []
  refine (foldl_keeps (fun d => d.tm) _ (by intros; simp) _ _).trans ?_
  split <;> simp
@[simp] theorem Dev.vfReset_sec (f : Nat) : (d.vfReset f).sec = d.sec := by
  unfold Dev.vfReset Dev.funcClear; simp only []
  refine (foldl_keeps (fun d => d.sec) _ (by intros; simp) _ _).trans ?_
  split <;> simp
@[simp] theorem Dev.vfReset_rel (f : Nat) : (d.vfReset f).rel = d.rel := by
  unfold Dev.vfReset Dev.funcClear; simp only []
  refine (foldl_keeps (fun d => d.rel) _ (by intros; simp) _ _).trans ?_
  split <;> simp
@[simp] theorem Dev.vfReset_rst (f : Nat) : (d.vfReset f).rst = d.rst := by
  unfold Dev.vfReset Dev.funcClear; simp only []
  refine (foldl_keeps (fun d => d.rst) _ (by intros; simp) _ _).trans ?_
  split <;> simp
@[simp] theorem Dev.vfReset_boot (f : Nat) : (d.vfReset f).boot = d.boot := by
  unfold Dev.vfReset Dev.funcClear; simp only []
  refine (foldl_keeps (fun d => d.boot) _ (by intros; simp) _ _).trans ?_
  split <;> simp
@[simp] theorem Dev.vfReset_cfg (f : Nat) : (d.vfReset f).cfg = d.cfg := by
  unfold Dev.vfReset Dev.funcClear; simp only []
  refine (foldl_keeps (fun d => d.cfg) _ (by intros; simp) _ _).trans ?_
  split <;> simp
@[simp] theorem Dev.vfReset_pins (f : Nat) : (d.vfReset f).pins = d.pins := by
  unfold Dev.vfReset Dev.funcClear; simp only []
  refine (foldl_keeps (fun d => d.pins) _ (by intros; simp) _ _).trans ?_
  split <;> simp

/-! ### pfReset -/

@[simp] theorem Dev.pfReset_time  : d.pfReset.time = d.time := by
  unfold Dev.pfReset Dev.funcClear; simp only [Dev.ringConfig_time, Dev.funcQueues_time]
  exact foldl_keeps (fun d => d.time) _ (by intros; simp) _ _
@[simp] theorem Dev.pfReset_fresh  : d.pfReset.fresh = d.fresh := by
  unfold Dev.pfReset Dev.funcClear; simp only [Dev.ringConfig_fresh, Dev.funcQueues_fresh]
  exact foldl_keeps (fun d => d.fresh) _ (by intros; simp) _ _
@[simp] theorem Dev.pfReset_full  : d.pfReset.full = d.full := by
  unfold Dev.pfReset Dev.funcClear; simp only [Dev.ringConfig_full, Dev.funcQueues_full]
  exact foldl_keeps (fun d => d.full) _ (by intros; simp) _ _
@[simp] theorem Dev.pfReset_signetMask  : d.pfReset.signetMask = d.signetMask := by
  unfold Dev.pfReset Dev.funcClear; simp only [Dev.ringConfig_signetMask, Dev.funcQueues_signetMask]
  exact foldl_keeps (fun d => d.signetMask) _ (by intros; simp) _ _
@[simp] theorem Dev.pfReset_overSignet  : d.pfReset.overSignet = d.overSignet := by
  unfold Dev.pfReset Dev.funcClear; simp only [Dev.ringConfig_overSignet, Dev.funcQueues_overSignet]
  exact foldl_keeps (fun d => d.overSignet) _ (by intros; simp) _ _
@[simp] theorem Dev.pfReset_mem  : d.pfReset.mem = d.mem := by
  unfold Dev.pfReset Dev.funcClear; simp only [Dev.ringConfig_mem, Dev.funcQueues_mem]
  exact foldl_keeps (fun d => d.mem) _ (by intros; simp) _ _
@[simp] theorem Dev.pfReset_cores  : d.pfReset.cores = d.cores := by
  unfold Dev.pfReset Dev.funcClear; simp only [Dev.ringConfig_cores, Dev.funcQueues_cores]
  exact foldl_keeps (fun d => d.cores) _ (by intros; simp) _ _
@[simp] theorem Dev.pfReset_coh  : d.pfReset.coh = d.coh := by
  unfold Dev.pfReset Dev.funcClear; simp only [Dev.ringConfig_coh, Dev.funcQueues_coh]
  exact foldl_keeps (fun d => d.coh) _ (by intros; simp) _ _
@[simp] theorem Dev.pfReset_ports  : d.pfReset.ports = d.ports := by
  unfold Dev.pfReset Dev.funcClear; simp only [Dev.ringConfig_ports, Dev.funcQueues_ports]
  exact foldl_keeps (fun d => d.ports) _ (by intros; simp) _ _
@[simp] theorem Dev.pfReset_parts  : d.pfReset.parts = d.parts := by
  unfold Dev.pfReset Dev.funcClear; simp only [Dev.ringConfig_parts, Dev.funcQueues_parts]
  exact foldl_keeps (fun d => d.parts) _ (by intros; simp) _ _
@[simp] theorem Dev.pfReset_rigs  : d.pfReset.rigs = d.rigs := by
  unfold Dev.pfReset Dev.funcClear; simp only [Dev.ringConfig_rigs, Dev.funcQueues_rigs]
  exact foldl_keeps (fun d => d.rigs) _ (by intros; simp) _ _
@[simp] theorem Dev.pfReset_pkg  : d.pfReset.pkg = d.pkg := by
  unfold Dev.pfReset Dev.funcClear; simp only [Dev.ringConfig_pkg, Dev.funcQueues_pkg]
  exact foldl_keeps (fun d => d.pkg) _ (by intros; simp) _ _
@[simp] theorem Dev.pfReset_power  : d.pfReset.power = d.power := by
  unfold Dev.pfReset Dev.funcClear; simp only [Dev.ringConfig_power, Dev.funcQueues_power]
  exact foldl_keeps (fun d => d.power) _ (by intros; simp) _ _
@[simp] theorem Dev.pfReset_tm  : d.pfReset.tm = d.tm := by
  unfold Dev.pfReset Dev.funcClear; simp only [Dev.ringConfig_tm, Dev.funcQueues_tm]
  exact foldl_keeps (fun d => d.tm) _ (by intros; simp) _ _
@[simp] theorem Dev.pfReset_sec  : d.pfReset.sec = d.sec := by
  unfold Dev.pfReset Dev.funcClear; simp only [Dev.ringConfig_sec, Dev.funcQueues_sec]
  exact foldl_keeps (fun d => d.sec) _ (by intros; simp) _ _
@[simp] theorem Dev.pfReset_rel  : d.pfReset.rel = d.rel := by
  unfold Dev.pfReset Dev.funcClear; simp only [Dev.ringConfig_rel, Dev.funcQueues_rel]
  exact foldl_keeps (fun d => d.rel) _ (by intros; simp) _ _
@[simp] theorem Dev.pfReset_rst  : d.pfReset.rst = d.rst := by
  unfold Dev.pfReset Dev.funcClear; simp only [Dev.ringConfig_rst, Dev.funcQueues_rst]
  exact foldl_keeps (fun d => d.rst) _ (by intros; simp) _ _
@[simp] theorem Dev.pfReset_boot  : d.pfReset.boot = d.boot := by
  unfold Dev.pfReset Dev.funcClear; simp only [Dev.ringConfig_boot, Dev.funcQueues_boot]
  exact foldl_keeps (fun d => d.boot) _ (by intros; simp) _ _
@[simp] theorem Dev.pfReset_cfg  : d.pfReset.cfg = d.cfg := by
  unfold Dev.pfReset Dev.funcClear; simp only [Dev.ringConfig_cfg, Dev.funcQueues_cfg]
  exact foldl_keeps (fun d => d.cfg) _ (by intros; simp) _ _
@[simp] theorem Dev.pfReset_pins  : d.pfReset.pins = d.pins := by
  unfold Dev.pfReset Dev.funcClear; simp only [Dev.ringConfig_pins, Dev.funcQueues_pins]
  exact foldl_keeps (fun d => d.pins) _ (by intros; simp) _ _

/-! ### Notices leave the rest of the front end as it was -/

@[simp] theorem Dev.writeRing_queues (r : Nat) (n : Notice) : (d.writeRing r n).fe.queues = d.fe.queues := by
  unfold Dev.writeRing; simp only []; split <;> rfl
@[simp] theorem Dev.ringNotice_queues (r : Nat) (n : Notice) : (d.ringNotice r n).fe.queues = d.fe.queues := by
  unfold Dev.ringNotice; split
  · simp
  · split <;> rfl
@[simp] theorem Dev.deliverNotice_queues (n : Notice) (p : Option Nat) : (d.deliverNotice n p).fe.queues = d.fe.queues := by
  unfold Dev.deliverNotice; simp only []
  split
  · simp
  · exact (foldl_keeps (fun d => d.fe.queues) _ (by intros; simp) _ _).trans (by simp)
@[simp] theorem Dev.notify_queues (n : Notice) : (d.notify n).fe.queues = d.fe.queues := by unfold Dev.notify; split <;> simp
@[simp] theorem Dev.notice_queues (c : Cause) (k a b : Nat) : (d.notice c k a b).fe.queues = d.fe.queues := by unfold Dev.notice; simp
@[simp] theorem Dev.coreNotice_queues (c : Nat) (x : Cause) (k : Nat) (p : Option Nat) (a b : Nat) : (d.coreNotice c x k p a b).fe.queues = d.fe.queues := by unfold Dev.coreNotice; simp
@[simp] theorem Dev.queueNotice_queues (q : Queue) (c : Cause) (k a b : Nat) : (d.queueNotice q c k a b).fe.queues = d.fe.queues := by unfold Dev.queueNotice; simp
@[simp] theorem Dev.drainNotices_queues (r n : Nat) : (Dev.drainNotices r n d).fe.queues = d.fe.queues := by
  induction n generalizing d with
  | zero => rfl
  | succ n ih => unfold Dev.drainNotices; (repeat' split) <;> simp [ih]
@[simp] theorem Dev.ringConfig_queues (r : Nat) (f : RingField) : (d.ringConfig r f).fe.queues = d.fe.queues := by unfold Dev.ringConfig; simp
@[simp] theorem Dev.writeRing_qIds (r : Nat) (n : Notice) : (d.writeRing r n).fe.qIds = d.fe.qIds := by
  unfold Dev.writeRing; simp only []; split <;> rfl
@[simp] theorem Dev.ringNotice_qIds (r : Nat) (n : Notice) : (d.ringNotice r n).fe.qIds = d.fe.qIds := by
  unfold Dev.ringNotice; split
  · simp
  · split <;> rfl
@[simp] theorem Dev.deliverNotice_qIds (n : Notice) (p : Option Nat) : (d.deliverNotice n p).fe.qIds = d.fe.qIds := by
  unfold Dev.deliverNotice; simp only []
  split
  · simp
  · exact (foldl_keeps (fun d => d.fe.qIds) _ (by intros; simp) _ _).trans (by simp)
@[simp] theorem Dev.notify_qIds (n : Notice) : (d.notify n).fe.qIds = d.fe.qIds := by unfold Dev.notify; split <;> simp
@[simp] theorem Dev.notice_qIds (c : Cause) (k a b : Nat) : (d.notice c k a b).fe.qIds = d.fe.qIds := by unfold Dev.notice; simp
@[simp] theorem Dev.coreNotice_qIds (c : Nat) (x : Cause) (k : Nat) (p : Option Nat) (a b : Nat) : (d.coreNotice c x k p a b).fe.qIds = d.fe.qIds := by unfold Dev.coreNotice; simp
@[simp] theorem Dev.queueNotice_qIds (q : Queue) (c : Cause) (k a b : Nat) : (d.queueNotice q c k a b).fe.qIds = d.fe.qIds := by unfold Dev.queueNotice; simp
@[simp] theorem Dev.drainNotices_qIds (r n : Nat) : (Dev.drainNotices r n d).fe.qIds = d.fe.qIds := by
  induction n generalizing d with
  | zero => rfl
  | succ n ih => unfold Dev.drainNotices; (repeat' split) <;> simp [ih]
@[simp] theorem Dev.ringConfig_qIds (r : Nat) (f : RingField) : (d.ringConfig r f).fe.qIds = d.fe.qIds := by unfold Dev.ringConfig; simp
@[simp] theorem Dev.writeRing_streams (r : Nat) (n : Notice) : (d.writeRing r n).fe.streams = d.fe.streams := by
  unfold Dev.writeRing; simp only []; split <;> rfl
@[simp] theorem Dev.ringNotice_streams (r : Nat) (n : Notice) : (d.ringNotice r n).fe.streams = d.fe.streams := by
  unfold Dev.ringNotice; split
  · simp
  · split <;> rfl
@[simp] theorem Dev.deliverNotice_streams (n : Notice) (p : Option Nat) : (d.deliverNotice n p).fe.streams = d.fe.streams := by
  unfold Dev.deliverNotice; simp only []
  split
  · simp
  · exact (foldl_keeps (fun d => d.fe.streams) _ (by intros; simp) _ _).trans (by simp)
@[simp] theorem Dev.notify_streams (n : Notice) : (d.notify n).fe.streams = d.fe.streams := by unfold Dev.notify; split <;> simp
@[simp] theorem Dev.notice_streams (c : Cause) (k a b : Nat) : (d.notice c k a b).fe.streams = d.fe.streams := by unfold Dev.notice; simp
@[simp] theorem Dev.coreNotice_streams (c : Nat) (x : Cause) (k : Nat) (p : Option Nat) (a b : Nat) : (d.coreNotice c x k p a b).fe.streams = d.fe.streams := by unfold Dev.coreNotice; simp
@[simp] theorem Dev.queueNotice_streams (q : Queue) (c : Cause) (k a b : Nat) : (d.queueNotice q c k a b).fe.streams = d.fe.streams := by unfold Dev.queueNotice; simp
@[simp] theorem Dev.drainNotices_streams (r n : Nat) : (Dev.drainNotices r n d).fe.streams = d.fe.streams := by
  induction n generalizing d with
  | zero => rfl
  | succ n ih => unfold Dev.drainNotices; (repeat' split) <;> simp [ih]
@[simp] theorem Dev.ringConfig_streams (r : Nat) (f : RingField) : (d.ringConfig r f).fe.streams = d.fe.streams := by unfold Dev.ringConfig; simp
@[simp] theorem Dev.writeRing_sIds (r : Nat) (n : Notice) : (d.writeRing r n).fe.sIds = d.fe.sIds := by
  unfold Dev.writeRing; simp only []; split <;> rfl
@[simp] theorem Dev.ringNotice_sIds (r : Nat) (n : Notice) : (d.ringNotice r n).fe.sIds = d.fe.sIds := by
  unfold Dev.ringNotice; split
  · simp
  · split <;> rfl
@[simp] theorem Dev.deliverNotice_sIds (n : Notice) (p : Option Nat) : (d.deliverNotice n p).fe.sIds = d.fe.sIds := by
  unfold Dev.deliverNotice; simp only []
  split
  · simp
  · exact (foldl_keeps (fun d => d.fe.sIds) _ (by intros; simp) _ _).trans (by simp)
@[simp] theorem Dev.notify_sIds (n : Notice) : (d.notify n).fe.sIds = d.fe.sIds := by unfold Dev.notify; split <;> simp
@[simp] theorem Dev.notice_sIds (c : Cause) (k a b : Nat) : (d.notice c k a b).fe.sIds = d.fe.sIds := by unfold Dev.notice; simp
@[simp] theorem Dev.coreNotice_sIds (c : Nat) (x : Cause) (k : Nat) (p : Option Nat) (a b : Nat) : (d.coreNotice c x k p a b).fe.sIds = d.fe.sIds := by unfold Dev.coreNotice; simp
@[simp] theorem Dev.queueNotice_sIds (q : Queue) (c : Cause) (k a b : Nat) : (d.queueNotice q c k a b).fe.sIds = d.fe.sIds := by unfold Dev.queueNotice; simp
@[simp] theorem Dev.drainNotices_sIds (r n : Nat) : (Dev.drainNotices r n d).fe.sIds = d.fe.sIds := by
  induction n generalizing d with
  | zero => rfl
  | succ n ih => unfold Dev.drainNotices; (repeat' split) <;> simp [ih]
@[simp] theorem Dev.ringConfig_sIds (r : Nat) (f : RingField) : (d.ringConfig r f).fe.sIds = d.fe.sIds := by unfold Dev.ringConfig; simp
@[simp] theorem Dev.writeRing_semIds (r : Nat) (n : Notice) : (d.writeRing r n).fe.semIds = d.fe.semIds := by
  unfold Dev.writeRing; simp only []; split <;> rfl
@[simp] theorem Dev.ringNotice_semIds (r : Nat) (n : Notice) : (d.ringNotice r n).fe.semIds = d.fe.semIds := by
  unfold Dev.ringNotice; split
  · simp
  · split <;> rfl
@[simp] theorem Dev.deliverNotice_semIds (n : Notice) (p : Option Nat) : (d.deliverNotice n p).fe.semIds = d.fe.semIds := by
  unfold Dev.deliverNotice; simp only []
  split
  · simp
  · exact (foldl_keeps (fun d => d.fe.semIds) _ (by intros; simp) _ _).trans (by simp)
@[simp] theorem Dev.notify_semIds (n : Notice) : (d.notify n).fe.semIds = d.fe.semIds := by unfold Dev.notify; split <;> simp
@[simp] theorem Dev.notice_semIds (c : Cause) (k a b : Nat) : (d.notice c k a b).fe.semIds = d.fe.semIds := by unfold Dev.notice; simp
@[simp] theorem Dev.coreNotice_semIds (c : Nat) (x : Cause) (k : Nat) (p : Option Nat) (a b : Nat) : (d.coreNotice c x k p a b).fe.semIds = d.fe.semIds := by unfold Dev.coreNotice; simp
@[simp] theorem Dev.queueNotice_semIds (q : Queue) (c : Cause) (k a b : Nat) : (d.queueNotice q c k a b).fe.semIds = d.fe.semIds := by unfold Dev.queueNotice; simp
@[simp] theorem Dev.drainNotices_semIds (r n : Nat) : (Dev.drainNotices r n d).fe.semIds = d.fe.semIds := by
  induction n generalizing d with
  | zero => rfl
  | succ n ih => unfold Dev.drainNotices; (repeat' split) <;> simp [ih]
@[simp] theorem Dev.ringConfig_semIds (r : Nat) (f : RingField) : (d.ringConfig r f).fe.semIds = d.fe.semIds := by unfold Dev.ringConfig; simp
@[simp] theorem Dev.writeRing_sched (r : Nat) (n : Notice) : (d.writeRing r n).fe.sched = d.fe.sched := by
  unfold Dev.writeRing; simp only []; split <;> rfl
@[simp] theorem Dev.ringNotice_sched (r : Nat) (n : Notice) : (d.ringNotice r n).fe.sched = d.fe.sched := by
  unfold Dev.ringNotice; split
  · simp
  · split <;> rfl
@[simp] theorem Dev.deliverNotice_sched (n : Notice) (p : Option Nat) : (d.deliverNotice n p).fe.sched = d.fe.sched := by
  unfold Dev.deliverNotice; simp only []
  split
  · simp
  · exact (foldl_keeps (fun d => d.fe.sched) _ (by intros; simp) _ _).trans (by simp)
@[simp] theorem Dev.notify_sched (n : Notice) : (d.notify n).fe.sched = d.fe.sched := by unfold Dev.notify; split <;> simp
@[simp] theorem Dev.notice_sched (c : Cause) (k a b : Nat) : (d.notice c k a b).fe.sched = d.fe.sched := by unfold Dev.notice; simp
@[simp] theorem Dev.coreNotice_sched (c : Nat) (x : Cause) (k : Nat) (p : Option Nat) (a b : Nat) : (d.coreNotice c x k p a b).fe.sched = d.fe.sched := by unfold Dev.coreNotice; simp
@[simp] theorem Dev.queueNotice_sched (q : Queue) (c : Cause) (k a b : Nat) : (d.queueNotice q c k a b).fe.sched = d.fe.sched := by unfold Dev.queueNotice; simp
@[simp] theorem Dev.drainNotices_sched (r n : Nat) : (Dev.drainNotices r n d).fe.sched = d.fe.sched := by
  induction n generalizing d with
  | zero => rfl
  | succ n ih => unfold Dev.drainNotices; (repeat' split) <;> simp [ih]
@[simp] theorem Dev.ringConfig_sched (r : Nat) (f : RingField) : (d.ringConfig r f).fe.sched = d.fe.sched := by unfold Dev.ringConfig; simp
@[simp] theorem Dev.writeRing_forwarded (r : Nat) (n : Notice) : (d.writeRing r n).fe.forwarded = d.fe.forwarded := by
  unfold Dev.writeRing; simp only []; split <;> rfl
@[simp] theorem Dev.ringNotice_forwarded (r : Nat) (n : Notice) : (d.ringNotice r n).fe.forwarded = d.fe.forwarded := by
  unfold Dev.ringNotice; split
  · simp
  · split <;> rfl
@[simp] theorem Dev.deliverNotice_forwarded (n : Notice) (p : Option Nat) : (d.deliverNotice n p).fe.forwarded = d.fe.forwarded := by
  unfold Dev.deliverNotice; simp only []
  split
  · simp
  · exact (foldl_keeps (fun d => d.fe.forwarded) _ (by intros; simp) _ _).trans (by simp)
@[simp] theorem Dev.notify_forwarded (n : Notice) : (d.notify n).fe.forwarded = d.fe.forwarded := by unfold Dev.notify; split <;> simp
@[simp] theorem Dev.notice_forwarded (c : Cause) (k a b : Nat) : (d.notice c k a b).fe.forwarded = d.fe.forwarded := by unfold Dev.notice; simp
@[simp] theorem Dev.coreNotice_forwarded (c : Nat) (x : Cause) (k : Nat) (p : Option Nat) (a b : Nat) : (d.coreNotice c x k p a b).fe.forwarded = d.fe.forwarded := by unfold Dev.coreNotice; simp
@[simp] theorem Dev.queueNotice_forwarded (q : Queue) (c : Cause) (k a b : Nat) : (d.queueNotice q c k a b).fe.forwarded = d.fe.forwarded := by unfold Dev.queueNotice; simp
@[simp] theorem Dev.drainNotices_forwarded (r n : Nat) : (Dev.drainNotices r n d).fe.forwarded = d.fe.forwarded := by
  induction n generalizing d with
  | zero => rfl
  | succ n ih => unfold Dev.drainNotices; (repeat' split) <;> simp [ih]
@[simp] theorem Dev.ringConfig_forwarded (r : Nat) (f : RingField) : (d.ringConfig r f).fe.forwarded = d.fe.forwarded := by unfold Dev.ringConfig; simp
@[simp] theorem Dev.writeRing_stale (r : Nat) (n : Notice) : (d.writeRing r n).fe.stale = d.fe.stale := by
  unfold Dev.writeRing; simp only []; split <;> rfl
@[simp] theorem Dev.ringNotice_stale (r : Nat) (n : Notice) : (d.ringNotice r n).fe.stale = d.fe.stale := by
  unfold Dev.ringNotice; split
  · simp
  · split <;> rfl
@[simp] theorem Dev.deliverNotice_stale (n : Notice) (p : Option Nat) : (d.deliverNotice n p).fe.stale = d.fe.stale := by
  unfold Dev.deliverNotice; simp only []
  split
  · simp
  · exact (foldl_keeps (fun d => d.fe.stale) _ (by intros; simp) _ _).trans (by simp)
@[simp] theorem Dev.notify_stale (n : Notice) : (d.notify n).fe.stale = d.fe.stale := by unfold Dev.notify; split <;> simp
@[simp] theorem Dev.notice_stale (c : Cause) (k a b : Nat) : (d.notice c k a b).fe.stale = d.fe.stale := by unfold Dev.notice; simp
@[simp] theorem Dev.coreNotice_stale (c : Nat) (x : Cause) (k : Nat) (p : Option Nat) (a b : Nat) : (d.coreNotice c x k p a b).fe.stale = d.fe.stale := by unfold Dev.coreNotice; simp
@[simp] theorem Dev.queueNotice_stale (q : Queue) (c : Cause) (k a b : Nat) : (d.queueNotice q c k a b).fe.stale = d.fe.stale := by unfold Dev.queueNotice; simp
@[simp] theorem Dev.drainNotices_stale (r n : Nat) : (Dev.drainNotices r n d).fe.stale = d.fe.stale := by
  induction n generalizing d with
  | zero => rfl
  | succ n ih => unfold Dev.drainNotices; (repeat' split) <;> simp [ih]
@[simp] theorem Dev.ringConfig_stale (r : Nat) (f : RingField) : (d.ringConfig r f).fe.stale = d.fe.stale := by unfold Dev.ringConfig; simp
@[simp] theorem Dev.writeRing_window (r : Nat) (n : Notice) : (d.writeRing r n).fe.window = d.fe.window := by
  unfold Dev.writeRing; simp only []; split <;> rfl
@[simp] theorem Dev.ringNotice_window (r : Nat) (n : Notice) : (d.ringNotice r n).fe.window = d.fe.window := by
  unfold Dev.ringNotice; split
  · simp
  · split <;> rfl
@[simp] theorem Dev.deliverNotice_window (n : Notice) (p : Option Nat) : (d.deliverNotice n p).fe.window = d.fe.window := by
  unfold Dev.deliverNotice; simp only []
  split
  · simp
  · exact (foldl_keeps (fun d => d.fe.window) _ (by intros; simp) _ _).trans (by simp)
@[simp] theorem Dev.notify_window (n : Notice) : (d.notify n).fe.window = d.fe.window := by unfold Dev.notify; split <;> simp
@[simp] theorem Dev.notice_window (c : Cause) (k a b : Nat) : (d.notice c k a b).fe.window = d.fe.window := by unfold Dev.notice; simp
@[simp] theorem Dev.coreNotice_window (c : Nat) (x : Cause) (k : Nat) (p : Option Nat) (a b : Nat) : (d.coreNotice c x k p a b).fe.window = d.fe.window := by unfold Dev.coreNotice; simp
@[simp] theorem Dev.queueNotice_window (q : Queue) (c : Cause) (k a b : Nat) : (d.queueNotice q c k a b).fe.window = d.fe.window := by unfold Dev.queueNotice; simp
@[simp] theorem Dev.drainNotices_window (r n : Nat) : (Dev.drainNotices r n d).fe.window = d.fe.window := by
  induction n generalizing d with
  | zero => rfl
  | succ n ih => unfold Dev.drainNotices; (repeat' split) <;> simp [ih]
@[simp] theorem Dev.ringConfig_window (r : Nat) (f : RingField) : (d.ringConfig r f).fe.window = d.fe.window := by unfold Dev.ringConfig; simp
@[simp] theorem Dev.writeRing_tUrgent (r : Nat) (n : Notice) : (d.writeRing r n).fe.tUrgent = d.fe.tUrgent := by
  unfold Dev.writeRing; simp only []; split <;> rfl
@[simp] theorem Dev.ringNotice_tUrgent (r : Nat) (n : Notice) : (d.ringNotice r n).fe.tUrgent = d.fe.tUrgent := by
  unfold Dev.ringNotice; split
  · simp
  · split <;> rfl
@[simp] theorem Dev.deliverNotice_tUrgent (n : Notice) (p : Option Nat) : (d.deliverNotice n p).fe.tUrgent = d.fe.tUrgent := by
  unfold Dev.deliverNotice; simp only []
  split
  · simp
  · exact (foldl_keeps (fun d => d.fe.tUrgent) _ (by intros; simp) _ _).trans (by simp)
@[simp] theorem Dev.notify_tUrgent (n : Notice) : (d.notify n).fe.tUrgent = d.fe.tUrgent := by unfold Dev.notify; split <;> simp
@[simp] theorem Dev.notice_tUrgent (c : Cause) (k a b : Nat) : (d.notice c k a b).fe.tUrgent = d.fe.tUrgent := by unfold Dev.notice; simp
@[simp] theorem Dev.coreNotice_tUrgent (c : Nat) (x : Cause) (k : Nat) (p : Option Nat) (a b : Nat) : (d.coreNotice c x k p a b).fe.tUrgent = d.fe.tUrgent := by unfold Dev.coreNotice; simp
@[simp] theorem Dev.queueNotice_tUrgent (q : Queue) (c : Cause) (k a b : Nat) : (d.queueNotice q c k a b).fe.tUrgent = d.fe.tUrgent := by unfold Dev.queueNotice; simp
@[simp] theorem Dev.drainNotices_tUrgent (r n : Nat) : (Dev.drainNotices r n d).fe.tUrgent = d.fe.tUrgent := by
  induction n generalizing d with
  | zero => rfl
  | succ n ih => unfold Dev.drainNotices; (repeat' split) <;> simp [ih]
@[simp] theorem Dev.ringConfig_tUrgent (r : Nat) (f : RingField) : (d.ringConfig r f).fe.tUrgent = d.fe.tUrgent := by unfold Dev.ringConfig; simp
@[simp] theorem Dev.writeRing_tStay (r : Nat) (n : Notice) : (d.writeRing r n).fe.tStay = d.fe.tStay := by
  unfold Dev.writeRing; simp only []; split <;> rfl
@[simp] theorem Dev.ringNotice_tStay (r : Nat) (n : Notice) : (d.ringNotice r n).fe.tStay = d.fe.tStay := by
  unfold Dev.ringNotice; split
  · simp
  · split <;> rfl
@[simp] theorem Dev.deliverNotice_tStay (n : Notice) (p : Option Nat) : (d.deliverNotice n p).fe.tStay = d.fe.tStay := by
  unfold Dev.deliverNotice; simp only []
  split
  · simp
  · exact (foldl_keeps (fun d => d.fe.tStay) _ (by intros; simp) _ _).trans (by simp)
@[simp] theorem Dev.notify_tStay (n : Notice) : (d.notify n).fe.tStay = d.fe.tStay := by unfold Dev.notify; split <;> simp
@[simp] theorem Dev.notice_tStay (c : Cause) (k a b : Nat) : (d.notice c k a b).fe.tStay = d.fe.tStay := by unfold Dev.notice; simp
@[simp] theorem Dev.coreNotice_tStay (c : Nat) (x : Cause) (k : Nat) (p : Option Nat) (a b : Nat) : (d.coreNotice c x k p a b).fe.tStay = d.fe.tStay := by unfold Dev.coreNotice; simp
@[simp] theorem Dev.queueNotice_tStay (q : Queue) (c : Cause) (k a b : Nat) : (d.queueNotice q c k a b).fe.tStay = d.fe.tStay := by unfold Dev.queueNotice; simp
@[simp] theorem Dev.drainNotices_tStay (r n : Nat) : (Dev.drainNotices r n d).fe.tStay = d.fe.tStay := by
  induction n generalizing d with
  | zero => rfl
  | succ n ih => unfold Dev.drainNotices; (repeat' split) <;> simp [ih]
@[simp] theorem Dev.ringConfig_tStay (r : Nat) (f : RingField) : (d.ringConfig r f).fe.tStay = d.fe.tStay := by unfold Dev.ringConfig; simp
@[simp] theorem Dev.writeRing_windowStart (r : Nat) (n : Notice) : (d.writeRing r n).fe.windowStart = d.fe.windowStart := by
  unfold Dev.writeRing; simp only []; split <;> rfl
@[simp] theorem Dev.ringNotice_windowStart (r : Nat) (n : Notice) : (d.ringNotice r n).fe.windowStart = d.fe.windowStart := by
  unfold Dev.ringNotice; split
  · simp
  · split <;> rfl
@[simp] theorem Dev.deliverNotice_windowStart (n : Notice) (p : Option Nat) : (d.deliverNotice n p).fe.windowStart = d.fe.windowStart := by
  unfold Dev.deliverNotice; simp only []
  split
  · simp
  · exact (foldl_keeps (fun d => d.fe.windowStart) _ (by intros; simp) _ _).trans (by simp)
@[simp] theorem Dev.notify_windowStart (n : Notice) : (d.notify n).fe.windowStart = d.fe.windowStart := by unfold Dev.notify; split <;> simp
@[simp] theorem Dev.notice_windowStart (c : Cause) (k a b : Nat) : (d.notice c k a b).fe.windowStart = d.fe.windowStart := by unfold Dev.notice; simp
@[simp] theorem Dev.coreNotice_windowStart (c : Nat) (x : Cause) (k : Nat) (p : Option Nat) (a b : Nat) : (d.coreNotice c x k p a b).fe.windowStart = d.fe.windowStart := by unfold Dev.coreNotice; simp
@[simp] theorem Dev.queueNotice_windowStart (q : Queue) (c : Cause) (k a b : Nat) : (d.queueNotice q c k a b).fe.windowStart = d.fe.windowStart := by unfold Dev.queueNotice; simp
@[simp] theorem Dev.drainNotices_windowStart (r n : Nat) : (Dev.drainNotices r n d).fe.windowStart = d.fe.windowStart := by
  induction n generalizing d with
  | zero => rfl
  | succ n ih => unfold Dev.drainNotices; (repeat' split) <;> simp [ih]
@[simp] theorem Dev.ringConfig_windowStart (r : Nat) (f : RingField) : (d.ringConfig r f).fe.windowStart = d.fe.windowStart := by unfold Dev.ringConfig; simp

/-! ### What the module answers without regard to the time -/

@[simp] theorem Dev.advance_id  (now : Time) : (d.advance now).id = d.id := by unfold Dev.advance; split <;> rfl
@[simp] theorem Dev.advance_core (c : Nat) (now : Time) : (d.advance now).core c = d.core c := by unfold Dev.advance; split <;> rfl
@[simp] theorem Dev.advance_part (p : Nat) (now : Time) : (d.advance now).part p = d.part p := by unfold Dev.advance; split <;> rfl
@[simp] theorem Dev.advance_rig (i : Nat) (now : Time) : (d.advance now).rig i = d.rig i := by unfold Dev.advance; split <;> rfl
@[simp] theorem Dev.advance_port (p : Nat) (now : Time) : (d.advance now).port p = d.port p := by unfold Dev.advance; split <;> rfl
@[simp] theorem Dev.advance_box (f : Nat) (now : Time) : (d.advance now).box f = d.box f := by unfold Dev.advance; split <;> rfl
@[simp] theorem Dev.advance_serves  (now : Time) : (d.advance now).serves = d.serves := by unfold Dev.advance; split <;> rfl
@[simp] theorem Dev.advance_ownMember (m : Nat) (now : Time) : (d.advance now).ownMember m = d.ownMember m := by unfold Dev.advance; split <;> rfl
@[simp] theorem Dev.advance_memberId (m : Nat) (now : Time) : (d.advance now).memberId m = d.memberId m := by unfold Dev.advance; split <;> rfl
@[simp] theorem Dev.advance_memberOk (f m : Nat) (now : Time) : (d.advance now).memberOk f m = d.memberOk f m := by unfold Dev.advance; split <;> rfl
@[simp] theorem Dev.advance_funcKey (f : Nat) (now : Time) : (d.advance now).funcKey f = d.funcKey f := by unfold Dev.advance; split <;> rfl
@[simp] theorem Dev.advance_reqPart (k : BitVec 16) (now : Time) : (d.advance now).reqPart k = d.reqPart k := by unfold Dev.advance; split <;> rfl
@[simp] theorem Dev.advance_partOfKey (k : BitVec 16) (now : Time) : (d.advance now).partOfKey k = d.partOfKey k := by unfold Dev.advance; split <;> rfl
@[simp] theorem Dev.advance_apertureOpen (f : Nat) (now : Time) : (d.advance now).apertureOpen f = d.apertureOpen f := by unfold Dev.advance; split <;> rfl
@[simp] theorem Dev.advance_apertureAt (f off : Nat) (now : Time) : (d.advance now).apertureAt f off = d.apertureAt f off := by unfold Dev.advance; split <;> rfl
@[simp] theorem Dev.advance_fromAnchor (h : HostFwd) (now : Time) : (d.advance now).fromAnchor h = d.fromAnchor h := by unfold Dev.advance; split <;> rfl
@[simp] theorem Dev.advance_inFseq (h : HostFwd) (now : Time) : (d.advance now).inFseq h = d.inFseq h := by unfold Dev.advance; split <;> rfl
@[simp] theorem Dev.advance_canMaster (f : Nat) (now : Time) : (d.advance now).canMaster f = d.canMaster f := by unfold Dev.advance; split <;> rfl
@[simp] theorem Dev.advance_poisoned (l : Nat) (now : Time) : (d.advance now).poisoned l = d.poisoned l := by unfold Dev.advance; split <;> rfl
@[simp] theorem Dev.advance_window (c va : Nat) (now : Time) : (d.advance now).window c va = d.window c va := by unfold Dev.advance; split <;> rfl
@[simp] theorem Dev.advance_firstRetired (v : PageView) (lo hi : Nat) (now : Time) : (d.advance now).firstRetired v lo hi = d.firstRetired v lo hi := by unfold Dev.advance; split <;> rfl
@[simp] theorem Dev.advance_firstSealed (v : PageView) (lo hi : Nat) (now : Time) : (d.advance now).firstSealed v lo hi = d.firstSealed v lo hi := by unfold Dev.advance; split <;> rfl
@[simp] theorem Dev.advance_offline (m : MemKind) (now : Time) : (d.advance now).offline m = d.offline m := by unfold Dev.advance; split <;> rfl
@[simp] theorem Dev.advance_anyPoison (a n : Nat) (now : Time) : (d.advance now).anyPoison a n = d.anyPoison a n := by unfold Dev.advance; split <;> rfl
@[simp] theorem Dev.advance_who (c : Nat) (now : Time) : (d.advance now).who c = d.who c := by unfold Dev.advance; split <;> rfl
@[simp] theorem Dev.advance_semCheck (h : SemHandle) (k : BitVec 16) (now : Time) : (d.advance now).semCheck h k = d.semCheck h k := by unfold Dev.advance; split <;> rfl
@[simp] theorem Dev.advance_semValue (n : Nat) (now : Time) : (d.advance now).semValue n = d.semValue n := by unfold Dev.advance; split <;> rfl
@[simp] theorem Dev.advance_armedAt (a : Nat) (now : Time) : (d.advance now).armedAt a = d.armedAt a := by unfold Dev.advance; split <;> rfl
@[simp] theorem Dev.advance_inReset (c : Nat) (now : Time) : (d.advance now).inReset c = d.inReset c := by unfold Dev.advance; split <;> rfl
@[simp] theorem Dev.advance_sideband (a : Nat) (now : Time) : (d.advance now).sideband a = d.sideband a := by unfold Dev.advance; split <;> rfl
@[simp] theorem Dev.advance_leaving (who : Accessor) (va : Nat) (now : Time) : (d.advance now).leaving who va = d.leaving who va := by unfold Dev.advance; split <;> rfl
@[simp] theorem Dev.advance_store (a : Nat) (bs : List Byte) (now : Time) : (d.advance now).store a bs = d.store a bs := by unfold Dev.advance; split <;> rfl


theorem Dev.advance_walk (now : Time) (va : Nat) : ∀ level table, (d.advance now).walk va level table = d.walk va level table := by
  intro level
  induction level with
  | zero => intro table; unfold Dev.walk; simp
  | succ l ih => intro table; unfold Dev.walk; simp [ih]

@[simp] theorem Dev.advance_translate (now : Time) (who : Accessor) (va : Nat) : (d.advance now).translate who va = d.translate who va := by
  unfold Dev.translate; simp [Dev.advance_walk]

@[simp] theorem Dev.advance_checkPages (now : Time) (who : Accessor) (need : Need) (dbg : Bool) (e n : Nat) :
    ∀ first p, (d.advance now).checkPages who need dbg n first p e = d.checkPages who need dbg n first p e := by
  induction n with
  | zero => intro first p; rfl
  | succ n ih => intro first p; simp only [Dev.checkPages, Dev.checkPage, Dev.advance_translate, Dev.advance_leaving, Dev.advance_offline,
      Dev.advance_firstRetired, Dev.advance_firstSealed, ih]

@[simp] theorem Dev.advance_checkExtent (now : Time) (who : Accessor) (need : Need) (dbg : Bool) (va len : Nat) :
    (d.advance now).checkExtent who need dbg va len = d.checkExtent who need dbg va len := by simp [Dev.checkExtent]

@[simp] theorem Dev.advance_mpa (now : Time) (who : Accessor) (va : Nat) : (d.advance now).mpa who va = d.mpa who va := by simp [Dev.mpa]

@[simp] theorem Dev.advance_pieces (now : Time) (who : Accessor) (k : Nat) :
    ∀ va n, (d.advance now).pieces who k va n = d.pieces who k va n := by
  induction k with
  | zero => intro va n; rfl
  | succ k ih => intro va n; simp [Dev.pieces, ih]

@[simp] theorem Dev.advance_readVa (now : Time) (who : Accessor) (va n : Nat) : (d.advance now).readVa who va n = d.readVa who va n := by
  simp [Dev.readVa]

@[simp] theorem Dev.advance_poisonVa (now : Time) (who : Accessor) (va n : Nat) : (d.advance now).poisonVa who va n = d.poisonVa who va n := by
  simp [Dev.poisonVa]

/-! ### Parts of the host state that a function's reset keeps -/

@[simp] theorem Dev.vfReset_perst (f : Nat) : (d.vfReset f).host.perst = d.host.perst := by
  unfold Dev.vfReset Dev.funcClear; simp only []
  refine (foldl_keeps (fun d => d.host.perst) _ (by intros; simp) _ _).trans ?_
  split <;> simp

@[simp] theorem Dev.pfReset_perst : d.pfReset.host.perst = d.host.perst := by
  unfold Dev.pfReset Dev.funcClear; simp only [Dev.ringConfig_host, Dev.funcQueues_host]
  exact foldl_keeps (fun d => d.host.perst) _ (by intros; simp) _ _

/-! ### Parts of the dictionary that a new version leaves as they were -/

@[simp] theorem Dev.retag_dict_values : d.retag.dict.values = d.dict.values := rfl
@[simp] theorem Dev.retag_dict_opens : d.retag.dict.opens = d.dict.opens := rfl
@[simp] theorem Dev.retag_dict_kept : d.retag.dict.kept = d.dict.kept := rfl
@[simp] theorem Dev.retag_dict_sent : d.retag.dict.sent = d.dict.sent := rfl
@[simp] theorem Dev.retag_dict_boxes : d.retag.dict.boxes = d.dict.boxes := rfl
@[simp] theorem Dev.retag_dict_udpDiscards : d.retag.dict.udpDiscards = d.dict.udpDiscards := rfl
@[simp] theorem Dev.retag_dict_delayed : d.retag.dict.delayed = d.dict.delayed := rfl

end Sys2Proof.Machine
end

