-- ==== Sys2Proof/Laws/Device.lean ====
section
/-!
SUPPORT. What the shared operations of the module do, each said once: every memory operation keeps memory in its canonical form and
changes no byte outside its range; a command never stops and never touches the queue.
-/
namespace Sys2Proof.Machine

/-! ### Making room in the hub cache (R240, R245) -/

@[simp] theorem Dev.hubTrim_time (d : Dev) : d.hubTrim.time = d.time := by unfold Dev.hubTrim; simp only []; split <;> rfl
@[simp] theorem Dev.hubTrim_full (d : Dev) : d.hubTrim.full = d.full := by unfold Dev.hubTrim; simp only []; split <;> rfl
@[simp] theorem Dev.hubTrim_signetMask (d : Dev) : d.hubTrim.signetMask = d.signetMask := by unfold Dev.hubTrim; simp only []; split <;> rfl
@[simp] theorem Dev.hubTrim_overSignet (d : Dev) : d.hubTrim.overSignet = d.overSignet := by unfold Dev.hubTrim; simp only []; split <;> rfl
@[simp] theorem Dev.hubTrim_cores (d : Dev) : d.hubTrim.cores = d.cores := by unfold Dev.hubTrim; simp only []; split <;> rfl
@[simp] theorem Dev.hubTrim_coh (d : Dev) : d.hubTrim.coh = d.coh := by unfold Dev.hubTrim; simp only []; split <;> rfl
@[simp] theorem Dev.hubTrim_fe (d : Dev) : d.hubTrim.fe = d.fe := by unfold Dev.hubTrim; simp only []; split <;> rfl
@[simp] theorem Dev.hubTrim_ports (d : Dev) : d.hubTrim.ports = d.ports := by unfold Dev.hubTrim; simp only []; split <;> rfl
@[simp] theorem Dev.hubTrim_fab (d : Dev) : d.hubTrim.fab = d.fab := by unfold Dev.hubTrim; simp only []; split <;> rfl
@[simp] theorem Dev.hubTrim_parts (d : Dev) : d.hubTrim.parts = d.parts := by unfold Dev.hubTrim; simp only []; split <;> rfl
@[simp] theorem Dev.hubTrim_rigs (d : Dev) : d.hubTrim.rigs = d.rigs := by unfold Dev.hubTrim; simp only []; split <;> rfl
@[simp] theorem Dev.hubTrim_pkg (d : Dev) : d.hubTrim.pkg = d.pkg := by unfold Dev.hubTrim; simp only []; split <;> rfl
@[simp] theorem Dev.hubTrim_power (d : Dev) : d.hubTrim.power = d.power := by unfold Dev.hubTrim; simp only []; split <;> rfl
@[simp] theorem Dev.hubTrim_tm (d : Dev) : d.hubTrim.tm = d.tm := by unfold Dev.hubTrim; simp only []; split <;> rfl
@[simp] theorem Dev.hubTrim_sec (d : Dev) : d.hubTrim.sec = d.sec := by unfold Dev.hubTrim; simp only []; split <;> rfl
@[simp] theorem Dev.hubTrim_rel (d : Dev) : d.hubTrim.rel = d.rel := by unfold Dev.hubTrim; simp only []; split <;> rfl
@[simp] theorem Dev.hubTrim_rst (d : Dev) : d.hubTrim.rst = d.rst := by unfold Dev.hubTrim; simp only []; split <;> rfl
@[simp] theorem Dev.hubTrim_boot (d : Dev) : d.hubTrim.boot = d.boot := by unfold Dev.hubTrim; simp only []; split <;> rfl
@[simp] theorem Dev.hubTrim_cfg (d : Dev) : d.hubTrim.cfg = d.cfg := by unfold Dev.hubTrim; simp only []; split <;> rfl
@[simp] theorem Dev.hubTrim_dict (d : Dev) : d.hubTrim.dict = d.dict := by unfold Dev.hubTrim; simp only []; split <;> rfl
@[simp] theorem Dev.hubTrim_host (d : Dev) : d.hubTrim.host = d.host := by unfold Dev.hubTrim; simp only []; split <;> rfl
@[simp] theorem Dev.hubTrim_pins (d : Dev) : d.hubTrim.pins = d.pins := by unfold Dev.hubTrim; simp only []; split <;> rfl
@[simp] theorem Dev.hubTrim_out (d : Dev) : d.hubTrim.out = d.out := by unfold Dev.hubTrim; simp only []; split <;> rfl
@[simp] theorem Dev.hubTrim_mem_mem (d : Dev) : d.hubTrim.mem.mem = d.mem.mem := by unfold Dev.hubTrim; simp only []; split <;> rfl
@[simp] theorem Dev.hubTrim_mem_poison (d : Dev) : d.hubTrim.mem.poison = d.mem.poison := by unfold Dev.hubTrim; simp only []; split <;> rfl
@[simp] theorem Dev.hubTrim_mem_side (d : Dev) : d.hubTrim.mem.side = d.mem.side := by unfold Dev.hubTrim; simp only []; split <;> rfl
@[simp] theorem Dev.hubTrim_mem_egress (d : Dev) : d.hubTrim.mem.egress = d.mem.egress := by unfold Dev.hubTrim; simp only []; split <;> rfl
@[simp] theorem Dev.hubTrim_mem_hubRetired (d : Dev) : d.hubTrim.mem.hubRetired = d.mem.hubRetired := by unfold Dev.hubTrim; simp only []; split <;> rfl
@[simp] theorem Dev.hubTrim_mem_mapOut (d : Dev) : d.hubTrim.mem.mapOut = d.mem.mapOut := by unfold Dev.hubTrim; simp only []; split <;> rfl
@[simp] theorem Dev.hubTrim_mem_chanRetired (d : Dev) : d.hubTrim.mem.chanRetired = d.mem.chanRetired := by unfold Dev.hubTrim; simp only []; split <;> rfl
@[simp] theorem Dev.hubTrim_mem_pages (d : Dev) : d.hubTrim.mem.pages = d.mem.pages := by unfold Dev.hubTrim; simp only []; split <;> rfl
@[simp] theorem Dev.hubTrim_mem_dramOn (d : Dev) : d.hubTrim.mem.dramOn = d.mem.dramOn := by unfold Dev.hubTrim; simp only []; split <;> rfl
@[simp] theorem Dev.hubTrim_mem_selfRefresh (d : Dev) : d.hubTrim.mem.selfRefresh = d.mem.selfRefresh := by unfold Dev.hubTrim; simp only []; split <;> rfl

/-! ### Memory stays canonical -/

/-- A fold keeps canonical form where its step does. -/
theorem Memory.wf_foldl {α : Type} (f : Memory → α → Memory) (h : ∀ m x, m.wf = true → (f m x).wf = true) (l : List α) :
    ∀ m : Memory, m.wf = true → (l.foldl f m).wf = true := by
  induction l with
  | nil => intro m hm; exact hm
  | cons x l ih => intro m hm; exact ih _ (h m x hm)

/-- A fold over the module keeps canonical memory where its step does. -/
theorem foldl_wf {α : Type} (f : Dev → α → Dev) (h : ∀ d x, d.mem.mem.wf = true → (f d x).mem.mem.wf = true) (l : List α) :
    ∀ d : Dev, d.mem.mem.wf = true → (l.foldl f d).mem.mem.wf = true := by
  induction l with
  | nil => intro d hd; exact hd
  | cons x l ih => intro d hd; exact ih _ (h d x hd)

theorem Dev.store_wf {d : Dev} (h : d.mem.mem.wf = true) (a : Nat) (bs : List Byte) : (d.store a bs).wf = true := by
  unfold Dev.store
  split
  · refine Memory.wf_foldl _ (fun m p hm => ?_) _ _ h
    split
    · exact hm
    · exact Memory.wf_write hm _ _
  · exact Memory.wf_write h _ _

theorem Dev.writePlain_wf {d : Dev} (h : d.mem.mem.wf = true) (a : Nat) (bs : List Byte) (c p : Bool) :
    (d.writePlain a bs c p).mem.mem.wf = true := by
  unfold Dev.writePlain
  split
  · exact h
  · simpa using Dev.store_wf h a bs

theorem Dev.writeBead_wf {d : Dev} (h : d.mem.mem.wf = true) (a : Nat) (bs : List Byte) (sb : Sideband) (p : Bool) :
    (d.writeBead a bs sb p).mem.mem.wf = true := by simpa [Dev.writeBead] using Dev.store_wf h a bs

theorem Dev.zeroFill_wf {d : Dev} (h : d.mem.mem.wf = true) (a n : Nat) : (d.zeroFill a n).mem.mem.wf = true := by
  simpa [Dev.zeroFill] using Memory.wf_zero h a n

theorem Dev.poison_mem (d : Dev) (a n : Nat) : (d.poison a n).mem.mem = d.mem.mem := rfl

theorem Dev.modCore_mem' (d : Dev) (c : Nat) (f : Core → Core) : (d.modCore c f).mem = d.mem := rfl

theorem Dev.semSet_wf {d : Dev} (h : d.mem.mem.wf = true) (n : Nat) (v : Word) : (d.semSet n v).mem.mem.wf = true :=
  Dev.writePlain_wf h _ _ _ _

theorem Dev.semWrite_wf {d : Dev} (h : d.mem.mem.wf = true) (n v : Nat) (key : BitVec 16) (gen : Nat) (al : Bool) :
    (d.semWrite n v key gen al).mem.mem.wf = true := Dev.writePlain_wf h _ _ _ _

theorem Dev.setPte_wf {d : Dev} (h : d.mem.mem.wf = true) (a : Nat) (e : Word) : (d.setPte a e).mem.mem.wf = true :=
  Dev.writePlain_wf h _ _ _ _

theorem Dev.blurScratch_wf {d : Dev} (h : d.mem.mem.wf = true) (c : Nat) : (d.blurScratch c).mem.mem.wf = true := Memory.wf_write h _ _

theorem Dev.clearSram_wf {d : Dev} (h : d.mem.mem.wf = true) (c : Nat) : (d.clearSram c).mem.mem.wf = true :=
  Dev.zeroFill_wf (Dev.zeroFill_wf h _ _) _ _

theorem Dev.clearSealed_wf {d : Dev} (h : d.mem.mem.wf = true) (c : Nat) : (d.clearSealed c).mem.mem.wf = true := by
  unfold Dev.clearSealed
  simp only []
  split
  · exact h
  · exact Dev.zeroFill_wf h _ _

theorem Dev.accStore_wf {d : Dev} (h : d.mem.mem.wf = true) (c : Nat) (u : Mma) (acc : List AccPair) (p : Bool) :
    (d.accStore c u acc p).mem.mem.wf = true := by
  unfold Dev.accStore
  refine Memory.wf_foldl _ (fun m r hm => Memory.wf_write (Memory.wf_write hm _ _) _ _) _ _ ?_
  split
  · exact Memory.wf_zero h _ _
  · exact h

theorem Dev.hubWriteBack_mem (d : Dev) (l : Nat) : (d.hubWriteBack l).mem.mem = d.mem.mem := by
  unfold Dev.hubWriteBack; split <;> rfl

theorem Dev.resetMemories_wf {d : Dev} (h : d.mem.mem.wf = true) : d.resetMemories.mem.mem.wf = true := by
  unfold Dev.resetMemories
  refine Memory.wf_filter (m := (d.mem.hub.keys.foldl Dev.hubWriteBack d).mem.mem) ?_ _
  exact foldl_wf _ (fun d l hd => by rw [Dev.hubWriteBack_mem]; exact hd) _ _ h

theorem Dev.scrubbed_wf {d : Dev} (h : d.mem.mem.wf = true) (s : EccSite) : (d.scrubbed s).mem.mem.wf = true := by
  unfold Dev.scrubbed
  cases s with
  | mem a => exact Memory.wf_zero h _ _
  | hub b a => exact Memory.wf_zero h _ _
  | side b => exact Memory.wf_zero h _ _
  | lds c off => exact h

/-! ### What a write leaves as it was -/

theorem chunks_range : ∀ (k a : Nat) (bs : List Byte) (p : Nat × List Byte), p ∈ chunks k a bs → a ≤ p.1 ∧ p.1 + p.2.length ≤ a + bs.length := by
  intro k
  induction k with
  | zero => intro a bs p hp; cases hp
  | succ k ih =>
    intro a bs p hp
    unfold chunks at hp
    split at hp
    · cases hp
    · rcases List.mem_cons.mp hp with h | h
      · subst h; simp only [List.length_take]; omega
      · have := ih _ _ _ h
        simp only [List.length_drop] at this
        by_cases hk : 64 - a % 64 ≤ bs.length
        · omega
        · have hn : bs.drop (64 - a % 64) = [] := List.drop_eq_nil_of_le (by omega)
          rw [hn] at h
          cases k <;> simp [chunks] at h

/-- A store changes no byte outside its range. -/
theorem Dev.readByte_store (d : Dev) (a : Nat) (bs : List Byte) (x : Nat) (h : x < a ∨ a + bs.length ≤ x) :
    (d.store a bs).readByte x = d.mem.mem.readByte x := by
  unfold Dev.store
  split
  · suffices H : ∀ (l : List (Nat × List Byte)), (∀ p ∈ l, a ≤ p.1 ∧ p.1 + p.2.length ≤ a + bs.length) → ∀ m : Memory,
        Memory.readByte (l.foldl (fun m p => if d.lineLost (p.1 / 64) then m else m.write p.1 p.2) m) x = m.readByte x from
      H _ (fun p hp => chunks_range _ _ _ p hp) _
    intro l
    induction l with
    | nil => intro _ m; rfl
    | cons p l ih =>
      intro hl m
      have hp := hl p (List.mem_cons_self ..)
      rw [List.foldl_cons, ih (fun q hq => hl q (List.mem_cons_of_mem _ hq))]
      split
      · rfl
      · rw [Memory.readByte_write]
        have : ¬(p.1 ≤ x ∧ x < p.1 + p.2.length) := by omega
        simp [this]
  · rw [Memory.readByte_write]
    have : ¬(a ≤ x ∧ x < a + bs.length) := by omega
    simp [this]

/-- A plain write changes no byte outside its range. -/
theorem Dev.readByte_writePlain (d : Dev) (a : Nat) (bs : List Byte) (c p : Bool) (x : Nat) (h : x < a ∨ a + bs.length ≤ x) :
    (d.writePlain a bs c p).mem.mem.readByte x = d.mem.mem.readByte x := by
  unfold Dev.writePlain
  split
  · rfl
  · simpa using Dev.readByte_store d a bs x h

/-- A bead's write changes no byte outside the bead. -/
theorem Dev.readByte_writeBead (d : Dev) (a : Nat) (bs : List Byte) (sb : Sideband) (p : Bool) (x : Nat) (h : x < a ∨ a + bs.length ≤ x) :
    (d.writeBead a bs sb p).mem.mem.readByte x = d.mem.mem.readByte x := by simpa [Dev.writeBead] using Dev.readByte_store d a bs x h

/-- A zero-fill leaves its range zero and every other byte as it was. -/
theorem Dev.readByte_zeroFill (d : Dev) (a n x : Nat) :
    (d.zeroFill a n).mem.mem.readByte x = if a ≤ x ∧ x < a + n then 0 else d.mem.mem.readByte x := by
  simpa [Dev.zeroFill] using Memory.readByte_zero _ _ _ _

/-! ### Shared operations -/

/-- A command runs as one function of the module and leaves the queue: the next state of `State.run`. -/
theorem State.run_next (s : State) (f : Dev → Dev) : s.run f = .next { s with dev := (f s.dev).retag } := rfl

/-- A program-order command acts only on a core that is ready for it; otherwise only time moves. What stops the program before its instruction
is taken once every older instruction has retired. -/
theorem Dev.prog_eq (d : Dev) (p : Prog) (now : Time) (ok : Core → Bool) (f : Dev → Dev) :
    d.prog p now ok f = if ok (d.core p.core.val) then
        (match (d.afterProg p now).progStop p.core.val p with
        | none => f (d.afterProg p now)
        | some t => if (d.core p.core.val).tentative = 0 && (d.core p.core.val).sc.wait.isNone then t else d.advance now)
      else d.advance now := by
  simp only [Dev.prog, Dev.afterProg, Dev.advance_core] <;> rfl

/-- A command of a program that nothing stops before its instruction. -/
theorem Dev.prog_of_goesOn {d : Dev} {p : Prog} {now : Time} {ok : Core → Bool} (f : Dev → Dev) (hk : ok (d.core p.core.val) = true)
    (h : d.goesOn p now) : d.prog p now ok f = f (d.afterProg p now) := by
  unfold Dev.goesOn at h
  simp [Dev.prog_eq, hk, h]

/-- A reply is put out and nothing else changes. -/
theorem Dev.reply_eq (d : Dev) (c : Cause) (x y : Nat) :
    d.reply c x y = { d with out := d.out ++ [.reply c (BitVec.ofNat 64 x) (BitVec.ofNat 64 y) []] } := rfl

/-- No command stops: each answers a next state, with the queue as it was. -/
theorem exec_next (c : Instr) (s : State) : ∃ t, exec c s = .next t ∧ t.pending = s.pending := by
  cases c <;> exact ⟨_, rfl, rfl⟩

end Sys2Proof.Machine
end

