-- ==== Sys2Proof/Tests/Slice0.lean ====
section
/-!
SUPPORT. Tests of the model: worked examples of the spec, ill-formed commands refused, steps, and a state that meets the hypotheses of each
statement.
-/
namespace Sys2Proof.Tests
open Sys2Proof Sys2Proof.Machine
set_option maxRecDepth 8000
set_option Elab.async false

/-- Page tables that map the 1 GiB page of virtual address 0x40000000 to the first DRAM page, readable, writable and executable. -/
def tables : Memory :=
  Memory.writeNat (Memory.writeNat (Memory.writeNat [] 0x1000 8 (2 ^ 63 + 0x2000)) 0x2000 8 (2 ^ 63 + 0x3000)) 0x3008 8
    (2 ^ 63 + 2 ^ 62 + 2 ^ 59 + 2 ^ 58 + 2 ^ 57 + 2 ^ 46)
/-- A partition with key 5 whose root table is `tables`. -/
def partA : Part := { key := 5, root := 0x1000, modules := [0], rigs := [moduleRig 0], job := some {} }
/-- A module in service, with the partition, its host link up and its first virtual function bound to it. -/
def devA : Dev :=
  { mem := { mem := tables }, parts := [(0, partA)], boot := { phase := 3, moduleId := 0 },
    host := { linkUp := true, binds := [(1, 5)], busMaster := [0, 1], perst := false } }
/-- A core that runs an entry of the partition, with one tensor instruction committed and begun. -/
def coreA (w : BitVec 32) : Core :=
  { run := some {}, sc := { machine := false }, tiq := [{ id := 4, word := w, committed := true, begun := true }] }
/-- The module with that core. -/
def workA (w : BitVec 32) : State := { dev := { devA with cores := [(0, coreA w)], rigs := [(0, { state := .busy })] } }
/-- The module with a core that runs a program of the partition and has nothing in its queue. -/
def runA (k : Core) : State := { dev := { devA with cores := [(0, k)], rigs := [(0, { state := .busy })], fe := { queues := [(0, { state := .active, flight := [{ core := some 0, running := true }] })] } } }
/-- Page tables that map virtual address 0x40000000, 64 KiB, to the first page of coherent window 1, readable and writable. -/
def wtables : Memory :=
  Memory.writeNat (Memory.writeNat (Memory.writeNat (Memory.writeNat (Memory.writeNat [] 0x1000 8 (2 ^ 63 + 0x2000)) 0x2000 8 (2 ^ 63 + 0x3000)) 0x3008 8
    (2 ^ 63 + 0x4000)) 0x4000 8 (2 ^ 63 + 0x5000)) 0x5000 8 (2 ^ 63 + 2 ^ 62 + 2 ^ 59 + 2 ^ 58 + 0x77C4000000 / 65536 * 2 ^ 12)
/-- A journal slot's header with STATE CLOSED for step 2 and no tensors, its check in place. -/
def jrnHeader : List Byte :=
  leBytes 8 0x314C4E524A59474B ++ [2] ++ List.replicate 51 0 ++ leBytes 4 (crc32c (leBytes 8 0x314C4E524A59474B ++ [2] ++ List.replicate 51 0)).toNat ++ [4]
/-- The module with that header in slot 0 of the partition's journal, and the journal registers given. -/
def jrnA (j : Journal) : Dev :=
  { devA with mem := { mem := Memory.write tables 0 jrnHeader }, parts := [(0, { partA with jrn := { j with base := 0x40000000, bytes := 0x30000 } })] }
/-- A core that runs a program and has nothing in its queue, as a store's witness. -/
def wtSt : State := runA { run := some {} }

/-- An answer known by a computed test. -/
theorem eq_ok_of {ε α : Type} [DecidableEq α] {x : Except ε α} {m : α} (h : (match x with | .ok y => decide (y = m) | .error _ => false) = true) :
    x = .ok m := by
  cases x <;> simp_all
/-- What an answer that is no error holds. -/
def okGet {ε α : Type} (x : Except ε α) (h : x.isOk = true) : α := match x, h with | .ok y, _ => y
/-- A pair whose second part is no error. -/
theorem eq_ok_pair {ε α β : Type} {x : β × Except ε α} (h : x.2.isOk = true) : x = (x.1, .ok (okGet x.2 h)) := by
  obtain ⟨a, b⟩ := x
  cases b
  · cases h
  · rfl
/-- A triple whose last part is known. -/
theorem eq_triple {α β γ : Type} {x : α × β × γ} {c : γ} (h : x.2.2 = c) : x = (x.1, x.2.1, c) := by
  subst h; rfl

/-! ### Ill-formed commands, one for each check -/

theorem test_wf_perst_width : Instr.wellFormed (.perstNDeassert 3 1 0) = false := by decide
theorem test_wf_link_width : Instr.wellFormed (.pcieLinkUp 16 256 0) = false := by decide
theorem test_wf_mbx_length : Instr.wellFormed (.mbxGo 0 { reqLen := 4097 } {} 0) = false := by decide
theorem test_wf_mbx_bytes : Instr.wellFormed (.mbxGo 0 { reqLen := 1 } {} 0) = false := by decide
theorem test_wf_aperture_read_empty : Instr.wellFormed (.apertureRead 1 0 0 0 [] 0) = false := by decide
theorem test_wf_aperture_write_end : Instr.wellFormed (.apertureWrite 1 0xFFFFF [0, 0] 0) = false := by decide
theorem test_wf_dict_read_op : Instr.wellFormed (.dictRead .pf { op := 2 } 0) = false := by decide
theorem test_wf_dict_write_index : Instr.wellFormed (.dictWrite .pf {} { op := 2, index := 65536 } 0) = false := by decide
theorem test_wf_dict_staged_op : Instr.wellFormed (.dictReadStaged .pf { op := 1 } 0) = false := by decide
theorem test_wf_dict_describe_op : Instr.wellFormed (.dictDescribe .pf { op := 1 } 0) = false := by decide
theorem test_wf_dict_next_op : Instr.wellFormed (.dictNext .pf { op := 1 } 0) = false := by decide
theorem test_wf_load_size : Instr.wellFormed (.scalarLoad {} { size := 3 } [] 0) = false := by decide
theorem test_wf_load_register : Instr.wellFormed (.scalarLoad {} { size := 4, rd := 32 } [] 0) = false := by decide
theorem test_wf_load_float_size : Instr.wellFormed (.scalarLoad {} { size := 8, toF := true } [] 0) = false := by decide
theorem test_wf_store_value : Instr.wellFormed (.scalarStore {} 0 1 256 0) = false := by decide
theorem test_wf_amo_op : Instr.wellFormed (.amo {} 2 true 0 0 0 false 0) = false := by decide
theorem test_wf_group_site : Instr.wellFormed (.mmaGroupStart 0 0 .none [{ site := .lds 512 0 }] 0) = false := by decide
theorem test_wf_bead_aligned : Instr.wellFormed (.beadLand 1 (List.replicate 64 0) 0 false 0) = false := by decide
theorem test_wf_wait_semaphore : Instr.wellFormed (.waitSatisfied 1048576 0) = false := by decide
theorem test_wf_read_sh_kind : Instr.wellFormed (.readSh (.snoopInv 0 0 0 0) 0) = false := by decide
theorem test_wf_grant_kind : Instr.wellFormed (.grant (.snoopInv 0 0 0 0) 0) = false := by decide
theorem test_wf_write_kind : Instr.wellFormed (.write (.snoopInv 0 0 0 0) 0) = false := by decide
theorem test_wf_write_ack_kind : Instr.wellFormed (.writeAck (.snoopInv 0 0 0 0) 0) = false := by decide
theorem test_wf_snoop_kind : Instr.wellFormed (.snoopInv (.ansInvalidated 0 0 0 0) 0) = false := by decide
theorem test_wf_invalidated_kind : Instr.wellFormed (.ansInvalidated (.snoopInv 0 0 0 0) 0) = false := by decide
theorem test_wf_evicting_kind : Instr.wellFormed (.ansEvicting (.snoopInv 0 0 0 0) 0) = false := by decide
theorem test_wf_evict_notice_kind : Instr.wellFormed (.evictNotice (.snoopInv 0 0 0 0) 0) = false := by decide
theorem test_wf_copy_line : Instr.wellFormed (.readerCopyEvict 0 1 0) = false := by decide
theorem test_wf_egress_line : Instr.wellFormed (.egressWriteback 0 1 0) = false := by decide
theorem test_wf_hub_site : Instr.wellFormed (.hubCacheEvict 0 [{ site := .hub 256 0 }] 0) = false := by decide
theorem test_wf_quarantine_id : Instr.wellFormed (.idQuarantineEnd .queue 4096 0) = false := by decide
theorem test_wf_notice_ring : Instr.wellFormed (.noticeFlush 7 0) = false := by decide
theorem test_wf_flit_length : Instr.wellFormed (.pkgFlitRx 0 [] 0) = false := by decide
theorem test_wf_ucie_rate : Instr.wellFormed (.ucieRetrainDone 0 8 0) = false := by decide
theorem test_wf_onpkg_kind : Instr.wellFormed (.onpkgHalyardPost 256 0 0 [] 0) = false := by decide
theorem test_wf_data_length : Instr.wellFormed (.linkDataFrame 0 [] 0) = false := by decide
theorem test_wf_idle_length : Instr.wellFormed (.linkIdleFrame 0 [] 0) = false := by decide
theorem test_wf_marker_length : Instr.wellFormed (.groupMarker 0 [] 0) = false := by decide
theorem test_wf_ser_lanes : Instr.wellFormed (.laneSerWindowEnd 0 [] 0 0 0) = false := by decide
theorem test_wf_bead_type : Instr.wellFormed (.bead { ptype := 2 } 0) = false := by decide
theorem test_wf_line_wb_type : Instr.wellFormed (.lineWb { ptype := 1 } 0) = false := by decide
theorem test_wf_read_req_type : Instr.wellFormed (.readReq { ptype := 1 } 0) = false := by decide
theorem test_wf_read_resp_type : Instr.wellFormed (.readResp { ptype := 1 } 0) = false := by decide
theorem test_wf_signal_type : Instr.wellFormed (.pktSignal { ptype := 1 } 0) = false := by decide
theorem test_wf_pair_ack_type : Instr.wellFormed (.pairAck { ptype := 1 } 0) = false := by decide
theorem test_wf_pair_loss_type : Instr.wellFormed (.pairLoss { ptype := 1 } 0) = false := by decide
theorem test_wf_pair_skip_type : Instr.wellFormed (.pairSkip { ptype := 1 } 0) = false := by decide
theorem test_wf_refuse_type : Instr.wellFormed (.refuse { ptype := 1 } 0) = false := by decide
theorem test_wf_mgmt_type : Instr.wellFormed (.mgmt { ptype := 1 } {} 0) = false := by decide
theorem test_wf_halyard_type : Instr.wellFormed (.halyard none { ptype := 1 } 0) = false := by decide
theorem test_wf_route_table : Instr.wellFormed (.routeStage 0 [] 0) = false := by decide
theorem test_wf_scrub_site : Instr.wellFormed (.scrubVisit [] [.mem (2 ^ 48)] 0) = false := by decide

/-! ### Worked examples of the spec -/

/-- 01, Rig IDs around one core. -/
theorem test_rig_ids : coreRig 1234 413 = 0x02696740 ∧ clusterRig 1234 51 = 0x22696600 ∧ dieRig 1234 6 = 0x42696000 ∧
    moduleRig 1234 = 0x62690000 := by decide
/-- 02, GW12 encodings: 1.0, −2.5, 65,504. -/
theorem test_gw12 : Fmt.gw12.convert .rne false (ofF32 0x3F800000) = 0x3F8 ∧ Fmt.gw12.convert .rne false (ofF32 0xC0200000) = 0xC02 ∧
    Fmt.gw12.convert .rne false (ofF32 0x477FE000) = 0x478 := by decide +kernel
/-- 04, one group in fixed point: the group sum is 3.09375 + 2^-17 and its low part +0. -/
theorem test_group_sum : toF32 (groupSum [.fin false 105 (-5), .fin true 3 (-4), .fin false 3 (-18)] 16 false).1 = 0x40460020 ∧
    toF32 (groupSum [.fin false 105 (-5), .fin true 3 (-4), .fin false 3 (-18)] 16 false).2 = 0 := by decide +kernel
/-- 04, a long sum that plain FP32 loses: groups 2 to 4 added to 2^24. -/
theorem test_long_sum : (accStep (accStep (accStep { s := 0x4B800000, e := 0 } (ofF32 0x3F800000, Ext.zero)) (ofF32 0x3F800000, Ext.zero))
    (ofF32 0x3F800000, Ext.zero)) = { s := 0x4B800002, e := 0xBF800000 } := by decide +kernel
/-- 03, reading a record: row 2, column 120, −∞ replaced. -/
theorem test_sv_record : svRecord (some (2, 120, .inf true, .fin true 1 0)) false = 0xD0020078 := by decide
/-- 08, encoding a close: MODE 2, GRP 1, rs1 x10, TDB 3, TDA 2. -/
theorem test_close_word : decodeTensor 0x22A322FB = some (.mma false 2 1 10 3 2) := by decide
/-- 08, a strided weight view: its descriptor. -/
theorem test_weight_view : (Desc.ofBits 0x314342018017FE00FE01200000030000).base = 0x0001200000030000 ∧
    (Desc.ofBits 0x314342018017FE00FE01200000030000).rows = 3072 ∧ (Desc.ofBits 0x314342018017FE00FE01200000030000).cols = 128 ∧
    (Desc.ofBits 0x314342018017FE00FE01200000030000).stride = 192 ∧ (Desc.ofBits 0x314342018017FE00FE01200000030000).tag = 0x3143 := by decide
/-- 03, where an element lives: bead 195, element 196. -/
theorem test_col64_place : Layout.place .col64 192 128 100 70 = (195, 196) := by decide
/-- 09, the weight view walked: the level-0 leaf gives the page at offset 0x3_0000 of its stack bank. -/
theorem test_leaf : leafMpa 0xCC00001067403000 = stackBase 413 + 0x30000 := by decide
/-- 20, a cabinet controller reads one port: the link-local address, and the +Y neighbour of module 1,234. -/
theorem test_link_local : ({ boot := { serial := 0x000000A15C3E0917 } } : Dev).linkLocal = 0xFE8000000000000000A15CFFFE3E0917#128 := by decide
theorem test_neighbour : coords 1234 = (2, 13, 2) ∧ idOf (2, 14, 2) = 1250 := by decide

/-! ### Steps -/

/-- A queue with two commands: the first runs, the second waits. -/
theorem test_step_front : step { pending := [.standbyPowerUp 5, .perstNDeassert 16 1 5] } =
    exec (.standbyPowerUp 5) { pending := [.perstNDeassert 16 1 5] } := by rfl
/-- Standby power comes up on the module as it is after reset. -/
theorem test_standby : ∃ t, exec (.standbyPowerUp 5) State.reset = .next t ∧ t.dev.pins.standby = true ∧ t.dev.time = 5 := ⟨_, rfl, by decide, by decide⟩

/-! ### States that meet the hypotheses of the statements -/

def witHostLinkComesAndGoes1 : State := { dev := { pins := { pwrGood := true } } }
theorem wit_HostLinkComesAndGoes_1 :
      ((witHostLinkComesAndGoes1).dev.pins.pwrGood = true) ∧
      ((witHostLinkComesAndGoes1).dev.host.perst = true) := by decide
def witHostLinkComesAndGoes2 : State := { dev := { pins := { pwrGood := true }, host := { perst := false } } }
theorem wit_HostLinkComesAndGoes_2 :
      ((witHostLinkComesAndGoes2).dev.pins.pwrGood = true) ∧
      ((witHostLinkComesAndGoes2).dev.host.perst = false) ∧
      ((witHostLinkComesAndGoes2).dev.host.linkUp = false) := by decide
def witHostLinkComesAndGoes5 : State := { dev := { host := { linkUp := true } } }
theorem wit_HostLinkComesAndGoes_5 :
      ((witHostLinkComesAndGoes5).dev.host.linkUp = true) ∧
      ((witHostLinkComesAndGoes5).dev.fe.queues = []) ∧
      ((witHostLinkComesAndGoes5).dev.fe.rings = []) := by decide
def witHostLinkComesAndGoes6 : State := { dev := { fe := { queues := [(7, { state := .active })] } } }
theorem wit_HostLinkComesAndGoes_6 :
      ((witHostLinkComesAndGoes6).dev.fe.queues.find? (7 : Fin 4096).val = some ({ state := .active } : Queue)) ∧
      (({ state := .active } : Queue).sqDev = false) ∧
      (({ state := .active } : Queue).state = .active) := by decide
def witFunctionResetsAndMailboxes1 : State := { dev := devA }
theorem wit_FunctionResetsAndMailboxes_1 :
      ((witFunctionResetsAndMailboxes1).dev.host.linkUp = true) ∧
      ((1 : Fin 4097) ≠ 0) ∧
      ((witFunctionResetsAndMailboxes1).dev.host.mastMembers = []) := by decide
def witFunctionResetsAndMailboxes2 : State := { dev := devA }
theorem wit_FunctionResetsAndMailboxes_2 :
      ((witFunctionResetsAndMailboxes2).dev.host.linkUp = true) := by decide
def witFunctionResetsAndMailboxes3 : State := { dev := devA }
theorem wit_FunctionResetsAndMailboxes_3 :
      ((witFunctionResetsAndMailboxes3).dev.host.linkUp = true) ∧
      ((witFunctionResetsAndMailboxes3).dev.boot.phase = 3) ∧
      (((witFunctionResetsAndMailboxes3).dev.box 0).busy = false) ∧
      ((witFunctionResetsAndMailboxes3).dev.host.anchorKnown = false) ∧
      ((witFunctionResetsAndMailboxes3).dev.host.mastMembers = []) ∧
      (32 ≤ ({ reqLen := 32 } : MbxWrite).reqLen.toNat) ∧
      (({ reqLen := 32 } : MbxWrite).reqLen.toNat ≤ 4096) := by decide
def witFunctionResetsAndMailboxes4 : State := { dev := devA }
theorem wit_FunctionResetsAndMailboxes_4 :
      ((witFunctionResetsAndMailboxes4).dev.host.linkUp = true) := by decide
def witFunctionResetsAndMailboxes5 : State := { dev := devA }
theorem wit_FunctionResetsAndMailboxes_5 :
      ((witFunctionResetsAndMailboxes5).dev.host.linkUp = true) ∧
      ((1 : Fin 4097) ≠ 0) := by decide
def witFunctionResetsAndMailboxes6 : State := { dev := { devA with host := { devA.host with aperture := [(1, 0x40000000)] }, mem := { devA.mem with mem := Memory.writeNat devA.mem.mem 0x1008 1 0x20 } } }
theorem wit_FunctionResetsAndMailboxes_6 : ∃ (func : Fin 4097) (off n tag p : Nat) (errs : List EccEvent) (d0 : Dev) (m : MemKind) (now : Time) (s : State),
      (s.dev.apertureOpen func.val = true) ∧
      (s.dev.ownMember (s.dev.apertureAt func.val off).2 = true) ∧
      (errs.foldl Dev.ecc (s.dev.advance now) = d0) ∧
      (d0.reqPart (BitVec.ofNat 16 (s.dev.funcKey func.val)) = some p) ∧
      (d0.checkExtent { part := p } { r := true } false (s.dev.apertureAt func.val off).1 n = .ok m) ∧
      ((∀ home, m ≠ .remote home)) :=
  ⟨1, 0x1008, 1, 0, 0, [], _, .dram, 0, witFunctionResetsAndMailboxes6, by decide, by decide, rfl, by decide, eq_ok_of (by decide +kernel), by intro home h; cases h⟩
def witFunctionResetsAndMailboxes7 : State := { dev := { devA with host := { devA.host with aperture := [(1, 0x40000000)] } } }
theorem wit_FunctionResetsAndMailboxes_7 :
      ((witFunctionResetsAndMailboxes7).dev.apertureOpen (1 : Fin 4097).val = true) ∧
      ((witFunctionResetsAndMailboxes7).dev.ownMember ((witFunctionResetsAndMailboxes7).dev.apertureAt (1 : Fin 4097).val (0 : Nat)).2 = true) ∧
      ((witFunctionResetsAndMailboxes7).dev.reqPart (BitVec.ofNat 16 ((witFunctionResetsAndMailboxes7).dev.funcKey (1 : Fin 4097).val)) = some (0 : Nat)) := by decide
def witHostForwarding1 : State := { dev := { devA with host := { devA.host with anchorKnown := true, anchor := 2 } } }
theorem wit_HostForwarding_1 :
      ((witHostForwarding1).dev.fromAnchor ({ src := 2 } : HostFwd) = true) ∧
      ((witHostForwarding1).dev.inFseq ({ src := 2 } : HostFwd) = true) ∧
      (({ src := 2 } : HostFwd).func = 0) := by decide
def witHostForwarding2 : State := { dev := { devA with host := { devA.host with anchorKnown := true, anchor := 2 } } }
theorem wit_HostForwarding_2 :
      ((witHostForwarding2).dev.fromAnchor ({ src := 2 } : HostFwd) = true) ∧
      (({ src := 2 } : HostFwd).func = 0) := by decide
def witHostForwarding3 : State := { dev := { devA with dict := { sent := [{ peer := fwdPeer 0 2 }], boxes := [(0, { busy := true })] } } }
theorem wit_HostForwarding_3 :
      ((witHostForwarding3).dev.dict.sent.find? (fun x => x.peer = fwdPeer ({ src := 2 } : HostFwd).func.val (({ src := 2 } : HostFwd).src.toNat % 64) && x.txn = msgField ({ src := 2 } : HostFwd).bytes 2 2) = some ({ peer := fwdPeer 0 2 } : KeptTxn)) ∧
      (((witHostForwarding3).dev.box ({ src := 2 } : HostFwd).func.val).busy = true) := by decide
def witHostForwarding4 : State := { dev := devA }
theorem wit_HostForwarding_4 :
      ((witHostForwarding4).dev.serves = true) := by decide
def witHostForwarding5 : State := { dev := { devA with host := { devA.host with anchorKnown := true, anchor := 2 } } }
theorem wit_HostForwarding_5 : ∃ (h : HostFwd) (p : Nat) (errs : List EccEvent) (d0 : Dev) (m : MemKind) (now : Time) (s : State),
      (s.dev.fromAnchor h = true) ∧
      (errs.foldl Dev.ecc (s.dev.advance now) = d0) ∧
      (d0.reqPart (BitVec.ofNat 16 (msgField h.bytes 0 2)) = some p) ∧
      (d0.checkExtent { part := p } { r := true } false (msgField h.bytes 2 8) (msgField h.bytes 10 2) = .ok m) ∧
      ((∀ home, m ≠ .remote home)) :=
  ⟨{ src := 2, bytes := [5, 0, 8, 16, 0, 64, 0, 0, 0, 0, 1, 0] }, 0, [], _, .dram, 0, witHostForwarding5, by decide, rfl, by decide, eq_ok_of (by decide +kernel), by intro home h; cases h⟩
def witHostForwarding6 : State := { dev := { devA with host := { devA.host with anchorKnown := true, anchor := 2 } } }
theorem wit_HostForwarding_6 :
      ((witHostForwarding6).dev.fromAnchor ({ src := 2, bytes := [5, 0] } : HostFwd) = true) ∧
      ((witHostForwarding6).dev.inFseq ({ src := 2, bytes := [5, 0] } : HostFwd) = true) ∧
      ((witHostForwarding6).dev.reqPart (BitVec.ofNat 16 (msgField ({ src := 2, bytes := [5, 0] } : HostFwd).bytes 0 2)) = some (0 : Nat)) := by decide
def witHostForwarding7 : State := { dev := { devA with host := { fwds := [{ member := 2 }] } } }
theorem wit_HostForwarding_7 :
      ((witHostForwarding7).dev.host.fwds.find? (fun y => y.member = ({ src := 2 } : HostFwd).src.toNat % 64 && y.fseq = ({ src := 2 } : HostFwd).fseq.toNat) = some ({ member := 2 } : FwdAccess)) ∧
      (({ member := 2 } : FwdAccess).write = false) ∧
      (msgField ({ src := 2 } : HostFwd).bytes 0 1 = 0) := by decide
def witHostForwarding8 : State := { dev := { devA with host := { fwds := [{ member := 2 }] } } }
theorem wit_HostForwarding_8 :
      ((witHostForwarding8).dev.host.fwds.find? (fun y => y.member = (2 : Fin 64).val && y.fseq = (0 : BitVec 32).toNat) = some ({ member := 2 } : FwdAccess)) ∧
      (reached ((witHostForwarding8).dev.advance (ms 3 : Time)).time ({ member := 2 } : FwdAccess).time (ms 2) = true) := by decide
def witHostForwarding9 : State := { dev := { devA with host := { devA.host with anchorKnown := true, anchor := 2 } } }
theorem wit_HostForwarding_9 :
      ((witHostForwarding9).dev.host.anchorKnown = true) ∧
      ((witHostForwarding9).dev.host.standby ≠ (witHostForwarding9).dev.host.anchor) ∧
      ((witHostForwarding9).dev.host.standby = (witHostForwarding9).dev.id) := by decide
def witHostForwarding10 : State := { dev := { devA with host := { devA.host with anchorKnown := true, anchor := 2, standby := 3 } } }
theorem wit_HostForwarding_10 :
      ((witHostForwarding10).dev.host.anchorKnown = true) ∧
      ((witHostForwarding10).dev.host.standby ≠ (witHostForwarding10).dev.host.anchor) ∧
      ((witHostForwarding10).dev.host.isAnchor = false) := by decide
def witQueuesAndDoorbells1 : State := { dev := { devA with rigs := [(0, { state := .idle })] } }
theorem wit_QueuesAndDoorbells_1 :
      (((witQueuesAndDoorbells1).dev.advance (0 : Time)).queueRefusal (0 : Fin 512).val { state := .active, part := (0 : Fin 512).val, func := (0 : Fin 4097).val, desc := ([0, 16, 0, 64, 0, 0, 0, 0, 0, 0, 0, 0, 0, 0, 0, 0, 0, 0, 0, 0, 4, 4] ++ List.replicate 42 0 : List Byte), rig := BitVec.ofNat 32 (leNat ((([0, 16, 0, 64, 0, 0, 0, 0, 0, 0, 0, 0, 0, 0, 0, 0, 0, 0, 0, 0, 4, 4] ++ List.replicate 42 0 : List Byte).drop 0x10).take 4)), created := ((witQueuesAndDoorbells1).dev.advance (0 : Time)).time, credited := ((witQueuesAndDoorbells1).dev.advance (0 : Time)).time } = none) ∧
      ((witQueuesAndDoorbells1).dev.fe.qIds.pick 4096 ((witQueuesAndDoorbells1).dev.advance (0 : Time)).time = some (0 : Nat)) := by decide
def witQueuesAndDoorbells2 : State := { dev := { devA with rigs := [(0, { state := .idle })], fe := { queues := [(7, { state := .active, gen := 3 })] } } }
theorem wit_QueuesAndDoorbells_2 :
      ((witQueuesAndDoorbells2).dev.fe.queues.find? ((0x3007 : Nat) % 4096) = some ({ state := .active, gen := 3 } : Queue)) ∧
      (({ state := .active, gen := 3 } : Queue).part = (0 : Fin 512).val) ∧
      (queueHandle ((0x3007 : Nat) % 4096) ({ state := .active, gen := 3 } : Queue) = (0x3007 : Nat)) ∧
      (({ state := .active, gen := 3 } : Queue).state = .active) ∧
      (({ state := .active, gen := 3 } : Queue).flight = []) := by decide
def witQueuesAndDoorbells3 : State := { dev := { devA with rigs := [(0, { state := .idle })], fe := { queues := [(7, { state := .active, gen := 3 })] } } }
theorem wit_QueuesAndDoorbells_3 :
      (bit (0x300000001 : Word) 38 = false) ∧
      ((witQueuesAndDoorbells3).dev.host.linkUp = true) ∧
      ((witQueuesAndDoorbells3).dev.serves = true) ∧
      (((0 : Fin 4097) ≠ 0 → (witQueuesAndDoorbells3).dev.funcKey (0 : Fin 4097).val ≠ 0)) ∧
      ((witQueuesAndDoorbells3).dev.ownMember (0 : Fin 64).val = true) ∧
      ((witQueuesAndDoorbells3).dev.doorOf (0 : Fin 4097).val (7 : Fin 4096).val = true) ∧
      ((witQueuesAndDoorbells3).dev.doorQueue (7 : Fin 4096).val (0x300000001 : Word) = some ({ state := .active, gen := 3 } : Queue)) ∧
      (({ state := .active, gen := 3 } : Queue).dbSem = false) ∧
      (({ state := .active, gen := 3 } : Queue).tailOk ((0x300000001 : Word).truncate 32) = true) := by decide
def witQueuesAndDoorbells4 : State := { dev := { devA with rigs := [(0, { state := .idle })], fe := { queues := [(7, { state := .active, gen := 3 })] } } }
theorem wit_QueuesAndDoorbells_4 :
      (bit (0x4300000000 : Word) 38 = true) ∧
      ((witQueuesAndDoorbells4).dev.host.linkUp = true) ∧
      ((witQueuesAndDoorbells4).dev.serves = true) ∧
      (((0 : Fin 4097) ≠ 0 → (witQueuesAndDoorbells4).dev.funcKey (0 : Fin 4097).val ≠ 0)) ∧
      ((witQueuesAndDoorbells4).dev.ownMember (0 : Fin 64).val = true) ∧
      ((witQueuesAndDoorbells4).dev.doorOf (0 : Fin 4097).val (7 : Fin 4096).val = true) ∧
      ((witQueuesAndDoorbells4).dev.doorQueue (7 : Fin 4096).val (0x4300000000 : Word) = some ({ state := .active, gen := 3 } : Queue)) ∧
      (({ state := .active, gen := 3 } : Queue).cqDev = false) ∧
      (((0x4300000000 : Word).truncate 32 - ({ state := .active, gen := 3 } : Queue).cqHead).toNat ≤ (BitVec.ofNat 32 ({ state := .active, gen := 3 } : Queue).records - ({ state := .active, gen := 3 } : Queue).cqHead).toNat) := by decide
def witQueuesAndDoorbells5 : State := { dev := { devA with fe := { rings := [(0, { tail := 2 })] } } }
theorem wit_QueuesAndDoorbells_5 :
      ((witQueuesAndDoorbells5).dev.host.linkUp = true) ∧
      ((witQueuesAndDoorbells5).dev.serves = true) ∧
      (bit (0x4000000001 : Word) 38 = true) ∧
      (bits (0x4000000001 : Word) 37 32 = 0) ∧
      (((witQueuesAndDoorbells5).dev.fe.rings.get {} 0).tail < 2 ^ 32) ∧
      (((witQueuesAndDoorbells5).dev.fe.rings.get {} 0).head ≤ (0x4000000001 : Word).toNat % 2 ^ 32) ∧
      ((0x4000000001 : Word).toNat % 2 ^ 32 ≤ ((witQueuesAndDoorbells5).dev.fe.rings.get {} 0).tail) := by decide
def witQueuesAndDoorbells6 : State := {}
theorem wit_QueuesAndDoorbells_6 :
      ((0x1000 : Word).toNat % 4096 = 0) := by decide
def witEntriesRun1 : State := { dev := { devA with fe := { queues := [(7, { state := .active, tail := 1 })] } } }
theorem wit_EntriesRun_1 :
      ((witEntriesRun1).dev.fe.queues.find? (7 : Fin 4096).val = some ({ state := .active, tail := 1 } : Queue)) ∧
      (({ state := .active, tail := 1 } : Queue).state = .active) ∧
      (({ state := .active, tail := 1 } : Queue).tail ≠ ({ state := .active, tail := 1 } : Queue).fetched) ∧
      (({ state := .active, tail := 1 } : Queue).ahead.length < 4) ∧
      (({ state := .active, tail := 1 } : Queue).sqDev = false) ∧
      ((witEntriesRun1).dev.canMaster ({ state := .active, tail := 1 } : Queue).func = true) := by decide
def witEntriesRun2 : State := { dev := { devA with rigs := [(0, { state := .idle })], fe := { queues := [(7, { state := .active, ahead := [{}] })] } } }
theorem wit_EntriesRun_2 :
      ((((((witEntriesRun2.dev.advance 0).settleAll.settleCore 0).fe.queues.keys.foldl (fun d i => (Dev.passInvalid i 4 d).forward i) ((witEntriesRun2.dev.advance 0).settleAll.settleCore 0))).startNext 0 : Dev) = (((((witEntriesRun2).dev.advance (0 : Time)).settleAll.settleCore (0 : Fin 512).val).fe.queues.keys.foldl (fun d i => (Dev.passInvalid i 4 d).forward i) (((witEntriesRun2).dev.advance (0 : Time)).settleAll.settleCore (0 : Fin 512).val))).startNext (0 : Fin 512).val) ∧
      ((((((witEntriesRun2.dev.advance 0).settleAll.settleCore 0).fe.queues.keys.foldl (fun d i => (Dev.passInvalid i 4 d).forward i) ((witEntriesRun2.dev.advance 0).settleAll.settleCore 0))).startNext 0 : Dev).coreOpen (0 : Fin 512).val = true) ∧
      (pick ((((((witEntriesRun2.dev.advance 0).settleAll.settleCore 0).fe.queues.keys.foldl (fun d i => (Dev.passInvalid i 4 d).forward i) ((witEntriesRun2.dev.advance 0).settleAll.settleCore 0))).startNext 0 : Dev).candidates (0 : Fin 512).val) ((((((witEntriesRun2.dev.advance 0).settleAll.settleCore 0).fe.queues.keys.foldl (fun d i => (Dev.passInvalid i 4 d).forward i) ((witEntriesRun2.dev.advance 0).settleAll.settleCore 0))).startNext 0 : Dev).fe.sched.get {} (0 : Fin 512).val).borrow ((((((witEntriesRun2.dev.advance 0).settleAll.settleCore 0).fe.queues.keys.foldl (fun d i => (Dev.passInvalid i 4 d).forward i) ((witEntriesRun2.dev.advance 0).settleAll.settleCore 0))).startNext 0 : Dev).fe.sched.get {} (0 : Fin 512).val).last = some (({ key := 7, share := 0 } : Cand), (false : Bool))) ∧
      ((((((witEntriesRun2.dev.advance 0).settleAll.settleCore 0).fe.queues.keys.foldl (fun d i => (Dev.passInvalid i 4 d).forward i) ((witEntriesRun2.dev.advance 0).settleAll.settleCore 0))).startNext 0 : Dev).fe.queues.find? ({ key := 7, share := 0 } : Cand).key = some ({ state := .active, ahead := [{}] } : Queue)) ∧
      (({ state := .active, ahead := [{}] } : Queue).ahead = ({} : FlightEntry) :: ([] : List FlightEntry)) ∧
      (({} : FlightEntry).running = false) ∧
      (({} : FlightEntry).ended = none) := by refine ⟨rfl, by decide, rfl, by decide, by decide, by decide, by decide⟩
def witEntriesRun3 : State := { dev := { devA with parts := [(0, { partA with modules := [0, 3] })], fe := { queues := [(7, { state := .active, rig := 0x80000000 })] } } }
theorem wit_EntriesRun_3 :
      ((witEntriesRun3).dev.fe.queues.find? (7 : Fin 4096).val = some ({ state := .active, rig := 0x80000000 } : Queue)) ∧
      (4 ≤ rigLevel ({ state := .active, rig := 0x80000000 } : Queue).rig) ∧
      ((3 : BitVec 14) ∈ (witEntriesRun3).dev.queueMembers ({ state := .active, rig := 0x80000000 } : Queue)) ∧
      ((3 : BitVec 14) ≠ (witEntriesRun3).dev.id) := by decide
def witEntriesRun4 : State := { dev := { devA with fe := { queues := [(7, { state := .active, flight := [{ ended := some {} }] })] } } }
theorem wit_EntriesRun_4 :
      ((witEntriesRun4).dev.fe.queues.find? (7 : Fin 4096).val = some ({ state := .active, flight := [{ ended := some {} }] } : Queue)) ∧
      (({ state := .active, flight := [{ ended := some {} }] } : Queue).state = .active) ∧
      (({ state := .active, flight := [{ ended := some {} }] } : Queue).flight = ({ ended := some {} } : FlightEntry) :: ([] : List FlightEntry)) ∧
      (({ ended := some {} } : FlightEntry).ended = some ({} : Ending)) ∧
      (({ ended := some {} } : FlightEntry).core = none) ∧
      (bit ({ ended := some {} } : FlightEntry).e.eflags 1 = false) ∧
      (({ state := .active, flight := [{ ended := some {} }] } : Queue).hasCq = false) ∧
      (({} : Ending).cause = 0) := by decide
def witEntriesRun5 : State := { dev := { devA with fe := { queues := [(7, { msixPending := true })] } } }
theorem wit_EntriesRun_5 :
      ((witEntriesRun5).dev.fe.queues.find? (7 : Fin 4096).val = some ({ msixPending := true } : Queue)) ∧
      (({ msixPending := true } : Queue).msixPending = true) ∧
      (({ msixPending := true } : Queue).lastMsix = none) := by decide
def witEntriesRun6 : State := { dev := { devA with fe := { queues := [(7, { state := .active, records := 16, ahead := [{}], desc := List.replicate 8 0 ++ [0, 0, 1, 64, 0, 0, 0, 0] ++ [0, 0, 0, 0, 4, 4, 0, 0, 3] })] } } }
theorem wit_EntriesRun_6 :
      ((witEntriesRun6).dev.fe.queues.find? (7 : Fin 4096).val = some ({ state := .active, records := 16, ahead := [{}], desc := List.replicate 8 0 ++ [0, 0, 1, 64, 0, 0, 0, 0] ++ [0, 0, 0, 0, 4, 4, 0, 0, 3] } : Queue)) ∧
      (({ state := .active, records := 16, ahead := [{}], desc := List.replicate 8 0 ++ [0, 0, 1, 64, 0, 0, 0, 0] ++ [0, 0, 0, 0, 4, 4, 0, 0, 3] } : Queue).cqDev = true) ∧
      (({ state := .active, records := 16, ahead := [{}], desc := List.replicate 8 0 ++ [0, 0, 1, 64, 0, 0, 0, 0] ++ [0, 0, 0, 0, 4, 4, 0, 0, 3] } : Queue).hasCq = true) ∧
      (((witEntriesRun6).dev.advance (0 : Time)).holdReason ({ state := .active, records := 16, ahead := [{}], desc := List.replicate 8 0 ++ [0, 0, 1, 64, 0, 0, 0, 0] ++ [0, 0, 0, 0, 4, 4, 0, 0, 3] } : Queue) = some 1) ∧
      (({ state := .active, records := 16, ahead := [{}], desc := List.replicate 8 0 ++ [0, 0, 1, 64, 0, 0, 0, 0] ++ [0, 0, 0, 0, 4, 4, 0, 0, 3] } : Queue).lastPoll = none) := by decide
def witEntriesRun7 : State := { dev := devA }
theorem wit_EntriesRun_7 :
      (reached ((witEntriesRun7).dev.advance (ms 2 : Time)).time (witEntriesRun7).dev.fe.windowStart (ns (witEntriesRun7).dev.fe.window) = true) ∧
      ((witEntriesRun7).dev.fe.queues = []) ∧
      ((witEntriesRun7).dev.fe.sched = []) := by decide
def witEntriesRun8 : State := { dev := { devA with fe := { queues := [(7, { state := .active, tail := 1, waitStart := some 0 })] } } }
theorem wit_EntriesRun_8 :
      ((witEntriesRun8).dev.fe.queues.find? (7 : Fin 4096).val = some ({ state := .active, tail := 1, waitStart := some 0 } : Queue)) ∧
      (({ state := .active, tail := 1, waitStart := some 0 } : Queue).waitStart = some (0 : Time)) ∧
      (({ state := .active, tail := 1, waitStart := some 0 } : Queue).waits = true) ∧
      (({ state := .active, tail := 1, waitStart := some 0 } : Queue).rt = false) ∧
      ((witEntriesRun8).dev.tUrgent ({ state := .active, tail := 1, waitStart := some 0 } : Queue) < nsBetween (0 : Time) ((witEntriesRun8).dev.advance (ms 3 : Time)).time) := by decide
def witEntriesRun9 : State := { dev := { devA with fe := { queues := [(7, { state := .active, tail := 1, waitStart := some 0 })] } } }
theorem wit_EntriesRun_9 :
      ((witEntriesRun9).dev.fe.queues.find? (7 : Fin 4096).val = some ({ state := .active, tail := 1, waitStart := some 0 } : Queue)) ∧
      (({ state := .active, tail := 1, waitStart := some 0 } : Queue).waitStart = some (0 : Time)) ∧
      (({ state := .active, tail := 1, waitStart := some 0 } : Queue).waits = true) ∧
      ((({ state := .active, tail := 1, waitStart := some 0 } : Queue).stays + 1) * (witEntriesRun9).dev.tStay ({ state := .active, tail := 1, waitStart := some 0 } : Queue) ≤ nsBetween (0 : Time) ((witEntriesRun9).dev.advance (ms 60 : Time)).time) := by decide
def witIdentifiersAndSemaphores1 : State := { dev := devA }
theorem wit_IdentifiersAndSemaphores_1 :
      ((0 : BitVec 14) ∈ ((witIdentifiersAndSemaphores1).dev.part (0 : Fin 512).val).modules) ∧
      ((witIdentifiersAndSemaphores1).dev.fe.sIds.pick 262144 ((witIdentifiersAndSemaphores1).dev.advance (0 : Time)).time = some (0 : Nat)) := by decide
def witIdentifiersAndSemaphores2 : State := { dev := { devA with fe := { streams := [(4, { open' := true })] } } }
theorem wit_IdentifiersAndSemaphores_2 :
      ((witIdentifiersAndSemaphores2).dev.streamOk (0 : Fin 512).val (4 : Word) = some ({ open' := true } : Stream)) ∧
      (({ open' := true } : Stream).inFlight = 0) := by decide
def witIdentifiersAndSemaphores3 : State := { dev := devA }
theorem wit_IdentifiersAndSemaphores_3 :
      ((witIdentifiersAndSemaphores3).dev.fe.semIds.pick 1048576 ((witIdentifiersAndSemaphores3).dev.advance (0 : Time)).time = some (0 : Nat)) ∧
      ((witIdentifiersAndSemaphores3).dev.lineLost (semSlot (0 : Nat) / 64) = false) := by decide
def witIdentifiersAndSemaphores4 : State := { dev := { devA with mem := { devA.mem with mem := Memory.write devA.mem.mem (semSlot 0 + 8) [5, 0, 1, 1] } } }
theorem wit_IdentifiersAndSemaphores_4 :
      ((SemHandle.ofWord (0x100000 : Word)).module = (witIdentifiersAndSemaphores4).dev.id) ∧
      ((witIdentifiersAndSemaphores4).dev.semCheck (SemHandle.ofWord (0x100000 : Word)) ((witIdentifiersAndSemaphores4).dev.part (0 : Fin 512).val).key = 0) ∧
      ((witIdentifiersAndSemaphores4).dev.lineLost (semSlot (SemHandle.ofWord (0x100000 : Word)).sem / 64) = false) := by decide
def witIdentifiersAndSemaphores5 : State := { dev := { devA with fe := { qIds := { quarantine := [(4, 0)] } } } }
theorem wit_IdentifiersAndSemaphores_5 :
      ((witIdentifiersAndSemaphores5).dev.fe.qIds.held (4 : Nat) ((witIdentifiersAndSemaphores5).dev.advance (ms 2 : Time)).time = false) := by decide
def witIdentifiersAndSemaphores6 : State := { dev := { devA with fe := { held := [{}], rings := [(0, { base := 0x1000 })] } } }
theorem wit_IdentifiersAndSemaphores_6 :
      ((witIdentifiersAndSemaphores6).dev.ringReady (0 : Nat) = true) ∧
      ((witIdentifiersAndSemaphores6).dev.fe.held = [({} : HeldNotice)]) ∧
      (({} : HeldNotice).ring = (0 : Nat)) ∧
      (((witIdentifiersAndSemaphores6).dev.fe.rings.get {} (0 : Nat)).lost = 0) := by decide
def witDictionaryAndItsTransport1 : State := { dev := devA }
theorem wit_DictionaryAndItsTransport_1 :
      ((witDictionaryAndItsTransport1).dev.boot.phase = 3) ∧
      (((witDictionaryAndItsTransport1).dev.advance (0 : Time)).reqObject (.pf : Requester) { ({ index := 0x1000, sub := 5 } : DictReq) with op := 1 } = .ok ({ index := 0x1000, sub := 5, name := "POWER_HOLD_US", units := "us", ty := .u32, acc := .rw, pers := .system, dflt := 10, range := some (1, 1000) } : ObjDef)) ∧
      (((witDictionaryAndItsTransport1).dev.advance (0 : Time)).reqRead (.pf : Requester) ({ index := 0x1000, sub := 5, name := "POWER_HOLD_US", units := "us", ty := .u32, acc := .rw, pers := .system, dflt := 10, range := some (1, 1000) } : ObjDef) ({ index := 0x1000, sub := 5 } : DictReq).index ({ index := 0x1000, sub := 5 } : DictReq).select = true) ∧
      (({ index := 0x1000, sub := 5, name := "POWER_HOLD_US", units := "us", ty := .u32, acc := .rw, pers := .system, dflt := 10, range := some (1, 1000) } : ObjDef).acc ≠ .wo) ∧
      (({ index := 0x1000, sub := 5 } : DictReq).seg = false) ∧
      (((((witDictionaryAndItsTransport1).dev.advance (0 : Time)).retag.tagOf ({ index := 0x1000, sub := 5, name := "POWER_HOLD_US", units := "us", ty := .u32, acc := .rw, pers := .system, dflt := 10, range := some (1, 1000) } : ObjDef) (tagKey ({ index := 0x1000, sub := 5 } : DictReq).select ({ index := 0x1000, sub := 5 } : DictReq).index ({ index := 0x1000, sub := 5 } : DictReq).sub)).objValue ({ index := 0x1000, sub := 5, name := "POWER_HOLD_US", units := "us", ty := .u32, acc := .rw, pers := .system, dflt := 10, range := some (1, 1000) } : ObjDef) ({ index := 0x1000, sub := 5 } : DictReq).index ({ index := 0x1000, sub := 5 } : DictReq).sub ({ index := 0x1000, sub := 5 } : DictReq).select).length ≤ (.pf : Requester).limit - 32) := by refine ⟨by decide, rfl, by decide, by decide, by decide, by decide⟩
def witDictionaryAndItsTransport2 : State := { dev := devA }
theorem wit_DictionaryAndItsTransport_2 :
      ((witDictionaryAndItsTransport2).dev.boot.phase = 3) ∧
      (((witDictionaryAndItsTransport2).dev.advance (0 : Time)).reqObject (.pf : Requester) { ({ index := 0x1000, sub := 5, payload := [9, 0, 0, 0] } : DictReq) with op := 2 } = .ok ({ index := 0x1000, sub := 5, name := "POWER_HOLD_US", units := "us", ty := .u32, acc := .rw, pers := .system, dflt := 10, range := some (1, 1000) } : ObjDef)) ∧
      (((witDictionaryAndItsTransport2).dev.advance (0 : Time)).reqWrite (.pf : Requester) ({ index := 0x1000, sub := 5, name := "POWER_HOLD_US", units := "us", ty := .u32, acc := .rw, pers := .system, dflt := 10, range := some (1, 1000) } : ObjDef) ({ index := 0x1000, sub := 5, payload := [9, 0, 0, 0] } : DictReq).index ({ index := 0x1000, sub := 5, payload := [9, 0, 0, 0] } : DictReq).sub = true) ∧
      (({ index := 0x1000, sub := 5, name := "POWER_HOLD_US", units := "us", ty := .u32, acc := .rw, pers := .system, dflt := 10, range := some (1, 1000) } : ObjDef).acc ≠ .boot) ∧
      (({ index := 0x1000, sub := 5, name := "POWER_HOLD_US", units := "us", ty := .u32, acc := .rw, pers := .system, dflt := 10, range := some (1, 1000) } : ObjDef).acc ≠ .ro) ∧
      (({ index := 0x1000, sub := 5, name := "POWER_HOLD_US", units := "us", ty := .u32, acc := .rw, pers := .system, dflt := 10, range := some (1, 1000) } : ObjDef).acc ≠ .sl) ∧
      (({ index := 0x1000, sub := 5, payload := [9, 0, 0, 0] } : DictReq).seg = false) ∧
      ((witDictionaryAndItsTransport2).dev.dict.opens = []) ∧
      (({ index := 0x1000, sub := 5, name := "POWER_HOLD_US", units := "us", ty := .u32, acc := .rw, pers := .system, dflt := 10, range := some (1, 1000) } : ObjDef).check ({ index := 0x1000, sub := 5, payload := [9, 0, 0, 0] } : DictReq).payload = 0) ∧
      (partBlock ({ index := 0x1000, sub := 5, payload := [9, 0, 0, 0] } : DictReq).index = none) ∧
      ((((witDictionaryAndItsTransport2.dev.advance 0).retag.tagOf { index := 0x1000, sub := 5, name := "POWER_HOLD_US", units := "us", ty := .u32, acc := .rw, pers := .system, dflt := 10, range := some (1, 1000) } (tagKey 0 0x1000 5)).ask (fun d => d.actModule .pf {} { index := 0x1000, sub := 5, name := "POWER_HOLD_US", units := "us", ty := .u32, acc := .rw, pers := .system, dflt := 10, range := some (1, 1000) } 0x1000 5 0 [9, 0, 0, 0] 0) : Dev × Option (Cause × Word × List Byte)) = (((witDictionaryAndItsTransport2).dev.advance (0 : Time)).retag.tagOf ({ index := 0x1000, sub := 5, name := "POWER_HOLD_US", units := "us", ty := .u32, acc := .rw, pers := .system, dflt := 10, range := some (1, 1000) } : ObjDef) (tagKey ({ index := 0x1000, sub := 5, payload := [9, 0, 0, 0] } : DictReq).select ({ index := 0x1000, sub := 5, payload := [9, 0, 0, 0] } : DictReq).index ({ index := 0x1000, sub := 5, payload := [9, 0, 0, 0] } : DictReq).sub)).ask (fun d => d.actModule (.pf : Requester) ({} : WriteEnv) ({ index := 0x1000, sub := 5, name := "POWER_HOLD_US", units := "us", ty := .u32, acc := .rw, pers := .system, dflt := 10, range := some (1, 1000) } : ObjDef) ({ index := 0x1000, sub := 5, payload := [9, 0, 0, 0] } : DictReq).index ({ index := 0x1000, sub := 5, payload := [9, 0, 0, 0] } : DictReq).sub ({ index := 0x1000, sub := 5, payload := [9, 0, 0, 0] } : DictReq).select ({ index := 0x1000, sub := 5, payload := [9, 0, 0, 0] } : DictReq).payload (0 : Time))) := by refine ⟨by decide, rfl, by decide, by decide, by decide, by decide, by decide, by decide, by decide, by decide, rfl⟩
def witDictionaryAndItsTransport3 : State := { dev := devA }
theorem wit_DictionaryAndItsTransport_3 :
      ((witDictionaryAndItsTransport3).dev.boot.phase = 3) ∧
      (((witDictionaryAndItsTransport3).dev.advance (0 : Time)).reqObject (.pf : Requester) { ({ index := 0x0410, sub := 1 } : DictReq) with op := 3 } = .ok ({ index := 0x0410, sub := 1, name := "SCHED_WINDOW", units := "us", ty := .u32, acc := .sl, pers := .flash, dflt := 1000, range := some (100, 10000) } : ObjDef)) ∧
      (((witDictionaryAndItsTransport3).dev.advance (0 : Time)).reqRead (.pf : Requester) ({ index := 0x0410, sub := 1, name := "SCHED_WINDOW", units := "us", ty := .u32, acc := .sl, pers := .flash, dflt := 1000, range := some (100, 10000) } : ObjDef) ({ index := 0x0410, sub := 1 } : DictReq).index ({ index := 0x0410, sub := 1 } : DictReq).select = true) ∧
      (({ index := 0x0410, sub := 1, name := "SCHED_WINDOW", units := "us", ty := .u32, acc := .sl, pers := .flash, dflt := 1000, range := some (100, 10000) } : ObjDef).acc = .sl) ∧
      (({ index := 0x0410, sub := 1 } : DictReq).seg = false) ∧
      ((((witDictionaryAndItsTransport3).dev.cfg.staged.getD (witDictionaryAndItsTransport3).dev.cfg.force).value ({ index := 0x0410, sub := 1, name := "SCHED_WINDOW", units := "us", ty := .u32, acc := .sl, pers := .flash, dflt := 1000, range := some (100, 10000) } : ObjDef) ({ index := 0x0410, sub := 1 } : DictReq).index ({ index := 0x0410, sub := 1 } : DictReq).sub).length ≤ (.pf : Requester).limit - 32) := by refine ⟨by decide, rfl, by decide, by decide, by decide, by decide⟩
def witDictionaryAndItsTransport4 : State := { dev := devA }
theorem wit_DictionaryAndItsTransport_4 :
      ((witDictionaryAndItsTransport4).dev.boot.phase = 3) ∧
      (((witDictionaryAndItsTransport4).dev.advance (0 : Time)).reqObject (.pf : Requester) { ({ index := 0x1000, sub := 5 } : DictReq) with op := 4 } = .ok ({ index := 0x1000, sub := 5, name := "POWER_HOLD_US", units := "us", ty := .u32, acc := .rw, pers := .system, dflt := 10, range := some (1, 1000) } : ObjDef)) ∧
      (((witDictionaryAndItsTransport4).dev.advance (0 : Time)).reqReach (.pf : Requester) ({ index := 0x1000, sub := 5, name := "POWER_HOLD_US", units := "us", ty := .u32, acc := .rw, pers := .system, dflt := 10, range := some (1, 1000) } : ObjDef) ({ index := 0x1000, sub := 5 } : DictReq).index ({ index := 0x1000, sub := 5 } : DictReq).sub = true) := by refine ⟨by decide, rfl, by decide⟩
def witDictionaryAndItsTransport5 : State := { dev := devA }
theorem wit_DictionaryAndItsTransport_5 :
      ((witDictionaryAndItsTransport5).dev.boot.phase = 3) := by decide
def witDictionaryAndItsTransport7 : State := { dev := { devA with dict := { sent := [{ peer := fwdPeer 0 2, txn := 1 }] } } }
theorem wit_DictionaryAndItsTransport_7 :
      ((witDictionaryAndItsTransport7).dev.dict.sent.find? (fun x => x.peer = (fwdPeer 0 2 : Nat) && x.txn = (1 : Nat)) = some ({ peer := fwdPeer 0 2, txn := 1 } : KeptTxn)) ∧
      (reached ((witDictionaryAndItsTransport7).dev.advance (ms 3 : Time)).time ({ peer := fwdPeer 0 2, txn := 1 } : KeptTxn).time (ms 2) = true) ∧
      (({ peer := fwdPeer 0 2, txn := 1 } : KeptTxn).resends < 4) := by decide
def witDictionaryAndItsTransport8 : State := { dev := devA }
theorem wit_DictionaryAndItsTransport_8 :
      ((witDictionaryAndItsTransport8).dev.boot.phase = 3) ∧
      (((witDictionaryAndItsTransport8).dev.advance (0 : Time)).udpOk ({ src := BitVec.ofNat 128 (0xFE80 * 2 ^ 112 + 1), dst := devA.linkLocal, hop := 255, dport := 50212 } : Datagram) = true) ∧
      (({ src := BitVec.ofNat 128 (0xFE80 * 2 ^ 112 + 1), dst := devA.linkLocal, hop := 255, dport := 50212 } : Datagram).dst ≠ allNodes) := by decide
def witDictionaryAndItsTransport9 : State := { dev := devA }
theorem wit_DictionaryAndItsTransport_9 :
      ((witDictionaryAndItsTransport9).dev.boot.phase = 3) ∧
      (((witDictionaryAndItsTransport9).dev.advance (0 : Time)).udpOk ({} : Datagram) = false) := by decide
def witDictionaryAndItsTransport10 : State := { dev := { devA with dict := { delayed := [{ peer := 5, txn := 1 }] } } }
theorem wit_DictionaryAndItsTransport_10 :
      ((witDictionaryAndItsTransport10).dev.dict.delayed.find? (fun x => x.peer = (5 : Nat) && x.txn = (1 : Nat)) = some ({ peer := 5, txn := 1 } : KeptTxn)) := by decide
theorem wit_PowerSequencing_1 :
      ((State.reset : State).dev.pins.standby = false) := by decide
def witPowerSequencing2 : State := { dev := { pins := { standby := true, input54 := true } } }
theorem wit_PowerSequencing_2 :
      ((witPowerSequencing2).dev.pins.standby = true) ∧
      ((witPowerSequencing2).dev.pins.pwrGood = false) ∧
      ((witPowerSequencing2).dev.pins.input54 = true) := by decide
def witPowerSequencing3 : State := { dev := { pins := { standby := true, input54 := true, pwrEn := true }, boot := { bankA := [(1, { valid := true }), (2, { valid := true })] } } }
theorem wit_PowerSequencing_3 : ∃ (slow dead : List (Fin 96)) (badChans : List (Fin 16)) (bist : List (Fin 512)) (now : Time) (s : State),
      (s.dev.pins.standby = true) ∧
      (s.dev.pins.pwrEn = true) ∧
      (s.dev.pins.input54 = true) ∧
      (s.dev.boot.phase = 0) ∧
      ((({ s.dev.boot with activeB := s.dev.boot.nextB }).stageImage 1).isSome = true) ∧
      ((({ s.dev.boot with activeB := s.dev.boot.nextB }).stageImage 2).isSome = true) :=
  ⟨[], [], [], [], 0, witPowerSequencing3, by decide⟩
def witPowerSequencing4 : State := { dev := { pins := { standby := true, input54 := true, pwrEn := true } } }
theorem wit_PowerSequencing_4 : ∃ (slow dead : List (Fin 96)) (badChans : List (Fin 16)) (bist : List (Fin 512)) (now : Time) (s : State),
      (s.dev.pins.standby = true) ∧
      (s.dev.pins.pwrEn = true) ∧
      (s.dev.pins.input54 = true) ∧
      (s.dev.boot.phase = 0) ∧
      (({ s.dev.boot with activeB := s.dev.boot.nextB }).stageImage 1 = none) :=
  ⟨[], [], [], [], 0, witPowerSequencing4, by decide⟩
def witPowerSequencing5 : State := { dev := { pins := { pwrEn := true } } }
theorem wit_PowerSequencing_5 : ∃ (now : Time) (s : State),
      (s.dev.pins.pwrEn = true) :=
  ⟨0, witPowerSequencing5, by decide⟩
def witPowerSequencing6 : State := { dev := { pins := { pwrEn := true }, boot := { phase := 3 } } }
theorem wit_PowerSequencing_6 : ∃ (now : Time) (s : State),
      (s.dev.pins.pwrEn = true) ∧
      (s.dev.boot.phase = 3) :=
  ⟨0, witPowerSequencing6, by decide⟩
def witPowerSequencing7 : State := { dev := { pins := { standby := true } } }
theorem wit_PowerSequencing_7 : ∃ (now : Time) (s : State),
      (s.dev.pins.standby = true) ∧
      (s.dev.boot.phase = 0) :=
  ⟨0, witPowerSequencing7, by decide⟩
def witPowerSequencing8 : State := { dev := { pins := { standby := true } } }
theorem wit_PowerSequencing_8 : ∃ (now : Time) (s : State),
      (s.dev.pins.standby = true) ∧
      (s.dev.boot.phase = 0) ∧
      (s.dev.pins.overvolt = false) ∧
      (s.dev.pins.input54 = false) :=
  ⟨0, witPowerSequencing8, by decide⟩
def witPowerSequencing9 : State := { dev := { pins := { standby := true } } }
theorem wit_PowerSequencing_9 : ∃ (now : Time) (s : State),
      (s.dev.pins.standby = true) :=
  ⟨0, witPowerSequencing9, by decide⟩
def witPowerSequencing10 : State := { dev := { pins := { overvolt := true } } }
theorem wit_PowerSequencing_10 : ∃ (now : Time) (s : State),
      (s.dev.pins.overvolt = true) :=
  ⟨0, witPowerSequencing10, by decide⟩
def witProgramsEndAndBranch1 : State := runA { run := some {} }
theorem wit_ProgramsEndAndBranch_1 : ∃ (p : Prog) (r : Running) (now : Time) (s : State),
      ((s.dev.core p.core.val).commits = true) ∧
      ((s.dev.core p.core.val).run = some r) ∧
      ((s.dev.core p.core.val).tiq.any (·.committed) = false) ∧
      (((s.dev.afterProg p now).core p.core.val).sc.reg 17 = 0) ∧
      (r.queue < 65536) ∧
      (s.dev.goesOn p now) :=
  ⟨{ pc := 0x40000000 }, {}, 0, witProgramsEndAndBranch1, by decide, by decide, by decide, by decide, by decide, by unfold Dev.goesOn; decide +kernel⟩
def witProgramsEndAndBranch2 : State := runA { run := some {} }
theorem wit_ProgramsEndAndBranch_2 : ∃ (p : Prog) (mcause mtval : Word) (r : Running) (now : Time) (s : State),
      ((s.dev.core p.core.val).run = some r) ∧
      ((s.dev.core p.core.val).ending = none) ∧
      ((s.dev.core p.core.val).sc.wait = none) ∧
      ((s.dev.core p.core.val).tentative = 0) ∧
      ((s.dev.core p.core.val).tiq.any (·.committed) = false) ∧
      (r.queue < 65536) ∧
      (s.dev.goesOn p now) :=
  ⟨{ pc := 0x40000000 }, 0, 0, {}, 0, witProgramsEndAndBranch2, by decide, by decide, by decide, by decide, by decide, by decide, by unfold Dev.goesOn; decide +kernel⟩
def witProgramsEndAndBranch3 : State := runA { run := some {} }
theorem wit_ProgramsEndAndBranch_3 : ∃ (p : Prog) (young : Nat) (r : Running) (now : Time) (s : State),
      ((s.dev.core p.core.val).run = some r) ∧
      ((s.dev.core p.core.val).ending = none) ∧
      (s.dev.goesOn p now) :=
  ⟨{ pc := 0x40000000 }, 0, {}, 0, witProgramsEndAndBranch3, by decide, by decide, by unfold Dev.goesOn; decide +kernel⟩
def witProgramsEndAndBranch4 : State := runA { run := some {} }
theorem wit_ProgramsEndAndBranch_4 : ∃ (p : Prog) (predW : Bool) (now : Time) (s : State),
      ((s.dev.core p.core.val).commits = true) ∧
      ((s.dev.core p.core.val).sc.stores = []) ∧
      (s.dev.goesOn p now) :=
  ⟨{ pc := 0x40000000 }, false, 0, witProgramsEndAndBranch4, by decide, by decide, by unfold Dev.goesOn; decide +kernel⟩
def witScalarAccesses1 : State := runA { run := some {} }
theorem wit_ScalarAccesses_1 : ∃ (p : Prog) (w : MemWait) (errs : List EccEvent) (a : Nat) (d0 : Dev) (now : Time) (s : State),
      ((s.dev.core p.core.val).decodes = true) ∧
      ((s.dev.core p.core.val).sc.wait = none) ∧
      (lineVa w.va ∉ (s.dev.core p.core.val).sc.stores) ∧
      (errs.foldl Dev.ecc (s.dev.afterProg p now) = d0) ∧
      (d0.scalarTarget p.core.val { r := true } w.va w.size false false = .own a) ∧
      (d0.poisoned (a / 64) = false) ∧
      (w.toF = false) ∧
      (w.rd ≠ 0) ∧
      (s.dev.goesOn p now) :=
  ⟨{ pc := 0x40000000 }, { va := 0x8000000, rd := 5 }, [], 0x10000000000, _, 0, witScalarAccesses1, by decide, by decide, by decide, rfl, by decide, by decide, by decide, by decide, by unfold Dev.goesOn; decide +kernel⟩
def witScalarAccesses2 : State := runA { run := some {} }
theorem wit_ScalarAccesses_2 : ∃ (p : Prog) (va : Word) (size : Nat) (v : Word) (a : Nat) (now : Time) (s : State),
      ((s.dev.core p.core.val).commits = true) ∧
      (0 < size) ∧
      ((s.dev.afterProg p now).scalarTarget p.core.val { w := true } va.toNat size true false = .own a) ∧
      (s.dev.goesOn p now) :=
  ⟨{ pc := 0x40000000 }, 0x8000000, 8, 0, 0x10000000000, 0, witScalarAccesses2, by decide, by decide, by decide, by unfold Dev.goesOn; decide +kernel⟩
def witScalarAccesses3 : State := runA { run := some {} }
theorem wit_ScalarAccesses_3 : ∃ (p : Prog) (op : Fin 32) (wide : Bool) (va v : Word) (rd : Fin 32) (rl : Bool) (a : Nat) (now : Time) (s : State),
      ((s.dev.core p.core.val).commits = true) ∧
      ((s.dev.core p.core.val).sc.stores = []) ∧
      ((s.dev.afterProg p now).scalarTarget p.core.val { r := true, w := true } va.toNat (if wide then 8 else 4) true true = .own a) ∧
      ((s.dev.afterProg p now).poisoned (a / 64) = false) ∧
      (rd ≠ 0) ∧
      (s.dev.goesOn p now) :=
  ⟨{ pc := 0x40000000 }, 0, true, 0x8000000, 0, 5, false, 0x10000000000, 0, witScalarAccesses3, by decide, by decide, by decide, by decide, by decide, by unfold Dev.goesOn; decide +kernel⟩
def witScalarAccesses4 : State := runA { run := some {} }
theorem wit_ScalarAccesses_4 : ∃ (p : Prog) (wide : Bool) (va : Word) (rd : Fin 32) (a : Nat) (now : Time) (s : State),
      ((s.dev.core p.core.val).commits = true) ∧
      (lineVa va.toNat ∉ (s.dev.core p.core.val).sc.stores) ∧
      ((s.dev.afterProg p now).scalarTarget p.core.val { r := true } va.toNat (if wide then 8 else 4) false true = .own a) ∧
      ((s.dev.afterProg p now).poisoned (a / 64) = false) ∧
      (rd ≠ 0) ∧
      (s.dev.goesOn p now) :=
  ⟨{ pc := 0x40000000 }, true, 0x8000000, 5, 0x10000000000, 0, witScalarAccesses4, by decide, by decide, by decide, by decide, by decide, by unfold Dev.goesOn; decide +kernel⟩
def witScalarAccesses5 : State := runA { run := some {}, sc := { resv := some (false, 0x10000000000 / 64) } }
theorem wit_ScalarAccesses_5 : ∃ (p : Prog) (wide : Bool) (va v : Word) (rd : Fin 32) (a : Nat) (now : Time) (s : State),
      ((s.dev.core p.core.val).commits = true) ∧
      ((s.dev.afterProg p now).scalarTarget p.core.val { w := true } va.toNat (if wide then 8 else 4) true true = .own a) ∧
      ((s.dev.afterProg p now).poisoned (a / 64) = false) ∧
      (rd ≠ 0) ∧
      ((s.dev.core p.core.val).sc.resv = some (false, a / 64)) ∧
      (s.dev.goesOn p now) :=
  ⟨{ pc := 0x40000000 }, true, 0x8000000, 0, 5, 0x10000000000, 0, witScalarAccesses5, by decide, by decide, by decide, by decide, by decide, by unfold Dev.goesOn; decide +kernel⟩
def witScalarAccesses6 : State := runA { run := some {} }
theorem wit_ScalarAccesses_6 : ∃ (p : Prog) (wide : Bool) (va v : Word) (rd : Fin 32) (a : Nat) (now : Time) (s : State),
      ((s.dev.core p.core.val).commits = true) ∧
      ((s.dev.afterProg p now).scalarTarget p.core.val { w := true } va.toNat (if wide then 8 else 4) true true = .own a) ∧
      ((s.dev.afterProg p now).poisoned (a / 64) = false) ∧
      (rd ≠ 0) ∧
      ((s.dev.core p.core.val).sc.resv ≠ some (false, a / 64)) ∧
      (s.dev.goesOn p now) :=
  ⟨{ pc := 0x40000000 }, true, 0x8000000, 0, 5, 0x10000000000, 0, witScalarAccesses6, by decide, by decide, by decide, by decide, by decide, by unfold Dev.goesOn; decide +kernel⟩
def witTensorRegisterWrites1 : State := runA { run := some {} }
theorem wit_TensorRegisterWrites_1 : ∃ (p : Prog) (v : Word) (rd : Fin 32) (now : Time) (s : State),
      ((s.dev.core p.core.val).commits = true) ∧
      (rd ≠ 0) ∧
      (s.dev.goesOn p now) :=
  ⟨{ pc := 0x40000000 }, 0, 5, 0, witTensorRegisterWrites1, by decide, by decide, by unfold Dev.goesOn; decide +kernel⟩
def witTensorRegisterWrites2 : State := runA { run := some {} }
theorem wit_TensorRegisterWrites_2 : ∃ (p : Prog) (rd : Fin 32) (now : Time) (s : State),
      ((s.dev.core p.core.val).commits = true) ∧
      (s.dev.goesOn p now) :=
  ⟨{ pc := 0x40000000 }, 5, 0, witTensorRegisterWrites2, by decide, by unfold Dev.goesOn; decide +kernel⟩
def witTensorRegisterWrites3 : State := runA { run := some {} }
theorem wit_TensorRegisterWrites_3 : ∃ (p : Prog) (hi : Bool) (v : Word) (rd : Fin 32) (now : Time) (s : State),
      ((s.dev.core p.core.val).commits = true) ∧
      (s.dev.goesOn p now) :=
  ⟨{ pc := 0x40000000 }, false, 0, 5, 0, witTensorRegisterWrites3, by decide, by unfold Dev.goesOn; decide +kernel⟩
def witTensorRegisterWrites4 : State := runA { run := some {} }
theorem wit_TensorRegisterWrites_4 : ∃ (p : Prog) (v : Word) (rd : Fin 32) (now : Time) (s : State),
      ((s.dev.core p.core.val).commits = true) ∧
      (s.dev.goesOn p now) :=
  ⟨{ pc := 0x40000000 }, 0, 5, 0, witTensorRegisterWrites4, by decide, by unfold Dev.goesOn; decide +kernel⟩
def witTensorRegisterWrites5 : State := runA { run := some {} }
theorem wit_TensorRegisterWrites_5 : ∃ (p : Prog) (v : Word) (rd : Fin 32) (now : Time) (s : State),
      ((s.dev.core p.core.val).commits = true) ∧
      (s.dev.goesOn p now) :=
  ⟨{ pc := 0x40000000 }, 0, 5, 0, witTensorRegisterWrites5, by decide, by unfold Dev.goesOn; decide +kernel⟩
def witTensorRegisterWrites6 : State := runA { run := some {} }
theorem wit_TensorRegisterWrites_6 : ∃ (p : Prog) (v : Word) (rd : Fin 32) (now : Time) (s : State),
      ((s.dev.core p.core.val).commits = true) ∧
      (s.dev.goesOn p now) :=
  ⟨{ pc := 0x40000000 }, 0, 5, 0, witTensorRegisterWrites6, by decide, by unfold Dev.goesOn; decide +kernel⟩
def witIssueQueue1 : State := runA { run := some {} }
theorem wit_IssueQueue_1 : ∃ (p : Prog) (word : BitVec 32) (now : Time) (s : State),
      ((s.dev.core p.core.val).entersTiq word = true) ∧
      (s.dev.goesOn p now) :=
  ⟨{ pc := 0x40000000 }, 0, 0, witIssueQueue1, by decide, by unfold Dev.goesOn; decide +kernel⟩
def witIssueQueue2 : State := { dev := { devA with cores := [(0, { run := some {}, tiq := [{ id := 4, word := 0xA0100FDB, committed := true }] })] } }
theorem wit_IssueQueue_2 :
      (((witIssueQueue2).dev.core (0 : Fin 512).val).entry? (4 : Nat) = some ({ id := 4, word := 0xA0100FDB, committed := true } : TiqEntry)) ∧
      (((witIssueQueue2).dev.advance (0 : Time)).mayBegin (0 : Fin 512).val ({ id := 4, word := 0xA0100FDB, committed := true } : TiqEntry) = true) ∧
      (((witIssueQueue2).dev.advance (0 : Time)).checkEntry (0 : Fin 512).val ({ id := 4, word := 0xA0100FDB, committed := true } : TiqEntry) = none) := by decide
def witIssueQueue3 : State := { dev := { devA with cores := [(0, { run := some {}, tiq := [{ id := 4, word := 0x6100005B }] })] } }
theorem wit_IssueQueue_3 : ∃ (core : Fin 512) (e : TiqEntry) (ti : TInstr) (r : Running) (now : Time) (s : State),
      ((s.dev.core core.val).run = some r) ∧
      ((s.dev.core core.val).ending = none) ∧
      ((s.dev.core core.val).sc.wait = none) ∧
      ((s.dev.core core.val).tiq.find? (fun x => !x.committed) = some e) ∧
      (e.instr = some ti) ∧
      ((match ti with | .cset .. => false | _ => true) = true) ∧
      (e.done = none) ∧
      (e.recheck = false) ∧
      ((s.dev.core core.val).entry? e.id = some e) ∧
      (e.slotNo < 16) :=
  ⟨0, { id := 4, word := 0x6100005B }, .disarm 1, {}, 0, witIssueQueue3, by decide⟩
def witIssueQueue4 : State := { dev := { devA with cores := [(0, { run := some {}, tx := { owner := [(0, 4)] }, tiq := [{ id := 4, word := 0x6100005B, committed := true, done := some {} }] })] } }
theorem wit_IssueQueue_4 :
      (((witIssueQueue4).dev.core (0 : Fin 512).val).entry? (4 : Nat) = some ({ id := 4, word := 0x6100005B, committed := true, done := some {} } : TiqEntry)) ∧
      (({ id := 4, word := 0x6100005B, committed := true, done := some {} } : TiqEntry).committed = true) ∧
      (({ id := 4, word := 0x6100005B, committed := true, done := some {} } : TiqEntry).done = some ({} : Completion)) ∧
      (({} : Completion).cause = 0) ∧
      (({} : Completion).consumed = false) ∧
      (((witIssueQueue4).dev.core (0 : Fin 512).val).ending = none) ∧
      (({ id := 4, word := 0x6100005B, committed := true, done := some {} } : TiqEntry).slotNo < 16) ∧
      (((witIssueQueue4).dev.core (0 : Fin 512).val).tx.owner.find? ({ id := 4, word := 0x6100005B, committed := true, done := some {} } : TiqEntry).slotNo = some ({ id := 4, word := 0x6100005B, committed := true, done := some {} } : TiqEntry).id) := by decide
def witSynchronisationUnit1 : State := workA 0x51000FDB
theorem wit_SynchronisationUnit_1 :
      ((witSynchronisationUnit1).dev.atWork (0 : Fin 512).val (4 : Nat) ({ id := 4, word := 0x51000FDB, committed := true, begun := true } : TiqEntry) = true) ∧
      (({ id := 4, word := 0x51000FDB, committed := true, begun := true } : TiqEntry).instr = some (.arm (1 : Nat) (0 : Nat) (0 : Nat))) := by decide
def witSynchronisationUnit2 : State := { dev := { devA with cores := [(0, { coreA 0x61000FDB with arms := [(1, {})] })] } }
theorem wit_SynchronisationUnit_2 :
      ((witSynchronisationUnit2).dev.atWork (0 : Fin 512).val (4 : Nat) ({ id := 4, word := 0x61000FDB, committed := true, begun := true } : TiqEntry) = true) ∧
      (({ id := 4, word := 0x61000FDB, committed := true, begun := true } : TiqEntry).instr = some (.disarm (1 : Nat))) ∧
      (((witSynchronisationUnit2).dev.core (0 : Fin 512).val).arms.find? (1 : Nat) = some ({} : ArmRec)) ∧
      (({} : ArmRec).matched = ({} : ArmRec).completed) := by decide
def witSynchronisationUnit3 : State := workA 0x70000FDB
theorem wit_SynchronisationUnit_3 :
      ((witSynchronisationUnit3).dev.atWork (0 : Fin 512).val (4 : Nat) ({ id := 4, word := 0x70000FDB, committed := true, begun := true } : TiqEntry) = true) ∧
      (({ id := 4, word := 0x70000FDB, committed := true, begun := true } : TiqEntry).instr = some (.signal (0 : Nat) (0 : Nat) false)) ∧
      (({ id := 4, word := 0x70000FDB, committed := true, begun := true } : TiqEntry).waiting = []) ∧
      (((witSynchronisationUnit3).dev.core (0 : Fin 512).val).signalBefore (4 : Nat) = false) ∧
      ((SemHandle.ofWord ({ id := 4, word := 0x70000FDB, committed := true, begun := true } : TiqEntry).rs1v).module = (witSynchronisationUnit3).dev.id) := by decide
def witSynchronisationUnit4 : State := { dev := { devA with boot := { phase := 3, moduleId := 1 }, cores := [(0, coreA 0x70001FDB)] } }
theorem wit_SynchronisationUnit_4 :
      ((witSynchronisationUnit4).dev.atWork (0 : Fin 512).val (4 : Nat) ({ id := 4, word := 0x70001FDB, committed := true, begun := true } : TiqEntry) = true) ∧
      (({ id := 4, word := 0x70001FDB, committed := true, begun := true } : TiqEntry).instr = some (.signal (0 : Nat) (0 : Nat) true)) ∧
      (({ id := 4, word := 0x70001FDB, committed := true, begun := true } : TiqEntry).waiting = []) ∧
      (((witSynchronisationUnit4).dev.core (0 : Fin 512).val).signalBefore (4 : Nat) = false) ∧
      (((witSynchronisationUnit4).dev.core (0 : Fin 512).val).copyBefore (4 : Nat) = false) ∧
      ((SemHandle.ofWord ({ id := 4, word := 0x70001FDB, committed := true, begun := true } : TiqEntry).rs1v).module ≠ (witSynchronisationUnit4).dev.id) := by decide
def witSynchronisationUnit5 : State := { dev := { devA with cores := [(0, { coreA 0 with tiq := [{ id := 4, word := 0x80000FDB, committed := true, begun := true, rs1v := 0x100000 }] })], mem := { devA.mem with mem := Memory.write devA.mem.mem (semSlot 0 + 8) [5, 0, 1, 1] } } }
theorem wit_SynchronisationUnit_5 :
      ((witSynchronisationUnit5).dev.atWork (0 : Fin 512).val (4 : Nat) ({ id := 4, word := 0x80000FDB, committed := true, begun := true, rs1v := 0x100000 } : TiqEntry) = true) ∧
      (({ id := 4, word := 0x80000FDB, committed := true, begun := true, rs1v := 0x100000 } : TiqEntry).instr = some (.wait (0 : Nat) (0 : Nat) false)) ∧
      ((SemHandle.ofWord ({ id := 4, word := 0x80000FDB, committed := true, begun := true, rs1v := 0x100000 } : TiqEntry).rs1v).module = (witSynchronisationUnit5).dev.id) ∧
      ((witSynchronisationUnit5).dev.semCheck (SemHandle.ofWord ({ id := 4, word := 0x80000FDB, committed := true, begun := true, rs1v := 0x100000 } : TiqEntry).rs1v) (((witSynchronisationUnit5).dev.advance (0 : Time)).keyOf (0 : Fin 512).val) = 0) ∧
      (({ id := 4, word := 0x80000FDB, committed := true, begun := true, rs1v := 0x100000 } : TiqEntry).rs2v.toNat ≤ ((witSynchronisationUnit5).dev.semValue (SemHandle.ofWord ({ id := 4, word := 0x80000FDB, committed := true, begun := true, rs1v := 0x100000 } : TiqEntry).rs1v).sem).toNat) ∧
      ((witSynchronisationUnit5).dev.coh.waits = []) := by decide
def witSynchronisationUnit6 : State := { dev := { devA with cores := [(0, { coreA 0 with tiq := [{ id := 4, word := 0x80001FDB, committed := true, begun := true, rs1v := 0x100000 }] })], mem := { devA.mem with mem := Memory.write devA.mem.mem (semSlot 0 + 8) [5, 0, 1, 1] } } }
theorem wit_SynchronisationUnit_6 :
      ((witSynchronisationUnit6).dev.atWork (0 : Fin 512).val (4 : Nat) ({ id := 4, word := 0x80001FDB, committed := true, begun := true, rs1v := 0x100000 } : TiqEntry) = true) ∧
      (({ id := 4, word := 0x80001FDB, committed := true, begun := true, rs1v := 0x100000 } : TiqEntry).instr = some (.wait (0 : Nat) (0 : Nat) true)) ∧
      ((SemHandle.ofWord ({ id := 4, word := 0x80001FDB, committed := true, begun := true, rs1v := 0x100000 } : TiqEntry).rs1v).module = (witSynchronisationUnit6).dev.id) ∧
      ((witSynchronisationUnit6).dev.semCheck (SemHandle.ofWord ({ id := 4, word := 0x80001FDB, committed := true, begun := true, rs1v := 0x100000 } : TiqEntry).rs1v) (((witSynchronisationUnit6).dev.advance (0 : Time)).keyOf (0 : Fin 512).val) = 0) ∧
      (({ id := 4, word := 0x80001FDB, committed := true, begun := true, rs1v := 0x100000 } : TiqEntry).rs2v.toNat ≤ ((witSynchronisationUnit6).dev.semValue (SemHandle.ofWord ({ id := 4, word := 0x80001FDB, committed := true, begun := true, rs1v := 0x100000 } : TiqEntry).rs1v).sem).toNat) ∧
      ((witSynchronisationUnit6).dev.coh.waits = []) ∧
      ((witSynchronisationUnit6).dev.lineLost (semSlot (SemHandle.ofWord ({ id := 4, word := 0x80001FDB, committed := true, begun := true, rs1v := 0x100000 } : TiqEntry).rs1v).sem / 64) = false) := by decide
def witSynchronisationUnit7 : State := { dev := { devA with coh := { waits := [{ sem := 3 }] } } }
theorem wit_SynchronisationUnit_7 :
      ((witSynchronisationUnit7).dev.coh.waits = [({ sem := 3 } : PendingWait)]) ∧
      (({ sem := 3 } : PendingWait).sem = (3 : Nat)) ∧
      (({ sem := 3 } : PendingWait).consume = false) ∧
      (({ sem := 3 } : PendingWait).threshold.toNat ≤ ((witSynchronisationUnit7).dev.semValue (3 : Nat)).toNat) := by decide
def witFlushClaspDigestAndCopies1 : State := workA 0x90000FDB
theorem wit_FlushClaspDigestAndCopies_1 :
      ((witFlushClaspDigestAndCopies1).dev.atWork (0 : Fin 512).val (4 : Nat) ({ id := 4, word := 0x90000FDB, committed := true, begun := true } : TiqEntry) = true) ∧
      (({ id := 4, word := 0x90000FDB, committed := true, begun := true } : TiqEntry).instr = some (.rflush (0 : Nat) (0 : Nat))) ∧
      (({ id := 4, word := 0x90000FDB, committed := true, begun := true } : TiqEntry).rs2v = 0) := by decide
def witFlushClaspDigestAndCopies2 : State := { dev := { devA with mem := { devA.mem with egress := [{ pkey := 5 }] }, cores := [(0, { coreA 0 with tiq := [{ id := 4, word := 0x90000FDB, committed := true, begun := true, rs2v := 64 }] })] } }
theorem wit_FlushClaspDigestAndCopies_2 :
      ((witFlushClaspDigestAndCopies2).dev.atWork (0 : Fin 512).val (4 : Nat) ({ id := 4, word := 0x90000FDB, committed := true, begun := true, rs2v := 64 } : TiqEntry) = true) ∧
      (({ id := 4, word := 0x90000FDB, committed := true, begun := true, rs2v := 64 } : TiqEntry).instr = some (.rflush (0 : Nat) (0 : Nat))) ∧
      (({ id := 4, word := 0x90000FDB, committed := true, begun := true, rs2v := 64 } : TiqEntry).rs2v ≠ 0) ∧
      (({ id := 4, word := 0x90000FDB, committed := true, begun := true, rs2v := 64 } : TiqEntry).waiting = []) ∧
      (((witFlushClaspDigestAndCopies2).dev.core (0 : Fin 512).val).copiesInto (4 : Nat) ({ id := 4, word := 0x90000FDB, committed := true, begun := true, rs2v := 64 } : TiqEntry).rs1v.toNat ({ id := 4, word := 0x90000FDB, committed := true, begun := true, rs2v := 64 } : TiqEntry).rs2v.toNat = false) ∧
      (({ pkey := 5 } : EgressLine) ∈ (witFlushClaspDigestAndCopies2).dev.mem.egress) ∧
      (({ pkey := 5 } : EgressLine).pkey = ((witFlushClaspDigestAndCopies2).dev.advance (0 : Time)).keyOf (0 : Fin 512).val) ∧
      (overlap ({ pkey := 5 } : EgressLine).va 64 ({ id := 4, word := 0x90000FDB, committed := true, begun := true, rs2v := 64 } : TiqEntry).rs1v.toNat ({ id := 4, word := 0x90000FDB, committed := true, begun := true, rs2v := 64 } : TiqEntry).rs2v.toNat = true) := by decide
def witFlushClaspDigestAndCopies3 : State := workA 0xA0100FDB
theorem wit_FlushClaspDigestAndCopies_3 :
      ((witFlushClaspDigestAndCopies3).dev.atWork (0 : Fin 512).val (4 : Nat) ({ id := 4, word := 0xA0100FDB, committed := true, begun := true } : TiqEntry) = true) ∧
      (({ id := 4, word := 0xA0100FDB, committed := true, begun := true } : TiqEntry).instr = some (.clasp (1 : Nat) (false : Bool))) ∧
      ((((witFlushClaspDigestAndCopies3).dev.core (0 : Fin 512).val).older (4 : Nat)).any (fun o => o.unit ≠ .none && (1 : Nat) / 2 ^ o.unit.code % 2 = 1) = false) ∧
      (((false : Bool) = true → ((witFlushClaspDigestAndCopies3).dev.core (0 : Fin 512).val).sc.stores = [])) := by decide
def witFlushClaspDigestAndCopies4 : State := { dev := { devA with cores := [(0, { coreA 0 with tiq := [{ id := 4, word := 0xB0000FDB, committed := true, begun := true, td := [(0, 4 * 2 ^ 104)] }] })] } }
theorem wit_FlushClaspDigestAndCopies_4 : ∃ (core : Fin 512) (id : Nat) (errs : List EccEvent) (e : TiqEntry) (td rs n : Nat) (ms : KMap BeadVal) (d0 d1 : Dev) (now : Time) (s : State),
      ((s.dev.advance now).eccHeld core.val id errs = d0) ∧
      (d0.atWork core.val id e = true) ∧
      (e.instr = some (.digest td rs false n)) ∧
      (d0.mayRead core.val e = true) ∧
      (d0.mayWrite core.val e = true) ∧
      (d0.readBeads (d0.who core.val) (e.desc td) (e.desc td).copyBeads [] = (d1, .ok ms)) :=
  ⟨0, 4, [], { id := 4, word := 0xB0000FDB, committed := true, begun := true, td := [(0, 4 * 2 ^ 104)] }, 0, 0, 0, _, _, _, 0, witFlushClaspDigestAndCopies4, rfl, by decide, by decide, by decide, by decide, eq_ok_pair (by decide +kernel)⟩
def witFlushClaspDigestAndCopies5 : State := { dev := { devA with cores := [(0, { coreA 0 with tiq := [{ id := 4, word := 0xB8000FDB, committed := true, begun := true, td := [(0, 4 * 2 ^ 104)] }] })] } }
theorem wit_FlushClaspDigestAndCopies_5 : ∃ (core : Fin 512) (id : Nat) (errs : List EccEvent) (e : TiqEntry) (td rs n : Nat) (ms : KMap BeadVal) (d0 d1 : Dev) (now : Time) (s : State),
      ((s.dev.advance now).eccHeld core.val id errs = d0) ∧
      (d0.atWork core.val id e = true) ∧
      (e.instr = some (.digest td rs true n)) ∧
      (d0.mayRead core.val e = true) ∧
      (d0.mayWrite core.val e = true) ∧
      (d0.readBeads (d0.who core.val) (e.desc td) (e.desc td).copyBeads [] = (d1, .ok ms)) ∧
      ((seeAll e.reads ms).poison = false) :=
  ⟨0, 4, [], { id := 4, word := 0xB8000FDB, committed := true, begun := true, td := [(0, 4 * 2 ^ 104)] }, 0, 0, 0, _, _, _, 0, witFlushClaspDigestAndCopies5, rfl, by decide, by decide, by decide, by decide, eq_ok_pair (by decide +kernel), by decide +kernel⟩
def witFlushClaspDigestAndCopies6 : State := workA 0xC0000FDB
theorem wit_FlushClaspDigestAndCopies_6 :
      (((witFlushClaspDigestAndCopies6).dev.core (0 : Fin 512).val).entry? (4 : Nat) = some ({ id := 4, word := 0xC0000FDB, committed := true, begun := true } : TiqEntry)) ∧
      (({ id := 4, word := 0xC0000FDB, committed := true, begun := true } : TiqEntry).instr = some (.cset (0 : Nat) (0 : Nat))) ∧
      (({ id := 4, word := 0xC0000FDB, committed := true, begun := true } : TiqEntry).committed = true) ∧
      (({ id := 4, word := 0xC0000FDB, committed := true, begun := true } : TiqEntry).done = none) := by decide
def witFlushClaspDigestAndCopies7 : State := { dev := { devA with cores := [(0, { coreA 0 with tiq := [{ id := 4, word := 0x00000FDB, committed := true, begun := true }] })] } }
theorem wit_FlushClaspDigestAndCopies_7 : ∃ (core : Fin 512) (id : Nat) (errs : List EccEvent) (e : TiqEntry) (x y : Nat) (ms : KMap BeadVal) (d0 d1 d2 : Dev) (cause : Cause) (now : Time) (s : State),
      ((s.dev.advance now).eccHeld core.val id errs = d0) ∧
      (d0.atWork core.val id e = true) ∧
      (e.instr = some (.tload x y)) ∧
      (d0.mayRead core.val e = true) ∧
      (d0.mayWrite core.val e = true) ∧
      (d0.readSource (d0.who core.val) (e.desc y) ((e.staged.getD {}).beads.headD []) none = (d1, .ok ms)) ∧
      (d1.putCopy (d0.who core.val) (e.desc y) (e.desc x) ms = (d2, cause)) :=
  ⟨0, 4, [], { id := 4, word := 0x00000FDB, committed := true, begun := true }, 0, 0, _, _, _, _, _, 0, witFlushClaspDigestAndCopies7, rfl, by decide, by decide, by decide, by decide, eq_ok_pair (by decide +kernel), rfl⟩
def witFlushClaspDigestAndCopies8 : State := { dev := { devA with cores := [(0, { coreA 0 with tiq := [{ id := 4, word := 0x10000FDB, committed := true, begun := true }] })] } }
theorem wit_FlushClaspDigestAndCopies_8 : ∃ (core : Fin 512) (id : Nat) (errs : List EccEvent) (e : TiqEntry) (x y : Nat) (ms : KMap BeadVal) (d0 d1 d2 : Dev) (cause : Cause) (now : Time) (s : State),
      ((s.dev.advance now).eccHeld core.val id errs = d0) ∧
      (d0.atWork core.val id e = true) ∧
      (e.instr = some (.tstore x y)) ∧
      (d0.mayRead core.val e = true) ∧
      (d0.mayWrite core.val e = true) ∧
      (d0.readSource (d0.who core.val) (e.desc y) ((e.staged.getD {}).beads.headD []) none = (d1, .ok ms)) ∧
      (d1.putCopy (d0.who core.val) (e.desc y) (e.desc x) ms = (d2, cause)) :=
  ⟨0, 4, [], { id := 4, word := 0x10000FDB, committed := true, begun := true }, 0, 0, _, _, _, _, _, 0, witFlushClaspDigestAndCopies8, rfl, by decide, by decide, by decide, by decide, eq_ok_pair (by decide +kernel), rfl⟩
def witFlushClaspDigestAndCopies9 : State := { dev := { devA with cores := [(0, { coreA 0 with tiq := [{ id := 4, word := 0x20000FDB, committed := true, begun := true }] })] } }
theorem wit_FlushClaspDigestAndCopies_9 : ∃ (core : Fin 512) (id : Nat) (errs : List EccEvent) (e : TiqEntry) (x y : Nat) (ms : KMap BeadVal) (d0 d1 d2 : Dev) (cause : Cause) (now : Time) (s : State),
      ((s.dev.advance now).eccHeld core.val id errs = d0) ∧
      (d0.atWork core.val id e = true) ∧
      (e.instr = some (.tmove x y)) ∧
      (d0.mayRead core.val e = true) ∧
      (d0.mayWrite core.val e = true) ∧
      (d0.readSource (d0.who core.val) (e.desc y) ((e.staged.getD {}).beads.headD []) none = (d1, .ok ms)) ∧
      (d1.putCopy (d0.who core.val) (e.desc y) (e.desc x) ms = (d2, cause)) :=
  ⟨0, 4, [], { id := 4, word := 0x20000FDB, committed := true, begun := true }, 0, 0, _, _, _, _, _, 0, witFlushClaspDigestAndCopies9, rfl, by decide, by decide, by decide, by decide, eq_ok_pair (by decide +kernel), rfl⟩
def witMatrixEngine1 : State := { dev := { devA with cores := [(0, { coreA 0 with tiq := [{ id := 4, word := 0x00000FFB, committed := true, begun := true }] })] } }
theorem wit_MatrixEngine_1 :
      ((witMatrixEngine1).dev.atWork (0 : Fin 512).val (4 : Nat) ({ id := 4, word := 0x00000FFB, committed := true, begun := true } : TiqEntry) = true) ∧
      (({ id := 4, word := 0x00000FFB, committed := true, begun := true } : TiqEntry).mma? = some ((TiqEntry.mma? { id := 4, word := 0x00000FFB, committed := true, begun := true }).get rfl : Mma)) ∧
      (((TiqEntry.mma? { id := 4, word := 0x00000FFB, committed := true, begun := true }).get rfl : Mma).mode = 0) ∧
      (({ id := 4, word := 0x00000FFB, committed := true, begun := true } : TiqEntry).groups = ((TiqEntry.mma? { id := 4, word := 0x00000FFB, committed := true, begun := true }).get rfl : Mma).count) := by refine ⟨by decide, rfl, by decide, by decide⟩
def witMatrixEngine2 : State := { dev := { devA with cores := [(0, { coreA 0 with tiq := [{ id := 4, word := 0x10000FFB, committed := true, begun := true }] })] } }
theorem wit_MatrixEngine_2 :
      ((witMatrixEngine2).dev.atWork (0 : Fin 512).val (4 : Nat) ({ id := 4, word := 0x10000FFB, committed := true, begun := true } : TiqEntry) = true) ∧
      (({ id := 4, word := 0x10000FFB, committed := true, begun := true } : TiqEntry).mma? = some ((TiqEntry.mma? { id := 4, word := 0x10000FFB, committed := true, begun := true }).get rfl : Mma)) ∧
      (((TiqEntry.mma? { id := 4, word := 0x10000FFB, committed := true, begun := true }).get rfl : Mma).mode = 1) ∧
      (({ id := 4, word := 0x10000FFB, committed := true, begun := true } : TiqEntry).groups = ((TiqEntry.mma? { id := 4, word := 0x10000FFB, committed := true, begun := true }).get rfl : Mma).count) := by refine ⟨by decide, rfl, by decide, by decide⟩
def witMatrixEngine3 : State := { dev := { devA with cores := [(0, { coreA 0 with tiq := [{ id := 4, word := 0x20000FFB, committed := true, begun := true }] })] } }
theorem wit_MatrixEngine_3 :
      ((witMatrixEngine3).dev.atWork (0 : Fin 512).val (4 : Nat) ({ id := 4, word := 0x20000FFB, committed := true, begun := true } : TiqEntry) = true) ∧
      (({ id := 4, word := 0x20000FFB, committed := true, begun := true } : TiqEntry).mma? = some ((TiqEntry.mma? { id := 4, word := 0x20000FFB, committed := true, begun := true }).get rfl : Mma)) ∧
      (((TiqEntry.mma? { id := 4, word := 0x20000FFB, committed := true, begun := true }).get rfl : Mma).mode = 2) ∧
      (({ id := 4, word := 0x20000FFB, committed := true, begun := true } : TiqEntry).groups = ((TiqEntry.mma? { id := 4, word := 0x20000FFB, committed := true, begun := true }).get rfl : Mma).count) ∧
      (({ id := 4, word := 0x20000FFB, committed := true, begun := true } : TiqEntry).closing = false) ∧
      ((((witMatrixEngine3).dev.core (0 : Fin 512).val).tiq.filter (fun o => o.closing && o.done.isNone)).length < 2) := by refine ⟨by decide, rfl, by decide, by decide, by decide, by decide⟩
def witMatrixEngine4 : State := { dev := { devA with cores := [(0, { coreA 0 with tiq := [{ id := 4, word := 0x30000FFB, committed := true, begun := true }] })] } }
theorem wit_MatrixEngine_4 :
      ((witMatrixEngine4).dev.atWork (0 : Fin 512).val (4 : Nat) ({ id := 4, word := 0x30000FFB, committed := true, begun := true } : TiqEntry) = true) ∧
      (({ id := 4, word := 0x30000FFB, committed := true, begun := true } : TiqEntry).mma? = some ((TiqEntry.mma? { id := 4, word := 0x30000FFB, committed := true, begun := true }).get rfl : Mma)) ∧
      (((TiqEntry.mma? { id := 4, word := 0x30000FFB, committed := true, begun := true }).get rfl : Mma).mode = 3) ∧
      (({ id := 4, word := 0x30000FFB, committed := true, begun := true } : TiqEntry).groups = ((TiqEntry.mma? { id := 4, word := 0x30000FFB, committed := true, begun := true }).get rfl : Mma).count) ∧
      (({ id := 4, word := 0x30000FFB, committed := true, begun := true } : TiqEntry).closing = false) ∧
      ((((witMatrixEngine4).dev.core (0 : Fin 512).val).tiq.filter (fun o => o.closing && o.done.isNone)).length < 2) := by refine ⟨by decide, rfl, by decide, by decide, by decide, by decide⟩
def witMatrixEngine5 : State := { dev := { devA with cores := [(0, { coreA 0 with tiq := [{ id := 4, word := 0x00000FFB, committed := true, begun := true, td := [(0, 63 * 2 ^ 57)] }] })] } }
theorem wit_MatrixEngine_5 : ∃ (core : Fin 512) (id : Nat) (errs : List EccEvent) (e : TiqEntry) (u : Mma) (ms : List (KMap BeadVal)) (d0 d1 : Dev) (now : Time) (s : State),
      ((s.dev.advance now).eccHeld core.val id errs = d0) ∧
      ((d0.core core.val).entry? id = some e) ∧
      (e.mma? = some u) ∧
      (e.begun = true) ∧
      (e.done = none) ∧
      (e.groups < u.count) ∧
      (d0.groupReady core.val u e.groups = true) ∧
      (d0.mayRead core.val e = true) ∧
      (d0.readAll (d0.who core.val) (u.groupReads e.groups) = (d1, .ok ms)) :=
  ⟨0, 4, [], { id := 4, word := 0x00000FFB, committed := true, begun := true, td := [(0, 63 * 2 ^ 57)] }, _, _, _, _, 0, witMatrixEngine5, rfl, by decide, rfl, by decide, by decide, by decide, by decide, by decide, eq_ok_pair (by decide +kernel)⟩
def witMatrixEngine6 : State := { dev := { devA with cores := [(0, { coreA 0 with tiq := [{ id := 4, word := 0x20000FFB, committed := true, begun := true, closing := true }] })] } }
theorem wit_MatrixEngine_6 : ∃ (core : Fin 512) (errs : List EccEvent) (x e : TiqEntry) (u : Mma) (d0 : Dev) (now : Time) (s : State),
      ((s.dev.core core.val).tiq.find? (fun x => x.closing && x.done.isNone) = some x) ∧
      ((s.dev.advance now).eccHeld core.val x.id errs = d0) ∧
      ((d0.core core.val).entry? x.id = some e) ∧
      (e.mma? = some u) ∧
      (e.committed = true) ∧
      (d0.closeReady core.val e u = true) :=
  ⟨0, [], { id := 4, word := 0x20000FFB, committed := true, begun := true, closing := true }, { id := 4, word := 0x20000FFB, committed := true, begun := true, closing := true }, _, _, 0, witMatrixEngine6, by decide, rfl, by decide, rfl, by decide, by decide⟩
def witMatrixEngine7 : State := { dev := { devA with time := ms 30, cores := [(0, { coreA 0 with tiq := [{ id := 4, word := 0x00000FFB, committed := true, begun := true, td := [(0, 63 * 2 ^ 57 + 2 ^ 103 + 0x4000000)] }], arms := [(1, { pos := [0x20000000000], stride := 8256 })] })] } }
theorem wit_MatrixEngine_7 : ∃ (core : Fin 512) (id : Nat) (e : TiqEntry) (u : Mma) (now : Time) (s : State),
      ((s.dev.core core.val).entry? id = some e) ∧
      (e.mma? = some u) ∧
      (e.begun = true) ∧
      (e.done = none) ∧
      (e.closing = false) ∧
      ((u.a.armed || u.b.armed) = true) ∧
      (e.groups < u.count) ∧
      ((s.dev.advance now).groupReady core.val u e.groups = false) ∧
      (e.committed = true) ∧
      (reached (s.dev.advance now).time ((s.dev.advance now).readySince core.val e u) ((s.dev.advance now).arrivalStay core.val) = true) :=
  ⟨0, 4, { id := 4, word := 0x00000FFB, committed := true, begun := true, td := [(0, 63 * 2 ^ 57 + 2 ^ 103 + 0x4000000)] }, _, 0, witMatrixEngine7, by decide, rfl, by decide, by decide, by decide, by decide, by decide, by decide, by decide, by decide⟩
def witMatrixEngine8 : State := { dev := { devA with cores := [(0, { arms := [(1, { pos := [0x20000000000], stride := 2 })] })] } }
theorem wit_MatrixEngine_8 :
      ((witMatrixEngine8).dev.armedAt (0x20000000000 : Nat) = some ((0 : Nat), (1 : Nat), (0 : Nat))) ∧
      (([1, 2] : List Byte).length = (((witMatrixEngine8).dev.core (0 : Nat)).arms.get {} (1 : Nat)).stride) ∧
      ((witMatrixEngine8).dev.inReset (0 : Nat) = false) ∧
      (((Sideband.ofWord (0 : BitVec 64)).chkValid = true → (Sideband.ofWord (0 : BitVec 64)).tag = (((witMatrixEngine8).dev.core (0 : Nat)).arms.get {} (1 : Nat)).tag)) ∧
      ((0 : Nat) ∉ (((witMatrixEngine8).dev.core (0 : Nat)).arms.get {} (1 : Nat)).landed) := by decide
def witVectorEngine1 : State := { dev := { devA with cores := [(0, { coreA 0 with tiq := [{ id := 4, word := 0x80000FFB, committed := true, begun := true, beads := 9 }] })] } }
theorem wit_VectorEngine_1 : ∃ (core : Fin 512) (id : Nat) (e e' : TiqEntry) (u : VRun) (k : Nat) (d' : Dev) (cause : Cause) (tcsx : Word) (now : Time) (s : State),
      (s.dev.atWork core.val id e = true) ∧
      (e.vop? = some (.run u)) ∧
      (Dev.vReaches core.val id (.run u) k (s.dev.advance now) d') ∧
      (k < (VOp.run u).bound) ∧
      ((d'.core core.val).entry? id = some e') ∧
      (e'.committed = true) ∧
      (e'.done = none) ∧
      (d'.vNext core.val e' (.run u) = .stop cause tcsx none) ∧
      (d'.mayRead core.val e' = true) ∧
      (d'.mayWrite core.val e' = true) :=
  ⟨0, 4, { id := 4, word := 0x80000FFB, committed := true, begun := true, beads := 9 }, { id := 4, word := 0x80000FFB, committed := true, begun := true, beads := 9 }, _, 0, _, 0, 0, 0, witVectorEngine1, by decide, rfl, rfl, by decide +kernel, by decide, by decide, by decide, rfl, by decide, by decide⟩
def witVectorEngine2 : State := { dev := { devA with cores := [(0, { coreA 0 with tiq := [{ id := 4, word := 0x90000FFB, committed := true, begun := true, beads := 9 }] })] } }
theorem wit_VectorEngine_2 : ∃ (core : Fin 512) (id : Nat) (e e' : TiqEntry) (u : VPack) (k : Nat) (d' : Dev) (cause : Cause) (tcsx : Word) (now : Time) (s : State),
      (s.dev.atWork core.val id e = true) ∧
      (e.vop? = some (.pack u)) ∧
      (u.expand = false) ∧
      (u.alt = false) ∧
      (Dev.vReaches core.val id (.pack u) k (s.dev.advance now) d') ∧
      (k < (VOp.pack u).bound) ∧
      ((d'.core core.val).entry? id = some e') ∧
      (e'.committed = true) ∧
      (e'.done = none) ∧
      (d'.vNext core.val e' (.pack u) = .stop cause tcsx none) ∧
      (d'.mayRead core.val e' = true) ∧
      (d'.mayWrite core.val e' = true) :=
  ⟨0, 4, { id := 4, word := 0x90000FFB, committed := true, begun := true, beads := 9 }, { id := 4, word := 0x90000FFB, committed := true, begun := true, beads := 9 }, _, 0, _, 0, 0, 0, witVectorEngine2, by decide, rfl, by decide, by decide, rfl, by decide +kernel, by decide, by decide, by decide, by decide +kernel, by decide, by decide⟩
def witVectorEngine3 : State := { dev := { devA with cores := [(0, { coreA 0 with tiq := [{ id := 4, word := 0x90000FFB, committed := true, begun := true, rs1v := 0x10000, hdr := some (0, 1), beads := 9 }] })] } }
theorem wit_VectorEngine_3 : ∃ (core : Fin 512) (id : Nat) (e e' : TiqEntry) (u : VPack) (k : Nat) (d' : Dev) (cause : Cause) (tcsx : Word) (now : Time) (s : State),
      (s.dev.atWork core.val id e = true) ∧
      (e.vop? = some (.pack u)) ∧
      (u.expand = false) ∧
      (u.alt = true) ∧
      (Dev.vReaches core.val id (.pack u) k (s.dev.advance now) d') ∧
      (k < (VOp.pack u).bound) ∧
      ((d'.core core.val).entry? id = some e') ∧
      (e'.committed = true) ∧
      (e'.done = none) ∧
      (d'.vNext core.val e' (.pack u) = .stop cause tcsx none) ∧
      (d'.mayRead core.val e' = true) ∧
      (d'.mayWrite core.val e' = true) :=
  ⟨0, 4, { id := 4, word := 0x90000FFB, committed := true, begun := true, rs1v := 0x10000, hdr := some (0, 1), beads := 9 }, { id := 4, word := 0x90000FFB, committed := true, begun := true, rs1v := 0x10000, hdr := some (0, 1), beads := 9 }, _, 0, _, 0, 0, 0, witVectorEngine3, by decide, rfl, by decide, by decide, rfl, by decide +kernel, by decide, by decide, by decide, by decide +kernel, by decide, by decide⟩
def witVectorEngine4 : State := { dev := { devA with cores := [(0, { coreA 0 with tiq := [{ id := 4, word := 0xA0000FFB, committed := true, begun := true, hdr := some (0, 1), beads := 9 }] })] } }
theorem wit_VectorEngine_4 : ∃ (core : Fin 512) (id : Nat) (e e' : TiqEntry) (u : VPack) (k : Nat) (d' : Dev) (cause : Cause) (tcsx : Word) (now : Time) (s : State),
      (s.dev.atWork core.val id e = true) ∧
      (e.vop? = some (.pack u)) ∧
      (u.expand = true) ∧
      (u.alt = false) ∧
      (Dev.vReaches core.val id (.pack u) k (s.dev.advance now) d') ∧
      (k < (VOp.pack u).bound) ∧
      ((d'.core core.val).entry? id = some e') ∧
      (e'.committed = true) ∧
      (e'.done = none) ∧
      (d'.vNext core.val e' (.pack u) = .stop cause tcsx none) ∧
      (d'.mayRead core.val e' = true) ∧
      (d'.mayWrite core.val e' = true) :=
  ⟨0, 4, { id := 4, word := 0xA0000FFB, committed := true, begun := true, hdr := some (0, 1), beads := 9 }, { id := 4, word := 0xA0000FFB, committed := true, begun := true, hdr := some (0, 1), beads := 9 }, _, 0, _, 0, 0, 0, witVectorEngine4, by decide, rfl, by decide, by decide, rfl, by decide +kernel, by decide, by decide, by decide, by decide +kernel, by decide, by decide⟩
def witVectorEngine5 : State := { dev := { devA with cores := [(0, { coreA 0 with tiq := [{ id := 4, word := 0xA0000FFB, committed := true, begun := true, rs1v := 0x10000, hdr := some (0, 1), beads := 9 }] })] } }
theorem wit_VectorEngine_5 : ∃ (core : Fin 512) (id : Nat) (e e' : TiqEntry) (u : VPack) (k : Nat) (d' : Dev) (cause : Cause) (tcsx : Word) (now : Time) (s : State),
      (s.dev.atWork core.val id e = true) ∧
      (e.vop? = some (.pack u)) ∧
      (u.expand = true) ∧
      (u.alt = true) ∧
      (Dev.vReaches core.val id (.pack u) k (s.dev.advance now) d') ∧
      (k < (VOp.pack u).bound) ∧
      ((d'.core core.val).entry? id = some e') ∧
      (e'.committed = true) ∧
      (e'.done = none) ∧
      (d'.vNext core.val e' (.pack u) = .stop cause tcsx none) ∧
      (d'.mayRead core.val e' = true) ∧
      (d'.mayWrite core.val e' = true) :=
  ⟨0, 4, { id := 4, word := 0xA0000FFB, committed := true, begun := true, rs1v := 0x10000, hdr := some (0, 1), beads := 9 }, { id := 4, word := 0xA0000FFB, committed := true, begun := true, rs1v := 0x10000, hdr := some (0, 1), beads := 9 }, _, 0, _, 0, 0, 0, witVectorEngine5, by decide, rfl, by decide, by decide, rfl, by decide +kernel, by decide, by decide, by decide, by decide +kernel, by decide, by decide⟩
def witVectorEngine6 : State := { dev := { devA with cores := [(0, { coreA 0 with tiq := [{ id := 4, word := 0x80000FFB, committed := true, begun := true, chain := 2 ^ 20, hdr := some (0, 0) }] })] } }
theorem wit_VectorEngine_6 : ∃ (core : Fin 512) (id : Nat) (e e' : TiqEntry) (u : VRun) (k : Nat) (d' : Dev) (cause : Cause) (tcsx : Word) (f : Finding) (now : Time) (s : State),
      (s.dev.atWork core.val id e = true) ∧
      (e.vop? = some (.run u)) ∧
      (Dev.vReaches core.val id (.run u) k (s.dev.advance now) d') ∧
      (k < (VOp.run u).bound) ∧
      ((d'.core core.val).entry? id = some e') ∧
      (e'.committed = true) ∧
      (e'.done = none) ∧
      (d'.vNext core.val e' (.run u) = .stop cause tcsx (some f)) ∧
      (d'.mayRead core.val e' = true) ∧
      (d'.mayWrite core.val e' = true) :=
  ⟨0, 4, { id := 4, word := 0x80000FFB, committed := true, begun := true, chain := 2 ^ 20, hdr := some (0, 0) }, { id := 4, word := 0x80000FFB, committed := true, begun := true, chain := 2 ^ 20, hdr := some (0, 0) }, _, 0, _, 0, 0, {}, 0, witVectorEngine6, by decide, rfl, rfl, by decide +kernel, by decide, by decide, by decide, rfl, by decide, by decide⟩
def witVectorEngine7 : State := { dev := { devA with cores := [(0, { coreA 0 with tiq := [{ id := 4, word := 0x80000FFB, committed := true, begun := true, td := [(0, 63 * 2 ^ 57 + 0x4000000)] }] })] } }
theorem wit_VectorEngine_7 : ∃ (core : Fin 512) (id : Nat) (errs : List EccEvent) (e : TiqEntry) (u : VRun) (b : Nat) (draws : List (Desc × List Nat)) (g : Staging) (sp : Option (Nat × Ext × Bool)) (d0 d1 d2 : Dev) (now : Time) (s : State),
      ((s.dev.advance now).eccHeld core.val id errs = d0) ∧
      (d0.atWork core.val id e = true) ∧
      (e.vop? = some (.run u)) ∧
      (e.staged = none) ∧
      (d0.vNext core.val e (.run u) = .bead b draws) ∧
      (d0.vReady core.val e draws = true) ∧
      (d0.vrunGather core.val e u b draws = (d1, .ok g)) ∧
      ((d1.modCore core.val (fun k => k.spend e.id (d0.vrunCycles core.val u e))).vrunWrite core.val e u b (u.form e b g) g.reads.poison = (d2, sp, 0)) :=
  ⟨0, 4, [], { id := 4, word := 0x80000FFB, committed := true, begun := true, td := [(0, 63 * 2 ^ 57 + 0x4000000)] }, _, 0, [({ cols := 64, base := 0x4000000 }, [0]), ({}, []), ({}, [])], _, _, _, _, _, 0, witVectorEngine7, rfl, by decide, rfl, by decide, rfl, by decide, eq_ok_pair (by decide +kernel), eq_triple (by decide +kernel)⟩
def witVectorEngine8 : State := { dev := { devA with cores := [(0, { coreA 0 with tiq := [{ id := 4, word := 0x80000FFB, committed := true, begun := true, td := [(0, 63 * 2 ^ 57 + 0x4000000)] }] })] } }
theorem wit_VectorEngine_8 : ∃ (core : Fin 512) (id : Nat) (errs : List EccEvent) (e : TiqEntry) (o : VOp) (d0 : Dev) (now : Time) (s : State),
      ((s.dev.advance now).eccHeld core.val id errs = d0) ∧
      ((d0.core core.val).entry? id = some e) ∧
      (e.vop? = some o) ∧
      (e.begun = true) ∧
      (e.done = none) :=
  ⟨0, 4, [], { id := 4, word := 0x80000FFB, committed := true, begun := true, td := [(0, 63 * 2 ^ 57 + 0x4000000)] }, _, _, 0, witVectorEngine8, rfl, by decide, rfl, by decide, by decide⟩
def witVectorEngine9 : State := { dev := { devA with time := ms 30, cores := [(0, { coreA 0 with tiq := [{ id := 4, word := 0x80000FFB, committed := true, begun := true, td := [(0, 63 * 2 ^ 57 + 2 ^ 103 + 0x4000000)] }], arms := [(1, { pos := [0x20000000000], stride := 8256 })] })] } }
theorem wit_VectorEngine_9 : ∃ (core : Fin 512) (id : Nat) (e : TiqEntry) (o : VOp) (b : Nat) (draws : List (Desc × List Nat)) (now : Time) (s : State),
      ((s.dev.core core.val).entry? id = some e) ∧
      (e.vop? = some o) ∧
      (e.begun = true) ∧
      (e.done = none) ∧
      ((s.dev.advance now).vNext core.val e o = .bead b draws) ∧
      ((s.dev.advance now).stayed core.val e = true) ∧
      (draws.all (fun x => x.2.all ((s.dev.advance now).beadReady ((s.dev.advance now).who core.val) x.1)) = false) :=
  ⟨0, 4, { id := 4, word := 0x80000FFB, committed := true, begun := true, td := [(0, 63 * 2 ^ 57 + 2 ^ 103 + 0x4000000)] }, _, 0, [({ armed := true, cols := 64, base := 0x4000000 }, [0]), ({}, []), ({}, [])], 0, witVectorEngine9, by decide, rfl, by decide, by decide, rfl, by decide, by decide⟩
def witCoherenceAtTheHome1 : State := { dev := { devA with boot := { phase := 3, moduleId := 9 }, mem := { mem := wtables }, coh := {} } }
theorem wit_CoherenceAtTheHome_1 :
      ((((witCoherenceAtTheHome1).dev.advance (0 : Time)).takeIngress (CohMsg.isIn (.readSh (3 : BitVec 14) (5 : BitVec 16) (0x40000000 : Nat) (0 : Nat)))).homeLine (5 : BitVec 16) (0x40000000 : Nat) { r := true } = .ok (0x77C4000000 / 64 : Nat)) ∧
      (((witCoherenceAtTheHome1).dev.coh.dir.get {} (0x77C4000000 / 64 : Nat)).round = none) ∧
      (((witCoherenceAtTheHome1).dev.coh.dir.get {} (0x77C4000000 / 64 : Nat)).sharers.length < 8) := by refine ⟨rfl, by decide, by decide⟩
def witCoherenceAtTheHome2 : State := { dev := { devA with boot := { phase := 3, moduleId := 9 }, mem := { mem := wtables }, coh := {} } }
theorem wit_CoherenceAtTheHome_2 :
      ((((witCoherenceAtTheHome2).dev.advance (0 : Time)).takeIngress (CohMsg.isIn (.write (3 : BitVec 14) (5 : BitVec 16) (0x40000000 : Nat) (.store (0 : Nat) ([1] : List Byte)) (0 : BitVec 32) (0 : Nat)))).homeLine (5 : BitVec 16) (0x40000000 : Nat) { w := true } = .ok (0x77C4000000 / 64 : Nat)) ∧
      (((witCoherenceAtTheHome2).dev.coh.dir.get {} (0x77C4000000 / 64 : Nat)).round = none) ∧
      (((witCoherenceAtTheHome2).dev.coh.dir.get {} (0x77C4000000 / 64 : Nat)).sharers = []) ∧
      ((3 : BitVec 14) ≠ (witCoherenceAtTheHome2).dev.id) := by refine ⟨rfl, by decide, by decide, by decide⟩
def witCoherenceAtTheHome3 : State := { dev := { devA with boot := { phase := 3, moduleId := 9 }, mem := { mem := wtables }, coh := { dir := [(0x77C4000000 / 64, { sharers := [{ module := 3, tag := 2 }] })] } } }
theorem wit_CoherenceAtTheHome_3 :
      ((((witCoherenceAtTheHome3).dev.advance (0 : Time)).takeIngress (CohMsg.isIn (.write (3 : BitVec 14) (5 : BitVec 16) (0x40000000 : Nat) (.store (0 : Nat) ([1] : List Byte)) (0 : BitVec 32) (0 : Nat)))).homeLine (5 : BitVec 16) (0x40000000 : Nat) { w := true } = .ok (0x77C4000000 / 64 : Nat)) ∧
      (((witCoherenceAtTheHome3).dev.coh.dir.get {} (0x77C4000000 / 64 : Nat)).round = none) ∧
      (((witCoherenceAtTheHome3).dev.coh.dir.get {} (0x77C4000000 / 64 : Nat)).sharers ≠ []) := by refine ⟨rfl, by decide, by decide⟩
def witCoherenceAtTheHome4 : State := { dev := { devA with boot := { phase := 3, moduleId := 9 }, mem := { mem := wtables }, coh := { dir := [(0x77C4000000 / 64, { sharers := [{ module := 3, tag := 2 }], round := some { op := .store 0 [1], writer := 4, pkey := 5, va := 0x40000000, waiting := [{ module := 3, tag := 2 }] } })] } } }
theorem wit_CoherenceAtTheHome_4 :
      ((((witCoherenceAtTheHome4).dev.advance (0 : Time)).takeIngress (CohMsg.isIn (.ansInvalidated (3 : BitVec 14) (5 : BitVec 16) (0x40000000 : Nat) (2 : BitVec 16)))).homeLine (5 : BitVec 16) (0x40000000 : Nat) {} = .ok (0x77C4000000 / 64 : Nat)) ∧
      (((witCoherenceAtTheHome4).dev.coh.dir.get {} (0x77C4000000 / 64 : Nat)).round = some ({ op := .store 0 [1], writer := 4, pkey := 5, va := 0x40000000, waiting := [{ module := 3, tag := 2 }] } : Round)) ∧
      (({ op := .store 0 [1], writer := 4, pkey := 5, va := 0x40000000, waiting := [{ module := 3, tag := 2 }] } : Round).waiting = [({ module := 3, tag := 2 } : Sharer)]) ∧
      (({ module := 3, tag := 2 } : Sharer).module = (3 : BitVec 14)) ∧
      (((2 : BitVec 16) = 0 ∨ ({ module := 3, tag := 2 } : Sharer).tag = (2 : BitVec 16))) ∧
      (({ op := .store 0 [1], writer := 4, pkey := 5, va := 0x40000000, waiting := [{ module := 3, tag := 2 }] } : Round).op = .store (0 : Nat) ([1] : List Byte)) ∧
      (((witCoherenceAtTheHome4).dev.coh.dir.get {} (0x77C4000000 / 64 : Nat)).held = []) ∧
      (({ op := .store 0 [1], writer := 4, pkey := 5, va := 0x40000000, waiting := [{ module := 3, tag := 2 }] } : Round).writer ≠ (witCoherenceAtTheHome4).dev.id) := by refine ⟨rfl, by decide, by decide, by decide, by decide, by decide, by decide, by decide⟩
def witCoherenceAtTheHome5 : State := { dev := { devA with boot := { phase := 3, moduleId := 9 }, mem := { mem := wtables }, coh := { dir := [(0x77C4000000 / 64, { round := some { op := .store 0 [1], writer := 4, pkey := 5, va := 0x40000000, waiting := [{ module := 3, tag := 2 }, { module := 6, tag := 1 }] } })] } } }
theorem wit_CoherenceAtTheHome_5 :
      ((((witCoherenceAtTheHome5).dev.advance (0 : Time)).takeIngress (CohMsg.isIn (.ansEvicting (3 : BitVec 14) (5 : BitVec 16) (0x40000000 : Nat) (2 : BitVec 16)))).homeLine (5 : BitVec 16) (0x40000000 : Nat) {} = .ok (0x77C4000000 / 64 : Nat)) ∧
      (((witCoherenceAtTheHome5).dev.coh.dir.get {} (0x77C4000000 / 64 : Nat)).round = some ({ op := .store 0 [1], writer := 4, pkey := 5, va := 0x40000000, waiting := [{ module := 3, tag := 2 }, { module := 6, tag := 1 }] } : Round)) ∧
      (({ op := .store 0 [1], writer := 4, pkey := 5, va := 0x40000000, waiting := [{ module := 3, tag := 2 }, { module := 6, tag := 1 }] } : Round).waiting.find? (fun y => y.module = (3 : BitVec 14) && ((2 : BitVec 16) = 0 || y.tag = (2 : BitVec 16))) = some ({ module := 3, tag := 2 } : Sharer)) ∧
      (({ op := .store 0 [1], writer := 4, pkey := 5, va := 0x40000000, waiting := [{ module := 3, tag := 2 }, { module := 6, tag := 1 }] } : Round).waiting.filter (· ≠ ({ module := 3, tag := 2 } : Sharer)) ≠ []) := by refine ⟨rfl, by decide, by decide, by decide⟩
def witCoherenceAtTheHome6 : State := { dev := { devA with boot := { phase := 3, moduleId := 9 }, mem := { mem := wtables }, coh := {} } }
theorem wit_CoherenceAtTheHome_6 :
      ((((witCoherenceAtTheHome6).dev.advance (0 : Time)).takeIngress (CohMsg.isIn (.evictNotice (3 : BitVec 14) (5 : BitVec 16) (0x40000000 : Nat) (2 : BitVec 16) (0 : BitVec 6)))).homeLine (5 : BitVec 16) (0x40000000 : Nat) {} = .ok (0x77C4000000 / 64 : Nat)) := rfl
def witCoherenceAtTheHome7 : State := { dev := { devA with coh := { dir := [(7, { round := some { op := .store 0 [1], writer := 4, pkey := 5, va := 0x40000000, waiting := [{ module := 3, tag := 2 }] } })] } } }
theorem wit_CoherenceAtTheHome_7 :
      (((witCoherenceAtTheHome7).dev.coh.dir.get {} (7 : Nat)).round = some ({ op := .store 0 [1], writer := 4, pkey := 5, va := 0x40000000, waiting := [{ module := 3, tag := 2 }] } : Round)) ∧
      (({ op := .store 0 [1], writer := 4, pkey := 5, va := 0x40000000, waiting := [{ module := 3, tag := 2 }] } : Round).waiting ≠ []) ∧
      (reached ((witCoherenceAtTheHome7).dev.advance (ms 1 : Time)).time ({ op := .store 0 [1], writer := 4, pkey := 5, va := 0x40000000, waiting := [{ module := 3, tag := 2 }] } : Round).sent (us 600) = true) ∧
      (({ op := .store 0 [1], writer := 4, pkey := 5, va := 0x40000000, waiting := [{ module := 3, tag := 2 }] } : Round).resends < 3) := by decide
def witCoherenceAtTheReader1 : State := { dev := { devA with cores := [(0, { sc := { wait := some { va := 0x40000008 } } })] } }
theorem wit_CoherenceAtTheReader_1 : ∃ (src : BitVec 14) (key : BitVec 16) (va : Nat) (data : Nat) (tag : BitVec 16) (gen : BitVec 6) (core : Nat) (w : MemWait) (now : Time) (s : State),
      (core < 512) ∧
      (s.dev.grantFresh key va tag gen = true) ∧
      (s.dev.mem.hub.length + (s.dev.coh.copies.filter (fun r => !(r.pkey = key && r.va = va))).length < s.dev.hubRoom) ∧
      ((s.dev.core core).sc.wait = some w) ∧
      (w.kind = 0) ∧
      (w.tag = none) ∧
      (w.va / 64 * 64 = va) :=
  ⟨0, 0, 0x40000000, 0, 0, 0, 0, { va := 0x40000008 }, 0, witCoherenceAtTheReader1, by decide⟩
def witCoherenceAtTheReader2 : State := { dev := { devA with cores := [(0, { sc := { wait := some { kind := 2, rd := 7, va := 0x40000008 } } })] } }
theorem wit_CoherenceAtTheReader_2 :
      ((0 : Nat) < 512) ∧
      (((witCoherenceAtTheReader2).dev.core (0 : Nat)).sc.wait = some ({ kind := 2, rd := 7, va := 0x40000008 } : MemWait)) ∧
      (({ kind := 2, rd := 7, va := 0x40000008 } : MemWait).kind ≠ 0) ∧
      (({ kind := 2, rd := 7, va := 0x40000008 } : MemWait).va / 64 * 64 = (0x40000000 : Nat)) := by decide
def witCoherenceAtTheReader3 : State := { dev := { devA with coh := { copies := [{ home := 3, pkey := 5, va := 0x40000000, tag := 2, gen := 1 }] } } }
theorem wit_CoherenceAtTheReader_3 :
      ((witCoherenceAtTheReader3).dev.copyOf (5 : BitVec 16) (0x40000000 : Nat) = some ({ home := 3, pkey := 5, va := 0x40000000, tag := 2, gen := 1 } : ReaderCopy)) := by decide
def witCoherenceAtTheReader4 : State := { dev := { devA with coh := { evicted := [{ home := 3, pkey := 5, va := 0x40000000, tag := 2, gen := 1 }] } } }
theorem wit_CoherenceAtTheReader_4 :
      ((witCoherenceAtTheReader4).dev.copyOf (5 : BitVec 16) (0x40000000 : Nat) = none) ∧
      ((witCoherenceAtTheReader4).dev.coh.evicted.find? (fun x => x.pkey = (5 : BitVec 16) && x.va = (0x40000000 : Nat)) = some ({ home := 3, pkey := 5, va := 0x40000000, tag := 2, gen := 1 } : ReaderCopy)) := by decide
def witCoherenceAtTheReader5 : State := { dev := devA }
theorem wit_CoherenceAtTheReader_5 :
      ((witCoherenceAtTheReader5).dev.copyOf (5 : BitVec 16) (0x40000000 : Nat) = none) ∧
      ((witCoherenceAtTheReader5).dev.coh.evicted.find? (fun x => x.pkey = (5 : BitVec 16) && x.va = (0x40000000 : Nat)) = none) := by decide
def witCoherenceAtTheReader6 : State := { dev := { devA with coh := { copies := [{ home := 3, pkey := 5, va := 0x40000000, tag := 2, gen := 1 }] } } }
theorem wit_CoherenceAtTheReader_6 :
      ((witCoherenceAtTheReader6).dev.copyOf (5 : BitVec 16) (0x40000000 : Word).toNat = some ({ home := 3, pkey := 5, va := 0x40000000, tag := 2, gen := 1 } : ReaderCopy)) := by decide
def witCoherenceAtTheReader8 : State := { dev := { devA with mem := { egress := [{ pkey := 5, va := 0x40000000 }] } } }
theorem wit_CoherenceAtTheReader_8 :
      ((witCoherenceAtTheReader8).dev.mem.egress.find? (fun x => x.pkey = (5 : BitVec 16) && x.va = (0x40000000 : Word).toNat) = some ({ pkey := 5, va := 0x40000000 } : EgressLine)) := by decide
def witCoherenceAtTheReader9 : State := { dev := { devA with mem := { hub := [(7, { dirty := true, keySlot := 2 })] } } }
theorem wit_CoherenceAtTheReader_9 : ∃ (line : Nat) (errs : List EccEvent) (h : HcLine) (d0 : Dev) (now : Time) (s : State),
      (errs.foldl Dev.ecc (s.dev.advance now) = d0) ∧
      (d0.mem.hub.find? line = some h) ∧
      (h.dirty = true) :=
  ⟨7, [], { dirty := true, keySlot := 2 }, _, 0, witCoherenceAtTheReader9, rfl, by decide, by decide⟩
def witMapsAndJobs1 : State := { dev := devA }
theorem wit_MapsAndJobs_1 :
      ((witMapsAndJobs1).dev.reentering = false) ∧
      ((0 : Nat) ≤ 2) ∧
      ((3 : Nat) / 8 % 2 = 0) ∧
      (((witMapsAndJobs1).dev.advance (0 : Time)).mapValid (0 : Fin 512).val (0x80000000 : Word).toNat (stackBase 0 : Nat) (0 : Nat) (0 : Nat) false (leafEntry false ((3 : Nat) % 2 = 1) ((3 : Nat) / 2 % 2 = 1) ((3 : Nat) / 4 % 2 = 1) (0 : Nat) (stackBase 0 : Nat)) = true) := by refine ⟨by decide, by decide, by decide, by decide +kernel⟩
def witMapsAndJobs2 : State := { dev := devA }
theorem wit_MapsAndJobs_2 : ∃ (part : Fin 512) (va : Word) (size a : Nat) (now : Time) (s : State),
      (s.dev.reentering = false) ∧
      (size ≤ 2) ∧
      (((s.dev.advance now).part part.val).root ≠ 0) ∧
      (va.toNat % 2 ^ pageBits size = 0) ∧
      (va.toNat < 2 ^ 57) ∧
      ((s.dev.advance now).leafAt va.toNat size 4 ((s.dev.advance now).part part.val).root = some a) ∧
      (s.dev.sec.leaving = []) ∧
      (((s.dev.advance now).invalidate part.val va.toNat (2 ^ pageBits size)).pageUsers part.val va.toNat (2 ^ pageBits size) = []) :=
  ⟨0, 0x40000000, 2, 0x3008, 0, witMapsAndJobs2, by decide⟩
def witMapsAndJobs3 : State := { dev := devA }
theorem wit_MapsAndJobs_3 : ∃ (part : Fin 512) (va : Word) (size a : Nat) (m : BitVec 14) (ms : List (BitVec 14)) (now : Time) (s : State),
      (s.dev.reentering = false) ∧
      (size ≤ 2) ∧
      (((s.dev.advance now).part part.val).root ≠ 0) ∧
      (va.toNat % 2 ^ pageBits size = 0) ∧
      (va.toNat < 2 ^ 57) ∧
      ((s.dev.advance now).leafAt va.toNat size 4 ((s.dev.advance now).part part.val).root = some a) ∧
      (s.dev.leaving { part := part.val } va.toNat = false) ∧
      (leafRemote (s.dev.pte a) = false) :=
  ⟨0, 0x40000000, 2, 0x3008, 1, [], 0, witMapsAndJobs3, by decide⟩
def witMapsAndJobs4 : State := { dev := { devA with sec := { reentry := some {} } } }
theorem wit_MapsAndJobs_4 : ∃ (part : Fin 512) (va : Word) (target slot size flags : Nat) (home : Option Bool) (now : Time) (s : State),
      (s.dev.reentering = true) :=
  ⟨0, 0, 0, 0, 0, 0, none, 0, witMapsAndJobs4, by decide⟩
def witMapsAndJobs5 : State := { dev := { devA with mem := { mem := Memory.writeNat tables 0 32 (1 + 65536 * 2) }, parts := [(0, { partA with job := none })], boot := { phase := 3, moduleId := 0, censusState := 2 } } }
theorem wit_MapsAndJobs_5 : ∃ (part : Fin 512) (va : Word) (len : Nat) (pair four : Bool) (others : List LoadReport) (now : Time) (s : State),
      (s.dev.sec.reentry = none) ∧
      (s.dev.partResetting part.val = false) ∧
      ((s.dev.checkExtent { part := part.val } { r := true } false va.toNat (max len 1)).isOk = true) ∧
      (firstShort ((s.dev.loadSelf part.val (footprint (s.dev.readVa { part := part.val } va.toNat (min len 32))) len ((others.map (·.cores)).foldl (· + ·) 0) ((others.map (·.queues)).foldl (· + ·) 0) pair four).toList ++ others) = none) :=
  ⟨0, 0x40000000, 32, false, false, [], 0, witMapsAndJobs5, by decide, by decide, by decide +kernel, by decide +kernel⟩
def witMapsAndJobs6 : State := { dev := devA }
theorem wit_MapsAndJobs_6 : ∃ (part : Fin 512) (va : Word) (len : Nat) (pair four : Bool) (others : List LoadReport) (r : LoadReport) (now : Time) (s : State),
      (s.dev.sec.reentry = none) ∧
      (s.dev.partResetting part.val = false) ∧
      ((s.dev.checkExtent { part := part.val } { r := true } false va.toNat (max len 1)).isOk = true) ∧
      (firstShort ((s.dev.loadSelf part.val (footprint (s.dev.readVa { part := part.val } va.toNat (min len 32))) len ((others.map (·.cores)).foldl (· + ·) 0) ((others.map (·.queues)).foldl (· + ·) 0) pair four).toList ++ others) = some r) :=
  ⟨0, 0x40000000, 32, false, false, [], { module := 0, cause := 0x0A30, rig := moduleRig 0 }, 0, witMapsAndJobs6, by decide, by decide, by decide +kernel, by decide +kernel⟩
def witMapsAndJobs7 : State := { dev := { devA with rst := { running := [{ part := some 0 }] } } }
theorem wit_MapsAndJobs_7 : ∃ (part : Fin 512) (va : Word) (len : Nat) (pair four : Bool) (others : List LoadReport) (now : Time) (s : State),
      (s.dev.partResetting part.val = true) :=
  ⟨0, 0, 0, false, false, [], 0, witMapsAndJobs7, by decide⟩
def witMapsAndJobs9 : State := { dev := devA }
theorem wit_MapsAndJobs_9 : ∃ (part : Fin 512) (value : Nat) (now : Time) (s : State),
      (value ≠ 1) :=
  ⟨0, 0, 0, witMapsAndJobs9, by decide⟩
def witPackageLinksAndOnPackageHalyard1 : State := { dev := { devA with pkg := { ucie := [(2, { up := true, resend := [{}], replay := [{}] })] } } }
theorem wit_PackageLinksAndOnPackageHalyard_1 : ∃ (e : Fin 192) (f : Flit) (fs : List Flit) (now : Time) (s : State),
      ((s.dev.ucie e.val).up = true) ∧
      ((s.dev.ucie e.val).retraining = false) ∧
      ((s.dev.ucie e.val).retired = false) ∧
      ((s.dev.ucie e.val).inits = []) ∧
      ((s.dev.ucie e.val).resend = f :: fs) ∧
      (f.sends < 9) :=
  ⟨2, {}, [], 0, witPackageLinksAndOnPackageHalyard1, by decide⟩
def witPackageLinksAndOnPackageHalyard2 : State := { dev := { devA with pkg := { ucie := [(2, { up := true, queue := [(0, [{}])] })] } } }
theorem wit_PackageLinksAndOnPackageHalyard_2 : ∃ (e : Fin 192) (vc : Nat) (f : Flit) (now : Time) (s : State),
      ((s.dev.ucie e.val).up = true) ∧
      ((s.dev.ucie e.val).retraining = false) ∧
      ((s.dev.ucie e.val).retired = false) ∧
      ((s.dev.ucie e.val).inits = []) ∧
      ((s.dev.ucie e.val).resend = []) ∧
      ((s.dev.ucie e.val).ready = some (vc, f)) ∧
      ((s.dev.ucie e.val).replay.length < 512) :=
  ⟨2, 0, {}, 0, witPackageLinksAndOnPackageHalyard2, by decide⟩
def witPackageLinksAndOnPackageHalyard3 : State := { dev := { devA with pkg := { ucie := [(2, { up := true })] } } }
theorem wit_PackageLinksAndOnPackageHalyard_3 : ∃ (e : Fin 192) (now : Time) (s : State),
      ((s.dev.ucie e.val).up = true) ∧
      ((s.dev.ucie e.val).retraining = false) ∧
      ((s.dev.ucie e.val).retired = false) ∧
      ((s.dev.ucie e.val).inits = []) ∧
      ((s.dev.ucie e.val).resend = []) ∧
      ((s.dev.ucie e.val).ready = none) :=
  ⟨2, 0, witPackageLinksAndOnPackageHalyard3, by decide⟩
def witPackageLinksAndOnPackageHalyard4 : State := { dev := { devA with pkg := { ucie := [(2, { up := true, inits := [(1, 128)] })] } } }
theorem wit_PackageLinksAndOnPackageHalyard_4 : ∃ (e : Fin 192) (vc n : Nat) (is : KMap Nat) (now : Time) (s : State),
      ((s.dev.ucie e.val).up = true) ∧
      ((s.dev.ucie e.val).retraining = false) ∧
      ((s.dev.ucie e.val).retired = false) ∧
      ((s.dev.ucie e.val).inits = (vc, n) :: is) :=
  ⟨2, 1, 128, [], 0, witPackageLinksAndOnPackageHalyard4, by decide⟩
def witPackageLinksAndOnPackageHalyard5 : State := { dev := { devA with pkg := { ucie := [(2, { up := true })] } } }
theorem wit_PackageLinksAndOnPackageHalyard_5 : ∃ (e : Fin 192) (bs : List Byte) (now : Time) (s : State),
      ((s.dev.ucie e.val).up = true) ∧
      ((s.dev.ucie e.val).retraining = false) ∧
      ((s.dev.ucie e.val).retired = false) ∧
      (bs.length = 256) ∧
      ((crc32c (bs.take 252)).toNat ≠ leNat (bs.drop 252)) :=
  ⟨2, List.replicate 256 0, 0, witPackageLinksAndOnPackageHalyard5, by decide, by decide, by decide, by decide, by decide +kernel⟩
def witPackageLinksAndOnPackageHalyard6 : State := { dev := { devA with pkg := { ucie := [(2, { up := true })] } } }
theorem wit_PackageLinksAndOnPackageHalyard_6 : ∃ (e : Fin 192) (bs : List Byte) (now : Time) (s : State),
      ((s.dev.ucie e.val).up = true) ∧
      ((s.dev.ucie e.val).retraining = false) ∧
      ((s.dev.ucie e.val).retired = false) ∧
      (bs.length = 256) ∧
      ((crc32c (bs.take 252)).toNat = leNat (bs.drop 252)) ∧
      (leNat (bs.take 8) / 2 ^ 60 = 1) ∧
      (BitVec.ofNat 10 (leNat (bs.take 8) / 2 ^ 48 % 2 ^ 10) = (s.dev.ucie e.val).expect) ∧
      (leNat (bs.take 8) / 2 ^ 28 % 2 ^ 8 = 0) :=
  ⟨2, flitBytes 1 2 0 0x3FF 0 0 true true false [7], 0, witPackageLinksAndOnPackageHalyard6, by decide +kernel, by decide +kernel, by decide +kernel, by decide +kernel, by decide +kernel, by decide +kernel, by decide +kernel, by decide +kernel⟩
def witPackageLinksAndOnPackageHalyard8 : State := { dev := devA }
theorem wit_PackageLinksAndOnPackageHalyard_8 : ∃ (e : Fin 192) (vc : Fin 4) (n : Nat) (now : Time) (s : State),
      (vc ≠ 0) :=
  ⟨2, 1, 0, 0, witPackageLinksAndOnPackageHalyard8, by decide⟩
def witPackageLinksAndOnPackageHalyard9 : State := { dev := { devA with pkg := { ucie := [(2, { up := true, replay := [{}] })] } } }
theorem wit_PackageLinksAndOnPackageHalyard_9 : ∃ (e : Fin 192) (now : Time) (s : State),
      ((s.dev.ucie e.val).up = true) ∧
      ((s.dev.ucie e.val).retraining = false) ∧
      ((s.dev.ucie e.val).replay ≠ []) ∧
      (reached (s.dev.advance now).time (s.dev.ucie e.val).heardAt (us 1) = true) :=
  ⟨2, us 2, witPackageLinksAndOnPackageHalyard9, by decide⟩
def witPackageLinksAndOnPackageHalyard10 : State := { dev := { devA with pkg := { ucie := [(2, { up := true, replay := [{ sends := 9 }] })] } } }
theorem wit_PackageLinksAndOnPackageHalyard_10 : ∃ (e : Fin 192) (now : Time) (s : State),
      ((s.dev.ucie e.val).up = true) ∧
      ((s.dev.ucie e.val).retraining = false) ∧
      ((s.dev.ucie e.val).replay.any (fun f => 9 ≤ f.sends) = true) :=
  ⟨2, 0, witPackageLinksAndOnPackageHalyard10, by decide⟩
def witPackageLinksAndOnPackageHalyard11 : State := { dev := { devA with pkg := { ucie := [(2, { up := true, retraining := true })] } } }
theorem wit_PackageLinksAndOnPackageHalyard_11 : ∃ (link : Fin 96) (rate : Nat) (now : Time) (s : State),
      ((s.dev.ucie (2 * link.val)).retraining = true) ∧
      (rate ≠ 0) :=
  ⟨1, 32, 0, witPackageLinksAndOnPackageHalyard11, by decide⟩
def witPackageLinksAndOnPackageHalyard12 : State := { dev := { devA with rigs := [(0, { state := .idle })], cores := [(0, { offline := false })] } }
theorem wit_PackageLinksAndOnPackageHalyard_12 : ∃ (kind : Nat) (dies clusters : BitVec 8) (payload : List Byte) (now : Time) (s : State),
      (payload.length ≤ 8192) ∧
      (s.dev.onPkgCores dies clusters ≠ []) :=
  ⟨0, 1, 1, [], 0, witPackageLinksAndOnPackageHalyard12, by decide⟩
def witPackageLinksAndOnPackageHalyard13 : State := { dev := { devA with pkg := { onpkg := [{ kind := 7, cores := [0], reached := [0] }] } } }
theorem wit_PackageLinksAndOnPackageHalyard_13 : ∃ (core : Fin 512) (p : OnPkg) (now : Time) (s : State),
      (s.dev.pkg.onpkg.find? (fun q => q.cores.contains core.val) = some p) ∧
      (p.reached.contains (core.val / 64) = true) :=
  ⟨0, { kind := 7, cores := [0], reached := [0] }, 0, witPackageLinksAndOnPackageHalyard13, by decide⟩
def witPackageLinksAndOnPackageHalyard14 : State := { dev := { devA with rigs := [(0, { state := .idle })], cores := [(0, { offline := false })], pkg := { onpkg := [{ kind := 1, clusters := [0], dies := [0], targets := [0] }] } } }
theorem wit_PackageLinksAndOnPackageHalyard_14 : ∃ (seq : BitVec 32) (cluster : Fin 64) (p : OnPkg) (now : Time) (s : State),
      ((s.dev.advance now).pruneOnPkg.pkg.onpkg = [p]) ∧
      (p.hseq = seq) ∧
      (p.cores.any (fun x => x / 8 = cluster.val) = false) ∧
      ((p.clusters.remove cluster.val).any (fun k => k / 8 = cluster.val / 8) = false) ∧
      (p.dies.remove (cluster.val / 8) = []) :=
  ⟨0, 0, { kind := 1, clusters := [0], dies := [0], targets := [0] }, 0, witPackageLinksAndOnPackageHalyard14, by decide⟩
def witPackageFlitIsReceivedAsSent1 : State := { dev := { devA with pkg := { ucie := [(2, { up := true })] } } }
theorem wit_PackageFlitIsReceivedAsSent_1 :
      (((witPackageFlitIsReceivedAsSent1).dev.ucie (2 : Fin 192).val).up = true) ∧
      (((witPackageFlitIsReceivedAsSent1).dev.ucie (2 : Fin 192).val).retraining = false) ∧
      (((witPackageFlitIsReceivedAsSent1).dev.ucie (2 : Fin 192).val).retired = false) ∧
      ((2 : Nat) < 4) ∧
      ((1 : Nat) < 4) ∧
      ((3 : Nat) < 256) ∧
      (([7] : List Byte).length ≤ 244) := by decide
def witRigVerbs1 : State := { dev := { devA with rigs := [(0, { state := .idle })] } }
theorem wit_RigVerbs_1 : ∃ (r : BitVec 32) (now : Time) (s : State),
      (s.dev.rigCheck r = 0) :=
  ⟨0, 0, witRigVerbs1, by decide⟩
def witRigVerbs2 : State := { dev := { devA with rigs := [(0, { state := .quiesced })] } }
theorem wit_RigVerbs_2 : ∃ (r : BitVec 32) (now : Time) (s : State),
      (s.dev.rigCheck r = 0) :=
  ⟨0, 0, witRigVerbs2, by decide⟩
def witRigVerbs3 : State := { dev := { devA with rigs := [(0, { state := .idle })] } }
theorem wit_RigVerbs_3 :
      ((witRigVerbs3).dev.rigCheck (0 : BitVec 32) = 0) ∧
      ((witRigVerbs3).dev.rst.running = []) := by decide
def witRigVerbs4 : State := { dev := { devA with rigs := [(0, { state := .idle })] } }
theorem wit_RigVerbs_4 :
      ((witRigVerbs4).dev.rigCheck (0 : BitVec 32) = 0) ∧
      (rigLevel (0 : BitVec 32) ≤ 2) ∧
      ((witRigVerbs4).dev.rst.running = []) := by decide
def witRigVerbs5 : State := { dev := { devA with rigs := [(0, { state := .idle })] } }
theorem wit_RigVerbs_5 : ∃ (r : BitVec 32) (now : Time) (s : State),
      (s.dev.rigCheck r = 0) ∧
      (3 ≤ rigLevel r) ∧
      (s.dev.rst.running = []) :=
  ⟨moduleRig 0, 0, witRigVerbs5, by decide⟩
def witRigVerbs6 : State := { dev := { devA with rigs := [(0, { state := .idle })] } }
theorem wit_RigVerbs_6 : ∃ (r : BitVec 32) (value : Nat) (now : Time) (s : State),
      ((value = 0 ∨ 4 < value)) :=
  ⟨0, 5, 0, witRigVerbs6, by decide⟩
def witRigVerbs7 : State := { dev := { devA with rigs := [(0, { state := .idle })] } }
theorem wit_RigVerbs_7 : ∃ (r : BitVec 32) (w : Nat) (now : Time) (s : State),
      (s.dev.rigCheck r = 0) ∧
      (rigLevel r ≤ 3) :=
  ⟨0, 0, 0, witRigVerbs7, by decide⟩
def witRigVerbs8 : State := { dev := { devA with rigs := [(0, { state := .idle })] } }
theorem wit_RigVerbs_8 : ∃ (r : BitVec 32) (w : Nat) (now : Time) (s : State),
      (s.dev.rigCheck r = 0) ∧
      (4 ≤ rigLevel r) :=
  ⟨0x80000000, 0, 0, witRigVerbs8, by decide⟩
def witLinkFrames1 : State := { dev := { devA with ports := [(3, { state := .active, fr := { locked := true } })] } }
theorem wit_LinkFrames_1 : ∃ (port : Fin 32) (bs : List Byte) (f : RxFrame) (now : Time) (s : State),
      ((s.dev.port port.val).hears = true) ∧
      ((s.dev.port port.val).encOn = false) ∧
      (parseFrame bs = some f) ∧
      (f.ftype = 1) ∧
      (f.nak = false) ∧
      (f.fseq = (s.dev.port port.val).fr.fack + 1) :=
  ⟨3, Port.frameBytes {} 1 0 false [], { ftype := 1, fack := 0xFFF, head := (Port.frameBytes {} 1 0 false []).take 16, body := ((Port.frameBytes {} 1 0 false []).drop 16).take 492, tag := leNat (((Port.frameBytes {} 1 0 false []).drop 492).take 16) }, 0, witLinkFrames1, by decide, by decide, by decide +kernel, by decide, by decide, by decide⟩
def witLinkFrames2 : State := { dev := { devA with ports := [(3, { state := .active, fr := { locked := true } })] } }
theorem wit_LinkFrames_2 : ∃ (port : Fin 32) (bs : List Byte) (now : Time) (s : State),
      ((s.dev.port port.val).hears = true) ∧
      (parseFrame bs = none) :=
  ⟨3, [], 0, witLinkFrames2, by decide⟩
def witLinkFrames3 : State := { dev := { devA with ports := [(3, { state := .active, fr := { locked := true, replay := [{}] } })] } }
theorem wit_LinkFrames_3 : ∃ (port : Fin 32) (bs : List Byte) (f : RxFrame) (x : HeldFrame) (xs : List HeldFrame) (now : Time) (s : State),
      ((s.dev.port port.val).hears = true) ∧
      ((s.dev.port port.val).encOn = false) ∧
      (parseFrame bs = some f) ∧
      (f.ftype = 0) ∧
      (f.nak = false) ∧
      ((s.dev.port port.val).fr.replay = x :: xs) ∧
      ((f.fack - x.fseq + 1).toNat ≤ xs.length + 1) :=
  ⟨3, Port.frameBytes { fr := { fack := 0 } } 0 0 false [], { ftype := 0, fack := 0, head := (Port.frameBytes { fr := { fack := 0 } } 0 0 false []).take 16, body := ((Port.frameBytes { fr := { fack := 0 } } 0 0 false []).drop 16).take 492, tag := leNat (((Port.frameBytes { fr := { fack := 0 } } 0 0 false []).drop 492).take 16) }, {}, [], 0, witLinkFrames3, by decide, by decide, by decide +kernel, by decide, by decide, by decide, by decide⟩
def witLinkFrames4 : State := { dev := { devA with ports := [(3, { state := .active })] } }
theorem wit_LinkFrames_4 : ∃ (port : Fin 32) (bs : List Byte) (now : Time) (s : State),
      ((s.dev.port port.val).state.framing = true) :=
  ⟨3, [], 0, witLinkFrames4, by decide⟩
def witLinkFrames5 : State := { dev := { devA with ports := [(3, { state := .active, fr := { replay := [{}] } })] } }
theorem wit_LinkFrames_5 : ∃ (port : Fin 32) (now : Time) (s : State),
      (((s.dev.port port.val).state = .active ∨ (s.dev.port port.val).state = .width)) ∧
      ((s.dev.port port.val).fr.replay ≠ []) ∧
      (reached (s.dev.advance now).time (s.dev.port port.val).fr.ackAt (us 4) = true) ∧
      ((s.dev.port port.val).fr.replay.any (fun f => 8 ≤ f.sends) = false) :=
  ⟨3, us 5, witLinkFrames5, by decide⟩
def witLinkFrames6 : State := { dev := { devA with ports := [(3, { state := .active })] } }
theorem wit_LinkFrames_6 : ∃ (port : Fin 32) (lanes : List (Nat × Nat)) (bad total : Nat) (now : Time) (s : State),
      (((s.dev.port port.val).state = .active ∨ (s.dev.port port.val).state = .width)) ∧
      (nsOf (s.dev.advance now).time % 1000000000 = 0) :=
  ⟨3, [], 0, 0, 0, witLinkFrames6, by decide⟩
def witLinkFrames7 : State := { dev := { devA with ports := [(3, { state := .active })] } }
theorem wit_LinkFrames_7 : ∃ (port : Fin 32) (now : Time) (s : State),
      (((s.dev.port port.val).state = .active ∨ (s.dev.port port.val).state = .width)) :=
  ⟨3, 0, witLinkFrames7, by decide⟩
def witLinkTraining1 : State := { dev := devA }
theorem wit_LinkTraining_1 :
      (((witLinkTraining1).dev.port (3 : Fin 32).val).state = .detect) := by decide
def witLinkTraining2 : State := { dev := { devA with ports := [(3, { state := .equalize })] } }
theorem wit_LinkTraining_2 :
      (((witLinkTraining2).dev.port (3 : Fin 32).val).state = .equalize) := by decide
def witLinkTraining3 : State := { dev := { devA with ports := [(3, { state := .laneTest })] } }
theorem wit_LinkTraining_3 :
      (((witLinkTraining3).dev.port (3 : Fin 32).val).state = .laneTest) ∧
      ((~~~((witLinkTraining3).dev.port (3 : Fin 32).val).retiredLanes &&& (0xF : BitVec 4) &&& (0xF : BitVec 4)) ≠ 0) ∧
      ((witLinkTraining3).dev.minWidth (3 : Fin 32).val ≤ laneCount (~~~((witLinkTraining3).dev.port (3 : Fin 32).val).retiredLanes &&& (0xF : BitVec 4) &&& (0xF : BitVec 4))) := by decide
def witLinkTraining4 : State := { dev := { devA with ports := [(3, { state := .identify, fr := { locked := true }, tr := { passed := 1 } })] } }
theorem wit_LinkTraining_4 : ∃ (port : Fin 32) (b : Ident) (now : Time) (s : State),
      ((s.dev.port port.val).state = .identify) ∧
      ((s.dev.port port.val).fr.locked = true) ∧
      (b.enc = (s.dev.port port.val).tr.myIdent.enc) ∧
      (b.serial ≠ s.dev.boot.serial) ∧
      ((s.dev.port port.val).tr.passed &&& b.lanes ≠ 0) :=
  ⟨3, { serial := 1, lanes := 1 }, 0, witLinkTraining4, by decide⟩
def witLinkTraining5 : State := { dev := { devA with ports := [(3, { state := .identify, fr := { locked := true } })] } }
theorem wit_LinkTraining_5 : ∃ (port : Fin 32) (b : Ident) (now : Time) (s : State),
      ((s.dev.port port.val).state = .identify) ∧
      ((s.dev.port port.val).fr.locked = true) ∧
      ((b.enc ≠ (s.dev.port port.val).tr.myIdent.enc ∨ b.serial = s.dev.boot.serial)) :=
  ⟨3, { enc := true }, 0, witLinkTraining5, by decide⟩
def witLinkTraining6 : State := { dev := { devA with ports := [(3, { state := .identify })] } }
theorem wit_LinkTraining_6 :
      (((witLinkTraining6).dev.port (3 : Fin 32).val).state = .identify) ∧
      (reached ((witLinkTraining6).dev.advance (us 3 : Time)).time ((witLinkTraining6).dev.port (3 : Fin 32).val).tr.identAt (us 2) = true) := by decide
def witLinkTraining7 : State := { dev := { devA with ports := [(3, { state := .keyAgree, tr := { peerIdent := some {} } })] } }
theorem wit_LinkTraining_7 :
      (((witLinkTraining7).dev.port (3 : Fin 32).val).state = .keyAgree) ∧
      (((witLinkTraining7).dev.port (3 : Fin 32).val).tr.peerIdent = some ({} : Ident)) := by decide
def witLinkTraining8 : State := { dev := { devA with ports := [(3, { state := .down })] } }
theorem wit_LinkTraining_8 :
      ((((witLinkTraining8).dev.port (3 : Fin 32).val).state = .failed ∧ ((witLinkTraining8).dev.port (3 : Fin 32).val).tr.stuck = false) ∨ ((witLinkTraining8).dev.port (3 : Fin 32).val).state = .down) ∧
      (reached ((witLinkTraining8).dev.advance (ms 1001 : Time)).time ((witLinkTraining8).dev.port (3 : Fin 32).val).tr.failedAt (ms 1000) = true) := by decide
def witLinkTraining9 : State := { dev := { devA with ports := [(3, { state := .active })] } }
theorem wit_LinkTraining_9 :
      (((witLinkTraining9).dev.port (3 : Fin 32).val).state ≠ .disabled) := by decide
def witLinkTraining11 : State := { dev := { devA with ports := [(3, { state := .disabled })] } }
theorem wit_LinkTraining_11 :
      (((witLinkTraining11).dev.port (3 : Fin 32).val).state = .disabled) := by decide
def witLinkRetrainsAndWidth1 : State := { dev := { devA with ports := [(3, { state := .active, fr := { locked := true } })] } }
theorem wit_LinkRetrainsAndWidth_1 : ∃ (port : Fin 32) (serial : BitVec 64) (reason : Nat) (now : Time) (s : State),
      ((s.dev.port port.val).hears = true) ∧
      (((s.dev.port port.val).tr.reqOutstanding = none ∨ serial.toNat ≤ s.dev.boot.serial.toNat)) :=
  ⟨3, 0, 0, 0, witLinkRetrainsAndWidth1, by decide⟩
def witLinkRetrainsAndWidth2 : State := { dev := { devA with ports := [(3, { state := .active, fr := { locked := true }, tr := { reqOutstanding := some 5 } })] } }
theorem wit_LinkRetrainsAndWidth_2 : ∃ (port : Fin 32) (group : BitVec 32) (r : Nat) (now : Time) (s : State),
      ((s.dev.port port.val).hears = true) ∧
      ((s.dev.port port.val).tr.reqOutstanding = some r) :=
  ⟨3, 0, 5, 0, witLinkRetrainsAndWidth2, by decide⟩
def witLinkRetrainsAndWidth3 : State := { dev := { devA with ports := [(3, { state := .active, tr := { reqOutstanding := some 5 } })] } }
theorem wit_LinkRetrainsAndWidth_3 :
      (((witLinkRetrainsAndWidth3).dev.port (3 : Fin 32).val).tr.reqOutstanding = some (5 : Nat)) ∧
      (reached ((witLinkRetrainsAndWidth3).dev.advance (us 11 : Time)).time ((witLinkRetrainsAndWidth3).dev.port (3 : Fin 32).val).tr.reqAt (us 10) = true) := by decide
def witLinkRetrainsAndWidth4 : State := { dev := { devA with ports := [(3, { state := .active, tr := { switchGroup := some 9 } })] } }
theorem wit_LinkRetrainsAndWidth_4 : ∃ (port : Fin 32) (group : BitVec 32) (now : Time) (s : State),
      (((s.dev.port port.val).state = .active ∨ (s.dev.port port.val).state = .width)) ∧
      ((s.dev.port port.val).tr.switchGroup = some group) :=
  ⟨3, 9, 0, witLinkRetrainsAndWidth4, by decide⟩
def witLinkRetrainsAndWidth5 : State := { dev := { devA with ports := [(3, { state := .active, tr := { retraining := true } })] } }
theorem wit_LinkRetrainsAndWidth_5 :
      (((witLinkRetrainsAndWidth5).dev.port (3 : Fin 32).val).state = .active) ∧
      (((witLinkRetrainsAndWidth5).dev.port (3 : Fin 32).val).tr.retraining = true) := by decide
def witLinkRetrainsAndWidth6 : State := { dev := { devA with ports := [(3, { state := .active, fr := { locked := true }, activeLanes := 0xF })] } }
theorem wit_LinkRetrainsAndWidth_6 : ∃ (port : Fin 32) (lanes : BitVec 4) (now : Time) (s : State),
      ((s.dev.port port.val).hears = true) ∧
      ((s.dev.port port.val).state = .active) ∧
      ((s.dev.port port.val).activeLanes &&& lanes ≠ 0) :=
  ⟨3, 3, 0, witLinkRetrainsAndWidth6, by decide⟩
def witLinkRetrainsAndWidth7 : State := { dev := { devA with ports := [(3, { state := .width, fr := { locked := true }, tr := { proposal := some 3 } })] } }
theorem wit_LinkRetrainsAndWidth_7 : ∃ (port : Fin 32) (lanes : BitVec 4) (group : BitVec 32) (now : Time) (s : State),
      ((s.dev.port port.val).hears = true) ∧
      ((s.dev.port port.val).state = .width) ∧
      ((s.dev.port port.val).tr.proposal.isSome = true) :=
  ⟨3, 3, 0, 0, witLinkRetrainsAndWidth7, by decide⟩
def witLinkRetrainsAndWidth8 : State := { dev := { devA with ports := [(3, { state := .width, activeLanes := 0xF, tr := { widthGroup := some 9, newLanes := 3 } })] } }
theorem wit_LinkRetrainsAndWidth_8 :
      (((witLinkRetrainsAndWidth8).dev.port (3 : Fin 32).val).state = .width) ∧
      (((witLinkRetrainsAndWidth8).dev.port (3 : Fin 32).val).tr.widthGroup = some (9 : BitVec 32)) ∧
      (((witLinkRetrainsAndWidth8).dev.port (3 : Fin 32).val).fr.replay = []) ∧
      ((witLinkRetrainsAndWidth8).dev.minWidth (3 : Fin 32).val ≤ laneCount ((witLinkRetrainsAndWidth8).dev.port (3 : Fin 32).val).tr.newLanes) := by decide
def witLinkRetrainsAndWidth9 : State := { dev := { devA with ports := [(3, { state := .active })] } }
theorem wit_LinkRetrainsAndWidth_9 :
      (((witLinkRetrainsAndWidth9).dev.port (3 : Fin 32).val).state = .active) ∧
      (((witLinkRetrainsAndWidth9).dev.port (3 : Fin 32).val).tr.reqOutstanding = none) ∧
      (((witLinkRetrainsAndWidth9).dev.port (3 : Fin 32).val).tr.switchGroup = none) := by decide
def witLinkTime1 : State := { dev := { devA with ports := [(3, { state := .active, fr := { locked := true }, tm := { sentAt := some 0 } })] } }
theorem wit_LinkTime_1 : ∃ (port : Fin 32) (bseq : BitVec 16) (ttx : Time) (echoSeq : BitVec 16) (echoRx : Time) (root : BitVec 14) (hops : BitVec 8) (wraps : BitVec 16) (t1 : Time) (now : Time) (s : State),
      ((s.dev.port port.val).hears = true) ∧
      ((s.dev.port port.val).tm.sentAt = some t1) ∧
      ((s.dev.port port.val).tm.bseq = echoSeq) ∧
      ((s.dev.port port.val).tm.skipNext = false) :=
  ⟨3, 0, 0, 0, 0, 0, 0, 0, 0, 0, witLinkTime1, by decide⟩
def witLinkTime2 : State := { dev := { devA with ports := [(3, { state := .active })] } }
theorem wit_LinkTime_2 :
      (((witLinkTime2).dev.port (3 : Fin 32).val).state = .active) ∧
      (periodDue ((witLinkTime2).dev.port (3 : Fin 32).val).tm.sentAt ((witLinkTime2).dev.advance (0 : Time)).time 64000 = true) := by decide
def witLinkTime3 : State := { dev := { devA with ports := [(3, { state := .active, fr := { locked := true } })] } }
theorem wit_LinkTime_3 : ∃ (port : Fin 32) (epoch : Nat) (cfg link : BitVec 384) (ttx : Time) (now : Time) (s : State),
      ((s.dev.port port.val).hears = true) ∧
      (epoch = s.dev.cfg.force.epoch) ∧
      (cfg = s.dev.cfg.force.sealDigest) ∧
      (link = s.dev.linkSeal port.val) :=
  ⟨3, 0, _, _, 0, 0, witLinkTime3, by decide, by decide, rfl, rfl⟩
def witLinkTime4 : State := { dev := { devA with ports := [(3, { state := .active, fr := { locked := true } })] } }
theorem wit_LinkTime_4 : ∃ (port : Fin 32) (epoch : Nat) (cfg link : BitVec 384) (ttx : Time) (now : Time) (s : State),
      ((s.dev.port port.val).hears = true) ∧
      ((epoch ≠ s.dev.cfg.force.epoch ∨ cfg ≠ s.dev.cfg.force.sealDigest)) ∧
      (s.dev.cfg.excused epoch cfg ttx = false) :=
  ⟨3, 7, 0, 0, 0, 0, witLinkTime4, by decide, .inl (by decide), by decide⟩
def witLinkTime5 : State := { dev := { devA with ports := [(3, { state := .active })] } }
theorem wit_LinkTime_5 :
      (((witLinkTime5).dev.port (3 : Fin 32).val).state = .active) ∧
      (periodDue ((witLinkTime5).dev.port (3 : Fin 32).val).tm.sealSentAt ((witLinkTime5).dev.advance (0 : Time)).time 10000000 = true) := by decide
def witLinkTime6 : State := { dev := { devA with tm := { state := 2 } } }
theorem wit_LinkTime_6 :
      ((witLinkTime6).dev.tm.state = 2) ∧
      (reached ((witLinkTime6).dev.advance (ms 2 : Time)).time (witLinkTime6).dev.tm.lastBeacon (ms 1) = true) := by decide
def witLinkTime7 : State := { dev := { devA with time := 0xFFFFFFFFFFFFFFFF } }
theorem wit_LinkTime_7 :
      (timeLe (witLinkTime7).dev.time (1 : Time) = true) ∧
      ((1 : Time).toNat < (witLinkTime7).dev.time.toNat) := by decide
def witSwitchesAndRouteEpochs2 : State := { dev := { devA with pkg := { ucie := [(8, { up := true })] }, fab := { switches := [(1, { inputs := [(5, [({ ptype := 2, tc := 0 } : Packet).stamped])], bank0 := { loaded := true, table := [(0, 64)] } })] } } }
theorem wit_SwitchesAndRouteEpochs_2 : ∃ (die : Fin 8) (p : Packet) (b : Bank) (now : Time) (s : State),
      ((s.dev.switch die.val) = { inputs := [(5, [p])], bank0 := b }) ∧
      (s.dev.fab.hubOut = []) ∧
      (p.crc = p.hcrc) ∧
      ((typeClass p.ptype).isSome = true) ∧
      (p.ptype ≠ 0x1A) ∧
      (expired (s.dev.advance now).time p = false) ∧
      (b.loaded = true) ∧
      (b.epoch = p.epoch) ∧
      (b.computed = false) ∧
      (b.table.get 0 p.dst.toNat % 128 = 64) ∧
      (s.dev.hubLinked die.val = true) ∧
      (s.dev.hubFree die.val = true) :=
  ⟨1, ({ ptype := 2, tc := 0 } : Packet).stamped, { loaded := true, table := [(0, 64)] }, 0, witSwitchesAndRouteEpochs2, by decide +kernel, by decide +kernel, by decide +kernel, by decide +kernel, by decide +kernel, by decide +kernel, by decide +kernel, by decide +kernel, by decide +kernel, by decide +kernel, by decide +kernel, by decide +kernel⟩
def witSwitchesAndRouteEpochs3 : State := { dev := { devA with fab := { switches := [(1, { inj := [(6, { q := [{}], wait := 256 })] })] } } }
theorem wit_SwitchesAndRouteEpochs_3 :
      (((witSwitchesAndRouteEpochs3).dev.switch (1 : Fin 8).val).promoted = none) ∧
      (((witSwitchesAndRouteEpochs3).dev.switch (1 : Fin 8).val).detour = []) ∧
      (((witSwitchesAndRouteEpochs3).dev.switch (1 : Fin 8).val).inj = [((6 : Nat), ({ q := [{}], wait := 256 } : InjQueue))]) ∧
      (256 ≤ ({ q := [{}], wait := 256 } : InjQueue).wait) ∧
      (({ q := [{}], wait := 256 } : InjQueue).q = ({} : Packet) :: ([] : List Packet)) := by decide
def witSwitchesAndRouteEpochs4 : State := { dev := devA }
theorem wit_SwitchesAndRouteEpochs_4 :
      ((witSwitchesAndRouteEpochs4).dev.fab.retireAt = none) ∧
      ((List.replicate 16384 0 : List Byte).length = 16384) := by refine ⟨by decide, List.length_replicate⟩
def witSwitchesAndRouteEpochs5 : State := { dev := { devA with fab := { switches := (List.range 8).map (fun k => (k, { staged := true })) } } }
theorem wit_SwitchesAndRouteEpochs_5 : ∃ (t : Time) (now : Time) (s : State),
      (s.dev.fab.retireAt = none) ∧
      (s.dev.fab.armed = none) ∧
      (timeAhead (s.dev.advance now).time t (ms 1) = true) ∧
      ((List.range 8).all (fun k => (s.dev.switch k).staged) = true) :=
  ⟨ms 5, 0, witSwitchesAndRouteEpochs5, by decide⟩
def witSwitchesAndRouteEpochs6 : State := { dev := { devA with fab := { retireAt := some 5 } } }
theorem wit_SwitchesAndRouteEpochs_6 : ∃ (t : Time) (now : Time) (s : State),
      ((s.dev.fab.retireAt ≠ none ∨ s.dev.fab.armed ≠ none)) :=
  ⟨0, 0, witSwitchesAndRouteEpochs6, by decide⟩
def witSwitchesAndRouteEpochs7 : State := { dev := { devA with fab := { armed := some 5 } } }
theorem wit_SwitchesAndRouteEpochs_7 :
      ((witSwitchesAndRouteEpochs7).dev.fab.armed = some (5 : Time)) ∧
      (timeLe (5 : Time) ((witSwitchesAndRouteEpochs7).dev.advance (6 : Time)).time = true) := by decide
def witSwitchesAndRouteEpochs8 : State := { dev := { devA with fab := { retireAt := some 5 } } }
theorem wit_SwitchesAndRouteEpochs_8 :
      ((witSwitchesAndRouteEpochs8).dev.fab.retireAt = some (5 : Time)) ∧
      (timeLe (5 : Time) ((witSwitchesAndRouteEpochs8).dev.advance (6 : Time)).time = true) := by decide
def witPairOrderAtTheSource1 : State := { dev := { devA with fab := { egressWait := [{ p := { dst := 3 } }], switches := [(0, { bank0 := { loaded := true, table := [(3, 1)] } })] } } }
theorem wit_PairOrderAtTheSource_1 : ∃ (die : Fin 8) (q : Posted) (b : Bank) (now : Time) (s : State),
      (s.dev.fab.egressWait.find? (fun x => (s.dev.out' x.p.dst).window.length < 8192) = some q) ∧
      ((s.dev.switch (q.queue die.val).1).bank s.dev.fab.epoch = some b) ∧
      (s.dev.entry (q.queue die.val).1 b q.p.dst ≠ 0) ∧
      ((if (q.queue die.val).2 = 6 then s.dev.hubLinked (q.queue die.val).1 = true ∧ s.dev.injRoom (q.queue die.val).1 ≠ 0 else ((s.dev.switch (q.queue die.val).1).inj.get {} (q.queue die.val).2).q.length < 8)) :=
  ⟨0, { p := { dst := 3 } }, { loaded := true, table := [(3, 1)] }, 0, witPairOrderAtTheSource1, by decide⟩
def witPairOrderAtTheSource2 : State := { dev := { devA with cores := [(0, { coreA 0 with tiq := [{ id := 4, word := 0x70000FDB, committed := true, begun := true, waiting := [0] }] })], fab := { out := [(3, { window := [{ p := { ptype := 1, dst := 3, pkey := 5 }, owner := .tensor 0 4 }] })] } } }
theorem wit_PairOrderAtTheSource_2 :
      (({ ptype := 6, src := 3, pkey := 5 } : Packet).ptype = 6) ∧
      (((witPairOrderAtTheSource2).dev.ingress ({ ptype := 6, src := 3, pkey := 5 } : Packet) (0 : Time)).2 = true) ∧
      (((witPairOrderAtTheSource2).dev.out' ({ ptype := 6, src := 3, pkey := 5 } : Packet).src).window = [({ p := { ptype := 1, dst := 3, pkey := 5 }, owner := .tensor 0 4 } : Posted)]) ∧
      (({ p := { ptype := 1, dst := 3, pkey := 5 }, owner := .tensor 0 4 } : Posted).owner = .tensor (0 : Nat) (4 : Nat)) ∧
      (({ p := { ptype := 1, dst := 3, pkey := 5 }, owner := .tensor 0 4 } : Posted).p.ptype = 1) ∧
      (((witPairOrderAtTheSource2).dev.core (0 : Nat)).entry? (4 : Nat) = some ({ id := 4, word := 0x70000FDB, committed := true, begun := true, waiting := [0] } : TiqEntry)) ∧
      (({ id := 4, word := 0x70000FDB, committed := true, begun := true, waiting := [0] } : TiqEntry).waiting = [(0 : Nat)]) ∧
      (({ id := 4, word := 0x70000FDB, committed := true, begun := true, waiting := [0] } : TiqEntry).transfer = false) ∧
      ((({ ptype := 6, src := 3, pkey := 5 } : Packet).pseq - ({ p := { ptype := 1, dst := 3, pkey := 5 }, owner := .tensor 0 4 } : Posted).p.pseq).toNat < 32768) := by decide
def witPairOrderAtTheSource3 : State := { dev := { devA with cores := [(0, { coreA 0 with tiq := [{ id := 4, word := 0x70000FDB, committed := true, begun := true, waiting := [0] }] })], fab := { out := [(3, { window := [{ p := { ptype := 1, dst := 3, pkey := 5 }, owner := .tensor 0 4 }] })] } } }
theorem wit_PairOrderAtTheSource_3 :
      (({ ptype := 7, src := 3, pkey := 5, xarg := 1 } : Packet).ptype = 7) ∧
      (((witPairOrderAtTheSource3).dev.ingress ({ ptype := 7, src := 3, pkey := 5, xarg := 1 } : Packet) (0 : Time)).2 = true) ∧
      (((witPairOrderAtTheSource3).dev.out' ({ ptype := 7, src := 3, pkey := 5, xarg := 1 } : Packet).src).window = [({ p := { ptype := 1, dst := 3, pkey := 5 }, owner := .tensor 0 4 } : Posted)]) ∧
      (({ p := { ptype := 1, dst := 3, pkey := 5 }, owner := .tensor 0 4 } : Posted).owner = .tensor (0 : Nat) (4 : Nat)) ∧
      (({ p := { ptype := 1, dst := 3, pkey := 5 }, owner := .tensor 0 4 } : Posted).p.ptype = 1) ∧
      (((witPairOrderAtTheSource3).dev.core (0 : Nat)).entry? (4 : Nat) = some ({ id := 4, word := 0x70000FDB, committed := true, begun := true, waiting := [0] } : TiqEntry)) ∧
      (({ id := 4, word := 0x70000FDB, committed := true, begun := true, waiting := [0] } : TiqEntry).waiting = [(0 : Nat)]) ∧
      (({ id := 4, word := 0x70000FDB, committed := true, begun := true, waiting := [0] } : TiqEntry).transfer = false) ∧
      ((({ p := { ptype := 1, dst := 3, pkey := 5 }, owner := .tensor 0 4 } : Posted).p.pseq - ({ ptype := 7, src := 3, pkey := 5, xarg := 1 } : Packet).pseq).toNat < bits ({ ptype := 7, src := 3, pkey := 5, xarg := 1 } : Packet).xarg 15 0) := by decide
def witPairOrderAtTheSource4 : State := { dev := { devA with cores := [(0, { coreA 0 with tiq := [{ id := 4, word := 0x70000FDB, committed := true, begun := true, waiting := [0] }] })], fab := { out := [(3, { window := [{ p := { ptype := 1, dst := 3, pkey := 5 }, owner := .tensor 0 4 }] })] } } }
theorem wit_PairOrderAtTheSource_4 :
      (({ ptype := 9, src := 3, pkey := 5, xarg := 0x0201 } : Packet).ptype = 9) ∧
      (((witPairOrderAtTheSource4).dev.ingress ({ ptype := 9, src := 3, pkey := 5, xarg := 0x0201 } : Packet) (0 : Time)).2 = true) ∧
      (((witPairOrderAtTheSource4).dev.out' ({ ptype := 9, src := 3, pkey := 5, xarg := 0x0201 } : Packet).src).window = [({ p := { ptype := 1, dst := 3, pkey := 5 }, owner := .tensor 0 4 } : Posted)]) ∧
      (({ p := { ptype := 1, dst := 3, pkey := 5 }, owner := .tensor 0 4 } : Posted).owner = .tensor (0 : Nat) (4 : Nat)) ∧
      (({ p := { ptype := 1, dst := 3, pkey := 5 }, owner := .tensor 0 4 } : Posted).p.ptype = 1) ∧
      (((witPairOrderAtTheSource4).dev.core (0 : Nat)).entry? (4 : Nat) = some ({ id := 4, word := 0x70000FDB, committed := true, begun := true, waiting := [0] } : TiqEntry)) ∧
      (({ id := 4, word := 0x70000FDB, committed := true, begun := true, waiting := [0] } : TiqEntry).waiting = [(0 : Nat)]) ∧
      (({ id := 4, word := 0x70000FDB, committed := true, begun := true, waiting := [0] } : TiqEntry).transfer = false) ∧
      (({ p := { ptype := 1, dst := 3, pkey := 5 }, owner := .tensor 0 4 } : Posted).p.pseq = ({ ptype := 9, src := 3, pkey := 5, xarg := 0x0201 } : Packet).pseq) := by decide
def witPairOrderAtTheSource5 : State := { dev := { devA with cores := [(0, { coreA 0 with tiq := [{ id := 4, word := 0x70000FDB, committed := true, begun := true, waiting := [0] }] })], fab := { out := [(3, { window := [{ p := { ptype := 1, dst := 3, pkey := 5 }, owner := .tensor 0 4 }] })] } } }
theorem wit_PairOrderAtTheSource_5 :
      (((witPairOrderAtTheSource5).dev.out' (3 : BitVec 14)).window.filter (fun q => reached ((witPairOrderAtTheSource5).dev.advance (ms 2 : Time)).time q.time (us 1200)) ≠ []) := by decide
def witPairOrderAtTheDestination1 : State := { dev := { devA with boot := { phase := 3, moduleId := 0 }, fab := { inn := [(3, { synced := true, frontier := 0xFFFF })] } } }
theorem wit_PairOrderAtTheDestination_1 :
      (({ src := 3, pseq := 0, pkey := 5, addr := 0x40000000, ptype := 1 } : Packet).ptype = 1) ∧
      (((witPairOrderAtTheDestination1).dev.ingress ({ src := 3, pseq := 0, pkey := 5, addr := 0x40000000, ptype := 1 } : Packet) (0 : Time)).2 = true) ∧
      (({ src := 3, pseq := 0, pkey := 5, addr := 0x40000000, ptype := 1 } : Packet).sync = false) ∧
      (((witPairOrderAtTheDestination1).dev.inn' ({ src := 3, pseq := 0, pkey := 5, addr := 0x40000000, ptype := 1 } : Packet).src).synced = true) ∧
      (((witPairOrderAtTheDestination1).dev.inn' ({ src := 3, pseq := 0, pkey := 5, addr := 0x40000000, ptype := 1 } : Packet).src).dist ({ src := 3, pseq := 0, pkey := 5, addr := 0x40000000, ptype := 1 } : Packet).pseq = 1) ∧
      (((witPairOrderAtTheDestination1).dev.inn' ({ src := 3, pseq := 0, pkey := 5, addr := 0x40000000, ptype := 1 } : Packet).src).held = []) ∧
      (((witPairOrderAtTheDestination1).dev.inn' ({ src := 3, pseq := 0, pkey := 5, addr := 0x40000000, ptype := 1 } : Packet).src).gone = []) := by decide
def witPairOrderAtTheDestination2 : State := { dev := { devA with boot := { phase := 3, moduleId := 0 }, fab := { inn := [(3, { synced := true, frontier := 0xFFFF })] } } }
theorem wit_PairOrderAtTheDestination_2 :
      (({ src := 3, pseq := 2, pkey := 5, addr := 0x40000000, ptype := 1 } : Packet).ptype = 1) ∧
      (((witPairOrderAtTheDestination2).dev.ingress ({ src := 3, pseq := 2, pkey := 5, addr := 0x40000000, ptype := 1 } : Packet) (0 : Time)).2 = true) ∧
      (({ src := 3, pseq := 2, pkey := 5, addr := 0x40000000, ptype := 1 } : Packet).sync = false) ∧
      (((witPairOrderAtTheDestination2).dev.inn' ({ src := 3, pseq := 2, pkey := 5, addr := 0x40000000, ptype := 1 } : Packet).src).synced = true) ∧
      (2 ≤ ((witPairOrderAtTheDestination2).dev.inn' ({ src := 3, pseq := 2, pkey := 5, addr := 0x40000000, ptype := 1 } : Packet).src).dist ({ src := 3, pseq := 2, pkey := 5, addr := 0x40000000, ptype := 1 } : Packet).pseq) ∧
      (((witPairOrderAtTheDestination2).dev.inn' ({ src := 3, pseq := 2, pkey := 5, addr := 0x40000000, ptype := 1 } : Packet).src).dist ({ src := 3, pseq := 2, pkey := 5, addr := 0x40000000, ptype := 1 } : Packet).pseq ≤ 8192) ∧
      (((witPairOrderAtTheDestination2).dev.inn' ({ src := 3, pseq := 2, pkey := 5, addr := 0x40000000, ptype := 1 } : Packet).src).held.any (·.pseq = ({ src := 3, pseq := 2, pkey := 5, addr := 0x40000000, ptype := 1 } : Packet).pseq) = false) ∧
      (((witPairOrderAtTheDestination2).dev.inn' ({ src := 3, pseq := 2, pkey := 5, addr := 0x40000000, ptype := 1 } : Packet).src).gone.contains ({ src := 3, pseq := 2, pkey := 5, addr := 0x40000000, ptype := 1 } : Packet).pseq.toNat = false) ∧
      ((witPairOrderAtTheDestination2).dev.fab.reorderBytes + ({ src := 3, pseq := 2, pkey := 5, addr := 0x40000000, ptype := 1 } : Packet).size ≤ 8388608) := by decide
def witPairOrderAtTheDestination3 : State := { dev := { devA with boot := { phase := 3, moduleId := 0 }, fab := { inn := [(3, { synced := true, frontier := 0xFFFF })] } } }
theorem wit_PairOrderAtTheDestination_3 : ∃ (p : Packet) (who : Accessor) (now : Time) (s : State),
      (p.ptype = 2) ∧
      ((s.dev.ingress p now).2 = true) ∧
      (p.sync = false) ∧
      ((s.dev.inn' p.src).synced = true) ∧
      ((s.dev.inn' p.src).dist p.pseq = 1) ∧
      ((s.dev.inn' p.src).held = []) ∧
      ((s.dev.inn' p.src).gone = []) ∧
      ((s.dev.inSequence p now).homeCheck p.pkey { w := true } p.addr 64 = .ok who) :=
  ⟨{ src := 3, pseq := 0, pkey := 5, addr := 0x40000000, ptype := 2 }, {}, 0, witPairOrderAtTheDestination3, by decide, by decide, by decide, by decide, by decide, by decide, by decide, eq_ok_of (by decide +kernel)⟩
def witPairOrderAtTheDestination4 : State := { dev := { devA with boot := { phase := 3, moduleId := 0 }, fab := { inn := [(3, { synced := true, frontier := 0xFFFF })] } } }
theorem wit_PairOrderAtTheDestination_4 : ∃ (p : Packet) (who : Accessor) (now : Time) (s : State),
      (p.ptype = 3) ∧
      ((s.dev.ingress p now).2 = true) ∧
      (p.sync = false) ∧
      ((s.dev.inn' p.src).synced = true) ∧
      ((s.dev.inn' p.src).dist p.pseq = 1) ∧
      ((s.dev.inn' p.src).held = []) ∧
      ((s.dev.inn' p.src).gone = []) ∧
      (p.stream = 0) ∧
      ((s.dev.inSequence p now).homeCheck p.pkey { r := true } p.addr (bits p.xarg 23 0) = .ok who) :=
  ⟨{ src := 3, pseq := 0, pkey := 5, addr := 0x40000000, ptype := 3, xarg := 8 }, {}, 0, witPairOrderAtTheDestination4, by decide, by decide, by decide, by decide, by decide, by decide, by decide, by decide, eq_ok_of (by decide +kernel)⟩
def witPairOrderAtTheDestination5 : State := { dev := { devA with mem := { devA.mem with mem := Memory.write devA.mem.mem (semSlot 0 + 8) [5, 0, 1, 1] }, boot := { phase := 3, moduleId := 0 }, fab := { inn := [(3, { synced := true, frontier := 0xFFFF })] } } }
theorem wit_PairOrderAtTheDestination_5 : ∃ (p : Packet) (now : Time) (s : State),
      (p.ptype = 5) ∧
      ((s.dev.ingress p now).2 = true) ∧
      (p.sync = false) ∧
      ((s.dev.inn' p.src).synced = true) ∧
      ((s.dev.inn' p.src).dist p.pseq = 1) ∧
      ((s.dev.inn' p.src).held = []) ∧
      ((s.dev.inn' p.src).gone = []) ∧
      (((s.dev.inSequence p now).signalApply (BitVec.ofNat 64 p.addr) p.xarg p.pkey (BitVec.ofNat 32 (leNat p.payload))).2 = 0) :=
  ⟨{ ptype := 5, src := 3, pkey := 5, addr := 0x100000, xarg := 1 }, 0, witPairOrderAtTheDestination5, by decide, by decide, by decide, by decide, by decide, by decide, by decide, by decide +kernel⟩
def witPairOrderAtTheDestination6 : State := { dev := { devA with cores := [(0, { sc := { wait := some { tag := some 0 } } })] } }
theorem wit_PairOrderAtTheDestination_6 :
      (({ ptype := 4, src := 3, pkey := 5 } : Packet).ptype = 4) ∧
      (((witPairOrderAtTheDestination6).dev.ingress ({ ptype := 4, src := 3, pkey := 5 } : Packet) (0 : Time)).2 = true) ∧
      (({ ptype := 4, src := 3, pkey := 5 } : Packet).stream = 0) ∧
      (((witPairOrderAtTheDestination6).dev.ingress ({ ptype := 4, src := 3, pkey := 5 } : Packet) (0 : Time)).1.cores.first? (fun _ k => match k.sc.wait with | some w => w.tag = some (bits ({ ptype := 4, src := 3, pkey := 5 } : Packet).xarg 31 24) | none => false) = some ((0 : Nat), ({ sc := { wait := some { tag := some 0 } } } : Core))) ∧
      (({ sc := { wait := some { tag := some 0 } } } : Core).sc.wait = some ({ tag := some 0 } : MemWait)) ∧
      (({ ptype := 4, src := 3, pkey := 5 } : Packet).pmask = 0) := by decide
def witPairOrderAtTheDestination7 : State := { dev := { devA with boot := { phase := 3, moduleId := 0 }, fab := { inn := [(3, { synced := true, frontier := 0xFFFF })] } } }
theorem wit_PairOrderAtTheDestination_7 :
      (({ src := 3, pseq := 0, pkey := 5, addr := 0x40000000, ptype := 8, xarg := 1 } : Packet).ptype = 8) ∧
      (((witPairOrderAtTheDestination7).dev.ingress ({ src := 3, pseq := 0, pkey := 5, addr := 0x40000000, ptype := 8, xarg := 1 } : Packet) (0 : Time)).2 = true) ∧
      (bits ({ src := 3, pseq := 0, pkey := 5, addr := 0x40000000, ptype := 8, xarg := 1 } : Packet).xarg 15 0 = 1) ∧
      (({ src := 3, pseq := 0, pkey := 5, addr := 0x40000000, ptype := 8, xarg := 1 } : Packet).pseq = ((witPairOrderAtTheDestination7).dev.inn' ({ src := 3, pseq := 0, pkey := 5, addr := 0x40000000, ptype := 8, xarg := 1 } : Packet).src).frontier + 1) ∧
      (((witPairOrderAtTheDestination7).dev.inn' ({ src := 3, pseq := 0, pkey := 5, addr := 0x40000000, ptype := 8, xarg := 1 } : Packet).src).held = []) ∧
      (((witPairOrderAtTheDestination7).dev.inn' ({ src := 3, pseq := 0, pkey := 5, addr := 0x40000000, ptype := 8, xarg := 1 } : Packet).src).gone = []) := by decide
def witPairOrderAtTheDestination8 : State := { dev := { devA with fab := { inn := [(3, { ackPending := true })] } } }
theorem wit_PairOrderAtTheDestination_8 :
      (((witPairOrderAtTheDestination8).dev.inn' (3 : BitVec 14)).ackPending = true) := by decide
def witPairOrderAtTheDestination9 : State := { dev := { devA with fab := { inn := [(3, { lastAck := some 0, lastAdvance := some 0 })] } } }
theorem wit_PairOrderAtTheDestination_9 :
      (((witPairOrderAtTheDestination9).dev.inn' (3 : BitVec 14)).lastAck = some (0 : Time)) ∧
      (((witPairOrderAtTheDestination9).dev.inn' (3 : BitVec 14)).lastAdvance = some (0 : Time)) ∧
      (reached ((witPairOrderAtTheDestination9).dev.advance (us 150 : Time)).time (0 : Time) (us 100) = true) ∧
      (timeLe ((witPairOrderAtTheDestination9).dev.advance (us 150 : Time)).time ((0 : Time) + us 1200) = true) := by decide
def witPairOrderAtTheDestination10 : State := { dev := { devA with fab := { inn := [(3, { held := [{ pseq := 3 }] })] } } }
theorem wit_PairOrderAtTheDestination_10 :
      (((witPairOrderAtTheDestination10).dev.inn' (3 : BitVec 14)).held = [({ pseq := 3 } : Packet)]) ∧
      (expired ((witPairOrderAtTheDestination10).dev.advance (ms 2 : Time)).time ({ pseq := 3 } : Packet) = true) := by decide
def witManagementAndRemoteTransfers1 : State := { dev := { devA with cores := [(0, { coreA 0 with tiq := [{ id := 4, word := 0x30000FDB, committed := true, begun := true }] })] } }
theorem wit_ManagementAndRemoteTransfers_1 : ∃ (core : Fin 512) (id : Nat) (errs : List EccEvent) (e : TiqEntry) (tdd tds rs : Nat) (ms : KMap BeadVal) (d0 d1 : Dev) (ps : List Packet) (now : Time) (s : State),
      ((s.dev.advance now).eccHeld core.val id errs = d0) ∧
      (d0.atWork core.val id e = true) ∧
      (e.instr = some (.send tdd tds rs)) ∧
      (e.waiting = []) ∧
      ((d0.core core.val).sendBefore id = false) ∧
      (d0.mayRead core.val e = true) ∧
      (d0.streamRoom e.stream = true) ∧
      (d0.readBeads (d0.who core.val) (e.desc tds) (e.desc tds).copyBeads [] = (d1, .ok ms)) ∧
      (ps = ms.flatMap (fun p => beadRecordPackets (p.2.bytes (e.desc tds)) p.2.side p.2.pz { d1.transferBase core.val e 1 0 with addr := (e.desc tdd).base + (e.desc tds).sameBead (e.desc tdd) p.1 * (e.desc tdd).bstride })) :=
  ⟨0, 4, [], { id := 4, word := 0x30000FDB, committed := true, begun := true }, 0, 0, 0, _, _, _, _, 0, witManagementAndRemoteTransfers1, rfl, by decide, by decide, by decide, by decide, by decide, by decide, eq_ok_pair (by decide +kernel), rfl⟩
def witManagementAndRemoteTransfers2 : State := workA 0x40000FDB
theorem wit_ManagementAndRemoteTransfers_2 :
      ((witManagementAndRemoteTransfers2).dev.atWork (0 : Fin 512).val (4 : Nat) ({ id := 4, word := 0x40000FDB, committed := true, begun := true } : TiqEntry) = true) ∧
      (({ id := 4, word := 0x40000FDB, committed := true, begun := true } : TiqEntry).instr = some (.recv (0 : Nat) (0 : Nat) (0 : Nat))) ∧
      (({ id := 4, word := 0x40000FDB, committed := true, begun := true } : TiqEntry).waiting = []) ∧
      (((witManagementAndRemoteTransfers2).dev.advance (0 : Time)).mayWrite (0 : Fin 512).val ({ id := 4, word := 0x40000FDB, committed := true, begun := true } : TiqEntry) = true) ∧
      ((witManagementAndRemoteTransfers2).dev.streamRoom ({ id := 4, word := 0x40000FDB, committed := true, begun := true } : TiqEntry).stream = true) := by decide
def witManagementAndRemoteTransfers3 : State := { dev := { devA with cores := [(0, coreA 0x40000FDB)], fab := { recvs := [{ core := 0, id := 4, remaining := [0] }] } } }
theorem wit_ManagementAndRemoteTransfers_3 :
      ((witManagementAndRemoteTransfers3).dev.fab.recvs.find? (fun r => r.core = (0 : Fin 512).val && r.id = (4 : Nat)) = some ({ core := 0, id := 4, remaining := [0] } : RecvOp)) ∧
      (reached ((witManagementAndRemoteTransfers3).dev.advance (ms 2 : Time)).time ({ core := 0, id := 4, remaining := [0] } : RecvOp).lastReq (us 1200) = true) ∧
      ((witManagementAndRemoteTransfers3).dev.fab.egressWait.any (fun q => q.owner = .tensor (0 : Fin 512).val (4 : Nat)) = false) ∧
      (({ core := 0, id := 4, remaining := [0] } : RecvOp).remaining = [(0 : Nat)]) ∧
      (((witManagementAndRemoteTransfers3).dev.core (0 : Fin 512).val).entry? (4 : Nat) = some ({ id := 4, word := 0x40000FDB, committed := true, begun := true } : TiqEntry)) := by decide
def witManagementAndRemoteTransfers4 : State := { dev := devA }
theorem wit_ManagementAndRemoteTransfers_4 :
      (((witManagementAndRemoteTransfers4).dev.ingress ({ src := 3, xarg := 1 } : Packet) (0 : Time)).2 = true) ∧
      ((witManagementAndRemoteTransfers4).dev.boot.phase = 3) ∧
      (bits ({ src := 3, xarg := 1 } : Packet).xarg 7 0 = 1) ∧
      ((((devA.ingress { src := 3, xarg := 1 } 0).1.serveKept (.mgmt 3) {} 384 [] 0) : Dev × List Byte) = ((witManagementAndRemoteTransfers4).dev.ingress ({ src := 3, xarg := 1 } : Packet) (0 : Time)).1.serveKept (.mgmt ({ src := 3, xarg := 1 } : Packet).src) ({} : WriteEnv) 384 ({ src := 3, xarg := 1 } : Packet).payload (0 : Time)) := by refine ⟨by decide, by decide, by decide, rfl⟩
def witManagementAndRemoteTransfers5 : State := { dev := devA }
theorem wit_ManagementAndRemoteTransfers_5 :
      (((witManagementAndRemoteTransfers5).dev.ingress ({ src := 3, xarg := 2 } : Packet) (0 : Time)).2 = true) ∧
      ((witManagementAndRemoteTransfers5).dev.boot.phase = 3) ∧
      (bits ({ src := 3, xarg := 2 } : Packet).xarg 7 0 = 2) := by decide
def witManagementAndRemoteTransfers6 : State := { dev := devA }
theorem wit_ManagementAndRemoteTransfers_6 :
      (((witManagementAndRemoteTransfers6).dev.ingress ({ src := 3, xarg := 0x20 } : Packet) (0 : Time)).2 = true) ∧
      ((witManagementAndRemoteTransfers6).dev.boot.phase = 3) ∧
      (bits ({ src := 3, xarg := 0x20 } : Packet).xarg 7 0 ≠ 1) ∧
      (bits ({ src := 3, xarg := 0x20 } : Packet).xarg 7 0 ≠ 2) := by decide
def witJournalAndDigests2 : State := { dev := devA }
theorem wit_JournalAndDigests_2 :
      ((witJournalAndDigests2).dev.coordinator ((witJournalAndDigests2).dev.part (0 : Fin 512).val) = some (witJournalAndDigests2).dev.id) := by decide
def witJournalAndDigests3 : State := { dev := { devA with parts := [(0, { partA with jrn := { reports := [{ module := 0 }], phase := 1 } })] } }
theorem wit_JournalAndDigests_3 :
      (((witJournalAndDigests3).dev.part (0 : Fin 512).val).jrn.phase = 1) ∧
      (((witJournalAndDigests3).dev.part (0 : Fin 512).val).modules.all (fun m => ((witJournalAndDigests3).dev.part (0 : Fin 512).val).jrn.reports.any (fun r => r.module = m)) = true) := by decide
def witJournalAndDigests4 : State := { dev := { devA with parts := [(0, { partA with jrn := { phase := 2, decision := 3 } })] } }
theorem wit_JournalAndDigests_4 :
      (((witJournalAndDigests4).dev.part (0 : Fin 512).val).jrn.phase = 2) ∧
      (((witJournalAndDigests4).dev.part (0 : Fin 512).val).jrn.replays = []) := by decide
def witJournalAndDigests5 : State := { dev := jrnA { peers := [1], digestSteps := 1 } }
theorem wit_JournalAndDigests_5 : ∃ (part : Fin 512) (answers : List (BitVec 14 × Option Word)) (n : Nat) (now : Time) (s : State),
      ((s.dev.advance now).lastClosed part.val = some n) ∧
      (s.dev.isComparer part.val = true) ∧
      ((s.dev.part part.val).jrn.digestSteps ≠ 0) ∧
      ((s.dev.part part.val).jrn.comparedStep + (s.dev.part part.val).jrn.digestSteps ≤ n) ∧
      ((s.dev.part part.val).jrn.tryAt = none) ∧
      ((∀ m ∈ (s.dev.part part.val).jrn.peers, m ≠ s.dev.id → (answers.find? (fun x => x.1 = m)).bind (fun x => x.2) = some ((s.dev.advance now).digestPost part.val n))) :=
  ⟨0, [(1, some ((jrnA { peers := [1], digestSteps := 1 }).digestPost 0 2))], 2, 0, witJournalAndDigests5, by decide +kernel, by decide, by decide, by decide, by decide, by decide +kernel⟩
def witJournalAndDigests6 : State := { dev := jrnA { peers := [1], tryAt := some 0 } }
theorem wit_JournalAndDigests_6 :
      (((witJournalAndDigests6).dev.part (0 : Fin 512).val).jrn.tryAt = some (0 : Time)) ∧
      (((witJournalAndDigests6).dev.advance (ms 11 : Time)).lastClosed (0 : Fin 512).val = some (2 : Nat)) ∧
      (reached ((witJournalAndDigests6).dev.advance (ms 11 : Time)).time (0 : Time) (ms 10) = true) ∧
      (∃ m ∈ ((witJournalAndDigests6).dev.part (0 : Fin 512).val).jrn.peers, m ≠ (witJournalAndDigests6).dev.id ∧ (([] : List (BitVec 14 × Option Word)).find? (fun x => x.1 = m)).bind (fun x => x.2) = none) ∧
      (((witJournalAndDigests6).dev.part (0 : Fin 512).val).jrn.tries < 9) := by refine ⟨by decide, by decide +kernel, by decide, ⟨1, by decide⟩, by decide⟩
def witHalyardsAndFills1 : State := { dev := { devA with fab := { switches := [(1, { halyardTable := [(0, 0x8420)] })] } } }
theorem wit_HalyardsAndFills_1 : ∃ (die : Fin 8) (input : Fin 7) (p : Packet) (now : Time) (s : State),
      (bit ((s.dev.switch die.val).halyardTable.get 0 (bits p.xarg 7 0 % 64)) 15 = true) ∧
      (bits ((s.dev.switch die.val).halyardTable.get 0 (bits p.xarg 7 0 % 64)) 10 8 = input.val) ∧
      (p.crc = p.hcrc) ∧
      ((typeClass p.ptype).isSome = true) ∧
      (expired (s.dev.advance now).time p = false) ∧
      ((4 ≤ input.val ∨ s.dev.portAdmits (die.val * 4 + input.val) p.pkey = true)) ∧
      ((∀ o ∈ maskOuts (bits ((s.dev.switch die.val).halyardTable.get 0 (bits p.xarg 7 0 % 64)) 6 0), s.dev.outAdmits die.val p.pkey o = true ∧ ((s.dev.switch die.val).halyardQ.get [] o).length < 8)) :=
  ⟨1, 4, ({ ptype := 0x1A } : Packet).stamped, 0, witHalyardsAndFills1, by decide +kernel, by decide +kernel, by decide +kernel, by decide +kernel, by decide +kernel, by decide +kernel, by decide +kernel⟩
def witHalyardsAndFills2 : State := { dev := devA }
theorem wit_HalyardsAndFills_2 :
      (expired ((witHalyardsAndFills2).dev.advance (0 : Time)).time ({ ptype := 0x1A } : Packet) = false) ∧
      (({ ptype := 0x1A } : Packet).hseq = ((witHalyardsAndFills2).dev.haly (bits ({ ptype := 0x1A } : Packet).xarg 7 0 % 64)).nextSeq) ∧
      (((witHalyardsAndFills2).dev.haly (bits ({ ptype := 0x1A } : Packet).xarg 7 0 % 64)).held = []) := by decide
def witHalyardsAndFills3 : State := { dev := devA }
theorem wit_HalyardsAndFills_3 :
      (expired ((witHalyardsAndFills3).dev.advance (0 : Time)).time ({ ptype := 0x1A, pkey := 5, stream := 1, addr := 0x40000000, payload := leBytes 8 64 ++ leBytes 8 64 } : Packet) = false) ∧
      (({ ptype := 0x1A, pkey := 5, stream := 1, addr := 0x40000000, payload := leBytes 8 64 ++ leBytes 8 64 } : Packet).hseq = ((witHalyardsAndFills3).dev.haly (bits ({ ptype := 0x1A, pkey := 5, stream := 1, addr := 0x40000000, payload := leBytes 8 64 ++ leBytes 8 64 } : Packet).xarg 7 0 % 64)).nextSeq) ∧
      (((witHalyardsAndFills3).dev.haly (bits ({ ptype := 0x1A, pkey := 5, stream := 1, addr := 0x40000000, payload := leBytes 8 64 ++ leBytes 8 64 } : Packet).xarg 7 0 % 64)).held = []) ∧
      (({ ptype := 0x1A, pkey := 5, stream := 1, addr := 0x40000000, payload := leBytes 8 64 ++ leBytes 8 64 } : Packet).pkey ≠ 0) ∧
      ((witHalyardsAndFills3).dev.keyHere ({ ptype := 0x1A, pkey := 5, stream := 1, addr := 0x40000000, payload := leBytes 8 64 ++ leBytes 8 64 } : Packet).pkey = true) ∧
      (({ ptype := 0x1A, pkey := 5, stream := 1, addr := 0x40000000, payload := leBytes 8 64 ++ leBytes 8 64 } : Packet).stream = 1) ∧
      ((witHalyardsAndFills3).dev.partOfKey ({ ptype := 0x1A, pkey := 5, stream := 1, addr := 0x40000000, payload := leBytes 8 64 ++ leBytes 8 64 } : Packet).pkey = some (0 : Nat)) ∧
      (((witHalyardsAndFills3).dev.checkExtent { part := (0 : Nat) } { w := true } false ({ ptype := 0x1A, pkey := 5, stream := 1, addr := 0x40000000, payload := leBytes 8 64 ++ leBytes 8 64 } : Packet).addr (leNat (({ ptype := 0x1A, pkey := 5, stream := 1, addr := 0x40000000, payload := leBytes 8 64 ++ leBytes 8 64 } : Packet).payload.take 8))).isOk = true) := by refine ⟨by decide, by decide, by decide, by decide, by decide, by decide, by decide, by decide +kernel⟩
def witHalyardsAndFills4 : State := { dev := { devA with fab := { halyIn := [(0, { held := [{ xarg := 0x100 }], gapSince := some 0 })] } } }
theorem wit_HalyardsAndFills_4 :
      ((((witHalyardsAndFills4).dev.advance (us 200 : Time)).haly (0 : Nat)).gapSince = some (0 : Time)) ∧
      ((((witHalyardsAndFills4).dev.advance (us 200 : Time)).haly (0 : Nat)).nearest = some ({ xarg := 0x100 } : Packet)) ∧
      (reached ((witHalyardsAndFills4).dev.advance (us 200 : Time)).time (0 : Time) (us 100) = true) ∧
      ((((witHalyardsAndFills4).dev.advance (us 200 : Time)).haly (0 : Nat)).repairs < 4) := by decide
def witHalyardsAndFills6 : State := { dev := devA }
theorem wit_HalyardsAndFills_6 :
      (leNat ((leBytes 8 0 ++ leBytes 8 0x40000000 ++ leBytes 8 ((Sideband.ofWord 0).size) ++ leBytes 8 0x40100000 : List Byte).take 1) < 64) ∧
      (leNat (((leBytes 8 0 ++ leBytes 8 0x40000000 ++ leBytes 8 ((Sideband.ofWord 0).size) ++ leBytes 8 0x40100000 : List Byte).drop 1).take 7) = 0) ∧
      (leNat (((leBytes 8 0 ++ leBytes 8 0x40000000 ++ leBytes 8 ((Sideband.ofWord 0).size) ++ leBytes 8 0x40100000 : List Byte).drop 16).take 8) ≠ 0) ∧
      (leNat (((leBytes 8 0 ++ leBytes 8 0x40000000 ++ leBytes 8 ((Sideband.ofWord 0).size) ++ leBytes 8 0x40100000 : List Byte).drop 16).take 8) % (((witHalyardsAndFills6).dev.advance (0 : Time)).sideband (((witHalyardsAndFills6).dev.advance (0 : Time)).mpa { part := (0 : Fin 512).val } (leNat (((leBytes 8 0 ++ leBytes 8 0x40000000 ++ leBytes 8 ((Sideband.ofWord 0).size) ++ leBytes 8 0x40100000 : List Byte).drop 8).take 8)))).size = 0) ∧
      (((witHalyardsAndFills6).dev.checkExtent { part := (0 : Fin 512).val } { r := true } false (leNat (((leBytes 8 0 ++ leBytes 8 0x40000000 ++ leBytes 8 ((Sideband.ofWord 0).size) ++ leBytes 8 0x40100000 : List Byte).drop 8).take 8)) (leNat (((leBytes 8 0 ++ leBytes 8 0x40000000 ++ leBytes 8 ((Sideband.ofWord 0).size) ++ leBytes 8 0x40100000 : List Byte).drop 16).take 8))).isOk = true) := by refine ⟨by decide, by decide, by decide, by decide +kernel, by decide +kernel⟩
def witPowerGrants1 : State := { dev := { devA with power := {  }, rigs := [(0, { state := .idle })] } }
theorem wit_PowerGrants_1 :
      ((witPowerGrants1).dev.inService (0 : Fin 512).val = true) ∧
      ((if (0 : Fin 2) = 0 then ((witPowerGrants1).dev.corePower (0 : Fin 512).val).matrixOn else ((witPowerGrants1).dev.corePower (0 : Fin 512).val).vectorOn) = false) ∧
      ((witPowerGrants1).dev.power.wakes.any (fun x => x.unit = (0 : Fin 2).val && x.core = (0 : Fin 512).val) = false) := by decide
def witPowerGrants2 : State := { dev := { devA with power := { wakes := [{ core := 0, unit := 0, cost := 20 }] }, rigs := [(0, { state := .idle })] } }
theorem wit_PowerGrants_2 : ∃ (q : WakeReq) (now : Time) (s : State),
      (nsOf (s.dev.advance now).time % 100 = 0) ∧
      (s.dev.power.wakes = [q]) ∧
      ((s.dev.advance now).reqRoom q.core q.cost = true) ∧
      (q.cost ≤ 96) ∧
      (q.core < 512) ∧
      (((s.dev.advance now).grantRaise (q.core / 8) q.cost : Int) ≤ (s.dev.advance now).poolRoom) :=
  ⟨{ core := 0, unit := 0, cost := 20 }, 0, witPowerGrants2, by decide, by decide, by decide +kernel, by decide, by decide, by decide +kernel⟩
def witPowerGrants3 : State := { dev := { devA with power := { cores := [(0, { matrixOn := true })] } } }
theorem wit_PowerGrants_3 : ∃ (core : Fin 512) (unit : Fin 2) (now : Time) (s : State),
      ((s.dev.core core.val).engineWork unit.val = false) ∧
      (reached (s.dev.advance now).time ((s.dev.core core.val).worked.get 0 unit.val) (us s.dev.power.holdUs) = true) :=
  ⟨0, 0, ms 1, witPowerGrants3, by decide⟩
def witPowerGrants4 : State := { dev := devA }
theorem wit_PowerGrants_4 : ∃ (cluster : Fin 64) (now : Time) (s : State),
      (reached (s.dev.advance now).time (s.dev.clusterPower cluster.val).unusedAt (us s.dev.power.holdUs) = true) :=
  ⟨0, ms 1, witPowerGrants4, by decide⟩
def witPowerGrants5 : State := { dev := { devA with power := { clusters := [(2, { thermal := 3 })] } } }
theorem wit_PowerGrants_5 :
      (((witPowerGrants5).dev.corePower (16 : Fin 512).val).boost = false) ∧
      (((witPowerGrants5).dev.corePower (16 : Fin 512).val).reef < ((witPowerGrants5).dev.advance (0 : Time)).levelAsked (16 : Fin 512).val) := by decide
def witPowerGrants6 : State := { dev := { devA with power := { cores := [(16, { reef := 5 })] } } }
theorem wit_PowerGrants_6 :
      (((witPowerGrants6).dev.corePower (16 : Fin 512).val).boost = false) ∧
      (((witPowerGrants6).dev.advance (0 : Time)).levelAsked (16 : Fin 512).val < ((witPowerGrants6).dev.corePower (16 : Fin 512).val).reef) ∧
      ((witPowerGrants6).dev.power.wakes.any (fun x => decide (2 ≤ x.unit) && decide (x.core / 8 = (16 : Fin 512).val / 8)) = false) := by decide
def witDroopAndHeat1 : State := { dev := devA }
theorem wit_DroopAndHeat_1 :
      (((witDroopAndHeat1).dev.clusterPower (2 : Fin 64).val).stretched = false) := by decide
def witDroopAndHeat3 : State := { dev := { devA with power := { clusters := [(2, { stretched := true })] } } }
theorem wit_DroopAndHeat_3 :
      (((witDroopAndHeat3).dev.clusterPower (2 : Fin 64).val).stretched = true) ∧
      (reached ((witDroopAndHeat3).dev.advance (us 6 : Time)).time ((witDroopAndHeat3).dev.clusterPower (2 : Fin 64).val).stretchSince (us 5) = true) := by decide
def witDroopAndHeat4 : State := { dev := { devA with power := { clusters := [(2, { droopLevel := 2 })] } } }
theorem wit_DroopAndHeat_4 :
      (0 < ((witDroopAndHeat4).dev.clusterPower (2 : Fin 64).val).droopLevel) ∧
      (reached ((witDroopAndHeat4).dev.advance (ms 11 : Time)).time ((witDroopAndHeat4).dev.clusterPower (2 : Fin 64).val).escalated (ms 10) = true) := by decide
def witDroopAndHeat5 : State := { dev := { devA with power := { sensors := [(34, { value := 0x42DC0000 })] } } }
theorem wit_DroopAndHeat_5 : ∃ (cluster : Fin 64) (now : Time) (s : State),
      ((s.dev.advance now).tReef.lt ((s.dev.advance now).clusterTemp cluster.val) = true) ∧
      (((s.dev.clusterPower cluster.val).hot = false ∨ reached (s.dev.advance now).time (s.dev.clusterPower cluster.val).thermalAt (ms 1) = true)) :=
  ⟨2, 0, witDroopAndHeat5, by decide +kernel, .inl (by decide)⟩
def witDroopAndHeat6 : State := { dev := { devA with power := { clusters := [(2, { thermal := 2 })] } } }
theorem wit_DroopAndHeat_6 :
      ((((witDroopAndHeat6).dev.advance (ms 11 : Time)).clusterTemp (2 : Fin 64).val).lt (((witDroopAndHeat6).dev.advance (ms 11 : Time)).tReef.sub (extNat 5)) = true) ∧
      (0 < ((witDroopAndHeat6).dev.clusterPower (2 : Fin 64).val).thermal) ∧
      (reached ((witDroopAndHeat6).dev.advance (ms 11 : Time)).time ((witDroopAndHeat6).dev.clusterPower (2 : Fin 64).val).thermalAt (ms 10) = true) := by refine ⟨by decide +kernel, by decide, by decide⟩
def witDroopAndHeat7 : State := { dev := { devA with power := { overSince := some 0 } } }
theorem wit_DroopAndHeat_7 :
      ((witDroopAndHeat7).dev.power.overSince = some (0 : Time)) ∧
      ((witDroopAndHeat7).dev.power.raisedAt = none) ∧
      (reached ((witDroopAndHeat7).dev.advance (ms 3 : Time)).time (0 : Time) (ms 2) = true) := by decide
def witDroopAndHeat8 : State := { dev := { devA with power := { avg10 := { last := 0x457A0000 } } } }
theorem wit_DroopAndHeat_8 : ∃ (now : Time) (s : State),
      ((extNat 3600).lt (ofF32 s.dev.power.avg10.last) = true) ∧
      ((∀ t, s.dev.power.peakAt = some t → reached (s.dev.advance now).time t (us 10) = true)) :=
  ⟨0, witDroopAndHeat8, by decide +kernel, by intro t h; cases h⟩
def witDroopAndHeat9 : State := { dev := { devA with power := { enforcement := 2 } } }
theorem wit_DroopAndHeat_9 :
      ((extNat (95 * ((witDroopAndHeat9).dev.advance (ms 11 : Time)).budgetEff)).lt ((extNat 100).mul (ofF32 (witDroopAndHeat9).dev.power.avg100.last)) = false) ∧
      ((extNat ((witDroopAndHeat9).dev.advance (ms 11 : Time)).budgetEff).lt (ofF32 (witDroopAndHeat9).dev.power.avg1s.last) = false) ∧
      (0 < (witDroopAndHeat9).dev.power.enforcement) ∧
      (reached ((witDroopAndHeat9).dev.advance (ms 11 : Time)).time (witDroopAndHeat9).dev.power.loweredAt (ms 10) = true) := by refine ⟨by decide +kernel, by decide +kernel, by decide, by decide⟩
def witSensorsAndCooling1 : State := { dev := devA }
theorem wit_SensorsAndCooling_1 : ∃ (sensor : Fin 248) (v : BitVec 32) (now : Time) (s : State),
      (nsOf (s.dev.advance now).time % sensorPeriod sensor.val = 0) :=
  ⟨31, 0, 0, witSensorsAndCooling1, by decide⟩
def witSensorsAndCooling2 : State := { dev := devA }
theorem wit_SensorsAndCooling_2 : ∃ (sensor : Fin 248) (v : BitVec 32) (now : Time) (s : State),
      (nsOf (s.dev.advance now).time % sensorPeriod sensor.val = 0) :=
  ⟨31, 0, 0, witSensorsAndCooling2, by decide⟩
def witSensorsAndCooling3 : State := { dev := { devA with power := { dryFrom := some 0 } } }
theorem wit_SensorsAndCooling_3 :
      ((witSensorsAndCooling3).dev.power.dryFrom = some (0 : Time)) ∧
      ((witSensorsAndCooling3).dev.power.coolantHold = false) ∧
      (reached ((witSensorsAndCooling3).dev.advance (ms 1001 : Time)).time (0 : Time) (ms 1000) = true) := by decide
def witSensorsAndCooling4 : State := { dev := { devA with power := { wetFrom := some 0, coolantHold := true } } }
theorem wit_SensorsAndCooling_4 :
      ((witSensorsAndCooling4).dev.power.wetFrom = some (0 : Time)) ∧
      ((witSensorsAndCooling4).dev.power.coolantHold = true) ∧
      (reached ((witSensorsAndCooling4).dev.advance (ms 5001 : Time)).time (0 : Time) (ms 5000) = true) := by decide
def witSensorsAndCooling5 : State := { dev := { devA with power := { coolMode := 1 } } }
theorem wit_SensorsAndCooling_5 : ∃ (now : Time) (s : State),
      (nsOf (s.dev.advance now).time % 100000000 = 0) ∧
      (s.dev.power.coolMode = 1) ∧
      (s.dev.power.valveHot = false) ∧
      (s.dev.power.coolantFailed = false) ∧
      (s.dev.power.valveFaulty = false) ∧
      ((s.dev.advance now).hottest.lt ((s.dev.advance now).tReef.sub (extNat 10)) = true) :=
  ⟨0, witSensorsAndCooling5, by decide, by decide, by decide, by decide, by decide, by decide +kernel⟩
def witProtectionSetUp2 : State := { dev := { devA with parts := [], rigs := [(0, { state := .idle })], sec := { staged := some { parts := [{ index := 1, pkey := 7, root := 0x7600100000, rigs := [coreRig 0 0], modules := [0] }] } } } }
theorem wit_ProtectionSetUp_2 :
      ((witProtectionSetUp2).dev.sec.reentry = none) ∧
      ((0 : BitVec 384) = (witProtectionSetUp2).dev.sec.tableDigest) ∧
      ((witProtectionSetUp2).dev.sec.staged = some ({ parts := [{ index := 1, pkey := 7, root := 0x7600100000, rigs := [coreRig 0 0], modules := [0] }] } : Setup)) ∧
      (((witProtectionSetUp2).dev.advance (0 : Time)).setupRefusal ({ parts := [{ index := 1, pkey := 7, root := 0x7600100000, rigs := [coreRig 0 0], modules := [0] }] } : Setup) = 0) := by refine ⟨by decide, by decide, by decide, by decide +kernel⟩
def witProtectionSetUp3 : State := { dev := devA }
theorem wit_ProtectionSetUp_3 :
      ((witProtectionSetUp3).dev.sec.reentry = none) ∧
      ((1 : BitVec 384) ≠ (witProtectionSetUp3).dev.sec.tableDigest) := by decide
def witProtectionSetUp4 : State := { dev := { devA with sec := { reentry := some {} } } }
theorem wit_ProtectionSetUp_4 :
      ((witProtectionSetUp4).dev.sec.reentry.isSome = true) := by decide
def witProtectionSetUp5 : State := { dev := { devA with sec := { reentry := some {} } } }
theorem wit_ProtectionSetUp_5 :
      ((witProtectionSetUp5).dev.sec.reentry = some ({} : Reentry)) ∧
      (({} : Reentry).at' = 0 ∨ timeLe ({} : Reentry).at' ((witProtectionSetUp5).dev.advance (0 : Time)).time = true) := by decide
def witProtectionSetUp6 : State := { dev := { devA with sec := { reentry := some { at' := us 5 } } } }
theorem wit_ProtectionSetUp_6 :
      ((witProtectionSetUp6).dev.sec.reentry = some ({ at' := us 5 } : Reentry)) ∧
      (({ at' := us 5 } : Reentry).at' ≠ 0) ∧
      (timeLe ({ at' := us 5 } : Reentry).at' ((witProtectionSetUp6).dev.advance (0 : Time)).time = false) := by decide
def witClearedMemoryIsZero1 : State := { dev := { devA with parts := [], rigs := [(0, { state := .idle })], sec := { staged := some { parts := [{ index := 1, pkey := 7, root := 0x7600100000, rigs := [coreRig 0 0], modules := [0] }] } } } }
theorem wit_ClearedMemoryIsZero_1 :
      ((witClearedMemoryIsZero1).dev.sec.reentry = none) ∧
      ((0 : BitVec 384) = (witClearedMemoryIsZero1).dev.sec.tableDigest) ∧
      ((witClearedMemoryIsZero1).dev.sec.staged = some ({ parts := [{ index := 1, pkey := 7, root := 0x7600100000, rigs := [coreRig 0 0], modules := [0] }] } : Setup)) ∧
      (((witClearedMemoryIsZero1).dev.advance (0 : Time)).setupRefusal ({ parts := [{ index := 1, pkey := 7, root := 0x7600100000, rigs := [coreRig 0 0], modules := [0] }] } : Setup) = 0) ∧
      ((0 : Nat) ∈ ((witClearedMemoryIsZero1).dev.advance (0 : Time)).movedCores ({ parts := [{ index := 1, pkey := 7, root := 0x7600100000, rigs := [coreRig 0 0], modules := [0] }] } : Setup)) ∧
      ((stackBase (0 : Nat) ≤ (stackBase 0 : Nat) ∧ (stackBase 0 : Nat) < stackBase (0 : Nat) + 0x4000000) ∨ (scratchBase (0 : Nat) ≤ (stackBase 0 : Nat) ∧ (stackBase 0 : Nat) < scratchBase (0 : Nat) + 0x400000)) := by refine ⟨by decide, by decide, by decide, by decide +kernel, by decide +kernel, Or.inl (by decide)⟩
def witClearedMemoryIsZero2 : State := { dev := { devA with rst := { running := [{ rig := coreRig 0 0 }] }, rigs := [(0, { state := .resetting })] } }
theorem wit_ClearedMemoryIsZero_2 :
      ((witClearedMemoryIsZero2).dev.rst.running.find? (fun y => decide (y.part = none) && decide (y.rig = (coreRig 0 0 : BitVec 32))) = some ({ rig := coreRig 0 0 } : RigReset)) ∧
      ((coreRig 0 0 : BitVec 32) ≠ moduleRig (witClearedMemoryIsZero2).dev.id) ∧
      ((witClearedMemoryIsZero2).dev.drained ({ rig := coreRig 0 0 } : RigReset) = true) ∧
      (({ rig := coreRig 0 0 } : RigReset).dieTest = false) ∧
      (({ rig := coreRig 0 0 } : RigReset).retain = false) ∧
      ((witClearedMemoryIsZero2).dev.sec.held = []) ∧
      ((witClearedMemoryIsZero2).dev.fe.rings = []) ∧
      ((0 : Nat) < 512) ∧
      ((witClearedMemoryIsZero2).dev.domainHolds ({ rig := coreRig 0 0 } : RigReset) (0 : Nat) = true) ∧
      (((witClearedMemoryIsZero2).dev.rig (0 : Nat)).state = .resetting) ∧
      ((stackBase (0 : Nat) ≤ (scratchBase 0 : Nat) ∧ (scratchBase 0 : Nat) < stackBase (0 : Nat) + 0x4000000) ∨ (scratchBase (0 : Nat) ≤ (scratchBase 0 : Nat) ∧ (scratchBase 0 : Nat) < scratchBase (0 : Nat) + 0x400000)) := by refine ⟨by decide, by decide, by decide, by decide, by decide, by decide, by decide, by decide, by decide, by decide, Or.inr (by decide)⟩
def witKeysConsentHallmarksSignets1 : State := { dev := { devA with parts := [(0, { partA with keySlots := [12] })] } }
theorem wit_KeysConsentHallmarksSignets_1 :
      ((witKeysConsentHallmarksSignets1).dev.sec.reentry = none) ∧
      (((witKeysConsentHallmarksSignets1).dev.part (0 : Fin 512).val).keySlots.contains (12 : Nat) = true) ∧
      ((witKeysConsentHallmarksSignets1).dev.mem.pages.any (fun r => r.2.slot = (12 : Nat) && r.2.refs ≠ 0) = false) ∧
      (((witKeysConsentHallmarksSignets1).dev.sec.slots.get {} (12 : Nat)).gen < 0xFFFFFFFF) := by decide
def witKeysConsentHallmarksSignets2 : State := { dev := { devA with parts := [(0, { partA with keySlots := [12] })], mem := { mem := tables, pages := [(4, { part := 0, slot := 12, refs := 1 })] } } }
theorem wit_KeysConsentHallmarksSignets_2 :
      ((witKeysConsentHallmarksSignets2).dev.sec.reentry = none) ∧
      (((witKeysConsentHallmarksSignets2).dev.part (0 : Fin 512).val).keySlots.contains (12 : Nat) = true) ∧
      ((witKeysConsentHallmarksSignets2).dev.mem.pages.any (fun r => r.2.slot = (12 : Nat) && r.2.refs ≠ 0) = true) := by decide
def witKeysConsentHallmarksSignets3 : State := { dev := { devA with sec := { reentry := some {} } } }
theorem wit_KeysConsentHallmarksSignets_3 :
      ((witKeysConsentHallmarksSignets3).dev.sec.reentry.isSome = true) := by decide
def witKeysConsentHallmarksSignets5 : State := { dev := { devA with parts := [(0, { partA with consent := { set := true } })] } }
theorem wit_KeysConsentHallmarksSignets_5 :
      (((witKeysConsentHallmarksSignets5).dev.part (0 : Fin 512).val).consent.set = true) ∧
      (timeLe ((witKeysConsentHallmarksSignets5).dev.part (0 : Fin 512).val).consent.notAfter ((witKeysConsentHallmarksSignets5).dev.advance (us 1 : Time)).time = true) := by decide
def witKeysConsentHallmarksSignets6 : State := { dev := devA }
theorem wit_KeysConsentHallmarksSignets_6 :
      ((witKeysConsentHallmarksSignets6).dev.sec.reentry = none) := by decide
def witKeysConsentHallmarksSignets7 : State := { dev := { devA with sec := { reentry := some {} } } }
theorem wit_KeysConsentHallmarksSignets_7 :
      ((witKeysConsentHallmarksSignets7).dev.sec.reentry.isSome = true) := by decide
def witKeysConsentHallmarksSignets8 : State := { dev := devA }
theorem wit_KeysConsentHallmarksSignets_8 :
      ((witKeysConsentHallmarksSignets8).dev.sec.reentry = none) := by decide
def witScrubberAndRecoveries1 : State := { dev := { devA with rel := { toTest := [.mem (stackBase 0)] } } }
theorem wit_ScrubberAndRecoveries_1 :
      ((witScrubberAndRecoveries1).dev.rel.toTest = [.mem (stackBase 0 : Nat)]) := by decide
def witScrubberAndRecoveries3 : State := { dev := { devA with parts := [(0, { partA with job := some { contained := true } })] } }
theorem wit_ScrubberAndRecoveries_3 :
      (((witScrubberAndRecoveries3).dev.part (0 : Fin 512).val).job = some ({ contained := true } : Job)) ∧
      (({ contained := true } : Job).contained = true) := by decide
def witScrubberAndRecoveries4 : State := { dev := { devA with rel := { running := some { kind := 1, arg := 65 } } } }
theorem wit_ScrubberAndRecoveries_4 :
      ((witScrubberAndRecoveries4).dev.rel.running = some ({ kind := 1, arg := 65 } : Recovery)) ∧
      (({ kind := 1, arg := 65 } : Recovery).kind = 1) ∧
      (({ kind := 1, arg := 65 } : Recovery).works = []) ∧
      (({ kind := 1, arg := 65 } : Recovery).started = false) ∧
      (({ kind := 1, arg := 65 } : Recovery).arg < 16384) := by decide
def witScrubberAndRecoveries5 : State := { dev := { devA with rel := { running := some { kind := 3, arg := 5 } } } }
theorem wit_ScrubberAndRecoveries_5 :
      ((witScrubberAndRecoveries5).dev.rel.running = some ({ kind := 3, arg := 5 } : Recovery)) ∧
      (({ kind := 3, arg := 5 } : Recovery).kind = 3) ∧
      (({ kind := 3, arg := 5 } : Recovery).works = []) ∧
      (({ kind := 3, arg := 5 } : Recovery).started = false) ∧
      ((witScrubberAndRecoveries5).dev.mem.mapOut.contains ({ kind := 3, arg := 5 } : Recovery).arg = false) := by decide
def witScrubberAndRecoveries6 : State := { dev := { devA with rel := { running := some { kind := 5, domain := coreRig 0 0 } } } }
theorem wit_ScrubberAndRecoveries_6 :
      ((witScrubberAndRecoveries6).dev.rel.running = some ({ kind := 5, domain := coreRig 0 0 } : Recovery)) ∧
      (({ kind := 5, domain := coreRig 0 0 } : Recovery).kind = 5) ∧
      (({ kind := 5, domain := coreRig 0 0 } : Recovery).works = []) ∧
      (({ kind := 5, domain := coreRig 0 0 } : Recovery).started = false) ∧
      (rigLevel ({ kind := 5, domain := coreRig 0 0 } : Recovery).domain < 2) ∧
      ((witScrubberAndRecoveries6).dev.rst.running = []) := by decide
def witScrubberAndRecoveries7 : State := { dev := { devA with cores := [(0, { offline := true })], rigs := [(0, { state := .offline })] } }
theorem wit_ScrubberAndRecoveries_7 :
      ((witScrubberAndRecoveries7).dev.awaitsSpare (0 : Fin 512).val = true) ∧
      ((witScrubberAndRecoveries7).dev.spareFree (0 : Fin 512).val = true) := by decide
def witLockstepPairs1 : State := { dev := devA }
theorem wit_LockstepPairs_1 :
      (((witLockstepPairs1).dev.pair (true : Bool)).inService = true) ∧
      (((witLockstepPairs1).dev.pair (true : Bool)).unchecked = false) := by decide
def witLockstepPairs2 : State := { dev := devA }
theorem wit_LockstepPairs_2 :
      (((witLockstepPairs2).dev.pair (true : Bool)).inService = true) ∧
      (((witLockstepPairs2).dev.pair (true : Bool)).unchecked = false) := by decide
def witLockstepPairs3 : State := { dev := devA }
theorem wit_LockstepPairs_3 :
      (((witLockstepPairs3).dev.pair (true : Bool)).inService = true) ∧
      (((witLockstepPairs3).dev.pair (true : Bool)).unchecked = false) := by decide
def witLockstepPairs4 : State := { dev := devA }
theorem wit_LockstepPairs_4 :
      (((witLockstepPairs4).dev.pair (false : Bool)).inService = true) ∧
      (((witLockstepPairs4).dev.pair (false : Bool)).unchecked = false) := by decide
def witLockstepPairs5 : State := { dev := { devA with rel := { security := { unchecked := true } } } }
theorem wit_LockstepPairs_5 :
      (((witLockstepPairs5).dev.pair (true : Bool)).unchecked = true) ∧
      ((true : Bool) = true ∨ reached ((witLockstepPairs5).dev.advance (0 : Time)).time ((witLockstepPairs5).dev.pair (true : Bool)).uncheckedSince (ms 100) = true) := by decide
def witLockstepPairs6 : State := { dev := { devA with rel := { security := { inService := false, restarting := true }, secRole := false } } }
theorem wit_LockstepPairs_6 :
      (((witLockstepPairs6).dev.pair (true : Bool)).restarting = true) := by decide
def witLockstepPairs7 : State := { dev := { devA with rel := { security := { inService := false, restarting := true }, secRole := false } } }
theorem wit_LockstepPairs_7 :
      (((witLockstepPairs7).dev.pair (true : Bool)).restarting = true) := by decide
def witTestPacks2 : State := { dev := { devA with parts := [], rigs := [(0, { state := .idle })], rel := { packs := [(0, { header := List.replicate 7 0 ++ [0xFF] })] } } }
theorem wit_TestPacks_2 :
      ((witTestPacks2).dev.rel.packs.find? (0 : Nat) = some ({ header := List.replicate 7 0 ++ [0xFF] } : TestPack)) ∧
      (((witTestPacks2).dev.advance (0 : Time)).packEligible ({ header := List.replicate 7 0 ++ [0xFF] } : TestPack) (0 : Fin 512).val (10 : Nat) = true) := by refine ⟨by decide, by decide +kernel⟩
def witTestPacks3 : State := { dev := { devA with rel := { packs := [(0, {})], testing := [(0, {})] } } }
theorem wit_TestPacks_3 :
      ((witTestPacks3).dev.rel.testing.find? (0 : Fin 512).val = some ({} : TestRun)) ∧
      ((witTestPacks3).dev.rel.packs.find? ({} : TestRun).slot = some ({} : TestPack)) ∧
      ((0 : BitVec 384) = BitVec.ofNat 384 (packField ({} : TestPack).header 0x50 48)) ∧
      (nsBetween ({} : TestRun).since ((witTestPacks3).dev.advance (0 : Time)).time ≤ packField ({} : TestPack).header 0x10 2 * 1000000) := by decide
def witTestPacks4 : State := { dev := { devA with rel := { packs := [(0, {})], testing := [(0, {})] } } }
theorem wit_TestPacks_4 :
      ((witTestPacks4).dev.rel.testing.find? (0 : Fin 512).val = some ({} : TestRun)) ∧
      ((witTestPacks4).dev.rel.packs.find? ({} : TestRun).slot = some ({} : TestPack)) ∧
      ((false : Bool) = false ∨ (0 : Cause) ≠ 0 ∨ (0 : BitVec 384) ≠ BitVec.ofNat 384 (packField ({} : TestPack).header 0x50 48)) := by refine ⟨by decide, by decide, Or.inl rfl⟩
def witResetsOfRigsAndPartitions1 : State := { dev := devA }
theorem wit_ResetsOfRigsAndPartitions_1 :
      ((witResetsOfRigsAndPartitions1).dev.rst.running = []) := by decide
def witResetsOfRigsAndPartitions2 : State := { dev := devA }
theorem wit_ResetsOfRigsAndPartitions_2 :
      ((2 : Nat) ≠ 1) := by decide
def witResetsOfRigsAndPartitions3 : State := { dev := { devA with rst := { running := [{ rig := coreRig 0 0 }] }, rigs := [(0, { state := .resetting })] } }
theorem wit_ResetsOfRigsAndPartitions_3 :
      ((witResetsOfRigsAndPartitions3).dev.rst.running.find? (fun y => decide (y.part = none) && decide (y.rig = (coreRig 0 0 : BitVec 32))) = some ({ rig := coreRig 0 0 } : RigReset)) ∧
      ((coreRig 0 0 : BitVec 32) ≠ moduleRig (witResetsOfRigsAndPartitions3).dev.id) ∧
      ((witResetsOfRigsAndPartitions3).dev.drained ({ rig := coreRig 0 0 } : RigReset) = true) ∧
      (({ rig := coreRig 0 0 } : RigReset).dieTest = false) := by decide
def witResetsOfRigsAndPartitions4 : State := { dev := { devA with rst := { running := [{ part := some 0 }] } } }
theorem wit_ResetsOfRigsAndPartitions_4 :
      ((witResetsOfRigsAndPartitions4).dev.rst.running.find? (fun y => decide (y.part = some (0 : Fin 512).val)) = some ({ part := some 0 } : RigReset)) ∧
      ((witResetsOfRigsAndPartitions4).dev.drained ({ part := some 0 } : RigReset) = true) ∧
      (({ part := some 0 } : RigReset).dieTest = false) ∧
      ((witResetsOfRigsAndPartitions4).dev.sec.held = []) := by decide
def witModuleResetsAndFailures1 : State := { dev := { devA with rst := { running := [{ rig := moduleRig 0 }] } } }
theorem wit_ModuleResetsAndFailures_1 :
      ((witModuleResetsAndFailures1).dev.rst.running.find? (fun y => y.part.isNone && decide (y.rig = moduleRig (witModuleResetsAndFailures1).dev.id)) = some ({ rig := moduleRig 0 } : RigReset)) ∧
      ((witModuleResetsAndFailures1).dev.hubDrained = true) := by decide
def witModuleResetsAndFailures3 : State := { dev := { devA with rst := { watch := [(1, {})] } } }
theorem wit_ModuleResetsAndFailures_3 :
      (((witModuleResetsAndFailures3).dev.advance (ms 20000 : Time)).watches (1 : BitVec 14) = true) ∧
      ((witModuleResetsAndFailures3).dev.rst.failed.contains (1 : BitVec 14).toNat = false) ∧
      (((witModuleResetsAndFailures3).dev.advance (ms 20000 : Time)).failDue (1 : BitVec 14) = true) := by refine ⟨by decide +kernel, by decide, by decide +kernel⟩
def witModuleResetsAndFailures4 : State := { dev := devA }
theorem wit_ModuleResetsAndFailures_4 :
      ((witModuleResetsAndFailures4).dev.rst.failed.contains (1 : BitVec 14).toNat = false) := by decide
def witModuleResetsAndFailures5 : State := { dev := devA }
theorem wit_ModuleResetsAndFailures_5 :
      (nsOf ((witModuleResetsAndFailures5).dev.advance (0 : Time)).time % 1000000 = 0) := by decide
def witModuleResetsAndFailures6 : State := { dev := { devA with fe := { queues := [(1, { part := 0, state := .active, flight := [{ core := some 0, running := true }] })] }, coh := { waits := [{ core := 0 }] }, parts := [(0, { partA with hang := { lastRound := some [(0, 0)] } })] } }
theorem wit_ModuleResetsAndFailures_6 :
      (nsOf ((witModuleResetsAndFailures6).dev.advance (ms 3 : Time)).time % 1000000 = 0) ∧
      (((witModuleResetsAndFailures6).dev.part (0 : Fin 512).val).modules = [(witModuleResetsAndFailures6).dev.id]) ∧
      ((((witModuleResetsAndFailures6).dev.advance (ms 3 : Time)).hangReport (0 : Fin 512).val).closed = true) ∧
      ((((witModuleResetsAndFailures6).dev.advance (ms 3 : Time)).hangReport (0 : Fin 512).val).blocked ≠ 0) ∧
      (((witModuleResetsAndFailures6).dev.part (0 : Fin 512).val).hang.lastRound = some [((witModuleResetsAndFailures6).dev.id.toNat, ((witModuleResetsAndFailures6).dev.part (0 : Fin 512).val).hang.events)]) := by decide
def witFirmwareAndCensus4 : State := { dev := { devA with boot := { phase := 3, censusState := 2, moduleId := 0 } } }
theorem wit_FirmwareAndCensus_4 :
      ((witFirmwareAndCensus4).dev.boot.phase = 3) ∧
      ((witFirmwareAndCensus4).dev.boot.censusState = 2) ∧
      ((witFirmwareAndCensus4).dev.boot.stageImage 3 = none) := by decide
def witFirmwareAndCensus5 : State := { dev := { devA with boot := { phase := 3, firstActive := some 0, censusOrigin := true } } }
theorem wit_FirmwareAndCensus_5 :
      ((witFirmwareAndCensus5).dev.boot.firstActive = some (0 : Time)) ∧
      ((witFirmwareAndCensus5).dev.boot.censusOrigin = true) ∧
      ((witFirmwareAndCensus5).dev.boot.moduleId = 0xFFFF) ∧
      (reached ((witFirmwareAndCensus5).dev.advance (ms 101 : Time)).time (0 : Time) (ms 100) = true) ∧
      ((witFirmwareAndCensus5).dev.ports.any (fun p => decide (p.2.state = .active) && p.2.peerAssigned) = false) := by decide
def witFirmwareAndCensus6 : State := { dev := devA }
theorem wit_FirmwareAndCensus_6 :
      (((witFirmwareAndCensus6).dev.port (3 : Fin 32).val).cableBad = false) := by decide
def witFirmwareAndCensus7 : State := { dev := devA }
theorem wit_FirmwareAndCensus_7 :
      ((witFirmwareAndCensus7).dev.boot.moduleId ≠ 0xFFFF) ∧
      ((witFirmwareAndCensus7).dev.boot.parentPort = none) ∧
      ((witFirmwareAndCensus7).dev.tm.root = (witFirmwareAndCensus7).dev.id) := by decide
def witFirmwareAndCensus8 : State := { dev := { devA with boot := { phase := 3, moduleId := 0, parentPort := some 3 } } }
theorem wit_FirmwareAndCensus_8 :
      ((witFirmwareAndCensus8).dev.boot.parentPort.isSome = true) := by decide
def witConfigurationEpochs1 : State := { dev := devA }
theorem wit_ConfigurationEpochs_1 :
      ((witConfigurationEpochs1).dev.cfg.armed = none) ∧
      (imageOf ((1 :: List.replicate 12 0) : List Byte) = some ((1 : Nat), ([] : List (Nat × Nat × List Byte)), (false : Bool))) ∧
      ((1 : Nat) = (witConfigurationEpochs1).dev.cfg.force.epoch + 1) ∧
      (([] : List (Nat × Nat × List Byte)).all (fun e => match findObj e.1 e.2.1 with | some o => decide (o.acc = .sl) && !o.moduleScope && decide (o.check e.2.2 = 0) | none => false) = true) := by refine ⟨by decide, rfl, by decide, by decide⟩
def witConfigurationEpochs2 : State := { dev := devA }
theorem wit_ConfigurationEpochs_2 : ∃ (b : List Byte) (here pf : Bool) (now : Time) (s : State),
      (s.dev.cfg.armed.isSome = true ∨ imageOf b = none ∨ ∃ epoch es flag, imageOf b = some (epoch, es, flag) ∧ (epoch ≠ s.dev.cfg.force.epoch + 1 ∨ es.all (fun e => match findObj e.1 e.2.1 with | some o => decide (o.acc = .sl) && !o.moduleScope && decide (o.check e.2.2 = 0) | none => false) = false)) :=
  ⟨[], false, false, 0, witConfigurationEpochs2, .inr (.inl rfl)⟩
def witConfigurationEpochs3 : State := { dev := devA }
theorem wit_ConfigurationEpochs_3 :
      (findObj (0x0410 : BitVec 16).toNat (1 : BitVec 8).toNat = some ({ index := 0x0410, sub := 1, name := "SCHED_WINDOW", units := "us", ty := .u32, acc := .sl, pers := .flash, dflt := 1000, range := some (100, 10000) } : ObjDef)) ∧
      (({ index := 0x0410, sub := 1, name := "SCHED_WINDOW", units := "us", ty := .u32, acc := .sl, pers := .flash, dflt := 1000, range := some (100, 10000) } : ObjDef).acc = .sl) ∧
      ((witConfigurationEpochs3).dev.cfg.armed = none) ∧
      (({ index := 0x0410, sub := 1, name := "SCHED_WINDOW", units := "us", ty := .u32, acc := .sl, pers := .flash, dflt := 1000, range := some (100, 10000) } : ObjDef).check ([0xE8, 3, 0, 0] : List Byte) = 0) := by refine ⟨rfl, by decide, by decide, by decide⟩
def witConfigurationEpochs4 : State := { dev := { devA with cfg := { staged := some { epoch := 7 } } } }
theorem wit_ConfigurationEpochs_4 :
      ((witConfigurationEpochs4).dev.cfg.staged = some ({ epoch := 7 } : ConfigImage)) ∧
      (leNat (((leBytes 8 7 ++ leBytes 8 (ms 5).toNat ++ List.replicate 48 0) : List Byte).take 8) = ({ epoch := 7 } : ConfigImage).epoch) ∧
      (BitVec.ofNat 384 (leNat ((((leBytes 8 7 ++ leBytes 8 (ms 5).toNat ++ List.replicate 48 0) : List Byte).drop 16).take 48)) = ({ epoch := 7 } : ConfigImage).sealDigest) ∧
      (timeAhead ((witConfigurationEpochs4).dev.advance (0 : Time)).time (BitVec.ofNat 64 (leNat ((((leBytes 8 7 ++ leBytes 8 (ms 5).toNat ++ List.replicate 48 0) : List Byte).drop 8).take 8))) (ms 1) = true) ∧
      ((witConfigurationEpochs4).dev.cfg.armed = none) ∧
      (torusDiffers ({ epoch := 7 } : ConfigImage) (witConfigurationEpochs4).dev.cfg.force = false ∨ (witConfigurationEpochs4).dev.partsHere = false) := by refine ⟨by decide, by decide, by decide, by decide, by decide, Or.inl (by decide)⟩
def witConfigurationEpochs5 : State := { dev := { devA with cfg := { armed := some (ms 5) } } }
theorem wit_ConfigurationEpochs_5 :
      ((witConfigurationEpochs5).dev.cfg.armed = some (ms 5 : Time)) := by decide
def witConfigurationEpochs6 : State := { dev := devA }
theorem wit_ConfigurationEpochs_6 :
      ((witConfigurationEpochs6).dev.cfg.armed = none) := by decide
def witConfigurationEpochs7 : State := { dev := { devA with cfg := { armed := some 0, staged := some { epoch := 1 } } } }
theorem wit_ConfigurationEpochs_7 :
      ((witConfigurationEpochs7).dev.cfg.armed = some (0 : Time)) ∧
      ((witConfigurationEpochs7).dev.cfg.staged = some ({ epoch := 1 } : ConfigImage)) ∧
      (timeLe (0 : Time) ((witConfigurationEpochs7).dev.advance (0 : Time)).time = true) := by decide
def witConfigurationEpochs8 : State := { dev := { devA with cfg := { armed := some (ms 5) } } }
theorem wit_ConfigurationEpochs_8 :
      ((witConfigurationEpochs8).dev.cfg.armed = some (ms 5 : Time)) ∧
      (timeLe (ms 5 : Time) ((witConfigurationEpochs8).dev.advance (0 : Time)).time = false) := by decide
def witConfigurationEpochs9 : State := { dev := { devA with boot := { phase := 3, moduleId := 0, parentPort := some 3 } } }
theorem wit_ConfigurationEpochs_9 :
      ((witConfigurationEpochs9).dev.boot.parentPort.isSome = true) ∧
      ((witConfigurationEpochs9).dev.boot.parentMatch = false) ∧
      ((systemScope ({ epoch := 9 } : ConfigImage) (witConfigurationEpochs9).dev.cfg.force).epoch ≠ (witConfigurationEpochs9).dev.cfg.force.epoch) := by decide
def witInputUndervoltage1 : State := { dev := devA }
theorem wit_InputUndervoltage_1 : ∃ (v : BitVec 32) (now : Time) (s : State),
      (nsOf (s.dev.advance now).time % sensorPeriod 0 = 0) ∧
      ((ofF32 v).lt (extNat 40) = true) :=
  ⟨0x42100000, 0, witInputUndervoltage1, by decide, by decide +kernel⟩
def witInputUndervoltage2 : State := { dev := devA }
theorem wit_InputUndervoltage_2 : ∃ (v : BitVec 32) (now : Time) (s : State),
      (nsOf (s.dev.advance now).time % sensorPeriod 0 = 0) ∧
      ((ofF32 v).lt (extNat 40) = false) :=
  ⟨0x42580000, 0, witInputUndervoltage2, by decide, by decide +kernel⟩
def witInputUndervoltage3 : State := { dev := devA }
theorem wit_InputUndervoltage_3 : ∃ (v : BitVec 32) (now : Time) (s : State),
      (nsOf (s.dev.advance now).time % sensorPeriod 0 = 0) ∧
      ((extNat 41).lt (ofF32 v) = true) :=
  ⟨0x42580000, 0, witInputUndervoltage3, by decide, by decide +kernel⟩
def witInputUndervoltage4 : State := { dev := devA }
theorem wit_InputUndervoltage_4 : ∃ (v : BitVec 32) (now : Time) (s : State),
      (nsOf (s.dev.advance now).time % sensorPeriod 0 = 0) ∧
      ((extNat 41).lt (ofF32 v) = false) :=
  ⟨0x42100000, 0, witInputUndervoltage4, by decide, by decide +kernel⟩
def witInputUndervoltage5 : State := { dev := { devA with power := { lowSince := some 0 } } }
theorem wit_InputUndervoltage_5 :
      ((witInputUndervoltage5).dev.power.lowSince = some (0 : Time)) ∧
      ((witInputUndervoltage5).dev.power.undervolt = false) ∧
      (reached ((witInputUndervoltage5).dev.advance (ms 2 : Time)).time (0 : Time) (ms 1) = true) := by decide
def witInputUndervoltage6 : State := { dev := { devA with power := { highSince := some 0, undervolt := true } } }
theorem wit_InputUndervoltage_6 :
      ((witInputUndervoltage6).dev.power.highSince = some (0 : Time)) ∧
      (reached ((witInputUndervoltage6).dev.advance (ms 101 : Time)).time (0 : Time) (ms 100) = true) := by decide
def witValveFault1 : State := { dev := devA }
theorem wit_ValveFault_1 : ∃ (v : BitVec 32) (now : Time) (s : State),
      (nsOf (s.dev.advance now).time % sensorPeriod 247 = 0) ∧
      ((extNat 10).lt (((ofF32 v).sub (ofF32 s.dev.power.valveCmd)).abs) = true) :=
  ⟨0xC2C80000, 0, witValveFault1, by decide, by decide +kernel⟩
def witValveFault2 : State := { dev := devA }
theorem wit_ValveFault_2 : ∃ (v : BitVec 32) (now : Time) (s : State),
      (nsOf (s.dev.advance now).time % sensorPeriod 247 = 0) ∧
      ((extNat 10).lt (((ofF32 v).sub (ofF32 s.dev.power.valveCmd)).abs) = false) :=
  ⟨devA.power.valveCmd, 0, witValveFault2, by decide, by decide +kernel⟩
def witValveFault3 : State := { dev := { devA with power := { valveOffSince := some 0 } } }
theorem wit_ValveFault_3 :
      ((witValveFault3).dev.power.valveOffSince = some (0 : Time)) ∧
      (reached ((witValveFault3).dev.advance (ms 5001 : Time)).time (0 : Time) (ms 5000) = true) := by decide
def witTxfaultLatchesTheFirstFault1 : State := { dev := { devA with cores := [(0, { run := some {}, tx := { txfault := 0 }, tiq := [{ id := 4, word := 0x6100005B, committed := true, done := some { cause := 0x0335 } }] })] } }
theorem wit_TxfaultLatchesTheFirstFault_1 :
      (((witTxfaultLatchesTheFirstFault1).dev.core (0 : Fin 512).val).entry? (4 : Nat) = some ({ id := 4, word := 0x6100005B, committed := true, done := some { cause := 0x0335 } } : TiqEntry)) ∧
      (({ id := 4, word := 0x6100005B, committed := true, done := some { cause := 0x0335 } } : TiqEntry).committed = true) ∧
      (({ id := 4, word := 0x6100005B, committed := true, done := some { cause := 0x0335 } } : TiqEntry).done = some ({ cause := 0x0335 } : Completion)) ∧
      (({ cause := 0x0335 } : Completion).cause ≠ 0) ∧
      (bit ((witTxfaultLatchesTheFirstFault1).dev.core (0 : Fin 512).val).tx.txfault 63 = false) := by decide
def witTxfaultLatchesTheFirstFault2 : State := { dev := { devA with cores := [(0, { run := some {}, tx := { txfault := 0x8000000000000001 }, tiq := [{ id := 4, word := 0x6100005B, committed := true, done := some { cause := 0x0335 } }] })] } }
theorem wit_TxfaultLatchesTheFirstFault_2 :
      (((witTxfaultLatchesTheFirstFault2).dev.core (0 : Fin 512).val).entry? (4 : Nat) = some ({ id := 4, word := 0x6100005B, committed := true, done := some { cause := 0x0335 } } : TiqEntry)) ∧
      (({ id := 4, word := 0x6100005B, committed := true, done := some { cause := 0x0335 } } : TiqEntry).committed = true) ∧
      (({ id := 4, word := 0x6100005B, committed := true, done := some { cause := 0x0335 } } : TiqEntry).done = some ({ cause := 0x0335 } : Completion)) ∧
      (({ cause := 0x0335 } : Completion).cause ≠ 0) ∧
      (bit ((witTxfaultLatchesTheFirstFault2).dev.core (0 : Fin 512).val).tx.txfault 63 = true) := by decide
def witTxfaultLatchesTheFirstFault3 : State := { dev := { devA with cores := [(0, { run := some {}, tx := { txfault := 0 }, tiq := [{ id := 4, word := 0x6100005B, committed := true, done := some { cause := 0 } }] })] } }
theorem wit_TxfaultLatchesTheFirstFault_3 :
      (((witTxfaultLatchesTheFirstFault3).dev.core (0 : Fin 512).val).entry? (4 : Nat) = some ({ id := 4, word := 0x6100005B, committed := true, done := some { cause := 0 } } : TiqEntry)) ∧
      (({ id := 4, word := 0x6100005B, committed := true, done := some { cause := 0 } } : TiqEntry).committed = true) ∧
      (({ id := 4, word := 0x6100005B, committed := true, done := some { cause := 0 } } : TiqEntry).done = some ({ cause := 0 } : Completion)) ∧
      (({ cause := 0 } : Completion).cause = 0) := by decide
def witTxfaultLatchesTheFirstFault4 : State := runA { run := some {} }
theorem wit_TxfaultLatchesTheFirstFault_4 : ∃ (p : Prog) (rd : Fin 32) (now : Time) (s : State),
      ((s.dev.core p.core.val).commits = true) ∧
      (s.dev.goesOn p now) :=
  ⟨{ pc := 0x40000000 }, 0, 0, witTxfaultLatchesTheFirstFault4, by decide, by unfold Dev.goesOn; decide +kernel⟩
def witStepRunsTheFrontCommand2 : State := { dev := devA }
theorem wit_StepRunsTheFrontCommand_2 : ∃ (s : State),
      (s.pending = []) :=
  ⟨witStepRunsTheFrontCommand2, by decide⟩
def witScalarStoreFrame1 : State := runA { run := some {} }
theorem wit_ScalarStoreFrame_1 : ∃ (prog : Prog) (va : Word) (size : Nat) (v : Word) (now : Time) (s : State) (a : Nat),
      (∃ t, exec (.scalarStore prog va size v now) s = .next t) ∧
      ((s.dev.afterProg prog now).scalarTarget prog.core.val { w := true } va.toNat size true false = .own a ∨ (s.dev.afterProg prog now).scalarTarget prog.core.val { w := true } va.toNat size true false = .memory a) :=
  ⟨{ pc := 0x40000000 }, 0x8000000, 8, 7, 0, witScalarStoreFrame1, 0x10000000000, ⟨_, rfl⟩, .inl (by decide +kernel)⟩
def witScalarStoreFrame2 : State := runA { run := some {} }
theorem wit_ScalarStoreFrame_2 : ∃ (prog : Prog) (op : Fin 32) (wide : Bool) (va v : Word) (rd : Fin 32) (rl : Bool) (now : Time) (s : State) (a : Nat),
      (∃ t, exec (.amo prog op wide va v rd rl now) s = .next t) ∧
      ((s.dev.afterProg prog now).scalarTarget prog.core.val { r := true, w := true } va.toNat (if wide then 8 else 4) true true = .own a) :=
  ⟨{ pc := 0x40000000 }, 0, true, 0x8000000, 7, 5, false, 0, witScalarStoreFrame2, 0x10000000000, ⟨_, rfl⟩, by decide +kernel⟩
def witScalarStoreFrame3 : State := runA { run := some {} }
theorem wit_ScalarStoreFrame_3 : ∃ (prog : Prog) (wide : Bool) (va v : Word) (rd : Fin 32) (now : Time) (s : State) (a : Nat),
      (∃ t, exec (.sc prog wide va v rd now) s = .next t) ∧
      ((s.dev.afterProg prog now).scalarTarget prog.core.val { w := true } va.toNat (if wide then 8 else 4) true true = .own a) :=
  ⟨{ pc := 0x40000000 }, true, 0x8000000, 7, 5, 0, witScalarStoreFrame3, 0x10000000000, ⟨_, rfl⟩, by decide +kernel⟩

end Sys2Proof.Tests
end

section
/-!
Pins, boot phase and DRAM's power: the frame of each part of the cold power-on sequence over them (R486), and the lemmas it rests on.
-/
namespace Sys2Proof.Machine

/-! ### Commands and their effects -/

/-- A command that runs as `f` does what `f` does to the module, a new version of what it changed counted. -/
theorem Does.of_run {c : Instr} {s : State} {f : Dev → Dev} {P : Dev → Prop} (hc : exec c s = s.run f) (hP : P (f s.dev).retag) :
    Does c s P :=
  ⟨_, hc.trans (State.run_next s f), rfl, hP⟩

/-! ### Maps written key by key -/

/-- What holds of every value that a fold writes holds after it at each key that it writes, and where it held before. -/
theorem KMap.get_foldl_set_of_or {α : Type} {P : α → Prop} {v : KMap α → Nat → α} (hv : ∀ m i, P (v m i)) (d : α) {i : Nat}
    (l : List Nat) (m : KMap α) (h : i ∈ l ∨ P (m.get d i)) : P ((l.foldl (fun m i => m.set i (v m i)) m).get d i) := by
  induction l generalizing m with
  | nil => exact h.resolve_left (List.not_mem_nil)
  | cons j l ih =>
    refine ih _ ?_
    rw [KMap.get_set]
    by_cases hij : i = j
    · exact .inr (by rw [if_pos hij]; exact hv m j)
    · rw [if_neg hij]
      exact h.imp_left fun hi => (List.mem_cons.1 hi).resolve_left hij

/-- What holds of every value that a fold writes holds at each key that it writes. -/
theorem KMap.get_foldl_set {α : Type} {P : α → Prop} {v : KMap α → Nat → α} (hv : ∀ m i, P (v m i)) (d : α) {i : Nat}
    {l : List Nat} (hi : i ∈ l) (m : KMap α) : P ((l.foldl (fun m i => m.set i (v m i)) m).get d i) :=
  KMap.get_foldl_set_of_or hv d l m (.inl hi)

/-- The same of a fold that updates each key. -/
theorem KMap.get_foldl_upd {α : Type} {P : α → Prop} {f : α → α} (hf : ∀ x, P (f x)) (d : α) {i : Nat} {l : List Nat} (hi : i ∈ l)
    (m : KMap α) : P ((l.foldl (fun m i => m.upd d i f) m).get d i) :=
  KMap.get_foldl_set (v := fun m i => f (m.get d i)) (fun _ _ => hf _) d hi m

/-! ### What only the power sequence writes

Pins, boot phase and whether DRAM is on: of the parts of the cold sequence only the boot stages and the start of DRAM write them. -/

/-- The pins, the boot phase, and whether DRAM is on. -/
def Dev.powerView (d : Dev) : Pins × Nat × Bool := (d.pins, d.boot.phase, d.mem.dramOn)

section Frames
variable (d : Dev)

theorem Dev.powerView_congr {d d' : Dev} (hp : d'.pins = d.pins) (hb : d'.boot = d.boot) (hm : d'.mem.dramOn = d.mem.dramOn) :
    d'.powerView = d.powerView := by
  simp only [Dev.powerView, hp, hb, hm]

@[simp] theorem Dev.withPkg_powerView (x : Package) : ({ d with pkg := x } : Dev).powerView = d.powerView := rfl
@[simp] theorem Dev.withPower_powerView (x : PowerState) : ({ d with power := x } : Dev).powerView = d.powerView := rfl
@[simp] theorem Dev.withPoison_powerView (x : NSet) : ({ d with mem := { d.mem with poison := x } } : Dev).powerView = d.powerView := rfl
@[simp] theorem Dev.withChanRetired_powerView (x : NSet) :
    ({ d with mem := { d.mem with chanRetired := x } } : Dev).powerView = d.powerView := rfl
@[simp] theorem Dev.modCore_powerView (c : Nat) (f : Core → Core) : (d.modCore c f).powerView = d.powerView := rfl
@[simp] theorem Dev.modPart_powerView (p : Nat) (f : Part → Part) : (d.modPart p f).powerView = d.powerView := rfl
@[simp] theorem Dev.modRig_powerView (i : Nat) (f : Rig → Rig) : (d.modRig i f).powerView = d.powerView := rfl
@[simp] theorem Dev.modUcie_powerView (e : Nat) (f : Ucie → Ucie) : (d.modUcie e f).powerView = d.powerView := rfl
@[simp] theorem Dev.emit_powerView (o : Output) : (d.emit o).powerView = d.powerView := rfl
@[simp] theorem Dev.mgmt_powerView (m : BitVec 14) (k : Nat) (as : List Nat) (bs : List Byte) : (d.mgmt m k as bs).powerView = d.powerView := rfl
@[simp] theorem Dev.settleCore_powerView (c : Nat) : (d.settleCore c).powerView = d.powerView := rfl
@[simp] theorem Dev.settleQueue_powerView (i : Nat) : (d.settleQueue i).powerView = d.powerView := Dev.powerView_congr (by simp) (by simp) (by simp)
@[simp] theorem Dev.settleAll_powerView : d.settleAll.powerView = d.powerView := Dev.powerView_congr (by simp) (by simp) (by simp)
@[simp] theorem Dev.notify_powerView (n : Notice) : (d.notify n).powerView = d.powerView := Dev.powerView_congr (by simp) (by simp) (by simp)
@[simp] theorem Dev.notice_powerView (c : Cause) (k a b : Nat) : (d.notice c k a b).powerView = d.powerView :=
  Dev.powerView_congr (by simp) (by simp) (by simp)
@[simp] theorem Dev.coreNotice_powerView (c : Nat) (x : Cause) (k : Nat) (p : Option Nat) (a b : Nat) :
    (d.coreNotice c x k p a b).powerView = d.powerView :=
  Dev.powerView_congr (by simp) (by simp) (by simp)
@[simp] theorem Dev.hubTrim_powerView : d.hubTrim.powerView = d.powerView := Dev.powerView_congr (by simp) (by simp) (by simp)
@[simp] theorem Dev.pruneOnPkg_powerView : d.pruneOnPkg.powerView = d.powerView := rfl

/-! Writes of memory and the end of an unmap -/

@[simp] theorem Dev.writePlain_powerView (a : Nat) (bs : List Byte) (c p : Bool) : (d.writePlain a bs c p).powerView = d.powerView := by
  unfold Dev.writePlain
  split
  · rfl
  · exact Dev.hubTrim_powerView _

@[simp] theorem Dev.zeroFill_powerView (a n : Nat) : (d.zeroFill a n).powerView = d.powerView := Dev.hubTrim_powerView _

@[simp] theorem Dev.setPte_powerView (a : Nat) (e : Word) : (d.setPte a e).powerView = d.powerView := d.writePlain_powerView _ _ _ _

@[simp] theorem Dev.dropPage_powerView (a n : Nat) : (d.dropPage a n).powerView = d.powerView := rfl

@[simp] theorem Dev.unmapDone_powerView (l : Leaving) : (d.unmapDone l).powerView = d.powerView := by
  unfold Dev.unmapDone
  dsimp only
  split <;> simp

@[simp] theorem Dev.unmapAgain_powerView : d.unmapAgain.powerView = d.powerView :=
  foldl_keeps Dev.powerView Dev.unmapDone Dev.unmapDone_powerView _ _

/-! Entries and cores that are lost -/

@[simp] theorem Dev.streamDone_powerView (i : Nat) : (d.streamDone i).powerView = d.powerView := by
  unfold Dev.streamDone
  split
  · rfl
  · split <;> rfl

@[simp] theorem Dev.reportEnded_powerView (c : Nat) : (d.reportEnded c).powerView = d.powerView := by
  unfold Dev.reportEnded
  split
  · rfl
  · exact foldl_keeps Dev.powerView _ (by intros; rfl) _ _

@[simp] theorem Dev.noteEnd_powerView (c : Nat) (r : Running) (e : Ending) : (d.noteEnd c r e).powerView = d.powerView := by
  unfold Dev.noteEnd
  split
  · rfl
  · exact Dev.reportEnded_powerView _ _

@[simp] theorem Dev.endEntry_powerView (c : Nat) (e : Ending) : (d.endEntry c e).powerView = d.powerView := by
  unfold Dev.endEntry
  split
  · rfl
  · simp [Dev.charge]

@[simp] theorem Dev.dropWaiting_powerView (c : Nat) (x : Cause) : (d.dropWaiting c x).powerView = d.powerView :=
  foldl_keeps Dev.powerView _ (by intros; rfl) _ _

@[simp] theorem Dev.dropWith_powerView (c : Nat) (e : Ending) : (d.dropWith c e).powerView = d.powerView := by
  unfold Dev.dropWith
  rw [Dev.unmapAgain_powerView, Dev.endEntry_powerView, Dev.modCore_powerView]
  exact foldl_keeps Dev.powerView _ (by intros; exact Dev.streamDone_powerView ..) _ _

@[simp] theorem Dev.dropEntry_powerView (c : Nat) (x : Cause) : (d.dropEntry c x).powerView = d.powerView := by simp [Dev.dropEntry]

@[simp] theorem Dev.offlineCore_powerView (c : Nat) (x : Cause) : (d.offlineCore c x).powerView = d.powerView := by
  simp [Dev.offlineCore]

/-! Package links and dies -/

@[simp] theorem Dev.pkgQueue_powerView (a n i vc key : Nat) (fs : List Flit) : (d.pkgQueue a n i vc key fs).powerView = d.powerView := by
  unfold Dev.pkgQueue
  split <;> rfl

@[simp] theorem Dev.onPkgAgain_powerView (bs : List Byte) : (d.onPkgAgain bs).powerView = d.powerView := by
  unfold Dev.onPkgAgain
  split
  · exact foldl_keeps Dev.powerView _ (fun _ _ => Dev.pkgQueue_powerView ..) _ _
  · rfl

@[simp] theorem Dev.pkgMove_powerView (e vc : Nat) (held : List (List Flit)) : (d.pkgMove e vc held).powerView = d.powerView := by
  unfold Dev.pkgMove
  dsimp only
  split
  · exact foldl_keeps Dev.powerView _ (fun _ _ => Dev.pkgQueue_powerView ..) _ _
  split
  · exact foldl_keeps Dev.powerView _ Dev.onPkgAgain_powerView _ _
  split
  · rfl
  split
  · rfl
  split
  · rfl
  split
  · exact foldl_keeps Dev.powerView _ (fun _ _ => Dev.pkgQueue_powerView ..) _ _
  · rfl

@[simp] theorem Dev.retireDie_powerView (k : Nat) : (d.retireDie k).powerView = d.powerView := by
  simp only [Dev.retireDie, Dev.notify_powerView, Dev.pruneOnPkg_powerView, Dev.withPkg_powerView]
  refine (foldl_keeps Dev.powerView _ (fun d c => ?_) _ _).trans d.settleAll_powerView
  split <;> simp

@[simp] theorem Dev.retireUcie_powerView (l : Nat) : (d.retireUcie l).powerView = d.powerView := by
  simp only [Dev.retireUcie, foldl_keeps Dev.powerView _ Dev.retireDie_powerView,
    foldl_keeps Dev.powerView _ (fun d (x : Nat × Nat × List (List Flit)) => d.pkgMove_powerView x.1 x.2.1 x.2.2),
    foldl_keeps Dev.powerView _ (fun d i => d.modUcie_powerView (2 * l + i) _), Dev.notice_powerView]

@[simp] theorem Dev.ucieUp_powerView (l r : Nat) : (d.ucieUp l r).powerView = d.powerView :=
  foldl_keeps Dev.powerView _ (by intros; rfl) _ _

@[simp] theorem Dev.trainLink_powerView (slow dead : List Nat) (l : Nat) : (d.trainLink slow dead l).powerView = d.powerView := by
  unfold Dev.trainLink
  split
  · rfl
  · split <;> simp

/-! The census, the cores and the configuration -/

@[simp] theorem Dev.refloor_powerView : d.refloor.powerView = d.powerView := by
  unfold Dev.refloor
  dsimp only
  split
  · rfl
  · simp

@[simp] theorem Dev.census_powerView : d.census.powerView = d.powerView := Dev.refloor_powerView _

@[simp] theorem Dev.retireChannel_powerView (k : Nat) : (d.retireChannel k).powerView = d.powerView := by
  unfold Dev.retireChannel
  split
  · rfl
  · simp

@[simp] theorem Dev.clearSealed_powerView (c : Nat) : (d.clearSealed c).powerView = d.powerView := by
  unfold Dev.clearSealed
  dsimp only
  split
  · rfl
  · simp

@[simp] theorem Dev.clearSram_powerView (c : Nat) : (d.clearSram c).powerView = d.powerView := by simp [Dev.clearSram]

@[simp] theorem Dev.poisonCore_powerView (c : Nat) : (d.poisonCore c).powerView = d.powerView := by
  unfold Dev.poisonCore
  dsimp only
  rw [Dev.modCore_powerView, Dev.withPoison_powerView, Dev.clearSram_powerView]

@[simp] theorem Dev.spareCore_powerView (c : Nat) : (d.spareCore c).powerView = d.powerView := by
  unfold Dev.spareCore
  dsimp only
  rw [Dev.census_powerView, Dev.refloor_powerView, Dev.coreNotice_powerView, Dev.modRig_powerView, Dev.withPkg_powerView,
    Dev.clearSealed_powerView, Dev.poisonCore_powerView, Dev.modCore_powerView, Dev.settleAll_powerView]

@[simp] theorem Dev.loseCore_powerView (c : Nat) : (d.loseCore c).powerView = d.powerView := by simp [Dev.loseCore]

@[simp] theorem Dev.spareOrLose_powerView (c : Nat) : (d.spareOrLose c).powerView = d.powerView := by
  unfold Dev.spareOrLose
  split
  · rfl
  · split <;> simp

@[simp] theorem Dev.startRigs_powerView : d.startRigs.powerView = d.powerView :=
  foldl_keeps Dev.powerView _ (fun d c => by split <;> rfl) _ _

@[simp] theorem Dev.startCores_powerView (bist : List Nat) : (d.startCores bist).powerView = d.powerView := by
  unfold Dev.startCores
  split
  · rfl
  · rw [foldl_keeps Dev.powerView _ Dev.spareOrLose_powerView,
      foldl_keeps Dev.powerView _ (fun d c => d.offlineCore_powerView c 0), Dev.startRigs_powerView]

@[simp] theorem Dev.applyHalyards_powerView : d.applyHalyards.powerView = d.powerView :=
  foldl_keeps Dev.powerView _ (by intros; rfl) _ _

@[simp] theorem Dev.applyHalyards_ports : d.applyHalyards.ports = d.ports :=
  foldl_keeps Dev.ports _ (by intros; rfl) _ _

@[simp] theorem Dev.applyConfig_powerView : d.applyConfig.powerView = d.powerView := by
  unfold Dev.applyConfig
  rw [Dev.applyHalyards_powerView, Dev.refloor_powerView]
  rfl

@[simp] theorem Dev.refloor_ports : d.refloor.ports = d.ports := by
  unfold Dev.refloor
  dsimp only
  split
  · rfl
  · exact Dev.notice_ports ..

@[simp] theorem Dev.applyConfig_ports : d.applyConfig.ports = d.ports := by
  unfold Dev.applyConfig
  rw [Dev.applyHalyards_ports, Dev.refloor_ports]

@[simp] theorem Dev.checkSignets_powerView : d.checkSignets.powerView = d.powerView := by
  unfold Dev.checkSignets
  refine (foldl_keeps Dev.powerView _ (fun d i => ?_) _ _).trans rfl
  split
  · rfl
  · exact Dev.notice_powerView ..

end Frames
end Sys2Proof.Machine
end

section
/-!
Power comes up and goes down: each command of power sequencing said once, then O8 (R13, R486, R538 to R540). The step and its queue: O49.
-/
namespace Sys2Proof.Machine

/-! ### Loss of module power -/

section Loss
variable (d : Dev) (x : Cause) (o : Bool)

@[simp] theorem Dev.powerLost_pins : (d.powerLost x o).pins =
    { d.pins with pwrGood := false, lossCause := if d.pins.standby then some x else none, lossOvervolt := d.pins.standby && o } := rfl
@[simp] theorem Dev.powerLost_memory : (d.powerLost x o).mem.mem = [] := rfl
@[simp] theorem Dev.powerLost_dramOn : (d.powerLost x o).mem.dramOn = false := rfl
@[simp] theorem Dev.powerLost_phase : (d.powerLost x o).boot.phase = 0 := rfl
@[simp] theorem Dev.powerLost_out : (d.powerLost x o).out = d.out := rfl

/-- Every port is disabled while the module has no power. -/
theorem Dev.powerLost_port_state {q : Nat} (hq : q < 32) : ((d.powerLost x o).port q).state = .disabled := by
  unfold Dev.port Dev.powerLost Dev.cold
  dsimp only
  exact KMap.get_foldl_set (P := fun p : Port => p.state = .disabled)
    (v := fun _ p => { state := .disabled, retiredLanes := (d.port p).retiredLanes }) (fun _ _ => rfl) {} (List.mem_range.2 hq) []

end Loss

theorem lossCode_toNat (x : BitVec 256) : (lossCode x).toNat =
    if 1 + x.toNat % 65534 < 0x0605 then 1 + x.toNat % 65534 else 1 + x.toNat % 65534 + 1 := by
  unfold lossCode
  dsimp only
  rw [BitVec.toNat_ofNat]
  split <;> omega

/-- The cause kept of a loss that the spec gives no code is a cause, and not the overvoltage's. -/
theorem lossCode_ne (x : BitVec 256) : lossCode x ≠ 0 ∧ lossCode x ≠ 0x0605 := by
  have hx := lossCode_toNat x
  refine ⟨fun h => ?_, fun h => ?_⟩
  · have h0 : (lossCode x).toNat = 0 := by rw [h]; rfl
    split at hx <;> omega
  · have h0 : (lossCode x).toNat = 0x0605 := by rw [h]; rfl
    split at hx <;> omega

/-- What the module does first when PWR_EN falls in service: its entries end, and it says so over halyard 0. -/
def Dev.announceLoss (d : Dev) (now : Time) : Dev :=
  if d.boot.phase = 3 then
    let d := ((List.range 512).foldl (fun (d : Dev) c => d.dropEntry c 0x0930) d).completeAll now
    d.emit (.halyard0 1 [d.id.toNat] [])
  else d

/-- The announcement goes out last of all. -/
theorem Dev.announceLoss_out {d : Dev} (h : d.boot.phase = 3) (now : Time) :
    ∃ id, (d.announceLoss now).out.getLast? = some (.halyard0 1 [id] []) := by
  unfold Dev.announceLoss
  rw [if_pos h]
  exact ⟨_, List.getLast?_concat⟩

/-- PWR_EN_FALL takes the power of a module that has announced it (R540). -/
theorem pwrEnFall_eq (now : Time) {d : Dev} (h : d.pins.pwrEn = true) :
    ∃ x, pwrEnFall now d = { ((d.advance now).announceLoss now).draw.2.powerLost x false with
      pins := { (((d.advance now).announceLoss now).draw.2.powerLost x false).pins with pwrEn := false } } := by
  have h' : ¬(!(d.advance now).pins.pwrEn) = true := by simp [h]
  unfold pwrEnFall
  dsimp only
  rw [if_neg h']
  exact ⟨_, rfl⟩

/-! ### The cold sequence (R486) -/

/-- What the boot stages of a cold power-on make of a module `d`: power is good, memory and partitions are empty, the cause of a loss of power
is reported, and an image of the banks chosen for the next boot runs in each stage or the ROM recovers. -/
structure Dev.ColdBoots (d b : Dev) : Prop where
  pins : b.pins = { d.pins with pwrGood := true, lossCause := none, lossOvervolt := false }
  phase : b.boot.phase = if b.boot.romRecovery then 4 else 3
  rom : b.boot.romRecovery =
    ((({ d.boot with activeB := d.boot.nextB }).stageImage 1).isNone || (({ d.boot with activeB := d.boot.nextB }).stageImage 2).isNone)
  memory : b.mem.mem = []
  parts : b.parts = []
  lastCause : b.rst.lastCause = d.pins.lossCause.getD d.rst.lastCause

/-- The package links trained and the DRAM channels that work counted: all of the sequence that precedes DRAM. -/
def Dev.packageUp (d : Dev) (slow dead : List (Fin 96)) (badChans : List (Fin 16)) : Dev :=
  (badChans.map (·.val)).foldl Dev.retireChannel
    ((List.range 96).foldl (Dev.trainLink (slow.map (·.val)) (dead.map (·.val))) d.checkSignets)

/-- DRAM on, its channels laid out. -/
def Dev.dramUp (d : Dev) : Dev :=
  { d with mem := { d.mem with mapOut := d.mem.chanRetired.foldl NSet.insert d.mem.mapOut, chanRetired := [], dramOn := true } }

/-- The module's own ID taken up, and the ports put to train: the end of the sequence. -/
def Dev.portsUp (d : Dev) : Dev :=
  let d := { d with boot := { d.boot with moduleId := d.boot.startId, censusState := if d.boot.startId = 0xFFFF then 0 else 1 } }
  let d := { d with ports := (List.range 32).foldl (fun (m : KMap Port) p => m.upd {} p (fun (x : Port) => { x with state := .detect })) d.ports }
  (List.range 32).foldl (fun (d : Dev) p => d.emit (.training p)) d.applyConfig

/-- The way into service that follows the boot stages. -/
def Dev.intoService (d : Dev) (slow dead : List (Fin 96)) (badChans : List (Fin 16)) (bist : List (Fin 512)) : Dev :=
  ((d.packageUp slow dead badChans).dramUp.startCores (bist.map (·.val))).census.portsUp

/-- The stages boot from what a loss of power leaves: the same banks, with the chosen one in use. -/
theorem Dev.cold_stageImage (d : Dev) (i : Nat) : d.cold.boot.stageImage i = ({ d.boot with activeB := d.boot.nextB }).stageImage i := rfl

/-- POWER_ON of a module whose power is held off by nothing: the boot stages, then, but in ROM recovery, the way into service. -/
theorem powerOn_eq (slow dead : List (Fin 96)) (badChans : List (Fin 16)) (bist : List (Fin 512)) (now : Time) {d : Dev}
    (hs : d.pins.standby = true) (he : d.pins.pwrEn = true) (hi : d.pins.input54 = true) (hp : d.boot.phase = 0) :
    ∃ b, d.ColdBoots b ∧ powerOn slow dead badChans bist now d = if b.boot.romRecovery then b else b.intoService slow dead badChans bist := by
  have h : (!d.pins.standby || !d.pins.pwrEn || !d.pins.input54 || decide (d.boot.phase ≠ 0)) = false := by simp [hs, he, hi, hp]
  unfold powerOn
  rw [h, if_neg Bool.false_ne_true]
  extract_lets loss x c _ _ _ _ e b
  refine ⟨b, ⟨?pins, rfl, ?rom, rfl, rfl, ?lastCause⟩, ?eq⟩
  case eq =>
    unfold Dev.intoService Dev.portsUp Dev.dramUp Dev.packageUp
    with_reducible rfl
  case pins =>
    have hb : b.pins = { (d.advance now).pins with pwrGood := true, lossCause := none, lossOvervolt := false } := rfl
    rw [hb, Dev.advance_pins]
  case rom =>
    have hb : b.boot.romRecovery =
        (((d.advance now).cold.boot.stageImage 1).isNone || ((d.advance now).cold.boot.stageImage 2).isNone) := rfl
    rw [hb, Dev.cold_stageImage, Dev.cold_stageImage, Dev.advance_boot]
  case lastCause =>
    have hc : c.rst.lastCause = (d.advance now).rst.lastCause := rfl
    rw [Dev.advance_rst] at hc
    show e.rst.lastCause = _
    dsimp only [e, loss]
    cases d.pins.lossCause with
    | none => exact hc
    | some a => rfl

theorem Dev.packageUp_powerView (d : Dev) (slow dead : List (Fin 96)) (badChans : List (Fin 16)) :
    (d.packageUp slow dead badChans).powerView = d.powerView :=
  calc
    _ = ((List.range 96).foldl (Dev.trainLink (slow.map (·.val)) (dead.map (·.val))) d.checkSignets).powerView :=
      foldl_keeps Dev.powerView _ Dev.retireChannel_powerView _ _
    _ = d.checkSignets.powerView := foldl_keeps Dev.powerView _ (fun d l => d.trainLink_powerView _ _ l) _ _
    _ = d.powerView := d.checkSignets_powerView

theorem Dev.dramUp_powerView (d : Dev) : d.dramUp.powerView = (d.pins, d.boot.phase, true) := rfl

theorem Dev.portsUp_powerView (d : Dev) : d.portsUp.powerView = d.powerView := by
  unfold Dev.portsUp
  dsimp only
  rw [foldl_keeps Dev.powerView _ (fun d p => d.emit_powerView (.training p)), Dev.applyConfig_powerView]
  simp only [Dev.powerView]

/-- Every port trains from DETECT. -/
theorem Dev.portsUp_port_state (d : Dev) {p : Nat} (hp : p < 32) : (d.portsUp.port p).state = .detect := by
  have h : d.portsUp.ports =
      (List.range 32).foldl (fun (m : KMap Port) p => m.upd {} p (fun (x : Port) => { x with state := .detect })) d.ports := by
    unfold Dev.portsUp
    dsimp only
    rw [foldl_keeps Dev.ports _ (fun d p => d.emit_ports (.training p)), Dev.applyConfig_ports]
  rw [Dev.port, h]
  have hf : ∀ x : Port, ({ x with state := .detect } : Port).state = .detect := fun _ => rfl
  exact KMap.get_foldl_upd (P := fun p : Port => p.state = .detect) hf {} (List.mem_range.2 hp) d.ports

/-- From the boot stages into service: the pins and the boot phase stay, and DRAM is on. -/
theorem Dev.intoService_powerView (d : Dev) (slow dead : List (Fin 96)) (badChans : List (Fin 16)) (bist : List (Fin 512)) :
    (d.intoService slow dead badChans bist).powerView = (d.pins, d.boot.phase, true) := by
  have h := d.packageUp_powerView slow dead badChans
  simp only [Dev.powerView, Prod.mk.injEq] at h
  obtain ⟨hpins, hphase, -⟩ := h
  unfold Dev.intoService
  rw [Dev.portsUp_powerView, Dev.census_powerView, Dev.startCores_powerView, Dev.dramUp_powerView, hpins, hphase]

theorem Dev.intoService_port_state (d : Dev) (slow dead : List (Fin 96)) (badChans : List (Fin 16)) (bist : List (Fin 512)) {p : Nat}
    (hp : p < 32) : ((d.intoService slow dead badChans bist).port p).state = .detect := by
  unfold Dev.intoService
  exact Dev.portsUp_port_state _ hp

/-! ### The commands of power sequencing -/

@[simp] theorem Dev.withPins_port (d : Dev) (x : Pins) (q : Nat) : ({ d with pins := x } : Dev).port q = d.port q := rfl
@[simp] theorem Dev.retag_port (d : Dev) (q : Nat) : d.retag.port q = d.port q := rfl

/-- POWER_ON into service: power is good and no loss stands, DRAM is on, and every port trains. -/
theorem does_powerOn_service (slow dead : List (Fin 96)) (badChans : List (Fin 16)) (bist : List (Fin 512)) (now : Time) (s : State)
    (hs : s.dev.pins.standby = true) (he : s.dev.pins.pwrEn = true) (hi : s.dev.pins.input54 = true) (hp : s.dev.boot.phase = 0)
    (h1 : (({ s.dev.boot with activeB := s.dev.boot.nextB }).stageImage 1).isSome = true)
    (h2 : (({ s.dev.boot with activeB := s.dev.boot.nextB }).stageImage 2).isSome = true) :
    Does (.powerOn slow dead badChans bist now) s fun d =>
      d.pins.pwrGood = true ∧ d.pins.lossCause = none ∧ d.boot.phase = 3 ∧ d.mem.dramOn = true ∧
        (∀ p, p < 32 → (d.port p).state = .detect) := by
  obtain ⟨b, hb, heq⟩ := powerOn_eq slow dead badChans bist now hs he hi hp
  have hrom : b.boot.romRecovery = false := by
    rw [hb.rom, Option.isNone_eq_false_iff.2 h1, Option.isNone_eq_false_iff.2 h2]; rfl
  have hv := b.intoService_powerView slow dead badChans bist
  simp only [Dev.powerView, Prod.mk.injEq] at hv
  obtain ⟨hpins, hphase, hdram⟩ := hv
  refine Does.of_run (f := powerOn slow dead badChans bist now) rfl ?_
  rw [heq, hrom, if_neg Bool.false_ne_true]
  refine ⟨?_, ?_, ?_, ?_, fun p hp => ?_⟩
  · rw [Dev.retag_pins, hpins, hb.pins]
  · rw [Dev.retag_pins, hpins, hb.pins]
  · rw [Dev.retag_boot, hphase, hb.phase, hrom, if_neg Bool.false_ne_true]
  · rw [Dev.retag_mem, hdram]
  · rw [Dev.retag_port, Dev.intoService_port_state _ _ _ _ _ hp]

/-- POWER_ON into ROM recovery, where no image of the first stage may run. -/
theorem does_powerOn_romRecovery (slow dead : List (Fin 96)) (badChans : List (Fin 16)) (bist : List (Fin 512)) (now : Time) (s : State)
    (hs : s.dev.pins.standby = true) (he : s.dev.pins.pwrEn = true) (hi : s.dev.pins.input54 = true) (hp : s.dev.boot.phase = 0)
    (h1 : ({ s.dev.boot with activeB := s.dev.boot.nextB }).stageImage 1 = none) :
    Does (.powerOn slow dead badChans bist now) s fun d =>
      d.pins.pwrGood = true ∧ d.boot.phase = 4 ∧ d.mem.mem = [] ∧ d.parts = [] ∧
        d.rst.lastCause = s.dev.pins.lossCause.getD s.dev.rst.lastCause := by
  obtain ⟨b, hb, heq⟩ := powerOn_eq slow dead badChans bist now hs he hi hp
  have hrom : b.boot.romRecovery = true := by rw [hb.rom, h1]; rfl
  refine Does.of_run (f := powerOn slow dead badChans bist now) rfl ?_
  rw [heq, if_pos hrom]
  refine ⟨?_, ?_, hb.memory, hb.parts, hb.lastCause⟩
  · rw [Dev.retag_pins, hb.pins]
  · rw [Dev.retag_boot, hb.phase, if_pos hrom]

/-- PWR_EN_FALL: power is gone, and DRAM, queues, partitions and ports with it. -/
theorem does_pwrEnFall (now : Time) (s : State) (h : s.dev.pins.pwrEn = true) :
    Does (.pwrEnFall now) s fun d =>
      d.pins.pwrEn = false ∧ d.pins.pwrGood = false ∧ d.mem.mem = [] ∧ d.boot.phase = 0 ∧ d.parts = [] ∧ d.fe.queues = [] ∧
        ∀ q, q < 32 → (d.port q).state = .disabled := by
  obtain ⟨x, hx⟩ := pwrEnFall_eq now h
  refine Does.of_run (f := pwrEnFall now) rfl ?_
  rw [hx]
  refine ⟨rfl, rfl, rfl, rfl, rfl, rfl, fun q hq => ?_⟩
  rw [Dev.retag_port, Dev.withPins_port, Dev.powerLost_port_state _ _ _ hq]

/-- PWR_EN_FALL in service: the announcement over halyard 0 is the last thing that leaves the module. -/
theorem does_pwrEnFall_announces (now : Time) (s : State) (h : s.dev.pins.pwrEn = true) (h3 : s.dev.boot.phase = 3) :
    Does (.pwrEnFall now) s fun d => ∃ id, d.out.getLast? = some (.halyard0 1 [id] []) := by
  obtain ⟨x, hx⟩ := pwrEnFall_eq now h
  refine Does.of_run (f := pwrEnFall now) rfl ?_
  rw [hx]
  simp only [Dev.retag_out, Dev.powerLost_out, Dev.draw_out]
  exact Dev.announceLoss_out (by rw [Dev.advance_boot, h3]) now

/-- INPUT_POWER_REMOVED: power is gone with everything it held; the standby domain, where it stays up, keeps some cause. -/
theorem does_inputPowerRemoved (now : Time) (s : State) :
    Does (.inputPowerRemoved now) s fun d =>
      d.pins.input54 = false ∧ d.pins.pwrGood = false ∧ d.mem.mem = [] ∧ d.mem.dramOn = false ∧ d.boot.phase = 0 ∧ d.parts = [] ∧
        (s.dev.pins.standby = true → ∃ c, d.pins.lossCause = some c ∧ c ≠ 0 ∧ c ≠ 0x0605) := by
  refine Does.of_run (f := inputPowerRemoved now) rfl ?_
  refine ⟨rfl, rfl, rfl, rfl, rfl, rfl, fun hs => ⟨_, ?_, lossCode_ne (s.dev.advance now).draw.1⟩⟩
  simp [inputPowerRemoved, hs]

/-- Settles O8: the commands that only move pins by their equations, the others by the lemma on each. -/
theorem powerSequencing : Obligations.PowerSequencing := by
  unfold Obligations.PowerSequencing
  refine ⟨?standbyUp, ?enAssert, does_powerOn_service, ?romRecovery, does_pwrEnFall, does_pwrEnFall_announces, ?inputLost, ?inputRestored,
    ?overvolt, ?restart, does_inputPowerRemoved⟩
  case standbyUp =>
    intro now s hs
    refine Does.of_run (f := standbyPowerUp now) rfl ?_
    simp [standbyPowerUp, hs]
  case enAssert =>
    intro now s hs hg hi
    refine Does.of_run (f := pwrEnAssert now) rfl ?_
    simp [pwrEnAssert, hs, hg, hi]
  case romRecovery =>
    intro slow dead badChans bist now s hs he hi hp h1
    have h := does_powerOn_romRecovery slow dead badChans bist now s hs he hi hp h1
    cases hc : s.dev.pins.lossCause <;> simpa only [hc, Option.getD_none, Option.getD_some] using h
  case inputLost =>
    intro now s hs hp
    refine Does.of_run (f := inputRangeLostInSequencing now) rfl ?_
    simp [inputRangeLostInSequencing, hs, hp]
  case inputRestored =>
    intro now s hs hp ho hi
    refine Does.of_run (f := inputRangeRestoredInSequencing now) rfl ?_
    simp [inputRangeRestoredInSequencing, hs, hp, ho, hi]
  case overvolt =>
    intro now s hs
    refine Does.of_run (f := powerInputOvervolt now) rfl ?_
    simp [powerInputOvervolt, hs]
  case restart =>
    intro now s ho
    refine Does.of_run (f := overvoltRestart now) rfl ?_
    simp [overvoltRestart, ho]

/-! ### The step -/

theorem step_cons (c : Instr) (rest : List Instr) (d : Dev) : step { dev := d, pending := c :: rest } = exec c { dev := d, pending := rest } := rfl

theorem step_of_pending_nil {s : State} (h : s.pending = []) : step s = .next s := by
  unfold step
  rw [h]

/-- Settles O49: the two cases of the queue. -/
theorem stepRunsTheFrontCommand : Obligations.StepRunsTheFrontCommand :=
  ⟨fun c rest d => step_cons c rest d, fun _ h => step_of_pending_nil h⟩

end Sys2Proof.Machine
end

section
/-!
A core's scalar accesses to its own memories: what the steps of its program leave as they were, the answer at a core, a write to lines in
service, and O10 (R73, R188, R189, R278).
-/
namespace Sys2Proof.Machine

/-! ### Bytes and maps -/

@[simp] theorem leBytes_length (n v : Nat) : (leBytes n v).length = n := by
  induction n generalizing v with
  | zero => rfl
  | succ n ih => rw [leBytes, List.length_cons, ih]

theorem leBytes_ne_nil {n : Nat} (hn : 0 < n) (v : Nat) : leBytes n v ≠ [] :=
  List.ne_nil_of_length_pos (by rwa [leBytes_length])

theorem KMap.find?_mapv {α : Type} (m : KMap α) (f : Nat → α → α) (i : Nat) : (m.mapv f).find? i = (m.find? i).map (f i) := by
  induction m with
  | nil => rfl
  | cons c m ih =>
    obtain ⟨k, w⟩ := c
    simp only [KMap.mapv, List.map_cons, KMap.find?] at ih ⊢
    split
    · next h => rw [h]; rfl
    · exact ih

/-- What every change of a listed value keeps, the value read at a key keeps. -/
theorem KMap.get_mapv_keeps {α : Type} {P : α → Prop} {f : Nat → α → α} (hf : ∀ i x, P x → P (f i x)) {m : KMap α} {d : α} {i : Nat}
    (h : P (m.get d i)) : P ((m.mapv f).get d i) := by
  rw [KMap.get, KMap.find?_mapv]
  unfold KMap.get at h
  cases hm : m.find? i with
  | none => rwa [hm] at h
  | some x =>
    rw [hm] at h
    exact hf i x h

/-! ### A core's registers -/

@[simp] theorem Scalar.setReg_resv (s : Scalar) (toF : Bool) (rd : Nat) (v : Word) : (s.setReg toF rd v).resv = s.resv := by
  unfold Scalar.setReg
  split
  · rfl
  · split <;> rfl

/-- A general register other than x0 reads as written. -/
theorem Scalar.reg_setReg (s : Scalar) {rd : Nat} (h : rd ≠ 0) (v : Word) : (s.setReg false rd v).reg rd = v := by
  simp [Scalar.setReg, Scalar.reg, h]

/-- What a change of a core keeps of it, every core keeps. -/
theorem Dev.modCore_keeps {α : Type} (g : Core → α) {f : Core → Core} (hf : ∀ k, g (f k) = g k) (d : Dev) (c i : Nat) :
    g ((d.modCore c f).core i) = g (d.core i) := by
  rw [Dev.core_modCore]
  split
  · next h => rw [hf, h]
  · rfl

/-! ### The steps that a program has made -/

theorem Scalar.foldl_setReg_resv {β : Type} (toF : Bool) (rd : β → Nat) (v : β → Word) (l : List β) (s : Scalar) :
    (l.foldl (fun s w => s.setReg toF (rd w) (v w)) s).resv = s.resv := by
  induction l generalizing s with
  | nil => rfl
  | cons w l ih => rw [List.foldl_cons, ih, Scalar.setReg_resv]

@[simp] theorem Scalar.after_resv (s : Scalar) (p : Prog) (now : Time) : (s.after p now).resv = s.resv := by
  simp only [Scalar.after, Scalar.foldl_setReg_resv]

@[simp] theorem Dev.csrTo_mem (d : Dev) (c a rd : Nat) : (d.csrTo c a rd).mem = d.mem := by unfold Dev.csrTo; split <;> rfl

theorem Dev.csrTo_resv (d : Dev) (c a rd i : Nat) : ((d.csrTo c a rd).core i).sc.resv = (d.core i).sc.resv := by
  unfold Dev.csrTo
  split
  · exact Dev.modCore_keeps (·.sc.resv) (fun k => k.sc.setReg_resv ..) d c i
  · rfl

/-- The steps of a program between its commands touch no memory. -/
@[simp] theorem Dev.afterProg_mem (d : Dev) (p : Prog) (now : Time) : (d.afterProg p now).mem = d.mem := by
  unfold Dev.afterProg Dev.bringUp Dev.csrReads
  rw [foldl_keeps Dev.mem _ (fun d r => d.csrTo_mem ..), Dev.modCore_mem, Dev.advance_mem]

/-- The steps of a program between its commands keep every reservation. -/
theorem Dev.afterProg_resv (d : Dev) (p : Prog) (now : Time) (i : Nat) :
    ((d.afterProg p now).core i).sc.resv = (d.core i).sc.resv := by
  unfold Dev.afterProg Dev.bringUp Dev.csrReads
  rw [foldl_keeps (fun d : Dev => (d.core i).sc.resv) _ (fun d r => d.csrTo_resv ..),
    Dev.modCore_keeps (·.sc.resv) (fun k => k.sc.after_resv ..), Dev.advance_core]

/-! ### The lines in service

Whether a line is lost or poisoned, and what a store makes of memory, depend on memory and on the retired pairs of the stack banks alone. -/

/-- Memory is the same, and so are the retired pairs of every core's stack bank. -/
structure Dev.SameLines (d d' : Dev) : Prop where
  mem : d'.mem = d.mem
  retiredPairs : ∀ c, (d'.core c).retiredPairs = (d.core c).retiredPairs

section Lines
variable {d d' : Dev}

theorem Dev.SameLines.lineLost (h : d.SameLines d') (l : Nat) : d'.lineLost l = d.lineLost l := by
  simp only [Dev.lineLost, Dev.channel, h.mem, h.retiredPairs]

theorem Dev.SameLines.poisoned (h : d.SameLines d') (l : Nat) : d'.poisoned l = d.poisoned l := by
  rw [Dev.poisoned, Dev.poisoned, h.lineLost, h.mem]

theorem Dev.SameLines.store (h : d.SameLines d') (a : Nat) (bs : List Byte) : d'.store a bs = d.store a bs := by
  have hl : d'.lineLost = d.lineLost := funext h.lineLost
  rw [Dev.store, Dev.store, hl, h.mem]

theorem Dev.sameLines_modCore (d : Dev) (c : Nat) {f : Core → Core} (hf : ∀ k, (f k).retiredPairs = k.retiredPairs) :
    d.SameLines (d.modCore c f) :=
  ⟨rfl, Dev.modCore_keeps Core.retiredPairs hf d c⟩

theorem Dev.sameLines_tcFill (d : Dev) (c va : Nat) : d.SameLines (d.tcFill c va) := by
  unfold Dev.tcFill
  dsimp only
  split
  · split
    · exact ⟨rfl, fun _ => rfl⟩
    · exact d.sameLines_modCore c fun _ => rfl
  · exact ⟨rfl, fun _ => rfl⟩

end Lines

/-! ### The answer at a core -/

section Answer
variable (d : Dev) (c : Nat) (w : MemWait) (v : Word)

theorem Dev.answerLoad_resv : ((d.answerLoad c w v).core c).sc.resv = (d.core c).sc.resv :=
  Dev.modCore_keeps (·.sc.resv) (fun k => k.sc.setReg_resv ..) d c c

/-- The answer of a load stands in its general register. -/
theorem Dev.answerLoad_reg (hf : w.toF = false) (hr : w.rd ≠ 0) : ((d.answerLoad c w v).core c).sc.reg w.rd = v := by
  rw [Dev.answerLoad, Dev.core_modCore, if_pos rfl, hf]
  exact Scalar.reg_setReg _ hr v

/-- A load from a line that is not poisoned is answered with what memory holds. -/
theorem Dev.loadMem_of_not_poisoned {a : Nat} (h : d.poisoned (a / 64) = false) :
    d.loadMem c w a = d.answerLoad c w (widenLoad w.size w.signed (d.mem.mem.readNat a w.size)) := by
  rw [Dev.loadMem, h, if_neg Bool.false_ne_true]

end Answer

/-! ### A write that is no bead's (R73, R189) -/

section WritePlain
variable (d : Dev) (a : Nat) {bs : List Byte} (h : bs ≠ []) (clears poison : Bool)
include h

theorem Dev.writePlain_memory : (d.writePlain a bs clears poison).mem.mem = d.store a bs := by
  rw [Dev.writePlain, if_neg (by simpa using h), Dev.hubTrim_mem_mem]

theorem Dev.writePlain_side : (d.writePlain a bs clears poison).mem.side = uncheckRange d.mem.side a bs.length := by
  rw [Dev.writePlain, if_neg (by simpa using h), Dev.hubTrim_mem_side]

theorem Dev.writePlain_poison : (d.writePlain a bs false false).mem.poison = d.mem.poison := by
  rw [Dev.writePlain, if_neg (by simpa using h), Dev.hubTrim_mem_poison]
  rfl

end WritePlain

/-- Reservations that a write ends are dropped, and no core gains one. -/
theorem Dev.breakResv_resv_none {d : Dev} {i : Nat} (h : (d.core i).sc.resv = none) (a n : Nat) :
    ((d.breakResv a n).get {} i).sc.resv = none := by
  unfold Dev.breakResv
  refine KMap.get_mapv_keeps (P := fun k : Core => k.sc.resv = none) (fun _ k hk => ?_) h
  rw [hk]
  exact hk

/-- A write gives no core a reservation. -/
theorem Dev.writePlain_resv_none {d : Dev} {i : Nat} (h : (d.core i).sc.resv = none) (a : Nat) (bs : List Byte) (clears poison : Bool) :
    ((d.writePlain a bs clears poison).core i).sc.resv = none := by
  unfold Dev.writePlain
  split
  · exact h
  · rw [Dev.core, Dev.hubTrim_cores]
    exact Dev.breakResv_resv_none h a bs.length

/-! ### The accesses, each on memory of the core's own -/

/-- A reservation put at a core, or dropped: what LR and SC begin with (R189). -/
def Dev.setResv (d : Dev) (c : Nat) (r : Option (Bool × Nat)) : Dev := d.modCore c (fun k => { k with sc := { k.sc with resv := r } })

@[simp] theorem Dev.setResv_mem (d : Dev) (c : Nat) (r : Option (Bool × Nat)) : (d.setResv c r).mem = d.mem := rfl

theorem Dev.setResv_resv (d : Dev) (c : Nat) (r : Option (Bool × Nat)) : ((d.setResv c r).core c).sc.resv = r := by
  rw [Dev.setResv, Dev.core_modCore, if_pos rfl]

theorem Dev.sameLines_setResv (d : Dev) (c : Nat) (r : Option (Bool × Nat)) : d.SameLines (d.setResv c r) :=
  d.sameLines_modCore c fun _ => rfl

/-- Bytes of an AMO, LR or SC. -/
def atomicSize (wide : Bool) : Nat := if wide then 8 else 4

theorem atomicSize_pos (wide : Bool) : 0 < atomicSize wide := by cases wide <;> decide

/-- What an atomic access waits for. -/
def atomicWait (kind : Nat) (wide : Bool) (va rd : Nat) : MemWait := { kind, rd, size := atomicSize wide, signed := true, va }

section Accesses
variable {p : Prog} {now : Time} {d : Dev} {a : Nat} (hg : d.goesOn p now)
include hg

theorem scalarLoad_own {w : MemWait} {errs : List EccEvent} (hk : (d.core p.core.val).decodes = true)
    (hw : (d.core p.core.val).sc.wait = none) (hs : lineVa w.va ∉ (d.core p.core.val).sc.stores)
    (ht : (errs.foldl Dev.ecc (d.afterProg p now)).scalarTarget p.core.val { r := true } w.va w.size false false = .own a)
    (hp : (errs.foldl Dev.ecc (d.afterProg p now)).poisoned (a / 64) = false) :
    scalarLoad p w errs now d = ((errs.foldl Dev.ecc (d.afterProg p now)).tcFill p.core.val w.va).answerLoad p.core.val { w with kind := 0 }
      (widenLoad w.size w.signed ((errs.foldl Dev.ecc (d.afterProg p now)).mem.mem.readNat a w.size)) := by
  have hl := Dev.sameLines_tcFill (errs.foldl Dev.ecc (d.afterProg p now)) p.core.val w.va
  have hp' := (hl.poisoned _).trans hp
  rw [scalarLoad, Dev.prog_of_goesOn _ (by simp [hk, hw, hs]) hg]
  simp only [ht, Dev.loadRaises, hp, Bool.and_false, Bool.false_eq_true, if_false]
  rw [Dev.loadMem_of_not_poisoned _ _ _ hp', hl.mem]

theorem scalarStore_own {va size : Nat} {v : Word} (hk : (d.core p.core.val).commits = true)
    (ht : (d.afterProg p now).scalarTarget p.core.val { w := true } va size true false = .own a) :
    scalarStore p va size v now d = ((d.afterProg p now).tcFill p.core.val va).writePlain a (leBytes size v.toNat) false false := by
  rw [scalarStore, Dev.prog_of_goesOn _ hk hg]
  simp only [ht]

theorem amo_own {op : Nat} {wide : Bool} {va : Nat} {v : Word} {rd : Nat} {rl : Bool} (hk : (d.core p.core.val).commits = true)
    (hs : (d.core p.core.val).sc.stores = [])
    (ht : (d.afterProg p now).scalarTarget p.core.val { r := true, w := true } va (atomicSize wide) true true = .own a)
    (hp : (d.afterProg p now).poisoned (a / 64) = false) :
    amo p op wide va v rd rl now d = ((d.afterProg p now).writePlain a (leBytes (atomicSize wide)
        (amoNew op wide (BitVec.ofNat 64 (d.mem.mem.readNat a (atomicSize wide))) v).toNat) false false).answerLoad p.core.val
      (atomicWait 2 wide va rd) (widenLoad (atomicSize wide) true (BitVec.ofNat 64 (d.mem.mem.readNat a (atomicSize wide))).toNat) := by
  unfold atomicSize at ht
  rw [amo, Dev.prog_of_goesOn _ (by simp [hk, hs]) hg]
  simp only [ht, hp, Bool.false_eq_true, if_false, Dev.afterProg_mem]
  rfl

theorem lr_own {wide : Bool} {va rd : Nat} (hk : (d.core p.core.val).commits = true)
    (hs : lineVa va ∉ (d.core p.core.val).sc.stores)
    (ht : (d.afterProg p now).scalarTarget p.core.val { r := true } va (atomicSize wide) false true = .own a)
    (hp : (d.afterProg p now).poisoned (a / 64) = false) :
    lr p wide va rd now d = ((d.afterProg p now).setResv p.core.val (some (false, a / 64))).answerLoad p.core.val (atomicWait 1 wide va rd)
      (widenLoad (atomicSize wide) true (d.mem.mem.readNat a (atomicSize wide))) := by
  unfold atomicSize at ht
  have hp' := ((Dev.sameLines_setResv _ p.core.val (some (false, a / 64))).poisoned _).trans hp
  rw [lr, Dev.prog_of_goesOn _ (by simp [hk, hs]) hg]
  simp only [ht]
  refine (Dev.loadMem_of_not_poisoned _ _ (atomicWait 1 wide va rd) hp').trans ?_
  rw [Dev.setResv_mem, Dev.afterProg_mem]
  rfl

section StoreConditional
variable {wide : Bool} {va : Nat} {v : Word} {rd : Nat} (hk : (d.core p.core.val).commits = true)
  (ht : (d.afterProg p now).scalarTarget p.core.val { w := true } va (atomicSize wide) true true = .own a)
  (hp : (d.afterProg p now).poisoned (a / 64) = false)
include hk ht hp

theorem sc_own_of_held (hr : (d.core p.core.val).sc.resv = some (false, a / 64)) :
    sc p wide va v rd now d = (((d.afterProg p now).setResv p.core.val none).writePlain a (leBytes (atomicSize wide) v.toNat) false false
      ).answerLoad p.core.val (atomicWait 3 wide va rd) 0 := by
  unfold atomicSize at ht
  rw [sc, Dev.prog_of_goesOn _ hk hg]
  simp only [ht, hp, Dev.afterProg_resv, hr, Bool.false_eq_true, if_false, if_true]
  rfl

theorem sc_own_of_not_held (hr : (d.core p.core.val).sc.resv ≠ some (false, a / 64)) :
    sc p wide va v rd now d = ((d.afterProg p now).setResv p.core.val none).answerLoad p.core.val (atomicWait 3 wide va rd) 1 := by
  unfold atomicSize at ht
  rw [sc, Dev.prog_of_goesOn _ hk hg]
  simp only [ht, hp, Dev.afterProg_resv, hr, Bool.false_eq_true, if_false]
  rfl

end StoreConditional
end Accesses

/-! ### The obligation -/

/-- Settles O10: each access is reduced to its one branch on the core's own memory, and the write, the answer and the reservation are read off
there. -/
theorem scalarAccesses : Obligations.ScalarAccesses := by
  unfold Obligations.ScalarAccesses
  refine ⟨?load, ?store, ?amo, ?lr, ?scHeld, ?scNotHeld⟩
  case load =>
    rintro p w errs a d0 now s hk hw hs rfl ht hp hf hr hg
    refine Does.of_run (f := scalarLoad p w errs now) rfl ?_
    rw [scalarLoad_own hg hk hw hs ht hp]
    exact ⟨Dev.answerLoad_reg _ _ { w with kind := 0 } _ hf hr, (Dev.sameLines_tcFill _ _ _).mem⟩
  case store =>
    intro p va size v a now s hk hn ht hg
    refine Does.of_run (f := scalarStore p va.toNat size v now) rfl ?_
    have hb := leBytes_ne_nil hn v.toNat
    have hl := Dev.sameLines_tcFill (s.dev.afterProg p now) p.core.val va.toNat
    rw [scalarStore_own hg hk ht, Dev.retag_mem, Dev.writePlain_memory _ _ hb, Dev.writePlain_side _ _ hb, Dev.writePlain_poison _ _ hb,
      hl.store, hl.mem, Dev.afterProg_mem, leBytes_length]
    exact ⟨rfl, rfl, rfl⟩
  case amo =>
    intro p op wide va v rd rl a now s hk hs ht hp hr hg
    refine Does.of_run (f := amo p op.val wide va.toNat v rd.val rl now) rfl ?_
    rw [amo_own hg hk hs ht hp]
    exact ⟨Dev.answerLoad_reg _ _ (atomicWait 2 wide va.toNat rd.val) _ rfl (Fin.val_ne_zero_iff.2 hr),
      Dev.writePlain_memory _ _ (leBytes_ne_nil (atomicSize_pos wide) _) _ _⟩
  case lr =>
    intro p wide va rd a now s hk hs ht hp hr hg
    refine Does.of_run (f := lr p wide va.toNat rd.val now) rfl ?_
    rw [lr_own hg hk hs ht hp]
    exact ⟨(Dev.answerLoad_resv ..).trans (Dev.setResv_resv ..), Dev.afterProg_mem ..,
      Dev.answerLoad_reg _ _ (atomicWait 1 wide va.toNat rd.val) _ rfl (Fin.val_ne_zero_iff.2 hr)⟩
  case scHeld =>
    intro p wide va v rd a now s hk ht hp hr hh hg
    refine Does.of_run (f := sc p wide va.toNat v rd.val now) rfl ?_
    rw [sc_own_of_held hg hk ht hp hh]
    exact ⟨(Dev.answerLoad_resv ..).trans (Dev.writePlain_resv_none (Dev.setResv_resv ..) _ _ _ _),
      Dev.answerLoad_reg _ _ (atomicWait 3 wide va.toNat rd.val) _ rfl (Fin.val_ne_zero_iff.2 hr),
      (Dev.writePlain_memory _ _ (leBytes_ne_nil (atomicSize_pos wide) _) _ _).trans ((Dev.sameLines_setResv ..).store ..)⟩
  case scNotHeld =>
    intro p wide va v rd a now s hk ht hp hr hh hg
    refine Does.of_run (f := sc p wide va.toNat v rd.val now) rfl ?_
    rw [sc_own_of_not_held hg hk ht hp hh]
    exact ⟨(Dev.answerLoad_resv ..).trans (Dev.setResv_resv ..),
      Dev.answerLoad_reg _ _ (atomicWait 3 wide va.toNat rd.val) _ rfl (Fin.val_ne_zero_iff.2 hr), Dev.afterProg_mem ..⟩

end Sys2Proof.Machine
end

section
/-!
The matrix engine: a queue entry through a change, what reads and writes of beads leave of the queues, passes and closes, and O15 (R96, R101
to R105, R115, R120 to R123; the landing of a bead that is not checked is log entry 92, the RESULT beside 0x0317 log entry 22).
-/
namespace Sys2Proof.Machine

/-! ### Maps and folds -/

/-- What every step of a fold with an accumulator beside the module keeps, the fold keeps. -/
theorem foldl_fst_keeps {α β γ : Type} (g : Dev → α) (f : Dev × γ → β → Dev × γ) (h : ∀ s b, g (f s b).1 = g s.1) (l : List β) (s : Dev × γ) :
    g (l.foldl f s).1 = g s.1 := by
  induction l generalizing s with
  | nil => rfl
  | cons b l ih => rw [List.foldl_cons, ih, h]

theorem KMap.find?_foldl_del {α : Type} (is : List Nat) (m : KMap α) (i : Nat) :
    (is.foldl KMap.del m).find? i = if i ∈ is then none else m.find? i := by
  induction is generalizing m with
  | nil => rfl
  | cons j is ih =>
    rw [List.foldl_cons, ih, KMap.find?_del]
    by_cases hj : i = j
    · simp [hj]
    · simp [hj]

/-! ### Queue entries -/

theorem Core.id_of_entry? {k : Core} {id : Nat} {e : TiqEntry} (h : k.entry? id = some e) : e.id = id := by
  simpa using List.find?_some h

/-- An entry of a queue in which every entry has been changed, its number apart. -/
theorem Core.entry?_of_tiq_map {k k' : Core} {f : TiqEntry → TiqEntry} (hf : ∀ e, (f e).id = e.id) (h : k'.tiq = k.tiq.map f) (id : Nat) :
    k'.entry? id = (k.entry? id).map f := by
  unfold Core.entry?
  rw [h, List.find?_map]
  congr 2
  funext e
  simp [hf]

theorem Core.entry?_of_tiq_eq {k k' : Core} (h : k'.tiq = k.tiq) (id : Nat) : k'.entry? id = k.entry? id := by
  rw [Core.entry?, h, Core.entry?]

/-- An entry once it has been changed, its number apart. -/
theorem Core.entry?_modEntry {k : Core} {id : Nat} {e : TiqEntry} (h : k.entry? id = some e) {f : TiqEntry → TiqEntry}
    (hf : ∀ e, (f e).id = e.id) : (k.modEntry id f).entry? id = some (f e) := by
  rw [Core.entry?_of_tiq_map (k := k) (f := fun e => if e.id = id then f e else e) _ rfl, h, Option.map_some, if_pos (Core.id_of_entry? h)]
  intro e
  split
  · exact hf e
  · rfl

/-- Cycles counted for an entry change nothing of it but the cycles held with it. -/
theorem Core.entry?_spend {k : Core} {id : Nat} {e : TiqEntry} (h : k.entry? id = some e) (n : Nat) :
    ∃ b, (k.spend id n).entry? id = some { e with busy := b } := by
  unfold Core.spend
  rw [h]
  dsimp only
  split
  · exact ⟨e.busy, h⟩
  · exact ⟨e.busy + n, Core.entry?_modEntry h fun _ => rfl⟩

theorem Dev.core_modCore_self (d : Dev) (c : Nat) (f : Core → Core) : (d.modCore c f).core c = f (d.core c) := by
  rw [Dev.core_modCore, if_pos rfl]

theorem Dev.finish_entry? {d : Dev} {c id : Nat} {e : TiqEntry} (h : (d.core c).entry? id = some e) (r : Completion) :
    ((d.finish c id r).core c).entry? id = some { e with done := some r } := by
  rw [Dev.finish, Dev.core_modCore_self]
  exact Core.entry?_modEntry h fun _ => rfl

/-- An entry that is finished has the outcome it was given. -/
theorem Dev.finish_outcome {d : Dev} {c id : Nat} {e : TiqEntry} (h : (d.core c).entry? id = some e) (r : Completion) :
    (d.finish c id r).outcome c id = some r := by
  rw [Dev.outcome, Dev.finish_entry? h]
  rfl

theorem Dev.atWork_iff {d : Dev} {c id : Nat} {e : TiqEntry} :
    d.atWork c id e = true ↔ (d.core c).entry? id = some e ∧ e.committed = true ∧ e.begun = true ∧ e.done = none := by
  simp [Dev.atWork, and_assoc]

@[simp] theorem Dev.advance_atWork (d : Dev) (now : Time) (c id : Nat) (e : TiqEntry) : (d.advance now).atWork c id e = d.atWork c id e := by
  simp [Dev.atWork]

/-- A work command on an entry that is at work begins nothing. -/
theorem Dev.working_of_atWork {d : Dev} {c id : Nat} {e : TiqEntry} (h : d.atWork c id e = true) : d.working c id = (d, some e) := by
  obtain ⟨he, hc, hb, hd⟩ := Dev.atWork_iff.1 h
  simp [Dev.working, he, hc, hb, hd]

/-! ### Reads of beads change no core (R74) -/

/-- Beads read in order until one faults, whatever the read of one does. -/
def readEach (read : Dev → Accessor → Desc → Nat → Dev × Except Cause BeadVal) (who : Accessor) (x : Desc) :
    List Nat → Dev → KMap BeadVal → Dev × Except Cause (KMap BeadVal)
  | [], d, m => (d, .ok m)
  | b :: bs, d, m => match read d who x b with
    | (d, .error c) => (d, .error c)
    | (d, .ok v) => readEach read who x bs d (m.set b v)

/-- The reads of an operand's beads. The read of one is a variable while the two recursions are compared, and `id` keeps it one in the proof
term: the kernel would otherwise evaluate the checks of a bead. -/
theorem readBeads_eq_readEach (d : Dev) (who : Accessor) (x : Desc) (bs : List Nat) (m : KMap BeadVal) :
    d.readBeads who x bs m = readEach Dev.readBead who x bs d m := by
  delta Dev.readBeads Dev.readBeads._f
  generalize Dev.readBead = read
  revert read
  refine id fun read => ?_
  induction bs generalizing d m with
  | nil => rfl
  | cons b bs ih =>
    simp only [readEach, ← ih]
    rcases read d who x b with ⟨d', c | v⟩
    · rfl
    · rfl

theorem readEach_cores {read : Dev → Accessor → Desc → Nat → Dev × Except Cause BeadVal} {who : Accessor} {x : Desc}
    (h : ∀ d b, (read d who x b).1.cores = d.cores) (bs : List Nat) (d : Dev) (m : KMap BeadVal) :
    (readEach read who x bs d m).1.cores = d.cores := by
  induction bs generalizing d m with
  | nil => rfl
  | cons b bs ih =>
    rw [← h d b, readEach]
    split
    · next hb => rw [hb]
    · next hb => rw [hb, ih]

@[simp] theorem Dev.readBead_cores (d : Dev) (who : Accessor) (x : Desc) (b : Nat) : (d.readBead who x b).1.cores = d.cores := by
  rw [Dev.readBead]
  split
  · rfl
  · split
    · exact foldl_keeps Dev.cores (fun d (p : Nat × Nat) => d.poison p.1 p.2) (fun _ _ => rfl) _ _
    · rfl

@[simp] theorem Dev.readBeads_cores (d : Dev) (who : Accessor) (x : Desc) (bs : List Nat) (m : KMap BeadVal) :
    (d.readBeads who x bs m).1.cores = d.cores := by
  rw [readBeads_eq_readEach]
  exact readEach_cores (fun d b => d.readBead_cores who x b) bs d m

@[simp] theorem Dev.readAll_cores (d : Dev) (who : Accessor) (ps : List (Desc × List Nat)) : (d.readAll who ps).1.cores = d.cores := by
  induction ps generalizing d with
  | nil => rfl
  | cons p ps ih =>
    unfold Dev.readAll
    dsimp only
    split
    · exact d.readBeads_cores who p.1 p.2 []
    · rw [ih, Dev.readBeads_cores]

theorem Dev.readAll_core (d : Dev) (who : Accessor) (ps : List (Desc × List Nat)) (c : Nat) : (d.readAll who ps).1.core c = d.core c := by
  rw [Dev.core, Dev.readAll_cores, Dev.core]

/-! ### Writes change no issue queue (R73, R102, R189) -/

section Writes
variable (d : Dev) (c : Nat)

/-- A write drops reservations and nothing else of a core. -/
theorem Dev.breakResv_tiq (a n : Nat) : ((d.breakResv a n).get {} c).tiq = (d.core c).tiq := by
  unfold Dev.breakResv
  refine KMap.get_mapv_keeps (P := fun k : Core => k.tiq = (d.core c).tiq) (fun _ k hk => ?_) rfl
  split
  · split
    · exact hk
    · exact hk
  · exact hk

@[simp] theorem Dev.writePlain_tiq (a : Nat) (bs : List Byte) (clears poison : Bool) :
    ((d.writePlain a bs clears poison).core c).tiq = (d.core c).tiq := by
  unfold Dev.writePlain
  split
  · rfl
  · rw [Dev.core, Dev.hubTrim_cores]
    exact d.breakResv_tiq c a bs.length

@[simp] theorem Dev.writeBead_tiq (a : Nat) (bytes : List Byte) (sb : Sideband) (poison : Bool) :
    ((d.writeBead a bytes sb poison).core c).tiq = (d.core c).tiq := by
  rw [Dev.writeBead, Dev.core, Dev.hubTrim_cores]
  exact d.breakResv_tiq c a bytes.length

@[simp] theorem Dev.writeVa_tiq (who : Accessor) (va : Nat) (bs : List Byte) (clears poison : Bool) :
    ((d.writeVa who va bs clears poison).core c).tiq = (d.core c).tiq :=
  foldl_fst_keeps (fun d => (d.core c).tiq) _ (fun s _ => s.1.writePlain_tiq c ..) _ _

@[simp] theorem Dev.writeBeadVa_tiq (who : Accessor) (va : Nat) (bytes : List Byte) (sb : Sideband) (poison : Bool) :
    ((d.writeBeadVa who va bytes sb poison).core c).tiq = (d.core c).tiq := by
  unfold Dev.writeBeadVa
  split
  · exact d.writeBead_tiq c ..
  · exact d.writeVa_tiq c ..

/-- What a bead's write keeps of the issue queues, its landing keeps: a landing changes arm records and their overruns besides. -/
theorem Dev.landWith_tiq (a : Nat) (sb : Sideband) {w : Dev → Dev} (hw : ((w d).core c).tiq = (d.core c).tiq) :
    ((d.landWith a sb w).1.core c).tiq = (d.core c).tiq := by
  refine iteInduction (motive := fun r : Dev × Cause => (r.1.core c).tiq = (d.core c).tiq) (fun _ => rfl) fun _ => ?_
  split
  · exact hw
  · dsimp only
    split
    · rfl
    · split
      · refine Dev.modCore_keeps Core.tiq ?_ d _ c
        exact fun _ => rfl
      · have landed {f : Core → Core} (hf : ∀ k, (f k).tiq = k.tiq) (i : Nat) : (((w d).modCore i f).core c).tiq = (d.core c).tiq :=
          (Dev.modCore_keeps Core.tiq hf ..).trans hw
        split
        · simp only [Dev.core, Dev.event_cores]
          refine landed ?_ _
          exact fun _ => rfl
        · refine landed ?_ _
          exact fun _ => rfl

@[simp] theorem Dev.mergePut_tiq (who : Accessor) (x : Desc) (b : Nat) (newc news : Nat → Option Nat) (poison : Bool) :
    ((d.mergePut who x b newc news poison).1.core c).tiq = (d.core c).tiq := by
  refine d.landWith_tiq c _ _ ?_
  exact (foldl_keeps (fun d : Dev => (d.core c).tiq) (fun d (l : Nat) => d.poison _ 64) (fun _ _ => rfl) _ _).trans
    (d.writeBeadVa_tiq c ..)

@[simp] theorem Dev.putTile_tiq (i : Nat) (out : Desc) (rows : List OutRow) (poison : Bool) :
    ((d.putTile i out rows poison).1.core c).tiq = (d.core c).tiq := by
  unfold Dev.putTile
  refine foldl_fst_keeps (fun d => (d.core c).tiq) _ (fun s b => ?_) _ _
  dsimp only
  rw [Dev.mergePut_tiq]

@[simp] theorem Dev.putStats_tiq (i : Nat) (ch : BitVec 1024) (x : Desc) (rows : List OutRow) (m : Nat) (poison : Bool) :
    ((d.putStats i ch x rows m poison).1.core c).tiq = (d.core c).tiq := by
  unfold Dev.putStats
  split
  · rfl
  · refine foldl_fst_keeps (fun d => (d.core c).tiq) _ (fun s b => ?_) _ _
    dsimp only
    rw [Dev.mergePut_tiq]

end Writes

/-! ### Passes that are no close (R120, R121) -/

/-- ACC_STATE of its group as a pass that is no close leaves it (R121, R122). -/
def Dev.passState (d : Dev) (c : Nat) (e : TiqEntry) (u : Mma) : BitVec 32 :=
  accAfter ((d.core c).tx.accState.get 0 u.grp) u.mode u.slim e.reads.poison
    (e.acc.any (fun p => (ofF32 p.s).special) || (u.mode = 1 && bit ((d.core c).tx.accState.get 0 u.grp) 27)) u.cls

@[simp] theorem Dev.advance_passState (d : Dev) (now : Time) (c : Nat) (e : TiqEntry) (u : Mma) :
    (d.advance now).passState c e u = d.passState c e u := by
  simp [Dev.passState]

section Passes
variable {d : Dev} {c id : Nat} {e : TiqEntry} {u : Mma}

/-- The group of an ended pass has the state that the pass leaves. -/
theorem Dev.endPass_accState : ((d.endPass c e u).core c).tx.accState.find? u.grp = some (d.passState c e u) := by
  unfold Dev.endPass Dev.finish
  dsimp only
  rw [Dev.core_modCore_self, Dev.core_modCore_self]
  exact (KMap.find?_set ..).trans (if_pos rfl)

theorem Dev.endPass_mem : (d.endPass c e u).mem = (d.accStore c u e.acc e.reads.poison).mem := rfl

/-- An ended pass reports the state that it leaves. -/
theorem Dev.endPass_outcome (he : (d.core c).entry? id = some e) :
    (d.endPass c e u).outcome c id = some (e.reads.completion 0 0 (d.passState c e u)) := by
  obtain rfl := Core.id_of_entry? he
  refine Dev.finish_outcome (e := e) ?_ _
  rw [Dev.core_modCore_self]
  exact he

section Entered
variable (hw : d.atWork c id e = true) (hu : e.mma? = some u) (hg : e.groups = u.count)
include hw hu hg

/-- An MMA whose groups are all entered goes straight to its end. -/
theorem Dev.mmaRun_eq_endMma {m : Nat} (hm : u.mode = m) : d.mmaRun c id m = d.endMma c id := by
  simp [Dev.mmaRun, Dev.working_of_atWork hw, hu, hm, hg, Dev.runGroups]

theorem Dev.endMma_of_not_close (hc : isClose u.mode = false) : d.endMma c id = d.endPass c e u := by
  obtain ⟨he, hk, -, hd⟩ := Dev.atWork_iff.1 hw
  simp [Dev.endMma, he, hu, hg, hk, hd, hc]

/-- A close enters the epilogue unit when that has room (R96). -/
theorem Dev.endMma_of_close (hc : isClose u.mode = true) (hn : e.closing = false)
    (hr : ((d.core c).tiq.filter (fun o => o.closing && o.done.isNone)).length < 2) :
    d.endMma c id = (d.modCore c (fun k => k.modEntry id (fun e => { e with closing := true, progress := d.time }))).takeClose c id := by
  obtain ⟨he, hk, -, hd⟩ := Dev.atWork_iff.1 hw
  simp [Dev.endMma, he, hu, hg, hk, hd, hc, hn, hr]

end Entered

/-! ### Closes (R96, R123) -/

/-- A close that the epilogue unit runs changes only the findings and the outcome of its entry. -/
theorem Dev.runClose_entry? {x : TiqEntry} (h : (d.core c).entry? e.id = some x) :
    ∃ rd r, ((d.runClose c e u).core c).entry? e.id = some { x with reads := rd, done := some r } := by
  unfold Dev.runClose
  dsimp only
  split
  · exact ⟨x.reads, _, Dev.finish_entry? (by rwa [Dev.readAll_core]) _⟩
  · next ms _ =>
    refine ⟨ms.foldl seeAll e.reads, _, Dev.finish_entry? (e := { x with reads := ms.foldl seeAll e.reads }) ?_ _⟩
    rw [Dev.core_modCore_self]
    refine Core.entry?_modEntry (e := x) ?_ fun _ => rfl
    rw [← h]
    refine Core.entry?_of_tiq_eq ?_ _
    -- whether a younger pass keeps the group's state, and whether statistics are written, changes no queue
    split <;> split <;> simp [Dev.readAll_core]

/-- The epilogue unit leaves of an entry what its groups have made of it. -/
theorem Dev.takeClose_entry? (h : (d.core c).entry? id = some e) :
    ∃ e', ((d.takeClose c id).core c).entry? id = some e' ∧ e'.closing = e.closing ∧ e'.groups = e.groups ∧ e'.acc = e.acc := by
  have same : ∃ e', (d.core c).entry? id = some e' ∧ e'.closing = e.closing ∧ e'.groups = e.groups ∧ e'.acc = e.acc :=
    ⟨e, h, rfl, rfl, rfl⟩
  obtain rfl := Core.id_of_entry? h
  unfold Dev.takeClose
  rw [h]
  dsimp only
  split
  · next u _ =>
    split
    · obtain ⟨rd, r, hx⟩ := Dev.runClose_entry? (u := u) h
      exact ⟨_, hx, rfl, rfl, rfl⟩
    · exact same
  · exact same

/-- The epilogue unit takes a close that is committed and ready. -/
theorem Dev.takeClose_of_ready (h : (d.core c).entry? id = some e) (hu : e.mma? = some u) (hk : e.committed = true)
    (hr : d.closeReady c e u = true) : d.takeClose c id = d.runClose c e u := by
  simp [Dev.takeClose, h, hu, hk, hr]

/-- A close that the epilogue unit runs has an outcome. -/
theorem Dev.runClose_outcome_isSome (h : (d.core c).entry? id = some e) : ((d.runClose c e u).outcome c id).isSome = true := by
  obtain rfl := Core.id_of_entry? h
  obtain ⟨rd, r, hx⟩ := Dev.runClose_entry? (u := u) h
  rw [Dev.outcome, hx]
  rfl

/-! ### Groups (R103, R115) -/

/-- A group that is read without a finding is entered into the pairs. -/
theorem Dev.runGroup_entry? {ms : List (KMap BeadVal)} {d1 : Dev} (he : (d.core c).entry? id = some e) (hd : e.done = none)
    (hn : e.groups < u.count) (hy : d.groupReady c u e.groups = true) (hr : d.mayRead c e = true)
    (ha : d.readAll (d.who c) (u.groupReads e.groups) = (d1, .ok ms)) :
    ∃ e', ((d.runGroup c e u).core c).entry? id = some e' ∧ e'.groups = e.groups + 1 ∧
      e'.acc = u.enter e.groups ms (if e.groups = 0 then (d.accStart c u).1 else e.acc) := by
  obtain rfl := Core.id_of_entry? he
  have he1 : (d1.core c).entry? e.id = some e := by
    have h := d.readAll_core (d.who c) (u.groupReads e.groups) c
    rw [ha] at h
    rwa [h]
  obtain ⟨b, hb⟩ := Core.entry?_spend he1 (d.groupCycles c u e.groups)
  unfold Dev.runGroup
  simp only [hd, hy, hr, ha, Nat.not_le.2 hn, Option.isSome_none, decide_false, Bool.not_true, Bool.or_false, Bool.false_eq_true, if_false,
    Dev.core_modCore_self]
  refine ⟨_, Core.entry?_modEntry hb fun _ => rfl, rfl, ?_⟩
  split
  · rfl
  · rfl

end Passes

/-! ### The arrival limit (R105) -/

/-- An entry once arm records have been released: it holds them no longer. -/
theorem Core.dropArms_entry? {k : Core} {id : Nat} {e : TiqEntry} (h : k.entry? id = some e) (is : List Nat) :
    (k.dropArms is).entry? id = some { e with arms := e.arms.filter (fun i => !is.contains i) } := by
  rw [Core.entry?_of_tiq_map (k := k) (f := fun e => { e with arms := e.arms.filter (fun i => !is.contains i) }) (fun _ => rfl) rfl, h]
  rfl

theorem Core.dropArms_find?_of_mem (k : Core) {is : List Nat} {i : Nat} (h : i ∈ is) : (k.dropArms is).arms.find? i = none :=
  (KMap.find?_foldl_del ..).trans (if_pos h)

/-! ### Beads that land (R101, R102) -/

/-- An armed position lies in memory of the core that holds its record. -/
theorem Dev.memKind_of_armedAt {d : Dev} {a c i k : Nat} (h : d.armedAt a = some (c, i, k)) :
    memKind a = .stack c ∨ memKind a = .scratch c := by
  have same {x : Nat} (hx : (d.core x).arms.findSome? (fun (i, r) => (r.pos.findIdx? (· = a)).map (fun p => (x, i, p))) = some (c, i, k)) :
      x = c := by
    obtain ⟨_, _, hp⟩ := List.exists_of_findSome?_eq_some hx
    obtain ⟨_, _, hq⟩ := Option.map_eq_some_iff.1 hp
    exact congrArg Prod.fst hq
  unfold Dev.armedAt at h
  split at h
  · next hm => exact .inl (same h ▸ hm)
  · next hm => exact .inr (same h ▸ hm)
  · cases h

/-- A record with a bead landed at position `k` (R101). -/
def ArmRec.land (r : ArmRec) (k : Nat) (now : Time) : ArmRec := { r with landed := r.landed.insert k, times := r.times.set k now }

/-- A bead that fits its armed position, outside a reset, is written and its arrival bit set. -/
theorem Dev.landWith_of_fits {d : Dev} {a c i k : Nat} {sb : Sideband} (w : Dev → Dev) (ha : d.armedAt a = some (c, i, k))
    (hr : d.inReset c = false) (ht : sb.chkValid = true → sb.tag = ((d.core c).arms.get {} i).tag)
    (hk : k ∉ ((d.core c).arms.get {} i).landed) :
    (d.landWith a sb w).1.mem = (w d).mem ∧
      ((d.landWith a sb w).1.core c).arms.get {} i = ((d.core c).arms.get {} i).land k d.time := by
  have hm := Dev.memKind_of_armedAt ha
  have hc : ¬(sb.chkValid && decide (sb.tag ≠ ((d.core c).arms.get {} i).tag)) = true := by simpa using ht
  have hl : ¬((d.core c).arms.get {} i).landed.contains k = true := by simpa using hk
  have landed : (((w d).modCore c (fun x => { x with arms := x.arms.set i (((d.core c).arms.get {} i).land k d.time) })).core c
      ).arms.get {} i = ((d.core c).arms.get {} i).land k d.time := by
    rw [Dev.core_modCore_self]
    exact (KMap.get_set ..).trans (if_pos rfl)
  rw [Dev.landWith, if_neg, ha]
  · dsimp only
    rw [if_neg hc, if_neg hl]
    split
    · exact ⟨rfl, landed⟩
    · exact ⟨rfl, landed⟩
  · rcases hm with hm | hm
    · simp [hm, hr]
    · simp [hm, hr]

/-! ### The commands of the matrix engine -/

@[simp] theorem Dev.retag_core (d : Dev) (c : Nat) : d.retag.core c = d.core c := rfl
@[simp] theorem Dev.retag_outcome (d : Dev) (c id : Nat) : d.retag.outcome c id = d.outcome c id := rfl

section Runs
variable {s : State} {c id : Nat} {e : TiqEntry} {u : Mma} {ins : Instr} {now : Time} {m : Nat}
  (hx : exec ins s = s.run (fun d => (d.advance now).mmaRun c id m)) (hw : s.dev.atWork c id e = true) (hu : e.mma? = some u)
  (hm : u.mode = m) (hg : e.groups = u.count)
include hx hw hu hm hg

/-- A pass that is no close: its sums are written, its group has the state that the pass leaves, and that is reported (R120, R121). -/
theorem does_pass (hc : isClose m = false) :
    Does ins s fun d => (d.core c).tx.accState.find? u.grp = some (s.dev.passState c e u) ∧
      d.outcome c id = some (e.reads.completion 0 0 (s.dev.passState c e u)) ∧
      d.mem = ((s.dev.advance now).accStore c u e.acc e.reads.poison).mem := by
  have hw' : (s.dev.advance now).atWork c id e = true := by rwa [Dev.advance_atWork]
  subst hm
  refine Does.of_run hx ?_
  rw [Dev.retag_core, Dev.retag_outcome, Dev.retag_mem, Dev.mmaRun_eq_endMma hw' hu hg rfl, Dev.endMma_of_not_close hw' hu hg hc,
    ← Dev.advance_passState s.dev now]
  exact ⟨Dev.endPass_accState, Dev.endPass_outcome (Dev.atWork_iff.1 hw').1, Dev.endPass_mem⟩

/-- A close that finds room in the epilogue unit is handed to it with its sums (R96, R120). -/
theorem does_close (hc : isClose m = true) (hn : e.closing = false)
    (hr : ((s.dev.core c).tiq.filter (fun o => o.closing && o.done.isNone)).length < 2) :
    Does ins s fun d => ∃ e', (d.core c).entry? id = some e' ∧ e'.closing = true ∧ e'.groups = u.count ∧ e'.acc = e.acc := by
  have hw' : (s.dev.advance now).atWork c id e = true := by rwa [Dev.advance_atWork]
  subst hm
  refine Does.of_run hx ?_
  rw [Dev.retag_core, Dev.mmaRun_eq_endMma hw' hu hg rfl, Dev.endMma_of_close hw' hu hg hc hn (by rwa [Dev.advance_core]), ← hg]
  refine Dev.takeClose_entry? (e := { e with closing := true, progress := (s.dev.advance now).time }) ?_
  rw [Dev.core_modCore_self]
  exact Core.entry?_modEntry (Dev.atWork_iff.1 hw').1 fun _ => rfl

end Runs

section Commands
variable {d : Dev} {c id : Nat} {e : TiqEntry} {u : Mma} {errs : List EccEvent} {now : Time}

/-- MMA_GROUP_START without a fault runs the next group, where it may (R103). -/
theorem mmaGroupStart_of_ready (he : (((d.advance now).eccHeld c id errs).core c).entry? id = some e) (hu : e.mma? = some u)
    (hb : e.begun = true) (hd : e.done = none) (hg : e.groups < u.count)
    (hy : ((d.advance now).eccHeld c id errs).groupReady c u e.groups = true)
    (hr : ((d.advance now).eccHeld c id errs).mayRead c e = true) :
    mmaGroupStart c id .none errs now d = ((d.advance now).eccHeld c id errs).runGroup c e u := by
  simp [mmaGroupStart, he, hu, hb, hd, hy, hr, Nat.not_le.2 hg]

/-- EPILOGUE_CLOSE_START without a parity error runs the oldest pending close, where it is ready (R96). -/
theorem epilogueCloseStart_of_ready {x : TiqEntry} (hx : (d.core c).tiq.find? (fun x => x.closing && x.done.isNone) = some x)
    (he : (((d.advance now).eccHeld c x.id errs).core c).entry? x.id = some e) (hu : e.mma? = some u) (hk : e.committed = true)
    (hr : ((d.advance now).eccHeld c x.id errs).closeReady c e u = true) :
    epilogueCloseStart c false errs now d = ((d.advance now).eccHeld c x.id errs).runClose c e u := by
  simp [epilogueCloseStart, hx, Dev.takeClose_of_ready he hu hk hr]

/-- ARRIVAL_STAY_EXPIRE of an armed MMA whose next group has not come: it loses its arm records and ends with 0x0317 (R105). -/
theorem arrivalStayExpire_of_group_late (he : (d.core c).entry? id = some e) (hu : e.mma? = some u) (hb : e.begun = true)
    (hd : e.done = none) (hn : e.closing = false) (ha : (u.a.armed || u.b.armed) = true) (hg : e.groups < u.count)
    (hy : (d.advance now).groupReady c u e.groups = false) (hk : e.committed = true)
    (hs : reached (d.advance now).time ((d.advance now).readySince c e u) ((d.advance now).arrivalStay c) = true) :
    arrivalStayExpire c id now d = ((d.advance now).modCore c (fun k => k.dropArms e.arms)).failEntry c e 0x0317 := by
  simp [arrivalStayExpire, he, hu, hb, hd, hn, ha, hg, hy, hk, hs]

/-- BEAD_LAND of a bead as large as its armed position's (R102). -/
theorem beadLand_of_armedAt {mpa i k : Nat} {bytes : List Byte} {sb : BitVec 64} {poison : Bool} (ha : d.armedAt mpa = some (c, i, k))
    (hl : bytes.length = ((d.core c).arms.get {} i).stride) :
    beadLand mpa bytes sb poison now d = ((d.advance now).arriveBead mpa bytes (Sideband.ofWord sb) poison).1 := by
  simp [beadLand, ha, hl]

end Commands

/-! ### The arrival limit and the landing of a bead -/

/-- An entry that fails once its arm records are released: its outcome, with the RESULT that stands (R123), and the records gone. -/
theorem Dev.failEntry_dropArms {d : Dev} {c id : Nat} {e : TiqEntry} (he : (d.core c).entry? id = some e) (cause : Cause) :
    ((d.modCore c (fun k => k.dropArms e.arms)).failEntry c e cause).outcome c id =
        some { cause := cause, result := (d.core c).keptResult e } ∧
      ∀ i ∈ e.arms, (((d.modCore c (fun k => k.dropArms e.arms)).failEntry c e cause).core c).arms.find? i = none := by
  obtain rfl := Core.id_of_entry? he
  refine ⟨?_, fun i hi => ?_⟩
  · have hk : ((d.modCore c (fun k => k.dropArms e.arms)).core c).keptResult e = (d.core c).keptResult e := by
      rw [Dev.core_modCore_self]
      rfl
    rw [← hk]
    refine Dev.finish_outcome (e := { e with arms := e.arms.filter (fun i => !e.arms.contains i) }) ?_ _
    rw [Dev.core_modCore_self]
    exact Core.dropArms_entry? he e.arms
  · rw [Dev.failEntry, Dev.finish, Dev.core_modCore_self, Dev.core_modCore_self]
    exact Core.dropArms_find?_of_mem _ hi

/-- A bead's write stores its bytes. -/
theorem Dev.writeBead_memory (d : Dev) (a : Nat) (bytes : List Byte) (sb : Sideband) (poison : Bool) :
    (d.writeBead a bytes sb poison).mem.mem = d.store a bytes := by
  rw [Dev.writeBead, Dev.hubTrim_mem_mem]

theorem Dev.sameLines_advance (d : Dev) (now : Time) : d.SameLines (d.advance now) :=
  ⟨d.advance_mem now, fun c => by rw [Dev.advance_core]⟩

/-- A bead that arrives and fits its armed position is stored, checked or not, and its arrival bit is set. -/
theorem Dev.arriveBead_of_fits {d : Dev} {a c i k : Nat} {bytes : List Byte} {sb : Sideband} {poison : Bool}
    (ha : d.armedAt a = some (c, i, k)) (hr : d.inReset c = false) (ht : sb.chkValid = true → sb.tag = ((d.core c).arms.get {} i).tag)
    (hk : k ∉ ((d.core c).arms.get {} i).landed) :
    (d.arriveBead a bytes sb poison).1.mem.mem = d.store a bytes ∧
      ((d.arriveBead a bytes sb poison).1.core c).arms.get {} i = ((d.core c).arms.get {} i).land k d.time := by
  rw [Dev.arriveBead, Dev.landBead]
  refine And.imp_left (fun h => ?_) (Dev.landWith_of_fits _ ha hr ht hk)
  rw [h, Dev.writeBead_memory]

/-! ### The obligation -/

/-- Settles O15: a pass that is no close and a close are each one lemma for both modes; the group, the epilogue unit's turn, the arrival limit
and the landing are each reduced to the one branch that the premises choose. -/
theorem matrixEngine : Obligations.MatrixEngine := by
  unfold Obligations.MatrixEngine
  refine ⟨?mmaOpen, ?mmaContinue, ?mmaClose, ?mmaOpenClose, ?groupStart, ?closeStart, ?stayExpire, ?beadLand⟩
  case mmaOpen =>
    intro core id e u now s hw hu hm hg
    obtain ⟨t, ht, hp, hs, ho, hmem⟩ := does_pass (ins := .mmaOpen core id now) rfl hw hu hm hg rfl
    exact ⟨t, ht, hp, _, hs, rfl, ho, hmem⟩
  case mmaContinue =>
    intro core id e u now s hw hu hm hg
    obtain ⟨t, ht, hp, hs, ho, hmem⟩ := does_pass (ins := .mmaContinue core id now) rfl hw hu hm hg rfl
    exact ⟨t, ht, hp, _, hs, rfl, ho, hmem⟩
  case mmaClose =>
    intro core id e u now s hw hu hm hg hn hr
    exact does_close rfl hw hu hm hg rfl hn hr
  case mmaOpenClose =>
    intro core id e u now s hw hu hm hg hn hr
    exact does_close rfl hw hu hm hg rfl hn hr
  case groupStart =>
    rintro core id errs e u ms d0 d1 now s rfl he hu hb hd hg hy hr ha
    refine Does.of_run (f := mmaGroupStart core.val id .none errs now) rfl ?_
    rw [Dev.retag_core, mmaGroupStart_of_ready he hu hb hd hg hy hr]
    exact Dev.runGroup_entry? he hd hg hy hr ha
  case closeStart =>
    rintro core errs x e u d0 now s hx rfl he hu hk hr
    refine Does.of_run (f := epilogueCloseStart core.val false errs now) rfl ?_
    rw [Dev.retag_core, Dev.retag_mem, Dev.retag_outcome, epilogueCloseStart_of_ready hx he hu hk hr]
    exact ⟨rfl, rfl, Dev.runClose_outcome_isSome he⟩
  case stayExpire =>
    intro core id e u now s he hu hb hd hn ha hg hy hk hs
    refine Does.of_run (f := arrivalStayExpire core.val id now) rfl ?_
    rw [Dev.retag_core, Dev.retag_mem, Dev.retag_outcome, arrivalStayExpire_of_group_late he hu hb hd hn ha hg hy hk hs]
    obtain ⟨ho, harms⟩ := Dev.failEntry_dropArms (d := s.dev.advance now) (by rwa [Dev.advance_core]) 0x0317
    rw [Dev.advance_core] at ho
    exact ⟨ho, Dev.advance_mem .., harms⟩
  case beadLand =>
    intro mpa bytes sb poison c i k now s ha hl hr ht hk
    refine Does.of_run (f := beadLand mpa bytes sb poison now) rfl ?_
    rw [Dev.retag_core, Dev.retag_mem, beadLand_of_armedAt ha hl]
    obtain ⟨hmem, hland⟩ := Dev.arriveBead_of_fits (d := s.dev.advance now) (bytes := bytes) (sb := Sideband.ofWord sb) (poison := poison)
      (by rwa [Dev.advance_armedAt]) (by rwa [Dev.advance_inReset]) (by rwa [Dev.advance_core]) (by rwa [Dev.advance_core])
    rw [hmem, hland, (s.dev.sameLines_advance now).store, Dev.advance_core]
    exact ⟨rfl, rfl⟩

end Sys2Proof.Machine
end

section
/-!
The vector engine: memory beside the cycles that are counted, what a bead's write leaves of the issue queues, the steps of an instruction up to
its end, and O16 (R157, R160, R173, R174, R179, R180, R183, R197).
-/
namespace Sys2Proof.Machine

/-! ### Maps changed at one key and at every key -/

theorem KMap.mapv_set {α : Type} (m : KMap α) (i : Nat) (v : α) (g : Nat → α → α) : (m.set i v).mapv g = (m.mapv g).set i (g i v) := by
  induction m with
  | nil => rfl
  | cons p m ih =>
    obtain ⟨k, w⟩ := p
    simp only [KMap.mapv, KMap.set, List.map_cons] at ih ⊢
    split
    · rfl
    · split
      · rfl
      · rw [List.map_cons, ih]

theorem KMap.get_mapv {α : Type} {m : KMap α} {d : α} {i : Nat} {g : Nat → α → α} (hd : g i d = d) :
    (m.mapv g).get d i = g i (m.get d i) := by
  rw [KMap.get, KMap.get, KMap.find?_mapv]
  cases m.find? i with
  | none => exact hd.symm
  | some x => rfl

/-- A change at one key that commutes with a change of every value. -/
theorem KMap.mapv_upd {α : Type} {m : KMap α} {d : α} {i : Nat} {f : α → α} {g : Nat → α → α} (hd : g i d = d)
    (hc : ∀ x, g i (f x) = f (g i x)) : (m.upd d i f).mapv g = (m.mapv g).upd d i f := by
  rw [KMap.upd, KMap.upd, KMap.mapv_set, KMap.get_mapv hd, hc]

/-! ### Engine cycles counted (R203)

The cycles of a committed instruction are counted in its core at once. Nothing that memory or its translation reads of a core is touched, so
counting commutes with every write. -/

/-- A core with engine cycles counted. -/
def Core.addBusy (k : Core) (n : Nat) : Core := { k with cnt := { k.cnt with busy := k.cnt.busy + n } }

/-- A module with engine cycles of one core counted. -/
def Dev.addBusy (d : Dev) (c n : Nat) : Dev := d.modCore c (fun k => k.addBusy n)

/-- Cycles of a committed entry are counted at once. -/
theorem Core.spend_of_committed {k : Core} {id : Nat} {e : TiqEntry} (h : k.entry? id = some e) (hk : e.committed = true) (n : Nat) :
    k.spend id n = k.addBusy n := by
  simp [Core.spend, h, hk, Core.addBusy]

theorem Dev.modCore_congr {d : Dev} {c : Nat} {f g : Core → Core} (h : f (d.core c) = g (d.core c)) : d.modCore c f = d.modCore c g :=
  congrArg (fun k => { d with cores := d.cores.set c k }) h

theorem Dev.modCore_spend_of_committed {d : Dev} {c id : Nat} {e : TiqEntry} (h : (d.core c).entry? id = some e) (hk : e.committed = true)
    (n : Nat) : d.modCore c (fun k => k.spend id n) = d.addBusy c n :=
  Dev.modCore_congr (Core.spend_of_committed h hk n)

section Busy
variable (d : Dev) (c n : Nat)

@[simp] theorem Dev.addBusy_mem : (d.addBusy c n).mem = d.mem := rfl

theorem Dev.addBusy_core (i : Nat) : (d.addBusy c n).core i = (d.core i).addBusy (if i = c then n else 0) := by
  rw [Dev.addBusy, Dev.core_modCore]
  split
  · next h => rw [h]
  · rfl

theorem Dev.addBusy_entry? (id : Nat) : ((d.addBusy c n).core c).entry? id = (d.core c).entry? id := by
  rw [Dev.addBusy_core]
  rfl

@[simp] theorem Dev.addBusy_who (i : Nat) : (d.addBusy c n).who i = d.who i := by
  rw [Dev.who, Dev.addBusy_core]
  rfl

theorem Dev.sameLines_addBusy : d.SameLines (d.addBusy c n) := d.sameLines_modCore c fun _ => rfl

theorem Dev.addBusy_walk (va : Nat) : ∀ level table, (d.addBusy c n).walk va level table = d.walk va level table := by
  intro level
  induction level with
  | zero =>
    intro table
    unfold Dev.walk
    simp only [(d.sameLines_addBusy c n).poisoned, Dev.addBusy_mem]
    rfl
  | succ l ih =>
    intro table
    unfold Dev.walk
    simp only [(d.sameLines_addBusy c n).poisoned, Dev.addBusy_mem, ih]
    rfl

@[simp] theorem Dev.addBusy_translate (who : Accessor) (va : Nat) : (d.addBusy c n).translate who va = d.translate who va := by
  simp only [Dev.translate, Dev.window, Dev.addBusy_walk, Dev.addBusy_core]
  rfl

@[simp] theorem Dev.addBusy_mpa (who : Accessor) (va : Nat) : (d.addBusy c n).mpa who va = d.mpa who va := by
  rw [Dev.mpa, Dev.addBusy_translate, Dev.mpa]

@[simp] theorem Dev.addBusy_pieces (who : Accessor) (k : Nat) : ∀ va m, (d.addBusy c n).pieces who k va m = d.pieces who k va m := by
  induction k with
  | zero => intro va m; rfl
  | succ k ih => intro va m; simp only [Dev.pieces, Dev.addBusy_mpa, ih]

@[simp] theorem Dev.addBusy_readVa (who : Accessor) (va m : Nat) : (d.addBusy c n).readVa who va m = d.readVa who va m := by
  simp only [Dev.readVa, Dev.addBusy_pieces, Dev.addBusy_mem]

@[simp] theorem Dev.addBusy_poisonVa (who : Accessor) (va m : Nat) : (d.addBusy c n).poisonVa who va m = d.poisonVa who va m := by
  simp only [Dev.poisonVa, Dev.anyPoison, Dev.addBusy_pieces, funext (d.sameLines_addBusy c n).poisoned]

@[simp] theorem Dev.addBusy_packMap (e : TiqEntry) (u : VPack) : (d.addBusy c n).packMap c e u = d.packMap c e u := by
  simp only [Dev.packMap, Dev.mapEntries, Dev.addBusy_who, Dev.addBusy_readVa]

theorem Dev.addBusy_breakResv (a m : Nat) : (d.addBusy c n).breakResv a m = (d.breakResv a m).upd {} c (fun k => k.addBusy n) := by
  unfold Dev.breakResv Dev.addBusy Dev.modCore
  rw [KMap.mapv_upd]
  · rfl
  · intro k
    simp only [Core.addBusy]
    split
    · split
      · rfl
      · rfl
    · rfl

theorem Dev.addBusy_hubTrim : (d.addBusy c n).hubTrim = d.hubTrim.addBusy c n := by
  unfold Dev.hubTrim
  dsimp only
  rw [apply_ite (fun d : Dev => d.addBusy c n)]
  rfl

theorem Dev.addBusy_writePlain (a : Nat) (bs : List Byte) (clears poison : Bool) :
    (d.addBusy c n).writePlain a bs clears poison = (d.writePlain a bs clears poison).addBusy c n := by
  unfold Dev.writePlain
  split
  · rfl
  · rw [← Dev.addBusy_hubTrim, Dev.addBusy_breakResv, (d.sameLines_addBusy c n).store]
    rfl

theorem Dev.addBusy_writeVa (who : Accessor) (va : Nat) (bs : List Byte) (clears poison : Bool) :
    (d.addBusy c n).writeVa who va bs clears poison = (d.writeVa who va bs clears poison).addBusy c n := by
  unfold Dev.writeVa
  rw [Dev.addBusy_pieces]
  generalize d.pieces who (bs.length / 65536 + 2) va bs.length = ps
  induction ps generalizing d bs with
  | nil => rfl
  | cons p ps ih => simp only [List.foldl_cons, Dev.addBusy_writePlain, ih]

theorem Dev.addBusy_foldl_poison (ps : List (Nat × Nat)) :
    ps.foldl (fun d p => d.poison p.1 p.2) (d.addBusy c n) = (ps.foldl (fun d p => d.poison p.1 p.2) d).addBusy c n := by
  induction ps generalizing d with
  | nil => rfl
  | cons p ps ih => exact ih (d.poison p.1 p.2)

/-- The index map of a BUILD is the same whether its cycles are counted before or after. -/
theorem Dev.addBusy_putMap (e : TiqEntry) (u : VPack) : (d.addBusy c n).putMap c e u = (d.putMap c e u).addBusy c n := by
  simp only [Dev.putMap, Dev.addBusy_who, Dev.addBusy_packMap, Dev.addBusy_poisonVa, Dev.addBusy_mpa, Dev.addBusy_writeVa,
    Dev.addBusy_pieces]
  split
  · rfl
  · exact Dev.addBusy_foldl_poison (Dev.poison _ _ _) c n _

end Busy

/-! ### Writes of the vector engine change no issue queue -/

section Queues
variable (d : Dev) (c : Nat)

theorem Dev.foldl_poison_core (ps : List (Nat × Nat)) : (ps.foldl (fun d p => d.poison p.1 p.2) d).core c = d.core c :=
  foldl_keeps (fun d : Dev => d.core c) (fun d (p : Nat × Nat) => d.poison p.1 p.2) (fun _ _ => rfl) ps d

@[simp] theorem Dev.putBead_tiq (who : Accessor) (x : Desc) (b : Nat) (codes scales : List Nat) (poison : Bool) (keep : List Nat) :
    ((d.putBead who x b codes scales poison keep).1.core c).tiq = (d.core c).tiq := by
  refine d.landWith_tiq c _ _ ?_
  exact (foldl_keeps (fun d : Dev => (d.core c).tiq) (fun d (l : Nat) => d.poison _ 64) (fun _ _ => rfl) _ _).trans
    (d.writeBeadVa_tiq c ..)

@[simp] theorem Dev.putMap_tiq (i : Nat) (e : TiqEntry) (u : VPack) : ((d.putMap i e u).core c).tiq = (d.core c).tiq := by
  unfold Dev.putMap
  dsimp only
  split
  · exact d.writeVa_tiq c ..
  · rw [Dev.foldl_poison_core]
    exact d.writeVa_tiq c ..

/-- A formed bead is written to its destination, then to its residuals, then its mask bits are: no write changes an issue queue. -/
theorem Dev.vrunWrite_tiq (i : Nat) (e : TiqEntry) (u : VRun) (b : Nat) (v : VBead × VecOps) (poison : Bool) :
    ((d.vrunWrite i e u b v poison).1.core c).tiq = (d.core c).tiq := by
  unfold Dev.vrunWrite
  extract_lets who resReg putRes mask putMask zeros old w put special
  have hRes (d : Dev) (n : Nat) (r : Option (List Nat)) : ((putRes d n r).core c).tiq = (d.core c).tiq := by
    dsimp only [putRes]
    split
    · rfl
    · split
      · rw [Dev.foldl_poison_core]
      · split
        · exact d.mergePut_tiq c ..
        · rfl
  have hMask (d : Dev) : ((putMask d).core c).tiq = (d.core c).tiq := by
    dsimp only [putMask]
    split
    · rfl
    · split
      · exact d.writeVa_tiq c ..
      · exact d.writeVa_tiq c ..
  have hPut : (put.1.core c).tiq = (d.core c).tiq := by
    dsimp only [put]
    split
    · rfl
    · split
      · exact d.putBead_tiq c ..
      · split
        · exact d.putBead_tiq c ..
        · split
          · exact d.putBead_tiq c ..
          · exact d.putBead_tiq c ..
  exact (hMask _).trans ((hRes ..).trans ((hRes ..).trans hPut))

theorem Dev.walkNotice_core (who : Accessor) (f : Finding) : (d.walkNotice who f).core c = d.core c := by
  unfold Dev.walkNotice
  split
  · rfl
  · rw [Dev.core, Dev.notify_cores, Dev.core]

end Queues

/-! ### The end of a vector instruction (R174, R197) -/

/-- The outcome of a vector instruction that ends: the cause, or that of the poison it read, and VX_RECORD. -/
abbrev TiqEntry.vOutcome (e : TiqEntry) (cause : Cause) (tcsx : Word) : Completion :=
  e.reads.completion cause tcsx (vxRecord e.special e.reads.poison)

section Ends
variable {d : Dev} {c id : Nat} {e : TiqEntry} {cause : Cause} {tcsx : Word}

theorem Dev.vEnd_outcome (h : (d.core c).entry? id = some e) : (d.vEnd c e cause tcsx).outcome c id = some (e.vOutcome cause tcsx) := by
  obtain rfl := Core.id_of_entry? h
  exact Dev.finish_outcome h _

section Stops
variable (h : (d.core c).entry? id = some e) (hk : e.committed = true) (hr : d.mayRead c e = true) (hw : d.mayWrite c e = true)
include h hk hr hw

/-- A run that has come to its end without a finding. -/
theorem Dev.vStep_run_stop {u : VRun} (hn : d.vNext c e (.run u) = .stop cause tcsx none) :
    (d.vStep c e (.run u)).outcome c id = some (e.vOutcome cause tcsx) ∧ (d.vStep c e (.run u)).mem = d.mem := by
  have hs : d.vStep c e (.run u) = d.vEnd c e cause tcsx := by simp [Dev.vStep, hn, hk, hr, hw]
  rw [hs]
  exact ⟨Dev.vEnd_outcome h, rfl⟩

/-- A run that a finding ends: the finding may raise a notice. -/
theorem Dev.vStep_run_stop_of_finding {u : VRun} {f : Finding} (hn : d.vNext c e (.run u) = .stop cause tcsx (some f)) :
    (d.vStep c e (.run u)).outcome c id = some (e.vOutcome cause tcsx) := by
  have hs : d.vStep c e (.run u) = (d.walkNotice (d.who c) f).vEnd c e cause tcsx := by simp [Dev.vStep, hn, hk, hr, hw]
  rw [hs]
  exact Dev.vEnd_outcome (by rwa [Dev.walkNotice_core])

/-- A compress or an expand that has come to its end: a BUILD without a cause writes its index map. -/
theorem Dev.vStep_pack_stop {u : VPack} (hn : d.vNext c e (.pack u) = .stop cause tcsx none) :
    (d.vStep c e (.pack u)).outcome c id = some (e.vOutcome cause tcsx) ∧
      (d.vStep c e (.pack u)).mem = (if cause = 0 && !u.expand && !u.alt then d.putMap c e u else d).mem := by
  obtain rfl := Core.id_of_entry? h
  cases hc : decide (cause = 0) && !u.expand with
  | false =>
    have hs : d.vStep c e (.pack u) = d.vEnd c e cause tcsx := by
      simp only [Dev.vStep, hn, hk, hr, hw, hc, Bool.not_true, Bool.or_false, Bool.false_and, Bool.false_eq_true, if_false]
    rw [hs]
    exact ⟨Dev.vEnd_outcome h, rfl⟩
  | true =>
    cases ha : u.alt with
    | true =>
      have hs : d.vStep c e (.pack u) = (d.addBusy c (d.packCycles c u u.s.beads)).vEnd c e cause tcsx := by
        simp only [Dev.vStep, hn, hk, hr, hw, hc, ha, Dev.modCore_spend_of_committed h hk, Bool.not_true, Bool.or_false, Bool.and_false,
          Bool.false_eq_true, if_false, if_true]
      rw [hs]
      exact ⟨Dev.vEnd_outcome (by rwa [Dev.addBusy_entry?]), rfl⟩
    | false =>
      have hs : d.vStep c e (.pack u) = ((d.putMap c e u).addBusy c (d.packCycles c u u.s.beads)).vEnd c e cause tcsx := by
        simp only [Dev.vStep, hn, hk, hr, hw, hc, ha, Dev.modCore_spend_of_committed h hk, Dev.addBusy_putMap, Bool.not_true, Bool.or_false,
          Bool.not_false, Bool.and_true, Bool.false_eq_true, if_false, if_true]
      rw [hs]
      refine ⟨Dev.vEnd_outcome ?_, rfl⟩
      rw [Dev.addBusy_entry?, Core.entry?_of_tiq_eq (d.putMap_tiq c c e u), h]

end Stops
end Ends

/-! ### Steps of a vector instruction up to its end (R160, R183) -/

section Steps
variable {d d' : Dev} {c id : Nat} {e e' : TiqEntry} {o : VOp}

/-- Where a step may be taken, the steps go on from it. -/
theorem Dev.vSteps_succ_of_mayStep (h : (d.core c).entry? id = some e) (hd : e.done = none) (hm : d.vMayStep c e o = true) (n : Nat) :
    d.vSteps c id o (n + 1) = (d.vStep c e o).vSteps c id o n := by
  unfold Dev.vMayStep at hm
  split at hm
  · next b draws hn => simp [Dev.vSteps, h, hd, hn, hm]
  · next hn => simp [Dev.vSteps, h, hd, hn, hm]
  · cases hm

/-- The end of an instruction is its last step. -/
theorem Dev.vSteps_succ_of_stop {cause : Cause} {tcsx : Word} {f : Option Finding} (h : (d.core c).entry? id = some e) (hd : e.done = none)
    (hn : d.vNext c e o = .stop cause tcsx f) (n : Nat) : d.vSteps c id o (n + 1) = d.vStep c e o := by
  simp [Dev.vSteps, h, hd, hn]

/-- Steps that may each be taken are the first of the steps taken. -/
theorem Dev.vSteps_of_vReaches {k : Nat} (hk : Dev.vReaches c id o k d d') (n : Nat) : d.vSteps c id o (k + n) = d'.vSteps c id o n := by
  induction k generalizing d with
  | zero =>
    obtain rfl : d' = d := hk
    rw [Nat.zero_add]
  | succ k ih =>
    obtain ⟨e, he, hd, hm, hk⟩ := hk
    rw [Nat.add_right_comm, Dev.vSteps_succ_of_mayStep he hd hm, ih hk]

/-- A command on an instruction that it selects and that is at work takes that instruction's steps. -/
theorem Dev.vectorRun_of_atWork {sel : VOp → Bool} (hw : d.atWork c id e = true) (ho : e.vop? = some o) (hs : sel o = true) :
    d.vectorRun c id sel = d.vSteps c id o o.bound := by
  simp [Dev.vectorRun, Dev.working_of_atWork hw, ho, hs]

/-- A vector command whose instruction comes to its end within its bound does what the last step does. -/
theorem does_vector_of_stop {ins : Instr} {s : State} {now : Time} {sel : VOp → Bool} {k : Nat} {cause : Cause} {tcsx : Word}
    {f : Option Finding} {P : Dev → Prop} (hx : exec ins s = s.run (fun d => (d.advance now).vectorRun c id sel))
    (hw : s.dev.atWork c id e = true) (ho : e.vop? = some o) (hs : sel o = true) (hr : Dev.vReaches c id o k (s.dev.advance now) d')
    (hk : k < o.bound) (he : (d'.core c).entry? id = some e') (hd : e'.done = none) (hn : d'.vNext c e' o = .stop cause tcsx f)
    (hP : P (d'.vStep c e' o).retag) : Does ins s P := by
  have hb : o.bound = k + ((o.bound - k - 1) + 1) := by omega
  refine Does.of_run hx ?_
  rw [Dev.vectorRun_of_atWork (by rwa [Dev.advance_atWork]) ho hs, hb, Dev.vSteps_of_vReaches hr, Dev.vSteps_succ_of_stop he hd hn]
  exact hP

/-- A compress or an expand that comes to its end within its bound, whichever of its commands runs it. -/
theorem does_pack_of_stop {ins : Instr} {s : State} {now : Time} {sel : VOp → Bool} {u : VPack} {k : Nat} {cause : Cause} {tcsx : Word}
    (hx : exec ins s = s.run (fun d => (d.advance now).vectorRun c id sel)) (hw : s.dev.atWork c id e = true)
    (ho : e.vop? = some (.pack u)) (hs : sel (.pack u) = true) (hr : Dev.vReaches c id (.pack u) k (s.dev.advance now) d')
    (hk : k < (VOp.pack u).bound) (he : (d'.core c).entry? id = some e') (hc : e'.committed = true) (hd : e'.done = none)
    (hn : d'.vNext c e' (.pack u) = .stop cause tcsx none) (hmr : d'.mayRead c e' = true) (hmw : d'.mayWrite c e' = true) :
    Does ins s fun d => d.outcome c id = some (e'.vOutcome cause tcsx) ∧
      d.mem = (if cause = 0 && !u.expand && !u.alt then d'.putMap c e' u else d').mem :=
  does_vector_of_stop hx hw ho hs hr hk he hd hn (Dev.vStep_pack_stop he hc hmr hmw hn)

end Steps

/-! ### One output bead (R183, R202) -/

/-- VECTOR_BEAD_FORM without a parity error takes the next step. -/
theorem vectorBeadForm_of_begun {d : Dev} {c id : Nat} {errs : List EccEvent} {now : Time} {e : TiqEntry} {o : VOp}
    (he : (((d.advance now).eccHeld c id errs).core c).entry? id = some e) (ho : e.vop? = some o) (hb : e.begun = true)
    (hd : e.done = none) : vectorBeadForm c id false errs now d = ((d.advance now).eccHeld c id errs).vStep c e o := by
  simp [vectorBeadForm, he, ho, hb, hd]

section Beads
variable {d d1 d2 : Dev} {c id b : Nat} {e : TiqEntry} {u : VRun} {draws : List (Desc × List Nat)} {g : Staging}
  {sp : Option (Nat × Ext × Bool)}

/-- The reads of a run's bead change no core. -/
theorem Dev.vrunGather_core (i : Nat) : (d.vrunGather c e u b draws).1.core i = d.core i := d.readAll_core ..

/-- A committed run's bead, read without a finding and written without a cause, is the step of the run. -/
theorem Dev.vStep_run_bead (hk : e.committed = true) (hs : e.staged = none) (hn : d.vNext c e (.run u) = .bead b draws)
    (hr : d.vReady c e draws = true) (hg : d.vrunGather c e u b draws = (d1, .ok g))
    (hf : (d1.modCore c (fun k => k.spend e.id (d.vrunCycles c u e))).vrunWrite c e u b (u.form e b g) g.reads.poison = (d2, sp, 0)) :
    d.vStep c e (.run u) = d2.vFormed c e.id (e.reads.join g.reads) sp := by
  simp [Dev.vStep, hn, hr, hs, hk, Dev.vBead, Dev.vGather, Dev.vCycles, hg, Dev.vrunBead, hf]

/-- The entry of a run that has formed a bead. -/
theorem Dev.vFormed_entry? {d : Dev} (h : (d.core c).entry? id = some e) (r : Reads) :
    ∃ e', ((d.vFormed c id r sp).core c).entry? id = some e' ∧ e'.beads = e.beads + 1 ∧ e'.reads = r ∧ e'.done = e.done := by
  rw [Dev.vFormed, Dev.core_modCore_self]
  exact ⟨_, Core.entry?_modEntry h fun _ => rfl, rfl, rfl, rfl⟩

/-- The entry of a committed run stands while a bead is read, its cycles are counted and it is written. -/
theorem Dev.vrunWrite_entry? {v : VBead × VecOps} {poison : Bool} {n : Nat} {cause : Cause} (he : (d.core c).entry? id = some e)
    (hk : e.committed = true) (hg : d.vrunGather c e u b draws = (d1, .ok g))
    (hf : (d1.modCore c (fun k => k.spend id n)).vrunWrite c e u b v poison = (d2, sp, cause)) : (d2.core c).entry? id = some e := by
  have h1 : (d1.core c).entry? id = some e := by
    have hc := d.vrunGather_core (c := c) (e := e) (u := u) (b := b) (draws := draws) c
    rw [hg] at hc
    rwa [hc]
  rw [Dev.modCore_spend_of_committed h1 hk] at hf
  have h2 := (d1.addBusy c n).vrunWrite_tiq c c e u b v poison
  rw [hf] at h2
  rw [Core.entry?_of_tiq_eq h2, Dev.addBusy_entry?, h1]

end Beads

/-- VECTOR_ARRIVAL_STAY_EXPIRE of an instruction whose next bead has waited too long for one that it draws on: it ends with 0x0317 and the
count of beads written (R183). -/
theorem vectorArrivalStayExpire_of_bead_late {d : Dev} {c id b : Nat} {e : TiqEntry} {o : VOp} {draws : List (Desc × List Nat)} {now : Time}
    (he : (d.core c).entry? id = some e) (ho : e.vop? = some o) (hb : e.begun = true) (hd : e.done = none)
    (hn : (d.advance now).vNext c e o = .bead b draws) (hs : (d.advance now).stayed c e = true)
    (hl : draws.all (fun x => x.2.all ((d.advance now).beadReady ((d.advance now).who c) x.1)) = false) :
    vectorArrivalStayExpire c id now d = (d.advance now).vEnd c e 0x0317 (BitVec.ofNat 64 e.beads) := by
  unfold vectorArrivalStayExpire
  simp only [Dev.advance_core, he, ho, hn, hb, hd, hs, hl, Option.isNone_none, Bool.not_false, Bool.and_self, if_true]

/-! ### The obligation -/

/-- Settles O16: the steps that premises lead along are the first of those that a command takes, so each command ends as its last step does;
a BUILD's map is written after its cycles are counted, which changes nothing of it. -/
theorem vectorEngine : Obligations.VectorEngine := by
  unfold Obligations.VectorEngine
  refine ⟨?vrun, ?compressBuild, ?compressReuse, ?expandFill, ?expandKeep, ?vrunFinding, ?beadForm, ?nextStep, ?stayExpire⟩
  case vrun =>
    intro core id e e' u k d' cause tcsx now s hw ho hr hk he hc hd hn hmr hmw
    exact does_vector_of_stop rfl hw ho rfl hr hk he hd hn (Dev.vStep_run_stop he hc hmr hmw hn)
  case compressBuild =>
    intro core id e e' u k d' cause tcsx now s hw ho hx ha hr hk he hc hd hn hmr hmw
    simpa [hx, ha] using does_pack_of_stop rfl hw ho (by simp [hx, ha]) hr hk he hc hd hn hmr hmw
  case compressReuse =>
    intro core id e e' u k d' cause tcsx now s hw ho hx ha hr hk he hc hd hn hmr hmw
    simpa [hx, ha] using does_pack_of_stop rfl hw ho (by simp [hx, ha]) hr hk he hc hd hn hmr hmw
  case expandFill =>
    intro core id e e' u k d' cause tcsx now s hw ho hx ha hr hk he hc hd hn hmr hmw
    simpa [hx, ha] using does_pack_of_stop rfl hw ho (by simp [hx, ha]) hr hk he hc hd hn hmr hmw
  case expandKeep =>
    intro core id e e' u k d' cause tcsx now s hw ho hx ha hr hk he hc hd hn hmr hmw
    simpa [hx, ha] using does_pack_of_stop rfl hw ho (by simp [hx, ha]) hr hk he hc hd hn hmr hmw
  case vrunFinding =>
    intro core id e e' u k d' cause tcsx f now s hw ho hr hk he hc hd hn hmr hmw
    exact does_vector_of_stop rfl hw ho rfl hr hk he hd hn (Dev.vStep_run_stop_of_finding he hc hmr hmw hn)
  case beadForm =>
    rintro core id errs e u b draws g sp _ d1 d2 now s rfl hw ho hs hn hr hg hf
    obtain ⟨he, hc, hb, hd⟩ := Dev.atWork_iff.1 hw
    refine Does.of_run (f := vectorBeadForm core.val id false errs now) rfl ?_
    rw [Dev.retag_core, Dev.retag_mem, vectorBeadForm_of_begun he ho hb hd, Dev.vStep_run_bead hc hs hn hr hg hf]
    obtain rfl := Core.id_of_entry? he
    refine ⟨rfl, ?_⟩
    rw [← hd]
    exact Dev.vFormed_entry? (Dev.vrunWrite_entry? he hc hg hf) _
  case nextStep =>
    rintro core id errs e o _ now s rfl he ho hb hd
    refine Does.of_run (f := vectorBeadForm core.val id false errs now) rfl ?_
    rw [vectorBeadForm_of_begun he ho hb hd]
    exact ⟨rfl, rfl⟩
  case stayExpire =>
    intro core id e o b draws now s he ho hb hd hn hs hl
    refine Does.of_run (f := vectorArrivalStayExpire core.val id now) rfl ?_
    rw [Dev.retag_outcome, Dev.retag_mem, vectorArrivalStayExpire_of_bead_late he ho hb hd hn hs hl]
    exact ⟨Dev.vEnd_outcome (by rwa [Dev.advance_core]), Dev.advance_mem ..⟩

end Sys2Proof.Machine
end

section
/-!
Changes within one core: what the steps of a program, an exception, and the end of an entry leave as it was; a unit at work on its own core
(R190, R193, R202, R205).
-/
namespace Sys2Proof.Machine

/-! ### A command that keeps a part of the module -/

theorem Keeps.of_run {α : Type} {c : Instr} {f : Dev → Dev} {g : Dev → α} (hc : ∀ s, exec c s = s.run f) (hg : ∀ d, g (f d).retag = g d) :
    Keeps c g := by
  intro s t h
  rw [hc, State.run_eq, Host.Outcome.next.injEq] at h
  rw [← h]
  exact hg s.dev

/-! ### Changes within one core

A program, and a unit at work on its own core, touch no other core, no memory, and nothing of the parts of the module listed here. -/

/-- The module but for its cores, front end, fabric, partitions, rigs, reliability unit, and what it counts and puts out. -/
def Dev.outside (d : Dev) :
    MemState × CohState × KMap Port × Package × PowerState × Security × ResetState × BringUp × ConfigState × KMap (List Byte) × Pins :=
  (d.mem, d.coh, d.ports, d.pkg, d.power, d.sec, d.rst, d.boot, d.cfg, d.dict.values, d.pins)

/-- Of the cores one alone may have changed, and nothing of what lies outside them. -/
structure Dev.Within (c : Nat) (d d' : Dev) : Prop where
  others : ∀ k, k ≠ c → d'.core k = d.core k
  outside : d'.outside = d.outside

section Within
variable {c : Nat} (d : Dev)

theorem Dev.Within.refl : d.Within c d := ⟨fun _ _ => rfl, rfl⟩

variable {d} {d' d'' : Dev}

theorem Dev.Within.trans (h : d.Within c d') (h' : d'.Within c d'') : d.Within c d'' :=
  ⟨fun k hk => (h'.others k hk).trans (h.others k hk), h'.outside.trans h.outside⟩

theorem Dev.Within.mem (h : d.Within c d') : d'.mem = d.mem := congrArg Prod.fst h.outside

/-- Changes that leave every core as it was. -/
theorem Dev.within_of_cores (hc : d'.cores = d.cores) (ho : d'.outside = d.outside) : d.Within c d' :=
  ⟨fun k _ => by rw [Dev.core, hc, Dev.core], ho⟩

variable (d)

theorem Dev.within_advance (now : Time) : d.Within c (d.advance now) := Dev.within_of_cores (by simp) (by simp [Dev.outside])
theorem Dev.within_draw : d.Within c d.draw.2 := Dev.within_of_cores rfl rfl
theorem Dev.within_retag : d.Within c d.retag := Dev.within_of_cores rfl rfl
theorem Dev.within_notify (n : Notice) : d.Within c (d.notify n) := Dev.within_of_cores (by simp) (by simp [Dev.outside])

theorem Dev.within_modCore (f : Core → Core) : d.Within c (d.modCore c f) :=
  ⟨fun k hk => by rw [Dev.core_modCore, if_neg hk], rfl⟩

theorem Dev.within_walkNotice (who : Accessor) (f : Finding) : d.Within c (d.walkNotice who f) := by
  unfold Dev.walkNotice
  split
  · exact .refl d
  · exact d.within_notify _

/-! The end of an entry -/

theorem Dev.within_charge (r : Running) : d.Within c (d.charge c r) := Dev.within_of_cores (by simp [Dev.charge]) (by simp [Dev.charge, Dev.outside])

theorem Dev.reportEnded_cores (i : Nat) : (d.reportEnded i).cores = d.cores := by
  unfold Dev.reportEnded
  split
  · rfl
  · exact foldl_keeps Dev.cores _ (by intros; rfl) _ _

theorem Dev.reportEnded_outside (i : Nat) : (d.reportEnded i).outside = d.outside := by
  unfold Dev.reportEnded
  split
  · rfl
  · exact foldl_keeps Dev.outside _ (by intros; rfl) _ _

theorem Dev.noteEnd_cores (i : Nat) (r : Running) (e : Ending) : (d.noteEnd i r e).cores = d.cores := by
  unfold Dev.noteEnd
  split
  · rfl
  · exact Dev.reportEnded_cores _ _

theorem Dev.noteEnd_outside (i : Nat) (r : Running) (e : Ending) : (d.noteEnd i r e).outside = d.outside := by
  unfold Dev.noteEnd
  split
  · rfl
  · exact Dev.reportEnded_outside _ _

theorem Dev.within_endEntry (e : Ending) : d.Within c (d.endEntry c e) := by
  unfold Dev.endEntry
  split
  · exact .refl d
  · next r _ =>
    refine ((d.within_charge r).trans (Dev.within_modCore _ _)).trans (.trans (Dev.within_of_cores (Dev.noteEnd_cores _ c r e) ?_)
      (Dev.within_of_cores rfl rfl))
    exact Dev.noteEnd_outside _ c r e

theorem Dev.within_beginEnd (e : Ending) : d.Within c (d.beginEnd c e) := by
  unfold Dev.beginEnd
  dsimp only
  split
  · split
    · exact d.within_modCore _
    · exact (d.within_modCore _).trans (Dev.within_endEntry _ _)
  · exact d.within_modCore _

theorem Dev.within_exception (mcause mtval : Word) : d.Within c (d.exception c mcause mtval) :=
  (d.within_modCore _).trans (Dev.within_beginEnd _ _)

theorem Dev.within_consume (cause : Cause) (va : Word) (e : Ending) : d.Within c (d.consume c cause va e) := by
  unfold Dev.consume
  split
  · exact .refl d
  · refine .trans ?_ (Dev.within_beginEnd _ _)
    exact Dev.within_of_cores rfl rfl

theorem Dev.within_scalarPoison (va : Nat) : d.Within c (d.scalarPoison c va) :=
  (d.within_modCore _).trans (Dev.within_consume ..)

/-! A program's steps -/

theorem Dev.within_csrTo (a rd : Nat) : d.Within c (d.csrTo c a rd) := by
  unfold Dev.csrTo
  split
  · exact d.within_modCore _
  · exact .refl d

theorem Dev.within_csrReads (l : List (Fin 32 × BitVec 12)) : d.Within c (d.csrReads c l) := by
  unfold Dev.csrReads
  induction l generalizing d with
  | nil => exact .refl d
  | cons r l ih => exact (d.within_csrTo ..).trans (ih _)

theorem Dev.within_afterProg (p : Prog) (now : Time) : d.Within p.core.val (d.afterProg p now) :=
  (d.within_advance now).trans ((Dev.within_modCore _ _).trans (Dev.within_csrReads _ _))

/-- What stops a program, an illegal CSR read, a fetch's fault or poison, acts within its core. -/
theorem Dev.within_progStop {p : Prog} {t : Dev} (h : d.progStop c p = some t) : d.Within c t := by
  unfold Dev.progStop at h
  split at h
  · cases h
    exact d.within_draw.trans (Dev.within_exception ..)
  · split at h
    · cases h
      exact (d.within_walkNotice ..).trans (Dev.within_exception ..)
    · cases h
      exact d.within_scalarPoison _
    · cases h

/-- A command of a program takes its effect, or is stopped before it, or finds its core not ready. -/
theorem Dev.prog_cases (p : Prog) (now : Time) (ok : Core → Bool) (f : Dev → Dev) :
    d.prog p now ok f = f (d.afterProg p now) ∨ (d.afterProg p now).progStop p.core.val p = some (d.prog p now ok f) ∨
      d.prog p now ok f = d.advance now := by
  rw [Dev.prog_eq]
  split
  · split
    · exact .inl rfl
    · next t ht =>
      split
      · exact .inr (.inl ht)
      · exact .inr (.inr rfl)
  · exact .inr (.inr rfl)

/-- A command of a program whose effect acts within its core acts within its core. -/
theorem Dev.within_prog {p : Prog} {f : Dev → Dev} (hf : ∀ d : Dev, d.Within p.core.val (f d)) (now : Time) (ok : Core → Bool) :
    d.Within p.core.val (d.prog p now ok f) := by
  rcases d.prog_cases p now ok f with h | h | h
  · rw [h]
    exact (d.within_afterProg p now).trans (hf _)
  · exact (d.within_afterProg p now).trans (Dev.within_progStop _ h)
  · rw [h]
    exact d.within_advance now

end Within

/-- A command within a core keeps every other core and what lies outside them. -/
theorem Keeps.of_within {c : Instr} {i k : Nat} (hk : k ≠ i) {f : Dev → Dev} (hc : ∀ s, exec c s = s.run f) (hf : ∀ d : Dev, d.Within i (f d)) :
    Keeps c (fun d => (d.core k, d.outside)) :=
  Keeps.of_run hc fun d => by
    have h := (hf d).trans (Dev.within_retag _)
    rw [h.others k hk, h.outside]

/-! ### The commands of a program -/

section Programs
variable (p : Prog) (now : Time) (d : Dev)

/-- A CSR's old value is read and the core changed. -/
theorem within_csrChange (a rd : Nat) (f : Core → Core) (ok : Core → Bool) :
    d.Within p.core.val (d.prog p now ok (fun d => (d.csrTo p.core.val a rd).modCore p.core.val f)) :=
  d.within_prog (fun d => (d.within_csrTo ..).trans (Dev.within_modCore _ _)) now ok

theorem within_csrWrite (addr : BitVec 12) (v : Word) (rd : Nat) : d.Within p.core.val (csrWrite p addr v rd now d) := by
  unfold csrWrite
  refine Dev.within_prog _ (fun d => ?_) _ _
  split
  iterate 10 exact (d.within_csrTo ..).trans (Dev.within_modCore _ _)
  exact d.within_draw.trans (Dev.within_exception ..)

theorem within_tiqEnter (word : BitVec 32) : d.Within p.core.val (tiqEnter p word now d) := by
  unfold tiqEnter
  exact d.within_prog (fun d => d.within_modCore _) now _

theorem within_branchMispredict (young : Nat) : d.Within p.core.val (branchMispredict p young now d) :=
  d.within_prog (fun d => d.within_modCore _) now _

theorem within_fence (predW : Bool) : d.Within p.core.val (fence p predW now d) :=
  d.within_prog (fun d => .refl d) now _

theorem within_ecallEnd : d.Within p.core.val (ecallEnd p now d) := by
  unfold ecallEnd
  refine Dev.within_prog _ (fun d => ?_) _ _
  dsimp only
  split
  · exact d.within_beginEnd _
  · exact d.within_exception ..

theorem within_programException (mcause mtval : Word) : d.Within p.core.val (programException p mcause mtval now d) :=
  d.within_prog (fun d => d.within_exception ..) now _

end Programs

/-! ### A unit at work on its own core -/

/-- The scalar registers and the tile descriptors of a core. -/
def Core.regs (k : Core) : KMap Word × KMap (BitVec 32) × BitVec 8 × KMap (BitVec 128) := (k.sc.x, k.sc.f, k.sc.fcsr, k.tx.td)

/-- A unit has worked within its core: the core's registers and every rig stand as they did. -/
structure Dev.UnitStep (c : Nat) (d d' : Dev) : Prop extends d.Within c d' where
  regs : (d'.core c).regs = (d.core c).regs
  rigs : d'.rigs = d.rigs

@[simp] theorem Core.modEntry_regs (k : Core) (id : Nat) (f : TiqEntry → TiqEntry) : (k.modEntry id f).regs = k.regs := rfl

@[simp] theorem Core.countMatch_regs (k : Core) (id : Nat) : (k.countMatch id).regs = k.regs := by
  unfold Core.countMatch
  split <;> rfl

@[simp] theorem Core.spend_regs (k : Core) (id n : Nat) : (k.spend id n).regs = k.regs := by
  unfold Core.spend
  split
  · split <;> rfl
  · rfl

section Units
variable {c : Nat} {d : Dev} (id : Nat)

theorem Dev.UnitStep.refl (d : Dev) : d.UnitStep c d := ⟨.refl d, rfl, rfl⟩

theorem Dev.UnitStep.trans {d' d'' : Dev} (h : d.UnitStep c d') (h' : d'.UnitStep c d'') : d.UnitStep c d'' :=
  ⟨h.toWithin.trans h'.toWithin, h'.regs.trans h.regs, h'.rigs.trans h.rigs⟩

theorem Dev.unitStep_advance (now : Time) : d.UnitStep c (d.advance now) := ⟨d.within_advance now, by simp, by simp⟩

theorem Dev.unitStep_modCore {f : Core → Core} (hf : ∀ k, (f k).regs = k.regs) : d.UnitStep c (d.modCore c f) :=
  ⟨d.within_modCore f, Dev.modCore_keeps Core.regs hf d c c, rfl⟩

theorem Dev.unitStep_finish (r : Completion) : d.UnitStep c (d.finish c id r) := Dev.unitStep_modCore fun _ => by rfl

theorem Dev.unitStep_failEntry (e : TiqEntry) (cause : Cause) : d.UnitStep c (d.failEntry c e cause) := Dev.unitStep_finish _ _

theorem Dev.unitStep_walkNotice (who : Accessor) (f : Finding) : d.UnitStep c (d.walkNotice who f) := by
  refine ⟨d.within_walkNotice who f, by rw [Dev.walkNotice_core], ?_⟩
  unfold Dev.walkNotice
  split
  · rfl
  · exact Dev.notify_rigs ..

theorem Dev.unitStep_tcFill (va : Nat) : d.UnitStep c (d.tcFill c va) := by
  unfold Dev.tcFill
  dsimp only
  split
  · split
    · exact .refl d
    · exact Dev.unitStep_modCore fun _ => by simp only [Core.regs]
  · exact .refl d

theorem Dev.unitStep_foldl {β : Type} {f : Dev → β → Dev} (hf : ∀ (d : Dev) b, d.UnitStep c (f d b)) (l : List β) (d : Dev) :
    d.UnitStep c (l.foldl f d) := by
  induction l generalizing d with
  | nil => exact .refl d
  | cons b l ih => exact (hf d b).trans (ih _)

/-- An engine that begins an entry checks its operands and holds what it finds. -/
theorem Dev.unitStep_beginEntry (cycle : Nat) : d.UnitStep c (d.beginEntry c id cycle) := by
  unfold Dev.beginEntry
  split
  · exact .refl d
  · next e _ =>
    split
    · dsimp only
      refine .trans ?_ (Dev.unitStep_modCore fun k => ?_)
      · split
        · exact Dev.unitStep_walkNotice ..
        · exact Dev.unitStep_foldl (fun d o => Dev.unitStep_tcFill _) e.refs d
      · split
        · exact Core.countMatch_regs ..
        · rfl
    · exact .refl d

theorem Dev.unitStep_working : d.UnitStep c (d.working c id).1 := by
  unfold Dev.working
  dsimp only
  split
  · split
    · exact Dev.unitStep_beginEntry ..
    · exact .refl d
  · exact .refl d

/-- Reads that meet no error hold nothing with their entry but a count of no retries. -/
theorem Dev.unitStep_eccHeld_nil : d.UnitStep c (d.eccHeld c id []) := Dev.unitStep_modCore fun _ => by rfl

end Units

section UnitCommands
variable (c id : Nat) (now : Time) (d : Dev)

theorem unitStep_engineBegin (cycle : Nat) : d.UnitStep c (engineBegin c id cycle now d) := by
  refine (Dev.unitStep_advance now).trans (.trans (Dev.unitStep_modCore fun k => ?_) (Dev.unitStep_beginEntry ..))
  split <;> rfl

theorem unitStep_arrivalStayExpire : d.UnitStep c (arrivalStayExpire c id now d) := by
  refine (Dev.unitStep_advance now).trans ?_
  unfold arrivalStayExpire
  dsimp only
  split
  · split
    · exact iteInduction (motive := Dev.UnitStep c _) (fun _ => .trans (Dev.unitStep_modCore fun _ => by rfl) (Dev.unitStep_failEntry ..))
        (fun _ => .refl _)
    · exact .refl _
  · exact .refl _

/-- A work command: the entry it names is begun if need be, and then its effect is taken, or nothing happens. -/
theorem unitStep_arm : d.UnitStep c (arm c id now d) := by
  have hw : d.UnitStep c ((d.advance now).working c id).1 := (Dev.unitStep_advance now).trans (Dev.unitStep_working id)
  unfold arm
  dsimp only
  split
  · exact hw
  · split
    · exact hw.trans (.trans (Dev.unitStep_modCore fun _ => by rfl) (Dev.unitStep_finish ..))
    · exact .refl d

theorem unitStep_disarm : d.UnitStep c (disarm c id now d) := by
  have hw : d.UnitStep c ((d.advance now).working c id).1 := (Dev.unitStep_advance now).trans (Dev.unitStep_working id)
  unfold disarm
  dsimp only
  split
  · exact hw
  · split
    · split
      · split
        · exact hw.trans (.trans (Dev.unitStep_modCore fun _ => by rfl) (Dev.unitStep_finish ..))
        · exact hw
      · exact hw.trans (Dev.unitStep_finish ..)
    · exact .refl d

theorem unitStep_clasp : d.UnitStep c (clasp c id now d) := by
  have hw : d.UnitStep c ((d.advance now).working c id).1 := (Dev.unitStep_advance now).trans (Dev.unitStep_working id)
  unfold clasp
  dsimp only
  split
  · exact hw
  · split
    · split
      · exact hw
      · exact hw.trans (Dev.unitStep_finish ..)
    · exact .refl d

theorem unitStep_cset : d.UnitStep c (cset c id now d) := by
  refine (Dev.unitStep_advance now).trans ?_
  unfold cset
  dsimp only
  split
  · split
    · split
      · exact .trans (Dev.unitStep_modCore fun _ => by rfl) (Dev.unitStep_finish ..)
      · exact .refl _
    · exact .refl _
  · exact .refl _

end UnitCommands

end Sys2Proof.Machine
end

section
/-!
A program's writes of the tensor CSRs, its end, an exception, a mispredicted branch and a fence (R190, R193 to R196, R199, R202, R205).
-/
namespace Sys2Proof.Machine

/-! ### A core but for its scalar registers -/

/-- A core but for its scalar registers. -/
def Core.unscalar (k : Core) : Core := { k with sc := {} }

section Unscalar
variable (d : Dev) (i : Nat)

theorem Dev.csrTo_unscalar (c a rd : Nat) : ((d.csrTo c a rd).core i).unscalar = (d.core i).unscalar := by
  unfold Dev.csrTo
  split
  · exact Dev.modCore_keeps Core.unscalar (fun _ => by rfl) d c i
  · rfl

/-- The steps of a program between its commands change scalar registers only. -/
theorem Dev.afterProg_unscalar (p : Prog) (now : Time) : ((d.afterProg p now).core i).unscalar = (d.core i).unscalar := by
  unfold Dev.afterProg Dev.bringUp Dev.csrReads
  rw [foldl_keeps (fun d : Dev => (d.core i).unscalar) _ (fun d r => d.csrTo_unscalar i ..),
    Dev.modCore_keeps Core.unscalar (fun _ => by rfl), Dev.advance_core]

/-- A write drops reservations and nothing else of a core. -/
theorem Dev.breakResv_unscalar (a n : Nat) : ((d.breakResv a n).get {} i).unscalar = (d.core i).unscalar := by
  unfold Dev.breakResv
  refine KMap.get_mapv_keeps (P := fun k : Core => k.unscalar = (d.core i).unscalar) (fun _ k hk => ?_) rfl
  split
  · split
    · exact hk
    · exact hk
  · exact hk

@[simp] theorem Dev.writePlain_unscalar (a : Nat) (bs : List Byte) (clears poison : Bool) :
    ((d.writePlain a bs clears poison).core i).unscalar = (d.core i).unscalar := by
  unfold Dev.writePlain
  split
  · rfl
  · rw [Dev.core, Dev.hubTrim_cores]
    exact d.breakResv_unscalar i a bs.length

theorem Dev.unmapDone_unscalar (l : Leaving) : ((d.unmapDone l).core i).unscalar = (d.core i).unscalar := by
  have h : (d.unmapDone l).cores = (d.setPte l.entry 0).cores := by
    unfold Dev.unmapDone
    dsimp only
    split <;> simp [Dev.dropPage]
  rw [Dev.core, h]
  exact d.writePlain_unscalar i _ _ _ _

/-- The unmaps that end give up their table entries, whose writes drop reservations. -/
theorem Dev.unmapAgain_unscalar : (d.unmapAgain.core i).unscalar = (d.core i).unscalar :=
  foldl_keeps (fun d : Dev => (d.core i).unscalar) Dev.unmapDone (fun d l => d.unmapDone_unscalar i l) _ _

end Unscalar

section AfterProg
variable (d : Dev) (p : Prog) (now : Time) (i : Nat)

@[simp] theorem Dev.afterProg_tx : ((d.afterProg p now).core i).tx = (d.core i).tx := (congrArg Core.tx (d.afterProg_unscalar i p now) :)
@[simp] theorem Dev.afterProg_tiq : ((d.afterProg p now).core i).tiq = (d.core i).tiq := (congrArg Core.tiq (d.afterProg_unscalar i p now) :)
@[simp] theorem Dev.afterProg_run : ((d.afterProg p now).core i).run = (d.core i).run := (congrArg Core.run (d.afterProg_unscalar i p now) :)
@[simp] theorem Dev.afterProg_ending : ((d.afterProg p now).core i).ending = (d.core i).ending :=
  (congrArg Core.ending (d.afterProg_unscalar i p now) :)
@[simp] theorem Dev.afterProg_nextId : ((d.afterProg p now).core i).nextId = (d.core i).nextId :=
  (congrArg Core.nextId (d.afterProg_unscalar i p now) :)

end AfterProg

/-! ### Writes of the tensor CSRs (R193 to R196, R199) -/

section CsrWrites
variable (d : Dev) (c : Nat)

/-- A CSR's read comes before its write, and is none of the tensor registers' concern. -/
theorem Dev.modTx_csrTo_tx (a rd : Nat) (f : TensorRegs → TensorRegs) : (((d.csrTo c a rd).modTx c f).core c).tx = f (d.core c).tx := by
  unfold Dev.modTx
  rw [Dev.core_modCore_self]
  exact congrArg f ((congrArg Core.tx (d.csrTo_unscalar c c a rd) :))

/-- The old value of TXCTL goes to the register that the instruction names. -/
theorem Dev.csrTo_reg_txctl {rd : Nat} (h : rd ≠ 0) : ((d.csrTo c 0x800 rd).core c).sc.reg rd = (d.core c).tx.txctl := by
  have hr : d.csrRead c 0x800 = some (d.core c).tx.txctl := rfl
  unfold Dev.csrTo
  rw [hr]
  dsimp only
  rw [Dev.core_modCore_self]
  exact Scalar.reg_setReg _ h _

variable {d} {p : Prog} {now : Time} {s : State}

/-- A command that reads a CSR and writes the tensor registers leaves these as it makes them of those before it. -/
theorem Does.of_modTx {cmd : Instr} {a rd : Nat} {f : TensorRegs → TensorRegs} {P : Dev → Prop}
    (hc : exec cmd s = s.run fun d => d.prog p now Core.commits fun d => (d.csrTo p.core.val a rd).modTx p.core.val f)
    (hk : (s.dev.core p.core.val).commits = true) (hg : s.dev.goesOn p now)
    (hP : ∀ t : Dev, (t.core p.core.val).tx = f (s.dev.core p.core.val).tx → P t) : Does cmd s P := by
  refine Does.of_run hc (hP _ ?_)
  rw [Dev.retag_core, Dev.prog_of_goesOn _ hk hg, Dev.modTx_csrTo_tx, Dev.afterProg_tx]

/-- TXCTL_WRITE keeps three bits of the value. -/
theorem does_txctlWrite {v : Word} {rd : Fin 32} (hk : (s.dev.core p.core.val).commits = true) (hr : rd ≠ 0) (hg : s.dev.goesOn p now) :
    Does (.txctlWrite p v rd now) s fun d =>
      (d.core p.core.val).tx.txctl = v &&& 7 ∧ (d.core p.core.val).sc.reg rd.val = (s.dev.core p.core.val).tx.txctl := by
  refine Does.of_run (f := txctlWrite p v rd.val now) rfl ?_
  rw [Dev.retag_core, txctlWrite, Dev.prog_of_goesOn _ hk hg]
  refine ⟨?ctl, ?old⟩
  case ctl =>
    rw [Dev.modTx_csrTo_tx]
    rfl
  case old =>
    rw [Dev.modTx, Dev.core_modCore_self]
    exact (Dev.csrTo_reg_txctl _ _ (fun h => hr (Fin.ext h))).trans (congrArg TensorRegs.txctl (Dev.afterProg_tx ..))

end CsrWrites

/-- Settles O11: a write of a tensor CSR changes the tensor registers alone, and these by the register's own rule. -/
theorem tensorRegisterWrites : Obligations.TensorRegisterWrites := by
  unfold Obligations.TensorRegisterWrites
  refine ⟨?ctl, ?fault, ?td, ?cr, ?tdsel, ?crsel⟩
  case ctl => exact fun p v rd now s hk hr hg => does_txctlWrite hk hr hg
  case fault =>
    intro p rd now s hk hg
    refine Does.of_modTx rfl hk hg fun t ht => ?_
    rw [ht]
    exact ⟨rfl, rfl⟩
  case td =>
    intro p hi v rd now s hk hg
    refine Does.of_modTx rfl hk hg fun t ht => ?_
    simp only [ht, TensorRegs.setTd, KMap.get_upd, if_true]
  case cr =>
    intro p v rd now s hk hg
    refine Does.of_modTx rfl hk hg fun t ht => ?_
    rw [ht]
    refine ⟨?_, ?_⟩
    · exact (NSet.mem_insert ..).2 (.inl rfl)
    · simp only [TensorRegs.setCr, KMap.get_upd, if_true]
  case tdsel =>
    intro p v rd now s hk hg
    refine Does.of_modTx rfl hk hg fun t ht => ?_
    rw [ht]
    exact ⟨rfl, rfl⟩
  case crsel =>
    intro p v rd now s hk hg
    refine Does.of_modTx rfl hk hg fun t ht => ?_
    rw [ht]
    exact ⟨rfl, rfl⟩

/-! ### The end of an entry (R190, R294) -/

/-- A core whose entry has ended, its tentative work squashed at a cycle. -/
def Core.ended (k : Core) (cycle : Nat) : Core :=
  { k.squash cycle (fun _ => true) with
    run := none, ending := none, arms := [], tiq := (k.squash cycle (fun _ => true)).tiq.filter (·.committed)
    sc := { k.sc with resv := none, wait := none, machine := true } }

/-- A core whose entry heads for an end: the first cause stands, but a fault goes before the program's own end. -/
def Core.heads (k : Core) (cycle : Nat) (e : Ending) : Core :=
  { k.squash cycle (fun _ => true) with ending := match k.ending with
    | some e' => if e.fault && !e'.fault then some e else some e'
    | none => some e }

/-- The core's entry heads for an end. -/
def Dev.headed (d : Dev) (c : Nat) (e : Ending) : Dev := d.modCore c fun k => k.heads (d.nowCycle c) e

@[simp] theorem Dev.headed_core (d : Dev) (c : Nat) (e : Ending) : (d.headed c e).core c = (d.core c).heads (d.nowCycle c) e :=
  Dev.core_modCore_self ..

theorem Dev.beginEnd_eq (d : Dev) (c : Nat) (e : Ending) :
    d.beginEnd c e = match ((d.headed c e).core c).ending with
      | some x => if ((d.headed c e).core c).tiq.any (·.committed) then d.headed c e else (d.headed c e).endEntry c x
      | none => d.headed c e := rfl

/-- A squash of all that is tentative leaves a committed entry only if one was there. -/
theorem Core.squash_any_committed (k : Core) (cycle : Nat) (young : TiqEntry → Bool) (h : k.tiq.any (·.committed) = false) :
    (k.squash cycle young).tiq.any (·.committed) = false := by
  rw [List.any_eq_false] at h ⊢
  exact fun e he => h e (List.mem_filter.1 he).1

section Ends
variable {d : Dev} {c : Nat} {r : Running}

theorem Dev.endEntry_core (h : (d.core c).run = some r) (e : Ending) :
    (d.endEntry c e).core c = (d.core c).ended ((d.charge c r).nowCycle c) := by
  unfold Dev.endEntry
  rw [h]
  dsimp only
  rw [Dev.core, Dev.modRig_cores, Dev.noteEnd_cores]
  refine (Dev.core_modCore_self (d.charge c r) c _).trans ?_
  rw [show (d.charge c r).core c = d.core c by simp [Dev.core, Dev.charge]]
  rfl

/-- The queue notes the end of the entry. -/
theorem Dev.endEntry_queue (h : (d.core c).run = some r) (hq : r.queue < 65536) (e : Ending) :
    ∃ q : Queue, (d.endEntry c e).fe.queues.find? r.queue = some (q.endEntry r.index e) := by
  unfold Dev.endEntry
  rw [h]
  dsimp only
  rw [Dev.modRig_fe, Dev.noteEnd, if_pos hq]
  exact ⟨_, (KMap.find?_set ..).trans (if_pos rfl)⟩

theorem Queue.endEntry_ended {q : Queue} {i : Nat} {e : Ending} {f : FlightEntry} (hf : f ∈ (q.endEntry i e).flight) (hi : f.index = i) :
    f.ended = some e := by
  obtain ⟨g, -, rfl⟩ := List.mem_map.1 hf
  split at hi
  · next h => rw [if_pos h]
  · next h => exact absurd hi h

/-- An end with no older one standing and no committed instruction left is taken at once. -/
theorem Dev.beginEnd_eq_endEntry (he : (d.core c).ending = none) (ht : (d.core c).tiq.any (·.committed) = false) (e : Ending) :
    d.beginEnd c e = (d.headed c e).endEntry c e := by
  have hh : ((d.core c).heads (d.nowCycle c) e).ending = some e := by simp [Core.heads, he]
  have ha : ((d.core c).heads (d.nowCycle c) e).tiq.any (·.committed) = false :=
    Core.squash_any_committed _ (d.nowCycle c) _ ht
  rw [Dev.beginEnd_eq, Dev.headed_core, hh, ha]
  rfl

/-- The end is taken at once: the core runs nothing, in machine mode, and the queue has the end. -/
theorem Dev.beginEnd_ends (hr : (d.core c).run = some r) (hq : r.queue < 65536) (he : (d.core c).ending = none)
    (ht : (d.core c).tiq.any (·.committed) = false) (e : Ending) :
    (((d.beginEnd c e).core c).run = none ∧
      ((d.beginEnd c e).core c).sc = { (d.core c).sc with resv := none, wait := none, machine := true }) ∧
      ∃ q, (d.beginEnd c e).fe.queues.find? r.queue = some q ∧ ∀ f ∈ q.flight, f.index = r.index → f.ended = some e := by
  have hr' : ((d.headed c e).core c).run = some r := by
    rw [Dev.headed_core]
    exact hr
  rw [Dev.beginEnd_eq_endEntry he ht]
  refine ⟨?core, ?queue⟩
  case core =>
    rw [Dev.endEntry_core hr', Dev.headed_core]
    exact ⟨rfl, rfl⟩
  case queue =>
    obtain ⟨q, h⟩ := Dev.endEntry_queue hr' hq e
    exact ⟨_, h, fun f hf hi => Queue.endEntry_ended hf hi⟩

end Ends

theorem Core.ending_of_commits {k : Core} (h : k.commits = true) : k.ending = none := by
  simp only [Core.commits, Core.decodes, Bool.and_eq_true, Option.isNone_iff_eq_none] at h
  exact h.1.1.1.2

section Programs
variable {p : Prog} {now : Time} {s : State} {r : Running}

/-- ECALL with a7 zero ends the entry with a0. -/
theorem does_ecallEnd (hk : (s.dev.core p.core.val).commits = true) (hr : (s.dev.core p.core.val).run = some r)
    (ht : (s.dev.core p.core.val).tiq.any (·.committed) = false) (h7 : ((s.dev.afterProg p now).core p.core.val).sc.reg 17 = 0)
    (hq : r.queue < 65536) (hg : s.dev.goesOn p now) :
    Does (.ecallEnd p now) s fun d =>
      (d.core p.core.val).run = none ∧ (d.core p.core.val).sc.machine = true ∧ (d.core p.core.val).sc.resv = none ∧
      ∃ q, d.fe.queues.find? r.queue = some q ∧
        ∀ f ∈ q.flight, f.index = r.index → f.ended = some { status := ((s.dev.afterProg p now).core p.core.val).sc.reg 10 } := by
  refine Does.of_run (f := ecallEnd p now) rfl ?_
  rw [Dev.retag_core, Dev.retag_fe, ecallEnd, Dev.prog_of_goesOn _ hk hg]
  dsimp only
  rw [if_pos h7]
  obtain ⟨⟨hrun, hsc⟩, hqueue⟩ := Dev.beginEnd_ends (d := s.dev.afterProg p now) (c := p.core.val) (r := r) (by simpa using hr) hq
    (by simpa using Core.ending_of_commits hk) (by simpa using ht)
    { status := ((s.dev.afterProg p now).core p.core.val).sc.reg 10 }
  exact ⟨hrun, by rw [hsc], by rw [hsc], hqueue⟩

/-- An exception ends the entry with 0x0130, mcause and mtval. -/
theorem does_programException (mcause mtval : Word) (hr : (s.dev.core p.core.val).run = some r)
    (he : (s.dev.core p.core.val).ending = none) (hw : (s.dev.core p.core.val).sc.wait = none) (hn : (s.dev.core p.core.val).tentative = 0)
    (ht : (s.dev.core p.core.val).tiq.any (·.committed) = false) (hq : r.queue < 65536) (hg : s.dev.goesOn p now) :
    Does (.programException p mcause mtval now) s fun d =>
      (d.core p.core.val).run = none ∧ (d.core p.core.val).sc.mcause = mcause ∧ (d.core p.core.val).sc.mtval = mtval ∧
      ∃ q, d.fe.queues.find? r.queue = some q ∧
        ∀ f ∈ q.flight, f.index = r.index → f.ended = some { cause := 0x0130, status := mcause, arg0 := mcause, arg1 := mtval } := by
  refine Does.of_run (f := programException p mcause mtval now) rfl ?_
  rw [Dev.retag_core, Dev.retag_fe, programException, Dev.prog_of_goesOn _ (by simp [hr, he, hw, hn]) hg, Dev.exception]
  dsimp only
  obtain ⟨⟨hrun, hsc⟩, hqueue⟩ := Dev.beginEnd_ends
    (d := (s.dev.afterProg p now).modCore p.core.val fun k => { k with sc := { k.sc with mcause := mcause, mtval := mtval, resv := none } })
    (c := p.core.val) (r := r) (by simpa using hr) hq (by simpa using he) (by simpa using ht)
    { cause := 0x0130, status := mcause, arg0 := mcause, arg1 := mtval }
  rw [Dev.core_modCore_self] at hsc
  exact ⟨hrun, by rw [hsc], by rw [hsc], hqueue⟩

/-- A mispredicted branch squashes what is younger and tentative, and counts what of it had begun. -/
theorem does_branchMispredict (young : Nat) (hr : (s.dev.core p.core.val).run = some r) (he : (s.dev.core p.core.val).ending = none)
    (hg : s.dev.goesOn p now) :
    Does (.branchMispredict p young now) s fun d =>
      (d.core p.core.val).tiq = (s.dev.core p.core.val).tiq.filter (fun e => e.committed || !decide (young ≤ e.id)) ∧
        (d.core p.core.val).tx.txsqcnt = (s.dev.core p.core.val).tx.txsqcnt +
          ((s.dev.core p.core.val).tiq.filter (fun e => !e.committed && decide (young ≤ e.id) && e.begun)).length := by
  refine Does.of_run (f := branchMispredict p young now) rfl ?_
  rw [Dev.retag_core, branchMispredict, Dev.prog_of_goesOn _ (by simp [hr, he]) hg, Dev.core_modCore_self]
  refine ⟨?tiq, ?count⟩
  case tiq => simp only [Core.squash, Dev.afterProg_tiq]
  case count => simp only [Core.squash, Dev.afterProg_tiq, Dev.afterProg_tx, List.filter_filter, Bool.and_comm]

end Programs

/-- Settles O9: with nothing committed left, an end is taken at once, and the queue has it. -/
theorem programsEndAndBranch : Obligations.ProgramsEndAndBranch := by
  unfold Obligations.ProgramsEndAndBranch
  refine ⟨?ecall, ?exception, ?branch, ?fence⟩
  case ecall => exact fun p r now s hk hr ht h7 hq hg => does_ecallEnd hk hr ht h7 hq hg
  case exception => exact fun p mcause mtval r now s hr he hw hn ht hq hg => does_programException mcause mtval hr he hw hn ht hq hg
  case branch => exact fun p young r now s hr he hg => does_branchMispredict young hr he hg
  case fence =>
    intro p predW now s hk hs hg
    refine Does.of_run (f := fence p predW now) rfl ?_
    rw [Dev.retag_core, Dev.retag_mem, fence, Dev.prog_of_goesOn _ (by simp [hk, hs]) hg]
    exact ⟨rfl, Dev.afterProg_mem .., Dev.afterProg_tiq ..⟩

end Sys2Proof.Machine
end

section
/-!
TXFAULT and the descriptors: what keeps them, what latches a fault, and the bytes that a scalar store reaches (R188, R189, R196, R278).
-/
namespace Sys2Proof.Machine

/-! ### The descriptors and TXFAULT stand as an entry ends -/

/-- The descriptors and TXFAULT of a core. -/
def Core.tdFault (k : Core) : KMap (BitVec 128) × Word := (k.tx.td, k.tx.txfault)

/-- Squashed CSETs give back chain registers, and no other tensor register. -/
theorem restoreChains_tdFault (tx : TensorRegs) (es : List TiqEntry) :
    ((restoreChains tx es).td, (restoreChains tx es).txfault) = (tx.td, tx.txfault) := by
  unfold restoreChains
  induction es with
  | nil => rfl
  | cons e es ih =>
    rw [List.foldr_cons]
    split
    · exact ih
    · exact ih

@[simp] theorem Core.squash_tdFault (k : Core) (cycle : Nat) (young : TiqEntry → Bool) : (k.squash cycle young).tdFault = k.tdFault :=
  restoreChains_tdFault k.tx _

@[simp] theorem Core.heads_tdFault (k : Core) (cycle : Nat) (e : Ending) : (k.heads cycle e).tdFault = k.tdFault :=
  k.squash_tdFault cycle _

@[simp] theorem Core.ended_tdFault (k : Core) (cycle : Nat) : (k.ended cycle).tdFault = k.tdFault :=
  k.squash_tdFault cycle _

section Ends
variable (d : Dev) (c i : Nat)

theorem Dev.tdFault_of_unscalar {d d' : Dev} {i : Nat} (h : (d'.core i).unscalar = (d.core i).unscalar) :
    (d'.core i).tdFault = (d.core i).tdFault :=
  (congrArg Core.tdFault h :)

theorem Dev.endEntry_tdFault (e : Ending) : ((d.endEntry c e).core i).tdFault = (d.core i).tdFault := by
  by_cases hi : i = c
  · subst hi
    cases hr : (d.core i).run with
    | none =>
      unfold Dev.endEntry
      rw [hr]
    | some r => rw [Dev.endEntry_core hr, Core.ended_tdFault]
  · rw [(d.within_endEntry e).others i hi]

theorem Dev.beginEnd_tdFault (e : Ending) : ((d.beginEnd c e).core i).tdFault = (d.core i).tdFault := by
  have hh : ((d.headed c e).core i).tdFault = (d.core i).tdFault := Dev.modCore_keeps Core.tdFault (fun k => k.heads_tdFault _ e) d c i
  rw [Dev.beginEnd_eq]
  split
  · split
    · exact hh
    · rw [Dev.endEntry_tdFault, hh]
  · exact hh

theorem Dev.exception_tdFault (mcause mtval : Word) : ((d.exception c mcause mtval).core i).tdFault = (d.core i).tdFault :=
  (Dev.beginEnd_tdFault ..).trans (Dev.modCore_keeps Core.tdFault (fun _ => by rfl) d c i)

theorem Dev.consume_tdFault (cause : Cause) (va : Word) (e : Ending) : ((d.consume c cause va e).core i).tdFault = (d.core i).tdFault := by
  unfold Dev.consume
  split
  · rfl
  · rw [Dev.beginEnd_tdFault]
    rfl

theorem Dev.scalarPoison_tdFault (va : Nat) : ((d.scalarPoison c va).core i).tdFault = (d.core i).tdFault :=
  (Dev.consume_tdFault ..).trans (Dev.modCore_keeps Core.tdFault (fun _ => by rfl) d c i)

theorem Dev.tcFill_tdFault (va : Nat) : ((d.tcFill c va).core i).tdFault = (d.core i).tdFault := by
  unfold Dev.tcFill
  dsimp only
  split
  · split
    · rfl
    · exact Dev.modCore_keeps Core.tdFault (fun _ => by simp only [Core.tdFault]) d c i
  · rfl

variable {d} {c} {i}

theorem Dev.progStop_tdFault {p : Prog} {t : Dev} (h : d.progStop c p = some t) : (t.core i).tdFault = (d.core i).tdFault := by
  unfold Dev.progStop at h
  split at h
  · cases h
    exact Dev.exception_tdFault ..
  · split at h
    · cases h
      rw [Dev.exception_tdFault, Dev.walkNotice_core]
    · cases h
      exact Dev.scalarPoison_tdFault ..
    · cases h

end Ends

/-! ### A command of a program, by its effect -/

/-- What the effect of a program's command keeps of each core's descriptors, the command keeps. -/
theorem Dev.prog_tdFault {d : Dev} {p : Prog} {now : Time} {ok : Core → Bool} {f : Dev → Dev} {i : Nat}
    (hf : ((f (d.afterProg p now)).core i).tdFault = ((d.afterProg p now).core i).tdFault) :
    ((d.prog p now ok f).core i).tdFault = (d.core i).tdFault := by
  have ha : ((d.afterProg p now).core i).tdFault = (d.core i).tdFault := Dev.tdFault_of_unscalar (d.afterProg_unscalar i p now)
  rcases d.prog_cases p now ok f with h | h | h
  · rw [h, hf, ha]
  · rw [Dev.progStop_tdFault h, ha]
  · rw [h, Dev.advance_core]

/-- Every byte outside a range reads as before. -/
structure Dev.StoresIn (a n : Nat) (d d' : Dev) : Prop where
  outside : ∀ b, b < a ∨ a + n ≤ b → d'.mem.mem.readByte b = d.mem.mem.readByte b

section Stores
variable {a n : Nat} {d d' : Dev}

theorem Dev.storesIn_of_mem (h : d'.mem = d.mem) : d.StoresIn a n d' := ⟨fun b _ => by rw [h]⟩

theorem Dev.storesIn_writePlain (hm : d'.mem = d.mem) (v : Nat) (clears poison : Bool) :
    d.StoresIn a n (d'.writePlain a (leBytes n v) clears poison) :=
  ⟨fun b hb => by rw [Dev.readByte_writePlain _ _ _ _ _ _ (by rwa [leBytes_length]), hm]⟩

theorem Dev.StoresIn.answerLoad (h : d.StoresIn a n d') (c : Nat) (w : MemWait) (v : Word) : d.StoresIn a n (d'.answerLoad c w v) := ⟨h.outside⟩

theorem Dev.storesIn_scalarPoison (c va : Nat) : d.StoresIn a n (d.scalarPoison c va) :=
  Dev.storesIn_of_mem (Dev.within_scalarPoison d va : d.Within c _).mem

/-- What the effect of a program's command does to memory, the command does. -/
theorem Dev.prog_storesIn {p : Prog} {now : Time} {ok : Core → Bool} {f : Dev → Dev}
    (hf : (d.afterProg p now).StoresIn a n (f (d.afterProg p now))) : d.StoresIn a n (d.prog p now ok f) := by
  have ha : (d.afterProg p now).mem = d.mem := d.afterProg_mem p now
  refine ⟨fun b hb => ?_⟩
  rcases d.prog_cases p now ok f with h | h | h
  · rw [h, hf.outside b hb, ha]
  · rw [(Dev.within_progStop _ h).mem, ha]
  · rw [h, Dev.advance_mem]

end Stores

section Accesses
variable {a : Nat} {d : Dev} {p : Prog} {now : Time}

theorem scalarStore_storesIn {va size : Nat} {v : Word}
    (ht : (d.afterProg p now).scalarTarget p.core.val { w := true } va size true false = .own a ∨
      (d.afterProg p now).scalarTarget p.core.val { w := true } va size true false = .memory a) :
    d.StoresIn a size (scalarStore p va size v now d) := by
  have hm := (Dev.sameLines_tcFill (d.afterProg p now) p.core.val va).mem
  unfold scalarStore
  refine Dev.prog_storesIn ?_
  rcases ht with ht | ht
  · simp only [ht]
    exact Dev.storesIn_writePlain hm ..
  · simp only [ht]
    exact Dev.storesIn_writePlain hm ..

theorem scalarStore_td {va size : Nat} {v : Word}
    (ht : (d.afterProg p now).scalarTarget p.core.val { w := true } va size true false = .own a ∨
      (d.afterProg p now).scalarTarget p.core.val { w := true } va size true false = .memory a) (i : Nat) :
    ((scalarStore p va size v now d).core i).tx.td = (d.core i).tx.td := by
  refine congrArg Prod.fst (Dev.prog_tdFault (i := i) ?_)
  rcases ht with ht | ht
  · simp only [ht]
    exact (Dev.tdFault_of_unscalar (Dev.writePlain_unscalar ..)).trans (Dev.tcFill_tdFault ..)
  · simp only [ht]
    exact (Dev.tdFault_of_unscalar (Dev.writePlain_unscalar ..)).trans (Dev.tcFill_tdFault ..)

theorem amo_storesIn {op : Nat} {wide : Bool} {va : Nat} {v : Word} {rd : Nat} {rl : Bool}
    (ht : (d.afterProg p now).scalarTarget p.core.val { r := true, w := true } va (if wide then 8 else 4) true true = .own a) :
    d.StoresIn a (if wide then 8 else 4) (amo p op wide va v rd rl now d) := by
  unfold amo
  refine Dev.prog_storesIn ?_
  simp only [ht]
  refine iteInduction (motive := Dev.StoresIn a _ _) (fun _ => Dev.storesIn_scalarPoison ..) fun _ => ?_
  exact (Dev.storesIn_writePlain rfl ..).answerLoad ..

/-- An SC stores where its reservation holds, and nowhere else. -/
theorem sc_storesIn {wide : Bool} {va : Nat} {v : Word} {rd : Nat}
    (ht : (d.afterProg p now).scalarTarget p.core.val { w := true } va (if wide then 8 else 4) true true = .own a) :
    d.StoresIn a (if wide then 8 else 4) (sc p wide va v rd now d) := by
  unfold sc
  refine Dev.prog_storesIn ?_
  simp only [ht]
  refine iteInduction (motive := Dev.StoresIn a _ _) (fun _ => Dev.storesIn_scalarPoison ..) fun _ => ?_
  refine iteInduction (motive := Dev.StoresIn a _ _) (fun _ => ?held) fun _ => ?lost
  case held => exact (Dev.storesIn_writePlain (d := d.afterProg p now) (d' := (d.afterProg p now).setResv p.core.val none) rfl ..).answerLoad ..
  case lost => exact Dev.storesIn_of_mem rfl

end Accesses

/-- The next state of a command is what its effect makes of the module. -/
theorem dev_of_exec_next {c : Instr} {f : Dev → Dev} {s t : State} (hc : exec c s = s.run f) (h : exec c s = .next t) : t.dev = (f s.dev).retag := by
  rw [hc, State.run_eq, Host.Outcome.next.injEq] at h
  rw [← h]

/-- Settles O60: with its target known, an access writes at that address or writes nothing. -/
theorem scalarStoreFrame : Obligations.ScalarStoreFrame := by
  unfold Obligations.ScalarStoreFrame
  refine ⟨?store, ?amo, ?sc⟩
  case store =>
    intro p va size v now s t a h ht
    rw [dev_of_exec_next (f := scalarStore p va.toNat size v now) rfl h]
    exact ⟨(scalarStore_storesIn ht).outside, scalarStore_td ht⟩
  case amo =>
    intro p op wide va v rd rl now s t a h ht
    rw [dev_of_exec_next (f := amo p op.val wide va.toNat v rd.val rl now) rfl h]
    exact (amo_storesIn ht).outside
  case sc =>
    intro p wide va v rd now s t a h ht
    rw [dev_of_exec_next (f := sc p wide va.toNat v rd.val now) rfl h]
    exact (sc_storesIn ht).outside

/-! ### A completion (R195 to R197) -/

/-- An entry's slot, TCSX and TXFAULT are written and it leaves the queue. -/
def Core.leave (k : Core) (id : Nat) (e : TiqEntry) (r : Completion) (now : Time) : Core :=
  { (k.report e r).countDone e with
    tiq := ((k.report e r).countDone e).tiq.filter (·.id ≠ id)
    worked := match e.unit with
      | .matrix => ((k.report e r).countDone e).worked.set 0 now
      | .vector => ((k.report e r).countDone e).worked.set 1 now
      | _ => ((k.report e r).countDone e).worked }

/-- The retries of an entry's reads and a stale handle of its transfer are counted. -/
def Dev.counted (d : Dev) (c : Nat) (e : TiqEntry) (r : Completion) : Dev :=
  let d := d.retry c e.reads.retries
  if e.transfer && r.cause = 0x0140 && d.streamStale e.rs1v then d.stale else d

/-- An instruction's wait at the coherent windows is over. -/
def Dev.noWait (d : Dev) (c id : Nat) : Dev :=
  { d with coh := { d.coh with waits := d.coh.waits.filter (fun w => !(w.core = c && w.id = id)) } }

@[simp] theorem Dev.noWait_core (d : Dev) (c id i : Nat) : (d.noWait c id).core i = d.core i := rfl

/-- The module with an entry's completion reported, before the completion ends what it may end. -/
def Dev.reported (d : Dev) (c id : Nat) (e : TiqEntry) (r : Completion) : Dev :=
  (((d.counted c e r).modCore c (fun k => k.leave id e r (d.counted c e r).time)).noWait c id).unmapAgain

/-- The end that a core's entry awaits is taken if no committed instruction is left. -/
def Dev.takeEnd (d : Dev) (c : Nat) : Dev := match (d.core c).ending with
  | some x => if (d.core c).tiq.any (·.committed) then d else d.endEntry c x
  | none => d

theorem Dev.takeEnd_of_none {d : Dev} {c : Nat} (h : (d.core c).ending = none) : d.takeEnd c = d := by rw [Dev.takeEnd, h]

/-- What a completion ends: the entry whose poison it consumed, or that stops on a fault, or that only awaited it. -/
def Dev.endsWith (d : Dev) (c : Nat) (r : Completion) : Dev :=
  let eof := endOnFault (d.core c).tx.txctl
  let pc := (d.core c).tx.txfaultpc
  let fin : Ending := if eof then { cause := r.cause, status := pc, arg0 := pc, arg1 := r.tcsx, fault := true } else {}
  (if r.consumed then d.consume c r.cause r.poisonVa fin
    else if r.cause ≠ 0 && eof then d.beginEnd c fin
    else d).takeEnd c

section Completions
variable {d : Dev} {c id : Nat} {e : TiqEntry} {r : Completion}

theorem Dev.completeEntry_eq (he : (d.core c).entry? id = some e) (hk : e.committed = true) (hd : e.done = some r) :
    d.completeEntry c id = (d.reported c id e r).endsWith c r := by
  unfold Dev.completeEntry
  rw [he]
  dsimp only
  rw [hk, hd]
  rfl

/-- Of its core a count changes the retries alone. -/
theorem Dev.counted_core : ∃ n, (d.counted c e r).core c = { d.core c with cnt := n } := by
  have h : (d.retry c e.reads.retries).core c = _ := Dev.core_modCore_self d c _
  unfold Dev.counted
  dsimp only
  split
  · exact ⟨_, h⟩
  · exact ⟨_, h⟩

/-- What a report leaves of its core, but for scalar registers and the retries counted. -/
theorem Dev.reported_core : ∃ n now, ((d.reported c id e r).core c).unscalar = ({ d.core c with cnt := n }.leave id e r now).unscalar := by
  obtain ⟨n, hn⟩ := d.counted_core (c := c) (e := e) (r := r)
  refine ⟨n, (d.counted c e r).time, ?_⟩
  rw [Dev.reported, Dev.unmapAgain_unscalar, Dev.noWait_core, Dev.core_modCore_self, hn]

theorem Dev.reported_tx : ((d.reported c id e r).core c).tx = ((d.core c).report e r).tx := by
  obtain ⟨n, now, h⟩ := d.reported_core (c := c) (id := id) (e := e) (r := r)
  exact (congrArg Core.tx h :)

theorem Dev.takeEnd_tdFault : ((d.takeEnd c).core c).tdFault = (d.core c).tdFault := by
  unfold Dev.takeEnd
  split
  · split
    · rfl
    · exact Dev.endEntry_tdFault ..
  · rfl

theorem Dev.endsWith_tdFault : ((d.endsWith c r).core c).tdFault = (d.core c).tdFault := by
  unfold Dev.endsWith
  dsimp only
  rw [Dev.takeEnd_tdFault]
  split
  · exact Dev.consume_tdFault ..
  · split
    · exact Dev.beginEnd_tdFault ..
    · rfl

theorem Core.report_txfault (k : Core) : (k.report e r).tx.txfault =
    if r.cause = 0 then k.tx.txfault else txfaultAfter k.tx.txfault e.unitCode e.slotNo r.cause := by
  unfold Core.report
  dsimp only
  split <;> split <;> split <;> rfl

/-- A completion writes TXFAULT as its report does, and no end that follows touches it. -/
theorem tensorComplete_txfault {now : Time} (he : (d.core c).entry? id = some e) (hk : e.committed = true) (hd : e.done = some r) :
    ((tensorComplete c id now d).core c).tx.txfault =
      if r.cause = 0 then (d.core c).tx.txfault else txfaultAfter (d.core c).tx.txfault e.unitCode e.slotNo r.cause := by
  rw [tensorComplete, Dev.completeEntry_eq (by rwa [Dev.advance_core]) hk hd]
  refine (congrArg Prod.snd Dev.endsWith_tdFault).trans ?_
  refine (congrArg TensorRegs.txfault Dev.reported_tx).trans ?_
  rw [Core.report_txfault, Dev.advance_core]

end Completions

/-! ### The fields of TXFAULT (R196) -/

section Fields
variable (w : Word) {unit slot : Nat} (hu : unit < 4) (hs : slot < 32) (cause : Cause)

theorem TiqEntry.unitCode_lt (e : TiqEntry) : e.unitCode < 4 := by
  unfold TiqEntry.unitCode
  split
  · split <;> decide
  · cases e.unit <;> decide

theorem TiqEntry.slotNo_lt (e : TiqEntry) : e.slotNo < 32 := Nat.mod_lt _ (by decide)

/-- The number that TXFAULT holds of a first fault. -/
theorem txfaultAfter_toNat (hw : bit w 63 = false) : (txfaultAfter w unit slot cause).toNat =
    (2 ^ 63 + unit * 2 ^ 56 + slot * 2 ^ 48 + cause.toNat * 2 ^ 32 + min (bits w 15 0 + 1) 0xFFFF) % 2 ^ 64 := by
  rw [txfaultAfter, txValid, hw]
  exact BitVec.toNat_ofNat ..

include hu hs

/-- A first fault's fields are in their places: none reaches into the next. -/
theorem txfaultAfter_fields (hw : bit w 63 = false) :
    bit (txfaultAfter w unit slot cause) 63 = true ∧ bit (txfaultAfter w unit slot cause) 62 = false ∧
      bits (txfaultAfter w unit slot cause) 57 56 = unit ∧ bits (txfaultAfter w unit slot cause) 52 48 = slot ∧
      bits (txfaultAfter w unit slot cause) 47 32 = cause.toNat ∧
      bits (txfaultAfter w unit slot cause) 15 0 = min (bits w 15 0 + 1) 0xFFFF := by
  have hc : cause.toNat < 65536 := cause.isLt
  have hn := txfaultAfter_toNat w (unit := unit) (slot := slot) cause hw
  generalize txfaultAfter w unit slot cause = x at hn ⊢
  generalize bits w 15 0 = old at hn ⊢
  have h63 : bit x 63 = decide (x.toNat / 2 ^ 63 % 2 = 1) := Nat.testBit_eq_decide_div_mod_eq
  have h62 : bit x 62 = decide (x.toNat / 2 ^ 62 % 2 = 1) := Nat.testBit_eq_decide_div_mod_eq
  rw [h63, h62, decide_eq_true_eq, decide_eq_false_iff_not]
  simp only [bits]
  omega

end Fields

/-- Settles O48: only the report of a completion writes TXFAULT, and it writes it by the fault's own rule. -/
theorem txfaultLatchesTheFirstFault : Obligations.TxfaultLatchesTheFirstFault := by
  unfold Obligations.TxfaultLatchesTheFirstFault
  refine ⟨?first, ?later, ?none, ?write⟩
  case first =>
    intro core id e r now s he hk hd hr hw
    refine Does.of_run (f := tensorComplete core.val id now) rfl ?_
    rw [Dev.retag_core, tensorComplete_txfault he hk hd, if_neg hr]
    exact txfaultAfter_fields _ e.unitCode_lt e.slotNo_lt r.cause hw
  case later =>
    intro core id e r now s he hk hd hr hw
    refine Does.of_run (f := tensorComplete core.val id now) rfl ?_
    rw [Dev.retag_core, tensorComplete_txfault he hk hd, if_neg hr, txfaultAfter, txValid, hw]
    rfl
  case none =>
    intro core id e r now s he hk hd hr
    refine Does.of_run (f := tensorComplete core.val id now) rfl ?_
    rw [Dev.retag_core, tensorComplete_txfault he hk hd, if_pos hr]
  case write =>
    intro p rd now s hk hg
    refine Does.of_modTx rfl hk hg fun t ht => ?_
    rw [ht]
    rfl

end Sys2Proof.Machine
end

section
/-!
The issue queue: an entry comes in, is begun, commits, and completes (R192, R197, R200, R202, R215).
-/
namespace Sys2Proof.Machine

/-! ### The checks of an instruction read no scalar register (R215, R250 to R260) -/

/-- Two modules that differ in scalar registers of their cores alone. -/
structure Dev.ScalarsOnly (d d' : Dev) : Prop where
  rest : { d' with cores := [] } = { d with cores := [] }
  unscalar : ∀ i, (d'.core i).unscalar = (d.core i).unscalar

namespace Dev.ScalarsOnly
variable {d d' : Dev}

theorem modCore (d : Dev) (c : Nat) {f : Core → Core} (hf : ∀ k, (f k).unscalar = k.unscalar) : d.ScalarsOnly (d.modCore c f) :=
  ⟨rfl, Dev.modCore_keeps Core.unscalar hf d c⟩

variable (h : d.ScalarsOnly d')
include h

theorem mem : d'.mem = d.mem := (congrArg Dev.mem h.rest :)
theorem fe : d'.fe = d.fe := (congrArg Dev.fe h.rest :)
theorem sec : d'.sec = d.sec := (congrArg Dev.sec h.rest :)
theorem power : d'.power = d.power := (congrArg Dev.power h.rest :)
theorem id : d'.id = d.id := (congrArg Dev.id h.rest :)
theorem signetMask : d'.signetMask = d.signetMask := (congrArg Dev.signetMask h.rest :)
theorem part (p : Nat) : d'.part p = d.part p := (congrArg (fun d => Dev.part d p) h.rest :)
theorem leaving (who : Accessor) (va : Nat) : d'.leaving who va = d.leaving who va := (congrArg (fun d => Dev.leaving d who va) h.rest :)

theorem tx (i : Nat) : (d'.core i).tx = (d.core i).tx := (congrArg Core.tx (h.unscalar i) :)
theorem tiq (i : Nat) : (d'.core i).tiq = (d.core i).tiq := (congrArg Core.tiq (h.unscalar i) :)
theorem arms (i : Nat) : (d'.core i).arms = (d.core i).arms := (congrArg Core.arms (h.unscalar i) :)
theorem run (i : Nat) : (d'.core i).run = (d.core i).run := (congrArg Core.run (h.unscalar i) :)
theorem dbg (i : Nat) : (d'.core i).dbg = (d.core i).dbg := (congrArg Core.dbg (h.unscalar i) :)
theorem accGroups (i : Nat) : (d'.core i).accGroups = (d.core i).accGroups := (congrArg Core.accGroups (h.unscalar i) :)
theorem retiredPairs (i : Nat) : (d'.core i).retiredPairs = (d.core i).retiredPairs := (congrArg Core.retiredPairs (h.unscalar i) :)
theorem out (i : Nat) : (d'.core i).offline = (d.core i).offline := (congrArg Core.offline (h.unscalar i) :)
theorem windowPairs (i : Nat) : (d'.core i).windowPairs = (d.core i).windowPairs := (congrArg Core.windowPairs (h.unscalar i) :)
theorem cachedPage (i : Nat) : (d'.core i).cachedPage = (d.core i).cachedPage := (congrArg Core.cachedPage (h.unscalar i) :)
theorem walkStart (i : Nat) : (d'.core i).walkStart = (d.core i).walkStart := (congrArg Core.walkStart (h.unscalar i) :)
theorem older (i : Nat) : (d'.core i).older = (d.core i).older := (congrArg Core.older (h.unscalar i) :)

theorem sameLines : d.SameLines d' := ⟨h.mem, h.retiredPairs⟩

/-! Translation -/

theorem walk (va : Nat) : ∀ level table, d'.walk va level table = d.walk va level table := by
  intro level
  induction level with
  | zero =>
    intro table
    simp only [Dev.walk, h.mem, h.sameLines.poisoned]
  | succ l ih =>
    intro table
    simp only [Dev.walk, h.mem, h.sameLines.poisoned, ih]

theorem translate (who : Accessor) (va : Nat) : d'.translate who va = d.translate who va := by
  simp only [Dev.translate, Dev.window, h.windowPairs, h.part, h.walk, h.cachedPage, h.walkStart]

theorem checkPage (who : Accessor) (need : Need) (dbg : Bool) (first : Option MemKind) (p e : Nat) :
    d'.checkPage who need dbg first p e = d.checkPage who need dbg first p e := by
  have hr (v : PageView) (lo hi : Nat) : d'.firstRetired v lo hi = d.firstRetired v lo hi := by
    simp only [Dev.firstRetired, h.retiredPairs]
  have hs (v : PageView) (lo hi : Nat) : d'.firstSealed v lo hi = d.firstSealed v lo hi := by
    unfold Dev.firstSealed Dev.sealedFrom
    split
    · rw [h.accGroups]
    · rfl
  have ho (m : MemKind) : d'.offline m = d.offline m := by
    simp only [Dev.offline, h.out]
  simp only [Dev.checkPage, h.leaving, h.translate, hr, hs, ho]

theorem checkPages (who : Accessor) (need : Need) (dbg : Bool) (e n : Nat) :
    ∀ first p, d'.checkPages who need dbg n first p e = d.checkPages who need dbg n first p e := by
  induction n with
  | zero => exact fun _ _ => rfl
  | succ n ih =>
    intro first p
    simp only [Dev.checkPages, h.checkPage, ih]

theorem checkExtent (who : Accessor) (need : Need) (dbg : Bool) (va len : Nat) :
    d'.checkExtent who need dbg va len = d.checkExtent who need dbg va len := by
  simp only [Dev.checkExtent, h.checkPages]

theorem mpa (who : Accessor) (va : Nat) : d'.mpa who va = d.mpa who va := by simp only [Dev.mpa, h.translate]

theorem pieces (who : Accessor) (k : Nat) : ∀ va n, d'.pieces who k va n = d.pieces who k va n := by
  induction k with
  | zero => exact fun _ _ => rfl
  | succ k ih =>
    intro va n
    simp only [Dev.pieces, h.mpa, ih]

theorem homeOf (who : Accessor) (va : Nat) : d'.homeOf who va = d.homeOf who va := by simp only [Dev.homeOf, h.translate, h.id]

/-! Steps 2 to 7 -/

theorem who (c : Nat) : d'.who c = d.who c := by simp only [Dev.who, h.run]

theorem fmtCheck (c : Nat) (e : TiqEntry) (regs pairs : List Nat) : d'.fmtCheck c e regs pairs = d.fmtCheck c e regs pairs := by
  simp only [Dev.fmtCheck, Dev.sigFor, h.run, h.part, h.signetMask]

theorem beadMpas (who : Accessor) (o : OpRef) : d'.beadMpas who o = d.beadMpas who o := by simp only [Dev.beadMpas, h.mpa]

theorem placeCheck (c : Nat) (dbg : Bool) (ops : List OpRef) : d'.placeCheck c dbg ops = d.placeCheck c dbg ops := by
  have hp (o : OpRef) : d'.placed c o = d.placed c o := by simp only [Dev.placed, h.who, h.checkExtent]
  have hm (o : OpRef) : d'.matchArm c o = d.matchArm c o := by simp only [Dev.matchArm, h.who, h.beadMpas, h.arms]
  have hi (o : OpRef) : d'.inArmed c o = d.inArmed c o := by simp only [Dev.inArmed, h.who, h.pieces, h.arms]
  simp only [Dev.placeCheck, Dev.xlateCheck, Dev.debugRead, h.who, h.checkExtent, h.run, h.dbg, h.part, hp, hm, hi]

/-- Checks 2 to 7 find the same. -/
theorem checkEntry (c : Nat) (e : TiqEntry) : d'.checkEntry c e = d.checkEntry c e := by
  unfold Dev.checkEntry
  split
  case h_1 => rfl
  case h_2 => simp only [Dev.mmaCheck, h.fmtCheck, h.placeCheck, h.tx, h.accGroups]
  case h_3 => simp only [Dev.vrunCheck, h.fmtCheck, h.placeCheck]
  case h_4 => simp only [Dev.compressCheck, h.fmtCheck, h.placeCheck]
  case h_5 => simp only [Dev.expandCheck, h.fmtCheck, h.placeCheck]
  case h_6 | h_7 | h_8 => simp only [Dev.copyCheck, h.fmtCheck, h.placeCheck]
  case h_9 | h_10 => simp only [Dev.sendCheck, Dev.streamOk, h.fmtCheck, h.placeCheck, h.who, h.fe, h.homeOf]
  case h_11 => simp only [Dev.armCheck, Dev.armPositions, h.fmtCheck, h.placeCheck, h.who, h.arms, h.beadMpas]
  case h_12 => rw [h.arms]
  case h_13 => simp only [Dev.digestCheck, h.fmtCheck, h.placeCheck]
  case h_14 => simp only [Dev.rflushCheck, h.who, h.checkExtent]
  all_goals rfl

/-- An entry's turn comes at the same point. -/
theorem mayBegin (c : Nat) (e : TiqEntry) : d'.mayBegin c e = d.mayBegin c e := by
  simp only [Dev.mayBegin, Dev.powered, h.older, h.tx, h.power]

end Dev.ScalarsOnly

/-! ### An instruction enters the queue (R192, R200) -/

/-- What an entry latches as it enters the queue, but for its chain. -/
def TiqEntry.latched (e : TiqEntry) : Nat × BitVec 32 × KMap (BitVec 128) × KMap (BitVec 32) × Bool := (e.id, e.word, e.td, e.f, e.committed)

/-- An instruction's entry as it enters the queue, and the tensor registers as it leaves them. -/
def Dev.entering (d : Dev) (c : Nat) (word : BitVec 32) : TiqEntry × TensorRegs :=
  let e := d.latch c word
  match decodeTensor word with
  | some (.cset cr _) => d.csetEnter c e cr
  | some i =>
    let tx := (d.core c).tx
    (e, match namedChain i e.rs1v with
      | some r => if e.chainRefusal.isNone then { tx with crUnchecked := tx.crUnchecked.remove r } else tx
      | none => tx)
  | none => (e, (d.core c).tx)

theorem tiqEnter_of_enters {d : Dev} {p : Prog} {now : Time} {word : BitVec 32} (hk : (d.core p.core.val).entersTiq word = true)
    (hg : d.goesOn p now) : tiqEnter p word now d = (d.afterProg p now).modCore p.core.val fun k => { k with
      tiq := k.tiq ++ [((d.afterProg p now).entering p.core.val word).1], nextId := k.nextId + 1
      tx := ((d.afterProg p now).entering p.core.val word).2 } := by
  rw [tiqEnter, Dev.prog_of_goesOn (ok := fun k => k.entersTiq word) _ hk hg]
  rfl

/-- A CSET's record goes to its entry's chain and to nothing else that is latched. -/
theorem Dev.csetEnter_latched (d : Dev) (c : Nat) (e : TiqEntry) (cr : Nat) : (d.csetEnter c e cr).1.latched = e.latched := by
  unfold Dev.csetEnter
  dsimp only
  split
  · rfl
  · rfl

theorem Dev.entering_latched (d : Dev) (c : Nat) (word : BitVec 32) :
    (d.entering c word).1.latched = ((d.core c).nextId, word, (d.core c).tx.td, (d.core c).sc.f, false) := by
  unfold Dev.entering
  dsimp only
  split
  · exact Dev.csetEnter_latched ..
  · rfl
  · rfl

/-! ### An engine begins an entry (R202) -/

/-- Matches counted for an entry change nothing of it but the arm records it holds. -/
theorem Core.entry?_countMatch {k : Core} {id : Nat} {e : TiqEntry} (h : k.entry? id = some e) :
    ∃ as, (k.countMatch id).entry? id = some { e with arms := as } := by
  unfold Core.countMatch
  rw [h]
  exact ⟨_, Core.entry?_modEntry h fun _ => rfl⟩

/-- An entry that is changed, its matches counted or not, stands as changed but for the arm records it holds. -/
theorem Core.entry?_matched {k : Core} {id : Nat} {e : TiqEntry} (h : k.entry? id = some e) {f : TiqEntry → TiqEntry}
    (hf : ∀ e, (f e).id = e.id) (b : Bool) {P : TiqEntry → Prop} (hP : ∀ as, P { f e with arms := as }) :
    ∃ e', (if b then (k.modEntry id f).countMatch id else k.modEntry id f).entry? id = some e' ∧ P e' := by
  have hm := Core.entry?_modEntry h hf
  cases b with
  | false => exact ⟨_, hm, hP (f e).arms⟩
  | true =>
    obtain ⟨as, h'⟩ := Core.entry?_countMatch hm
    exact ⟨_, h', hP as⟩

@[simp] theorem Core.countMatch_tx (k : Core) (id : Nat) : (k.countMatch id).tx = k.tx := by
  unfold Core.countMatch
  split
  · rfl
  · rfl

theorem Dev.tcFill_tiq (d : Dev) (c va i : Nat) : ((d.tcFill c va).core i).tiq = (d.core i).tiq := by
  unfold Dev.tcFill
  dsimp only
  split
  · split
    · rfl
    · exact Dev.modCore_keeps Core.tiq (fun _ => by rfl) d c i
  · rfl

section Begins
variable {d : Dev} {c id : Nat} {e : TiqEntry}

/-- An entry that may begin and in which nothing is found is begun, and nothing is held with it. -/
theorem Dev.beginEntry_entry? {cycle : Nat} (he : (d.core c).entry? id = some e) (hm : d.mayBegin c e = true) (hc : d.checkEntry c e = none) :
    ∃ e', ((d.beginEntry c id cycle).core c).entry? id = some e' ∧ e'.begun = true ∧ e'.beginCycle = cycle ∧ e'.done = none := by
  have hf : ((e.refs.foldl (fun (d : Dev) (o : OpRef) => d.tcFill c o.va) d).core c).entry? id = some e :=
    (Core.entry?_of_tiq_eq (foldl_keeps (fun d : Dev => (d.core c).tiq) _ (fun d o => d.tcFill_tiq c (OpRef.va o) c) _ _) id).trans he
  unfold Dev.beginEntry
  simp only [he, hm, hc, if_true, Option.map_none]
  rw [Dev.core_modCore_self]
  exact Core.entry?_matched hf (fun _ => by rfl) e.committed fun as => ⟨rfl, rfl, rfl⟩

/-- ENGINE_BEGIN sets the core's cycle counter before the engine's checks, which do not read it. -/
theorem engineBegin_entry? {cycle : Nat} {now : Time} (he : (d.core c).entry? id = some e) (hm : (d.advance now).mayBegin c e = true)
    (hc : (d.advance now).checkEntry c e = none) :
    ∃ e', ((engineBegin c id cycle now d).core c).entry? id = some e' ∧ e'.begun = true ∧ e'.beginCycle = cycle ∧ e'.done = none := by
  have h : (d.advance now).ScalarsOnly ((d.advance now).modCore c fun k =>
      if k.sc.cycle ≤ cycle then { k with sc := { k.sc with cycle := cycle, cycleAt := (d.advance now).time } } else k) :=
    .modCore _ _ fun k => by split <;> rfl
  refine Dev.beginEntry_entry? ?_ ((h.mayBegin c e).trans hm) ((h.checkEntry c e).trans hc)
  rw [Core.entry?_of_tiq_eq (h.tiq c), Dev.advance_core, he]

end Begins

/-! ### The oldest tentative entry commits (R202) -/

theorem Core.claim_tiq (k : Core) (e : TiqEntry) : (k.claim e).tiq = k.tiq := by
  unfold Core.claim
  split
  · rfl
  · rfl

theorem Core.commit_entry? {k : Core} {e : TiqEntry} (h : k.entry? e.id = some e) (now : Time) :
    ∃ e', (k.commit e now).entry? e.id = some e' ∧ e'.committed = true ∧ e'.done = e.done := by
  have hc : (k.claim e).entry? e.id = some e := (Core.entry?_of_tiq_eq (k.claim_tiq e) e.id).trans h
  refine Core.entry?_matched (k := { k.claim e with cnt := { (k.claim e).cnt with
    tileOps := (k.claim e).cnt.tileOps + 1, busy := (k.claim e).cnt.busy + e.busy } }) (f := fun e => { e with
    committed := true, progress := now, busy := 0 }) hc (fun _ => rfl) e.begun fun as => ⟨rfl, rfl⟩

theorem Core.commit_tx (k : Core) (e : TiqEntry) (now : Time) : (k.commit e now).tx = (k.claim e).tx := by
  unfold Core.commit
  dsimp only
  split
  · rw [Core.countMatch_tx]
    rfl
  · rfl

/-- A slot that an entry claims is zero and the entry's own. -/
theorem Core.claim_slot {k : Core} {e : TiqEntry} (h : e.slotNo < 16) :
    (k.claim e).tx.tcs.find? e.slotNo = some 0 ∧ (k.claim e).tx.owner.find? e.slotNo = some e.id := by
  unfold Core.claim
  rw [if_pos h]
  simp only [KMap.find?_set, if_true, and_self]

/-- The queue's entry of a number, if it is there, commits. -/
def Core.commitAt (k : Core) (id : Nat) (now : Time) : Core := match k.entry? id with
  | some e => k.commit e now
  | none => k

theorem Core.commitAt_eq {k : Core} {id : Nat} {e : TiqEntry} (h : k.entry? id = some e) (now : Time) : k.commitAt id now = k.commit e now := by
  rw [Core.commitAt, h]

section Commits
variable {d : Dev} {c : Nat} {e : TiqEntry} {ti : TInstr} (hi : e.instr = some ti) (hs : ∀ cr rs, ti ≠ .cset cr rs) (hd : e.done = none)
  (hr : e.recheck = false)
include hi hs hd hr

/-- An entry that checks nothing again and holds no outcome commits, and does no more. -/
theorem Dev.commitEntry_eq (he : (d.core c).entry? e.id = some e) : d.commitEntry c e = d.modCore c (·.commitAt e.id d.time) := by
  have hn : d.recheckEntry c e = d := by simp [Dev.recheckEntry, hr]
  have hg : (((d.modCore c (·.commitAt e.id d.time)).core c).entry? e.id).any (·.done.isSome) = false := by
    obtain ⟨e', h', -, hd'⟩ := Core.commit_entry? he d.time
    rw [Dev.core_modCore_self, Core.commitAt_eq he, h', Option.any_some, hd', hd]
    rfl
  unfold Dev.commitEntry
  rw [hi]
  dsimp only
  split
  · exact absurd rfl (hs _ _)
  · rw [hn]
    exact if_neg (Bool.eq_false_iff.1 hg)

/-- The oldest tentative entry commits when its core's program runs on and waits for nothing. -/
theorem tensorCommit_eq {r : Running} {now : Time} (hrun : (d.core c).run = some r) (hend : (d.core c).ending = none)
    (hw : (d.core c).sc.wait = none) (ho : (d.core c).tiq.find? (fun x => !x.committed) = some e) (he : (d.core c).entry? e.id = some e) :
    tensorCommit c now d = (d.advance now).modCore c (·.commitAt e.id (d.advance now).time) := by
  unfold tensorCommit
  simp only [Dev.advance_core, hrun, hend, hw, ho, Option.isSome_some, Option.isNone_none, Bool.and_true, if_true]
  exact Dev.commitEntry_eq hi hs hd hr (by rwa [Dev.advance_core])

end Commits

/-! ### A finished entry completes (R197) -/

section Completes
variable {d : Dev} {c id : Nat} {e : TiqEntry} {r : Completion}

/-- An entry that leaves is in its queue no longer. -/
theorem Core.leave_entry? (k : Core) (now : Time) : (k.leave id e r now).entry? id = none := by
  refine List.find?_eq_none.2 fun x hx => ?_
  simpa using (List.mem_filter.1 hx).2

theorem Dev.reported_entry? : ((d.reported c id e r).core c).entry? id = none := by
  obtain ⟨n, t, h⟩ := d.reported_core (c := c) (id := id) (e := e) (r := r)
  exact (Core.entry?_of_tiq_eq (k := { d.core c with cnt := n }.leave id e r t) (congrArg Core.tiq h :) id).trans (Core.leave_entry? _ t)

/-- An entry that owns its slot writes it, and its TCSX. -/
theorem Core.report_slot {k : Core} (hs : e.slotNo < 16) (ho : k.tx.owner.find? e.slotNo = some e.id) :
    (k.report e r).tx.tcs.find? e.slotNo = some (tcsWord e.unitCode r) ∧ (k.report e r).tx.tcsx.find? e.slotNo = some r.tcsx := by
  unfold Core.report
  simp only [hs, ho, decide_true, Bool.and_self, if_true]
  split <;> split <;> simp only [KMap.find?_set, if_true, and_self]

/-- A completion without a fault or consumed poison, of a core whose entry heads for no end, only reports. -/
theorem tensorComplete_eq_reported {now : Time} (he : (d.core c).entry? id = some e) (hk : e.committed = true) (hd : e.done = some r)
    (hc : r.cause = 0) (hp : r.consumed = false) (hend : (d.core c).ending = none) :
    tensorComplete c id now d = (d.advance now).reported c id e r := by
  have hn : (((d.advance now).reported c id e r).core c).ending = none := by
    obtain ⟨n, t, h⟩ := (d.advance now).reported_core (c := c) (id := id) (e := e) (r := r)
    refine (congrArg Core.ending h :).trans ?_
    rw [Dev.advance_core]
    exact hend
  rw [tensorComplete, Dev.completeEntry_eq (by rwa [Dev.advance_core]) hk hd, Dev.endsWith]
  simp only [hp, hc, Bool.false_eq_true, if_false, ne_eq, not_true_eq_false, decide_false, Bool.false_and]
  exact Dev.takeEnd_of_none hn

end Completes

/-- Settles O12: each step of an entry's life is reduced to its change of the core, and the entry and the slot are read off there. -/
theorem issueQueue : Obligations.IssueQueue := by
  unfold Obligations.IssueQueue
  refine ⟨?enter, ?begin, ?commit, ?complete⟩
  case enter =>
    intro p word now s hk hg
    refine Does.of_run (f := tiqEnter p word now) rfl ?_
    rw [Dev.retag_core, tiqEnter_of_enters hk hg, Dev.core_modCore_self]
    have h := (s.dev.afterProg p now).entering_latched p.core.val word
    rw [Dev.afterProg_nextId, Dev.afterProg_tx] at h
    simp only [TiqEntry.latched, Prod.mk.injEq] at h
    obtain ⟨hid, hword, htd, hf, hcom⟩ := h
    refine ⟨((s.dev.afterProg p now).entering p.core.val word).1, ?_, hid, hword, htd, hf, hcom, ?_⟩
    · rw [Dev.afterProg_tiq]
    · rw [Dev.afterProg_nextId]
  case begin =>
    intro core id cycle e now s he hm hc
    refine Does.of_run (f := engineBegin core.val id cycle now) rfl ?_
    rw [Dev.retag_core, Dev.retag_mem, (unitStep_engineBegin core.val id now s.dev cycle).mem]
    obtain ⟨e', h', hb, hy, hd⟩ := engineBegin_entry? he hm hc
    exact ⟨e', h', hb, hy, hd, rfl⟩
  case commit =>
    intro core e ti r now s hrun hend hw ho hi hs hd hr he hslot
    refine Does.of_run (f := tensorCommit core.val now) rfl ?_
    rw [Dev.retag_core, tensorCommit_eq hi (by rintro _ _ rfl; cases hs) hd hr hrun hend hw ho he, Dev.core_modCore_self, Dev.advance_core,
      Core.commitAt_eq he]
    obtain ⟨e', h', hk, -⟩ := Core.commit_entry? he (s.dev.advance now).time
    refine ⟨⟨e', h', hk⟩, ?_⟩
    rw [Core.commit_tx]
    exact Core.claim_slot hslot
  case complete =>
    intro core id e r now s he hk hd hc hp hend hslot ho
    refine Does.of_run (f := tensorComplete core.val id now) rfl ?_
    rw [Dev.retag_core, tensorComplete_eq_reported he hk hd hc hp hend, Dev.reported_tx, Dev.advance_core]
    obtain ⟨htcs, htcsx⟩ := Core.report_slot (r := r) hslot ho
    refine ⟨Dev.reported_entry?, htcs, htcsx, ?_⟩
    rw [Core.report_txfault, if_pos hc]

end Sys2Proof.Machine
end

section
/-!
The engines: reads and writes of operands change no scalar register and no descriptor of any core, no rig, and nothing of coherence, power,
security, bring-up or configuration (R73, R74, R102).
-/
namespace Sys2Proof.Machine

/-! ### What the engines keep -/

/-- The scalar registers and descriptors of every core, coherence, rigs, power, security, bring-up and configuration. -/
def Dev.engineView (d : Dev) :
    (Nat → KMap Word × KMap (BitVec 32) × BitVec 8 × KMap (BitVec 128)) × CohState × KMap Rig × PowerState × Security × BringUp × ConfigState :=
  (fun i => (d.core i).regs, d.coh, d.rigs, d.power, d.sec, d.boot, d.cfg)

theorem Dev.engineView_of_rest {d d' : Dev} (hr : ∀ i, (d'.core i).regs = (d.core i).regs) (ho : d'.outside = d.outside) (hg : d'.rigs = d.rigs) :
    d'.engineView = d.engineView := by
  simp only [Dev.outside, Prod.mk.injEq] at ho
  obtain ⟨-, hcoh, -, -, hpower, hsec, -, hboot, hcfg, -, -⟩ := ho
  simp only [Dev.engineView, hr, hcoh, hg, hpower, hsec, hboot, hcfg]

/-- A unit at work within its core keeps the view. -/
theorem Dev.UnitStep.engineView {c : Nat} {d d' : Dev} (h : d.UnitStep c d') : d'.engineView = d.engineView := by
  refine Dev.engineView_of_rest (fun i => ?_) h.outside h.rigs
  by_cases hi : i = c
  · rw [hi, h.regs]
  · rw [h.others i hi]

theorem Dev.modCore_engineView (d : Dev) (c : Nat) {f : Core → Core} (hf : ∀ k, (f k).regs = k.regs) : (d.modCore c f).engineView = d.engineView :=
  (Dev.unitStep_modCore hf).engineView

section Views
variable (d : Dev) (c : Nat) (who : Accessor)

@[simp] theorem Dev.advance_engineView (now : Time) : (d.advance now).engineView = d.engineView := (Dev.unitStep_advance (c := 0) now).engineView
@[simp] theorem Dev.working_engineView (id : Nat) : (d.working c id).1.engineView = d.engineView := (Dev.unitStep_working id).engineView
@[simp] theorem Dev.finish_engineView (id : Nat) (r : Completion) : (d.finish c id r).engineView = d.engineView :=
  (Dev.unitStep_finish id r).engineView
@[simp] theorem Dev.failEntry_engineView (e : TiqEntry) (cause : Cause) : (d.failEntry c e cause).engineView = d.engineView :=
  (Dev.unitStep_failEntry e cause).engineView
@[simp] theorem Dev.walkNotice_engineView (f : Finding) : (d.walkNotice who f).engineView = d.engineView :=
  (Dev.unitStep_walkNotice (c := 0) who f).engineView
@[simp] theorem Dev.eccHeld_nil_engineView (id : Nat) : (d.eccHeld c id []).engineView = d.engineView := (Dev.unitStep_eccHeld_nil id).engineView

/-- A change of one queue entry touches no register. -/
@[simp] theorem Dev.modEntry_engineView (id : Nat) (f : TiqEntry → TiqEntry) : (d.modCore c (fun k => k.modEntry id f)).engineView = d.engineView :=
  d.modCore_engineView c fun _ => by rfl

@[simp] theorem Dev.spend_engineView (id n : Nat) : (d.modCore c (fun k => k.spend id n)).engineView = d.engineView :=
  d.modCore_engineView c fun k => k.spend_regs id n

/-! Reads (R74) -/

/-- What the read of one bead keeps, the reads of several keep. -/
theorem readEach_keeps {α : Type} (g : Dev → α) {read : Dev → Accessor → Desc → Nat → Dev × Except Cause BeadVal} {x : Desc}
    (h : ∀ d b, g (read d who x b).1 = g d) (bs : List Nat) (d : Dev) (m : KMap BeadVal) : g (readEach read who x bs d m).1 = g d := by
  induction bs generalizing d m with
  | nil => rfl
  | cons b bs ih =>
    rw [← h d b, readEach]
    split
    · next hb => rw [hb]
    · next hb => rw [hb, ih]

theorem Dev.readBead_engineView (x : Desc) (b : Nat) : (d.readBead who x b).1.engineView = d.engineView := by
  rw [Dev.readBead]
  split
  · rfl
  · split
    · exact foldl_keeps Dev.engineView (fun d (p : Nat × Nat) => d.poison p.1 p.2) (fun _ _ => rfl) _ _
    · rfl

@[simp] theorem Dev.readBeads_engineView (x : Desc) (bs : List Nat) (m : KMap BeadVal) : (d.readBeads who x bs m).1.engineView = d.engineView := by
  rw [readBeads_eq_readEach]
  exact readEach_keeps who Dev.engineView (fun d b => d.readBead_engineView who x b) bs d m

@[simp] theorem Dev.readAll_engineView (ps : List (Desc × List Nat)) : (d.readAll who ps).1.engineView = d.engineView := by
  induction ps generalizing d with
  | nil => rfl
  | cons p ps ih =>
    unfold Dev.readAll
    dsimp only
    split
    · exact d.readBeads_engineView who p.1 p.2 []
    · rw [ih, Dev.readBeads_engineView]

/-! Writes (R73, R102) -/

/-- A write drops reservations and touches no register. -/
theorem Dev.breakResv_regs (a n i : Nat) : ((d.breakResv a n).get {} i).regs = (d.core i).regs := by
  unfold Dev.breakResv
  refine KMap.get_mapv_keeps (P := fun k : Core => k.regs = (d.core i).regs) (fun _ k hk => ?_) rfl
  split
  · split
    · exact hk
    · exact hk
  · exact hk

/-- A change of memory that drops reservations. -/
theorem Dev.engineView_breakResv (a n : Nat) (m : MemState) :
    ({ d with cores := d.breakResv a n, mem := m } : Dev).hubTrim.engineView = d.engineView := by
  have hr (i : Nat) : (({ d with cores := d.breakResv a n, mem := m } : Dev).core i).regs = (d.core i).regs := d.breakResv_regs a n i
  simp only [Dev.engineView, Dev.core, Dev.hubTrim_cores, Dev.hubTrim_coh, Dev.hubTrim_rigs, Dev.hubTrim_power, Dev.hubTrim_sec,
    Dev.hubTrim_boot, Dev.hubTrim_cfg]
  exact congrArg (fun f => (f, d.coh, d.rigs, d.power, d.sec, d.boot, d.cfg)) (funext hr)

@[simp] theorem Dev.writePlain_engineView (a : Nat) (bs : List Byte) (clears poison : Bool) :
    (d.writePlain a bs clears poison).engineView = d.engineView := by
  unfold Dev.writePlain
  split
  · rfl
  · exact d.engineView_breakResv ..

@[simp] theorem Dev.writeBead_engineView (a : Nat) (bytes : List Byte) (sb : Sideband) (poison : Bool) :
    (d.writeBead a bytes sb poison).engineView = d.engineView :=
  d.engineView_breakResv ..

@[simp] theorem Dev.writeVa_engineView (va : Nat) (bs : List Byte) (clears poison : Bool) :
    (d.writeVa who va bs clears poison).engineView = d.engineView :=
  foldl_fst_keeps Dev.engineView _ (fun s _ => s.1.writePlain_engineView ..) _ _

@[simp] theorem Dev.writeBeadVa_engineView (va : Nat) (bytes : List Byte) (sb : Sideband) (poison : Bool) :
    (d.writeBeadVa who va bytes sb poison).engineView = d.engineView := by
  unfold Dev.writeBeadVa
  split
  · exact d.writeBead_engineView ..
  · exact d.writeVa_engineView ..

theorem Dev.foldl_poison_engineView {β : Type} (a n : Dev → β → Nat) (l : List β) :
    (l.foldl (fun d p => d.poison (a d p) (n d p)) d).engineView = d.engineView :=
  foldl_keeps Dev.engineView (fun d p => d.poison (a d p) (n d p)) (fun _ _ => rfl) l d

theorem Dev.event_engineView (p : Nat) : (d.event p).engineView = d.engineView := rfl

/-- A bead that lands changes arm records, or their overruns, besides what its write changes. -/
theorem Dev.landWith_engineView (a : Nat) (sb : Sideband) {w : Dev → Dev} (hw : (w d).engineView = d.engineView) :
    (d.landWith a sb w).1.engineView = d.engineView := by
  refine iteInduction (motive := fun r : Dev × Cause => r.1.engineView = d.engineView) (fun _ => rfl) fun _ => ?_
  split
  · exact hw
  · next c i p _ =>
    dsimp only
    split
    · rfl
    · split
      · exact d.modCore_engineView c fun _ => by rfl
      · have landed {f : Core → Core} (hf : ∀ k, (f k).regs = k.regs) : ((w d).modCore c f).engineView = d.engineView :=
          (Dev.modCore_engineView _ c hf).trans hw
        split
        · rw [Dev.event_engineView]
          exact landed fun _ => by rfl
        · exact landed fun _ => by rfl

@[simp] theorem Dev.putBytes_engineView (va : Nat) (bytes : List Byte) (sb : Sideband) (poison : Bool) (keep : List Nat) :
    (d.putBytes who va bytes sb poison keep).1.engineView = d.engineView := by
  refine d.landWith_engineView _ _ ?_
  exact (Dev.foldl_poison_engineView _ _ _ _).trans (d.writeBeadVa_engineView who ..)

@[simp] theorem Dev.putBead_engineView (x : Desc) (b : Nat) (codes scales : List Nat) (poison : Bool) (keep : List Nat) :
    (d.putBead who x b codes scales poison keep).1.engineView = d.engineView := d.putBytes_engineView who ..

@[simp] theorem Dev.mergePut_engineView (x : Desc) (b : Nat) (newc news : Nat → Option Nat) (poison : Bool) :
    (d.mergePut who x b newc news poison).1.engineView = d.engineView := d.putBead_engineView who ..

end Views

/-! ### The matrix engine -/

section Matrix
variable (d : Dev) (c : Nat)

theorem Dev.endPass_engineView (e : TiqEntry) (u : Mma) : (d.endPass c e u).engineView = d.engineView := by
  unfold Dev.endPass
  dsimp only
  rw [Dev.finish_engineView]
  refine (Dev.modCore_engineView _ c ?_).trans ?_
  · exact fun _ => rfl
  · rfl

/-- A group that is run is read, and its entry takes its sums. -/
theorem Dev.runGroup_engineView (e : TiqEntry) (u : Mma) : (d.runGroup c e u).engineView = d.engineView := by
  unfold Dev.runGroup
  dsimp only
  split
  · rfl
  · split
    · rw [Dev.failEntry_engineView, Dev.readAll_engineView]
    · refine (Dev.modCore_engineView _ c fun k => ?_).trans (d.readAll_engineView ..)
      rw [Core.modEntry_regs, Core.spend_regs]

theorem Dev.runGroups_engineView (id : Nat) (u : Mma) (n : Nat) : (d.runGroups c id u n).engineView = d.engineView := by
  induction n generalizing d with
  | zero => rfl
  | succ n ih =>
    unfold Dev.runGroups
    split
    · split
      · rw [ih, Dev.runGroup_engineView]
      · rfl
    · rfl

@[simp] theorem Dev.putTile_engineView (out : Desc) (rows : List OutRow) (poison : Bool) : (d.putTile c out rows poison).1.engineView = d.engineView := by
  unfold Dev.putTile
  refine foldl_fst_keeps Dev.engineView _ (fun s b => ?_) _ _
  dsimp only
  rw [Dev.mergePut_engineView]

@[simp] theorem Dev.putStats_engineView (ch : BitVec 1024) (x : Desc) (rows : List OutRow) (m : Nat) (poison : Bool) :
    (d.putStats c ch x rows m poison).1.engineView = d.engineView := by
  unfold Dev.putStats
  split
  · rfl
  · refine foldl_fst_keeps Dev.engineView _ (fun s b => ?_) _ _
    dsimp only
    rw [Dev.mergePut_engineView]

/-- A close reads, writes its tile and its statistics, and sets the records of its group. -/
theorem Dev.runClose_engineView (e : TiqEntry) (u : Mma) : (d.runClose c e u).engineView = d.engineView := by
  unfold Dev.runClose
  dsimp only
  split
  · rw [Dev.failEntry_engineView, Dev.readAll_engineView]
  · rw [Dev.finish_engineView]
    refine (Dev.modCore_engineView _ c fun k => ?_).trans ?_
    · rw [Core.modEntry_regs]
      split
      · rfl
      · rfl
    · split
      · rw [Dev.putStats_engineView, Dev.putTile_engineView, Dev.readAll_engineView]
      · rw [Dev.putTile_engineView, Dev.readAll_engineView]

theorem Dev.takeClose_engineView (id : Nat) : (d.takeClose c id).engineView = d.engineView := by
  unfold Dev.takeClose
  split
  · split
    · split
      · exact d.runClose_engineView ..
      · rfl
    · rfl
  · rfl

theorem Dev.endMma_engineView (id : Nat) : (d.endMma c id).engineView = d.engineView := by
  unfold Dev.endMma
  split
  · split
    · split
      · rfl
      · split
        · exact d.endPass_engineView ..
        · split
          · exact d.takeClose_engineView ..
          · split
            · rw [Dev.takeClose_engineView, Dev.modEntry_engineView]
            · rfl
    · rfl
  · rfl

theorem Dev.mmaRun_engineView (id mode : Nat) : (d.mmaRun c id mode).engineView = d.engineView := by
  unfold Dev.mmaRun
  dsimp only
  split
  · split
    · split
      · rw [Dev.endMma_engineView, Dev.runGroups_engineView, Dev.working_engineView]
      · rfl
    · rfl
  · rfl

end Matrix

end Sys2Proof.Machine
end

section
/-!
The vector engine, the data mover, DIGEST, SEND and RECV at work (R157, R173, R179, R180, R222 to R224, R235), and the frame of programs and
engines (R190, R193, R199, R202, R226, R227, R233, R236).
-/
namespace Sys2Proof.Machine

/-! ### The vector engine -/

section Vector
variable (d : Dev) (c : Nat)

@[simp] theorem Dev.vEnd_engineView (e : TiqEntry) (cause : Cause) (tcsx : Word) : (d.vEnd c e cause tcsx).engineView = d.engineView :=
  d.finish_engineView c ..

@[simp] theorem Dev.vFormed_engineView (id : Nat) (reads : Reads) (special : Option (Nat × Ext × Bool)) :
    (d.vFormed c id reads special).engineView = d.engineView := d.modEntry_engineView c ..

theorem Dev.vGather_engineView (e : TiqEntry) (o : VOp) (b : Nat) (draws : List (Desc × List Nat)) :
    (d.vGather c e o b draws).1.engineView = d.engineView := by
  cases o with
  | run u => exact d.readAll_engineView ..
  | pack u => exact d.readAll_engineView ..

/-- A formed bead goes to its destination, then to its residuals, then its mask bits are written. -/
theorem Dev.vrunWrite_engineView (e : TiqEntry) (u : VRun) (b : Nat) (v : VBead × VecOps) (poison : Bool) :
    (d.vrunWrite c e u b v poison).1.engineView = d.engineView := by
  unfold Dev.vrunWrite
  extract_lets who resReg putRes mask putMask zeros old w put special
  have hRes (d : Dev) (n : Nat) (r : Option (List Nat)) : (putRes d n r).engineView = d.engineView := by
    dsimp only [putRes]
    split
    · rfl
    · split
      · rw [Dev.foldl_poison_engineView]
      · split
        · exact d.mergePut_engineView ..
        · rfl
  have hMask (d : Dev) : (putMask d).engineView = d.engineView := by
    dsimp only [putMask]
    split
    · rfl
    · split
      · exact d.writeVa_engineView ..
      · exact d.writeVa_engineView ..
  have hPut : put.1.engineView = d.engineView := by
    dsimp only [put]
    split
    · rfl
    · split
      · exact d.putBead_engineView ..
      · split
        · exact d.putBead_engineView ..
        · split
          · exact d.putBead_engineView ..
          · exact d.putBead_engineView ..
  exact (hMask _).trans ((hRes ..).trans ((hRes ..).trans hPut))

theorem Dev.vrunBead_engineView (e : TiqEntry) (u : VRun) (b : Nat) (g : Staging) : (d.vrunBead c e u b g).engineView = d.engineView := by
  unfold Dev.vrunBead
  dsimp only
  split
  · rw [Dev.vEnd_engineView, Dev.vFormed_engineView, Dev.vrunWrite_engineView]
  · rw [Dev.vFormed_engineView, Dev.vrunWrite_engineView]

theorem Dev.packBead_engineView (e : TiqEntry) (u : VPack) (b : Nat) (g : Staging) : (d.packBead c e u b g).engineView = d.engineView := by
  unfold Dev.packBead
  extract_lets who ms code fillCode old en other dense codes codes' w reads formed
  have hw : w.1.engineView = d.engineView := by
    dsimp only [w]
    split
    · exact d.putBead_engineView ..
    · split
      · exact d.putBead_engineView ..
      · exact d.putBead_engineView ..
  have hf : formed.engineView = d.engineView := (w.1.vFormed_engineView c ..).trans hw
  split
  · rw [Dev.vEnd_engineView, hf]
  · exact hf

theorem Dev.putMap_engineView (e : TiqEntry) (u : VPack) : (d.putMap c e u).engineView = d.engineView := by
  unfold Dev.putMap
  dsimp only
  split
  · exact d.writeVa_engineView ..
  · rw [Dev.foldl_poison_engineView]
    exact d.writeVa_engineView ..

/-- The next output bead: read, or taken from staging, and then held or written. -/
theorem Dev.vBead_engineView (e : TiqEntry) (o : VOp) (b : Nat) (draws : List (Desc × List Nat)) :
    (d.vBead c e o b draws).engineView = d.engineView := by
  unfold Dev.vBead
  extract_lets g r
  have hr : r.1.engineView = d.engineView := by
    dsimp only [r, g]
    split
    · rfl
    · rw [Dev.spend_engineView, Dev.vGather_engineView]
  split
  · rw [Dev.vEnd_engineView, hr]
  · split
    · rw [Dev.modEntry_engineView, hr]
    · split
      · rw [Dev.vrunBead_engineView, hr]
      · rw [Dev.packBead_engineView, hr]

theorem Dev.vStep_engineView (e : TiqEntry) (o : VOp) : (d.vStep c e o).engineView = d.engineView := by
  unfold Dev.vStep
  split
  case h_1 => rfl
  case h_2 =>
    split
    · exact d.modEntry_engineView c ..
    · rfl
  case h_3 cause tcsx f _ =>
    split
    · rfl
    · extract_lets d1
      have h1 : d1.engineView = d.engineView := by
        dsimp only [d1]
        split
        · exact d.walkNotice_engineView ..
        · rfl
      split
      · next u =>
        extract_lets d2 d3
        have h2 : d2.engineView = d.engineView := by
          dsimp only [d2]
          split
          · rw [Dev.spend_engineView, h1]
          · exact h1
        have h3 : d3.engineView = d.engineView := by
          dsimp only [d3]
          split
          · rw [Dev.putMap_engineView, h2]
          · exact h2
        rw [Dev.vEnd_engineView, h3]
      · rw [Dev.vEnd_engineView, h1]
  case h_4 =>
    split
    · rfl
    · exact d.vBead_engineView ..

theorem Dev.vSteps_engineView (id : Nat) (o : VOp) (n : Nat) : (d.vSteps c id o n).engineView = d.engineView := by
  induction n generalizing d with
  | zero => rfl
  | succ n ih =>
    unfold Dev.vSteps
    split
    · split
      · rfl
      · split
        · split
          · rw [ih, Dev.vStep_engineView]
          · rfl
        · split
          · rw [ih, Dev.vStep_engineView]
          · rfl
        · exact d.vStep_engineView ..
    · rfl

theorem Dev.vectorRun_engineView (id : Nat) (sel : VOp → Bool) : (d.vectorRun c id sel).engineView = d.engineView := by
  unfold Dev.vectorRun
  dsimp only
  split
  · split
    · split
      · rw [Dev.vSteps_engineView, Dev.working_engineView]
      · rfl
    · rfl
  · rfl

end Vector

/-! ### The data mover -/

section Mover
variable (d : Dev) (c : Nat) (who : Accessor)

@[simp] theorem Dev.readSource_engineView (s : Desc) (have' : KMap BeadVal) (limit : Option Nat) :
    (d.readSource who s have' limit).1.engineView = d.engineView := by
  unfold Dev.readSource
  dsimp only
  split
  · rfl
  · exact d.readBeads_engineView ..

theorem Dev.moveBead_engineView (s x : Desc) (ms : KMap BeadVal) (b : Nat) : (d.moveBead who s x ms b).1.engineView = d.engineView := by
  unfold Dev.moveBead
  split
  · rfl
  · exact d.putBytes_engineView ..

theorem Dev.formBead_engineView (s x : Desc) (ms : KMap BeadVal) (b : Nat) : (d.formBead who s x ms b).1.engineView = d.engineView :=
  d.putBead_engineView ..

theorem Dev.putRow_engineView (s x : Desc) (ms : KMap BeadVal) (r : Nat) : (d.putRow who s x ms r).engineView = d.engineView := by
  unfold Dev.putRow
  dsimp only
  rw [Dev.foldl_poison_engineView, Dev.writeVa_engineView]

@[simp] theorem Dev.putCopy_engineView (s x : Desc) (ms : KMap BeadVal) : (d.putCopy who s x ms).1.engineView = d.engineView := by
  unfold Dev.putCopy
  split
  · exact foldl_keeps Dev.engineView _ (fun d r => d.putRow_engineView ..) _ _
  · refine foldl_fst_keeps Dev.engineView _ (fun p b => ?_) _ _
    dsimp only
    split
    · exact p.1.moveBead_engineView ..
    · exact p.1.formBead_engineView ..

theorem Dev.copy_engineView (e : TiqEntry) (tdd tds : Nat) : (d.copy c e tdd tds).engineView = d.engineView := by
  unfold Dev.copy
  dsimp only
  split
  · rw [Dev.finish_engineView, Dev.readSource_engineView]
  · rw [Dev.finish_engineView, Dev.modEntry_engineView, Dev.putCopy_engineView, Dev.readSource_engineView]

theorem Dev.copyStage_engineView (e : TiqEntry) (tds : Nat) : (d.copyStage c e tds).engineView = d.engineView := by
  unfold Dev.copyStage
  dsimp only
  split
  · rw [Dev.finish_engineView, Dev.readSource_engineView]
  · rw [Dev.modEntry_engineView, Dev.readSource_engineView]

/-- Whether the errors of the reads alone have come of a command's effect, or nothing has. -/
def Dev.ErrsOnly (c id : Nat) (errs : List EccEvent) (d d' : Dev) : Prop := d'.engineView = (d.eccHeld c id errs).engineView ∨ d' = d

/-- A copy of one kind changes the view by the errors of its reads alone. -/
theorem Dev.copyRun_errsOnly (id : Nat) (errs : List EccEvent) (sel : TInstr → Option (Nat × Nat)) :
    d.ErrsOnly c id errs (d.copyRun c id errs sel) := by
  have hw : ((d.eccHeld c id errs).working c id).1.engineView = (d.eccHeld c id errs).engineView := Dev.working_engineView ..
  unfold Dev.copyRun
  dsimp only
  split
  · split
    · refine .inl ?_
      split
      · exact hw
      · split
        · split
          · rw [Dev.copy_engineView, hw]
          · exact hw
        · split
          · rw [Dev.copyStage_engineView, hw]
          · exact hw
    · exact .inr rfl
  · exact .inr rfl

end Mover

/-! ### DIGEST, SEND and RECV -/

section Transfers
variable (d : Dev) (c id : Nat)

theorem Dev.digestRun_errsOnly (errs : List EccEvent) (useAcc : Bool) : d.ErrsOnly c id errs (d.digestRun c id errs useAcc) := by
  have hw : ((d.eccHeld c id errs).working c id).1.engineView = (d.eccHeld c id errs).engineView := Dev.working_engineView ..
  unfold Dev.digestRun
  dsimp only
  split
  · exact .inl hw
  · split
    · split
      · exact .inr rfl
      · refine .inl ?_
        split
        · exact hw
        · split
          · rw [Dev.finish_engineView, Dev.readBeads_engineView, hw]
          · rw [Dev.finish_engineView]
            split
            · refine (Dev.writeVa_engineView ..).trans ?_
              rw [Dev.modEntry_engineView, Dev.readBeads_engineView, hw]
            · rw [Dev.writeVa_engineView, Dev.modEntry_engineView, Dev.readBeads_engineView, hw]
    · exact .inr rfl

theorem Dev.foldl_egress_engineView {β : Type} (p : β → Packet) (o : Owner) (l : List β) :
    (l.foldl (fun d b => d.egress (p b) o) d).engineView = d.engineView :=
  foldl_keeps Dev.engineView (fun d b => d.egress (p b) o) (fun _ _ => rfl) l d

theorem Dev.streamUse_engineView (sid : Nat) : (d.streamUse sid).engineView = d.engineView := rfl

/-- SEND reads its beads and hands them to the egress. -/
theorem send_errsOnly (errs : List EccEvent) (now : Time) :
    Dev.ErrsOnly c id errs (d.advance now) (send c id errs now d) ∨ send c id errs now d = d := by
  have hw : (((d.advance now).eccHeld c id errs).working c id).1.engineView = ((d.advance now).eccHeld c id errs).engineView :=
    Dev.working_engineView ..
  unfold send
  dsimp only
  split
  · exact .inl (.inl hw)
  · split
    · refine .inl (.inl ?_)
      split
      · exact hw
      · split
        · rw [Dev.finish_engineView, Dev.readBeads_engineView, hw]
        · rw [Dev.foldl_egress_engineView _ fun p => p, Dev.modEntry_engineView, Dev.streamUse_engineView, Dev.readBeads_engineView, hw]
    · exact .inr rfl

theorem recv_engineView (now : Time) : (recv c id now d).engineView = d.engineView := by
  have hw : ((d.advance now).working c id).1.engineView = d.engineView := by rw [Dev.working_engineView, Dev.advance_engineView]
  unfold recv
  dsimp only
  split
  · exact hw
  · split
    · split
      · exact hw
      · refine (foldl_keeps Dev.engineView _ (fun _ _ => by rfl) _ _).trans ?_
        rw [Dev.modEntry_engineView, Dev.streamUse_engineView]
        exact hw
    · rfl

end Transfers

end Sys2Proof.Machine
end

section
/-!
Memory errors that reads meet change nothing of power, bring-up and configuration (R445 to R456), and the frame of programs and engines (R190,
R193, R199, R202, R226, R227, R233, R236).
-/
namespace Sys2Proof.Machine

/-! ### Memory errors keep power, bring-up and configuration -/

/-- Power, bring-up and configuration. -/
def Dev.settings (d : Dev) : PowerState × BringUp × ConfigState := (d.power, d.boot, d.cfg)

theorem Dev.settings_of_engineView {d d' : Dev} (h : d'.engineView = d.engineView) : d'.settings = d.settings := by
  simp only [Dev.engineView, Prod.mk.injEq] at h
  obtain ⟨-, -, -, hpower, -, hboot, hcfg⟩ := h
  simp only [Dev.settings, hpower, hboot, hcfg]

theorem Dev.Within.settings {c : Nat} {d d' : Dev} (h : d.Within c d') : d'.settings = d.settings := by
  have ho := h.outside
  simp only [Dev.outside, Prod.mk.injEq] at ho
  obtain ⟨-, -, -, -, hpower, -, -, hboot, hcfg, -, -⟩ := ho
  simp only [Dev.settings, hpower, hboot, hcfg]

section Settings
variable (d : Dev)

theorem Dev.withRel_settings (x : Reliability) : ({ d with rel := x } : Dev).settings = d.settings := rfl
theorem Dev.withPkg_settings (x : Package) : ({ d with pkg := x } : Dev).settings = d.settings := rfl
theorem Dev.modCore_settings (c : Nat) (f : Core → Core) : (d.modCore c f).settings = d.settings := rfl
theorem Dev.modRig_settings (i : Nat) (f : Rig → Rig) : (d.modRig i f).settings = d.settings := rfl
theorem Dev.pruneOnPkg_settings : d.pruneOnPkg.settings = d.settings := rfl
theorem Dev.settleAll_settings : d.settleAll.settings = d.settings := by simp [Dev.settings]
theorem Dev.notice_settings (x : Cause) (k a b : Nat) : (d.notice x k a b).settings = d.settings := by simp [Dev.settings]

/-! A core that retires -/

theorem Dev.unmapDone_settings (l : Leaving) : (d.unmapDone l).settings = d.settings := by
  have h : (d.setPte l.entry 0).settings = d.settings := Dev.settings_of_engineView (d.writePlain_engineView ..)
  unfold Dev.unmapDone
  dsimp only
  split
  · refine Eq.trans ?_ h
    simp [Dev.settings]
  · refine Eq.trans ?_ h
    simp [Dev.settings, Dev.dropPage]

theorem Dev.unmapAgain_settings : d.unmapAgain.settings = d.settings := foldl_keeps Dev.settings Dev.unmapDone Dev.unmapDone_settings _ _

theorem Dev.streamDone_settings (i : Nat) : (d.streamDone i).settings = d.settings := by
  unfold Dev.streamDone
  split
  · rfl
  · split
    · rfl
    · rfl

theorem Dev.dropWaiting_settings (c : Nat) (x : Cause) : (d.dropWaiting c x).settings = d.settings :=
  foldl_keeps Dev.settings _ (by intros; rfl) _ _

theorem Dev.dropWith_settings (c : Nat) (e : Ending) : (d.dropWith c e).settings = d.settings := by
  unfold Dev.dropWith
  rw [Dev.unmapAgain_settings, (Dev.within_endEntry (c := c) _ e).settings]
  exact foldl_keeps Dev.settings _ (fun d (x : TiqEntry) => d.streamDone_settings x.stream) _ _

theorem Dev.dropEntry_settings (c : Nat) (x : Cause) : (d.dropEntry c x).settings = d.settings := by
  rw [Dev.dropEntry, Dev.dropWith_settings, Dev.dropWaiting_settings]

theorem Dev.offlineCore_settings (c : Nat) (x : Cause) : (d.offlineCore c x).settings = d.settings := by
  unfold Dev.offlineCore
  dsimp only
  rw [Dev.pruneOnPkg_settings, Dev.modRig_settings, Dev.modCore_settings, Dev.withPkg_settings, Dev.dropEntry_settings, Dev.settleAll_settings]

/-! Recoveries -/

theorem Dev.detect_settings (f : Recovery) : (d.detect f).settings = d.settings := by
  unfold Dev.detect
  split
  · rfl
  · split
    · exact Dev.notice_settings ..
    · split
      · rfl
      · exact Dev.notice_settings ..

theorem Dev.retireCore_settings (c : Nat) (x : Cause) : (d.retireCore c x).settings = d.settings := by
  unfold Dev.retireCore
  split
  · rfl
  · rw [Dev.detect_settings, Dev.offlineCore_settings]

theorem Dev.permanent_settings (r : Recovery) : (d.permanent r).settings = d.settings := by
  unfold Dev.permanent
  split
  · rfl
  · split
    · exact d.retireCore_settings ..
    · exact d.detect_settings ..

/-! Errors found by reads -/

theorem Dev.transient_settings (s : EccSite) : (d.transient s).settings = d.settings := by
  unfold Dev.transient
  dsimp only
  split
  · exact Dev.permanent_settings ..
  · rfl

theorem Dev.relCount_settings (i n : Nat) : (d.relCount i n).settings = d.settings := rfl

theorem Dev.eccTransients_settings (s : EccSite) (n : Nat) : (d.eccTransients s n).settings = d.settings :=
  foldl_keeps Dev.settings _ (fun d _ => d.transient_settings s) _ _

theorem Dev.eccPoison_settings (s : EccSite) : (d.eccPoison s).settings = d.settings := by
  cases s with
  | mem a => rfl
  | hub b a => rfl
  | lds c off => rfl
  | side b => rfl

variable {d} in
theorem Dev.settings_ite {p : Prop} [Decidable p] {a b : Dev} (ha : a.settings = d.settings) (hb : b.settings = d.settings) :
    (if p then a else b).settings = d.settings := by
  split
  · exact ha
  · exact hb

theorem Dev.eccSeen_settings (e : EccEvent) : (d.eccSeen e).settings = d.settings := by
  unfold Dev.eccSeen
  split
  case h_1 => exact d.transient_settings _
  case h_2 =>
    refine Dev.settings_ite (Dev.settings_ite ?_ ?_) ?_
    · rw [Dev.permanent_settings, Dev.withRel_settings, Dev.relCount_settings]
    · rw [Dev.withRel_settings, Dev.relCount_settings]
    · rw [Dev.relCount_settings]
  case h_3 => exact Dev.settings_ite ((Dev.permanent_settings ..).trans (d.transient_settings _)) (d.transient_settings _)
  case h_4 => exact (Dev.eccTransients_settings ..).trans (Dev.settings_ite (d.relCount_settings ..) rfl)
  case h_5 =>
    extract_lets ch d1 d2 d3 r3 d4 a ts r4 d5
    have h1 : d1.settings = d.settings := Dev.settings_ite rfl (d.relCount_settings ..)
    have h3 : d3.settings = d.settings := (Dev.eccPoison_settings ..).trans ((Dev.eccTransients_settings ..).trans h1)
    have h4 : d4.settings = d.settings := Dev.settings_ite h3 h3
    have h5 : d5.settings = d.settings := h4
    exact Dev.settings_ite (Dev.settings_ite ((Dev.permanent_settings ..).trans h5) h5) h4

/-- Errors that a tensor instruction's reads meet. -/
theorem Dev.eccHeld_settings (c id : Nat) (errs : List EccEvent) : (d.eccHeld c id errs).settings = d.settings :=
  foldl_keeps Dev.settings Dev.eccSeen Dev.eccSeen_settings errs _

end Settings

/-! ### The frame of programs and engines -/

/-- What the engines keep, at one core: its scalar registers and descriptors, coherence, rigs, power, security, bring-up and configuration. -/
def Dev.keptAt (k : Nat) (d : Dev) :
    KMap Word × KMap (BitVec 32) × BitVec 8 × KMap (BitVec 128) × CohState × KMap Rig × PowerState × Security × BringUp × ConfigState :=
  ((d.core k).sc.x, (d.core k).sc.f, (d.core k).sc.fcsr, (d.core k).tx.td, d.coh, d.rigs, d.power, d.sec, d.boot, d.cfg)

theorem Dev.keptAt_of_engineView {d d' : Dev} (h : d'.engineView = d.engineView) (k : Nat) : d'.keptAt k = d.keptAt k := by
  simp only [Dev.engineView, Prod.mk.injEq] at h
  obtain ⟨hr, hcoh, hrigs, hpower, hsec, hboot, hcfg⟩ := h
  have hk := congrFun hr k
  simp only [Core.regs, Prod.mk.injEq] at hk
  obtain ⟨hx, hf, hfcsr, htd⟩ := hk
  simp only [Dev.keptAt, hx, hf, hfcsr, htd, hcoh, hrigs, hpower, hsec, hboot, hcfg]

/-- A command whose effect keeps the engines' view keeps its parts, at each core. -/
theorem Keeps.of_engineView {cmd : Instr} {f : Dev → Dev} (hc : ∀ s, exec cmd s = s.run f) (hf : ∀ d : Dev, (f d).engineView = d.engineView)
    (k : Nat) : Keeps cmd (Dev.keptAt k) :=
  Keeps.of_run hc fun d => Dev.keptAt_of_engineView (hf d) k

theorem Keeps.of_settings {cmd : Instr} {f : Dev → Dev} (hc : ∀ s, exec cmd s = s.run f) (hf : ∀ d : Dev, (f d).settings = d.settings) :
    Keeps cmd (fun d => (d.power, d.boot, d.cfg)) :=
  Keeps.of_run hc hf

namespace Dev.ErrsOnly
variable {c id : Nat} {errs : List EccEvent} {d d' : Dev}

/-- Whatever errors the reads met, power, bring-up and configuration stand. -/
theorem settings (h : d.ErrsOnly c id errs d') : d'.settings = d.settings := by
  rcases h with h | h
  · rw [Dev.settings_of_engineView h, Dev.eccHeld_settings]
  · rw [h]

/-- Where the reads met no error, nothing of the view has changed. -/
theorem engineView (h : d.ErrsOnly c id [] d') : d'.engineView = d.engineView := by
  rcases h with h | h
  · rw [h, Dev.eccHeld_nil_engineView]
  · rw [h]

end Dev.ErrsOnly

/-- A command whose effect changes the view by its reads' errors alone. -/
structure ErrsCommand (cmd : List EccEvent → Instr) : Prop where
  settings : ∀ errs, Keeps (cmd errs) (fun d => (d.power, d.boot, d.cfg))
  view : ∀ k, Keeps (cmd []) (Dev.keptAt k)

theorem ErrsCommand.of_errsOnly {cmd : List EccEvent → Instr} {f : List EccEvent → Time → Dev → Dev} {c id : Nat} {now : Time}
    (hc : ∀ errs s, exec (cmd errs) s = s.run (f errs now))
    (hf : ∀ errs (d : Dev), (d.advance now).ErrsOnly c id errs (f errs now d) ∨ f errs now d = d) : ErrsCommand cmd where
  settings errs := Keeps.of_settings (hc errs) fun d => by
    rcases hf errs d with h | h
    · rw [h.settings, (d.within_advance (c := c) now).settings]
    · rw [h]
  view := Keeps.of_engineView (hc []) fun d => by
    rcases hf [] d with h | h
    · rw [h.engineView, Dev.advance_engineView]
    · rw [h]

section EngineCommands
variable (core : Fin 512) (id : Nat) (now : Time)

theorem tload_errsCommand : ErrsCommand fun errs => .tload core { id := id, errs := errs } now :=
  .of_errsOnly (f := tload core.val id) (fun _ _ => rfl) fun _ _ => .inl (Dev.copyRun_errsOnly ..)

theorem tstore_errsCommand : ErrsCommand fun errs => .tstore core { id := id, errs := errs } now :=
  .of_errsOnly (f := tstore core.val id) (fun _ _ => rfl) fun _ _ => .inl (Dev.copyRun_errsOnly ..)

theorem tmove_errsCommand : ErrsCommand fun errs => .tmove core { id := id, errs := errs } now :=
  .of_errsOnly (f := tmove core.val id) (fun _ _ => rfl) fun _ _ => .inl (Dev.copyRun_errsOnly ..)

theorem digest_errsCommand : ErrsCommand fun errs => .digest core { id := id, errs := errs } now :=
  .of_errsOnly (f := digest core.val id) (fun _ _ => rfl) fun _ _ => .inl (Dev.digestRun_errsOnly ..)

theorem digestAcc_errsCommand : ErrsCommand fun errs => .digestAcc core { id := id, errs := errs } now :=
  .of_errsOnly (f := digestAcc core.val id) (fun _ _ => rfl) fun _ _ => .inl (Dev.digestRun_errsOnly ..)

theorem send_errsCommand : ErrsCommand fun errs => .send core { id := id, errs := errs } now :=
  .of_errsOnly (f := send core.val id) (fun _ _ => rfl) fun errs d => send_errsOnly d core.val id errs now

variable {now}

/-- A committed MMA of any mode. -/
theorem keeps_mmaRun {cmd : Instr} {mode : Nat} (hc : ∀ s, exec cmd s = s.run fun d => (d.advance now).mmaRun core.val id mode) (k : Nat) :
    Keeps cmd (Dev.keptAt k) :=
  Keeps.of_engineView hc (fun d => by rw [Dev.mmaRun_engineView, Dev.advance_engineView]) k

/-- A committed instruction of the vector engine of any kind. -/
theorem keeps_vectorRun {cmd : Instr} {sel : VOp → Bool} (hc : ∀ s, exec cmd s = s.run fun d => (d.advance now).vectorRun core.val id sel)
    (k : Nat) :
    Keeps cmd (Dev.keptAt k) :=
  Keeps.of_engineView hc (fun d => by rw [Dev.vectorRun_engineView, Dev.advance_engineView]) k

end EngineCommands

/-- Settles O59: programs, and the units that only begin or end an entry, act within their core; what the other units read and write keeps every
register. -/
theorem programAndEngineFrame : Obligations.ProgramAndEngineFrame := by
  unfold Obligations.ProgramAndEngineFrame
  refine ⟨⟨?txctl, ?txfault, ?td, ?crdata, ?csr, ?enter, ?branch, ?fence, ?ecall, ?exception⟩, ⟨?begin, ?stay, ?arm, ?disarm, ?clasp, ?cset⟩,
    ⟨?tload, ?tload', ?tstore, ?tstore', ?tmove, ?tmove', ?open', ?continue', ?close, ?openClose, ?vrun, ?build, ?reuse, ?fill, ?keep,
      ?digest, ?digest', ?digestAcc, ?digestAcc', ?send, ?send', ?recv⟩⟩
  case txctl => exact fun p v rd now k hk => Keeps.of_within hk (f := txctlWrite p v rd.val now) (fun _ => rfl) fun d => within_csrChange p now d ..
  case txfault => exact fun p rd now k hk => Keeps.of_within hk (f := txfaultWrite p rd.val now) (fun _ => rfl) fun d => within_csrChange p now d ..
  case td => exact fun p hi v rd now k hk => Keeps.of_within hk (f := tdWrite p hi v rd.val now) (fun _ => rfl) fun d => within_csrChange p now d ..
  case crdata => exact fun p v rd now k hk => Keeps.of_within hk (f := crdataWrite p v rd.val now) (fun _ => rfl) fun d => within_csrChange p now d ..
  case csr => exact fun p a v rd now k hk => Keeps.of_within hk (fun _ => rfl) fun d => within_csrWrite p now d a v rd.val
  case enter => exact fun p w now k hk => Keeps.of_within hk (fun _ => rfl) fun d => within_tiqEnter p now d w
  case branch => exact fun p y now k hk => Keeps.of_within hk (fun _ => rfl) fun d => within_branchMispredict p now d y
  case fence => exact fun p w now k hk => Keeps.of_within hk (fun _ => rfl) fun d => within_fence p now d w
  case ecall => exact fun p now k hk => Keeps.of_within hk (fun _ => rfl) fun d => within_ecallEnd p now d
  case exception => exact fun p mc mt now k hk => Keeps.of_within hk (fun _ => rfl) fun d => within_programException p now d mc mt
  case begin => exact fun c id cy now k hk => Keeps.of_within hk (fun _ => rfl) fun d => (unitStep_engineBegin c.val id now d cy).toWithin
  case stay => exact fun c id now k hk => Keeps.of_within hk (fun _ => rfl) fun d => (unitStep_arrivalStayExpire c.val id now d).toWithin
  case arm => exact fun c id now k hk => Keeps.of_within hk (fun _ => rfl) fun d => (unitStep_arm c.val id now d).toWithin
  case disarm => exact fun c id now k hk => Keeps.of_within hk (fun _ => rfl) fun d => (unitStep_disarm c.val id now d).toWithin
  case clasp => exact fun c id now k hk => Keeps.of_within hk (fun _ => rfl) fun d => (unitStep_clasp c.val id now d).toWithin
  case cset => exact fun c id now k hk => Keeps.of_within hk (fun _ => rfl) fun d => (unitStep_cset c.val id now d).toWithin
  case tload => exact fun c id errs now => (tload_errsCommand c id now).settings errs
  case tload' => exact fun c id now => (tload_errsCommand c id now).view
  case tstore => exact fun c id errs now => (tstore_errsCommand c id now).settings errs
  case tstore' => exact fun c id now => (tstore_errsCommand c id now).view
  case tmove => exact fun c id errs now => (tmove_errsCommand c id now).settings errs
  case tmove' => exact fun c id now => (tmove_errsCommand c id now).view
  case open' => exact fun c id _ => keeps_mmaRun c id fun _ => rfl
  case continue' => exact fun c id _ => keeps_mmaRun c id fun _ => rfl
  case close => exact fun c id _ => keeps_mmaRun c id fun _ => rfl
  case openClose => exact fun c id _ => keeps_mmaRun c id fun _ => rfl
  case vrun => exact fun c id _ => keeps_vectorRun c id fun _ => rfl
  case build => exact fun c id _ => keeps_vectorRun c id fun _ => rfl
  case reuse => exact fun c id _ => keeps_vectorRun c id fun _ => rfl
  case fill => exact fun c id _ => keeps_vectorRun c id fun _ => rfl
  case keep => exact fun c id _ => keeps_vectorRun c id fun _ => rfl
  case digest => exact fun c id errs now => (digest_errsCommand c id now).settings errs
  case digest' => exact fun c id now => (digest_errsCommand c id now).view
  case digestAcc => exact fun c id errs now => (digestAcc_errsCommand c id now).settings errs
  case digestAcc' => exact fun c id now => (digestAcc_errsCommand c id now).view
  case send => exact fun c id errs now => (send_errsCommand c id now).settings errs
  case send' => exact fun c id now => (send_errsCommand c id now).view
  case recv => exact fun c id now => Keeps.of_engineView (f := recv c.val id now) (fun _ => rfl) fun d => recv_engineView d c.val id now

end Sys2Proof.Machine
end

section
/-!
SIGNAL that starts journal recovery, against O13 (R230, R386, R388): the vote that completes a step clasp makes the clasp home signal the close
semaphores. Where one of these SIGNALs fails, recovery starts at once and ends the partition's entries, the one that sent the vote among them,
so its SIGNAL has no outcome left to report.
-/
namespace Sys2Proof.Machine

/-- A SIGNAL at work that adds 1 to semaphore 0 of module 0, generation 1. -/
def votingSignal : TiqEntry := { id := 4, word := 0x70000FDB, committed := true, begun := true, rs1v := 0x100000, rs2v := 1 }

/-- Module 0 with a core that runs that SIGNAL. Semaphore 0 is allocated to the partition and counts the votes of a clasp of one member; the
handle in the list of close semaphores is stale, its generation being 2. -/
def failingClasp : State := { dev := {
  boot := { phase := 3, moduleId := 0 }
  mem := { mem := Memory.write [] (semSlot 0 + 8) [5, 0, 1, 1] }
  parts := [(0, { key := 5, modules := [0], jrn := { voteSem := 0x100000, members := 1, closeList := [0x200000] } })]
  cores := [(0, { run := some {}, tiq := [votingSignal] })] } }

theorem votingSignal_instr : votingSignal.instr = some (.signal 0 0 false) := by rfl

theorem failingClasp_atWork : failingClasp.dev.atWork 0 4 votingSignal = true := Dev.atWork_iff.2 ⟨rfl, rfl, rfl, rfl⟩

theorem failingClasp_older : (failingClasp.dev.core 0).older 4 = [] := by decide

theorem failingClasp_signalBefore : (failingClasp.dev.core 0).signalBefore 4 = false := by
  rw [Core.signalBefore, failingClasp_older, List.any_nil]

/-- The home accepts the SIGNAL, and yet its entry is gone: recovery has ended it. -/
theorem failingClasp_signal :
    (failingClasp.dev.signalApply votingSignal.rs1v votingSignal.rs2v 5 (coreRig 0 0)).2 = 0 ∧
      (signal 0 4 0 failingClasp.dev).outcome 0 4 = none := by decide

/-- Refutes O13: a SIGNAL that is the last vote of a step clasp whose close SIGNAL fails starts journal recovery, which ends its own entry, so
that it has no outcome (R386, R388). -/
theorem not_synchronisationUnit : ¬ Obligations.SynchronisationUnit := by
  unfold Obligations.SynchronisationUnit
  rintro ⟨-, -, hSignal, -⟩
  obtain ⟨t, ht, -, -, -, hOutcome⟩ :=
    hSignal 0 4 votingSignal 0 0 0 failingClasp failingClasp_atWork votingSignal_instr rfl failingClasp_signalBefore rfl
  have hNone : t.dev.outcome 0 4 = none := by
    rw [dev_of_exec_next (f := signal 0 4 0) rfl ht, Dev.retag_outcome, failingClasp_signal.2]
  exact Option.some_ne_none _ (hOutcome.symm.trans hNone)

end Sys2Proof.Machine
end

section
/-!
SEND and RECV between modules, the RECV that misses a response, management packets, and O30 (R224, R364, R514, R515, R516).
-/
namespace Sys2Proof.Machine

/-! ### SEND and RECV at work (R224, R364) -/

/-- Packets put into the egress one after another join its queue in their order. -/
theorem Dev.foldl_egress {β : Type} (p : β → Packet) (o : Owner) (l : List β) (d : Dev) :
    l.foldl (fun d b => d.egress (p b) o) d =
      { d with fab := { d.fab with egressWait := d.fab.egressWait ++ l.map (fun b => { p := p b, owner := o }) } } := by
  induction l generalizing d with
  | nil => simp
  | cons b l ih => rw [List.foldl_cons, ih, Dev.egress, List.map_cons, ← List.append_cons]

theorem Dev.streamUse_inFlight (d : Dev) (sid : Nat) :
    ((d.streamUse sid).fe.streams.get {} sid).inFlight = (d.fe.streams.get {} sid).inFlight + 1 := by
  rw [Dev.streamUse, KMap.get_upd, if_pos rfl]

/-- The packets of a SEND's beads, in order: each bead's record goes to its place in the remote tensor. -/
def Dev.sendPackets (d : Dev) (c : Nat) (e : TiqEntry) (tdd tds : Nat) (ms : KMap BeadVal) : List Packet :=
  ms.flatMap (fun p => beadRecordPackets (p.2.bytes (e.desc tds)) p.2.side p.2.pz
    { d.transferBase c e 1 0 with addr := (e.desc tdd).base + (e.desc tds).sameBead (e.desc tdd) p.1 * (e.desc tdd).bstride })

/-- A RECV as it begins, under the next request tag, with every bead missing. -/
def Dev.recvOp (d : Dev) (c id : Nat) (e : TiqEntry) (tds : Nat) : RecvOp :=
  { core := c, id := id, stream := e.stream, tag := d.fab.nextReqTag % 256, lastReq := d.time, remaining := (e.desc tds).copyBeads }

/-- A module in which a RECV has begun. -/
def Dev.withRecv (d : Dev) (o : RecvOp) : Dev := { d with fab := { d.fab with nextReqTag := o.tag + 1, recvs := d.fab.recvs ++ [o] } }

section Transfers
variable {d d0 d1 : Dev} {c id : Nat} {e : TiqEntry} {tdd tds rs : Nat} {now : Time}

/-- A SEND that may leave and whose beads all read: its stream has one more in flight, its core notes what is on the way, and the packets of
every bead go to the egress. -/
theorem send_of_read {errs : List EccEvent} {ms : KMap BeadVal} (h0 : (d.advance now).eccHeld c id errs = d0) (hw : d0.atWork c id e = true)
    (hi : e.instr = some (.send tdd tds rs)) (hn : e.waiting = []) (hb : (d0.core c).sendBefore id = false) (hr : d0.mayRead c e = true)
    (hs : d0.streamRoom e.stream = true) (hm : d0.readBeads (d0.who c) (e.desc tds) (e.desc tds).copyBeads [] = (d1, .ok ms)) :
    ∃ f : Core → Core, send c id errs now d =
      (d1.sendPackets c e tdd tds ms).foldl (fun d p => d.egress p (.tensor c id)) ((d1.streamUse e.stream).modCore c f) := by
  simp only [send, h0, Dev.working_of_atWork hw, hi, hn, hb, hr, hs, hm]
  exact ⟨_, rfl⟩

/-- A RECV that may write: it takes a request tag, its stream has one more in flight, its core notes that it has asked, and one request per bead
goes to the egress. -/
theorem recv_of_room (hw : d.atWork c id e = true) (hi : e.instr = some (.recv tdd tds rs)) (hn : e.waiting = [])
    (hm : (d.advance now).mayWrite c e = true) (hs : d.streamRoom e.stream = true) :
    ∃ (f : Core → Core) (p : Nat → Packet), recv c id now d = (e.desc tds).copyBeads.foldl (fun d b => d.egress (p b) (.tensor c id))
      ((((d.advance now).withRecv ((d.advance now).recvOp c id e tds)).streamUse e.stream).modCore c f) := by
  have hw' : (d.advance now).atWork c id e = true := by rwa [Dev.advance_atWork]
  have hs' : (d.advance now).streamRoom e.stream = true := by rwa [Dev.streamRoom, Dev.advance_fe]
  simp only [recv, Dev.working_of_atWork hw', hi, hn, hm, hs']
  exact ⟨_, _, rfl⟩

end Transfers

/-! ### A RECV that misses its last bead (R364) -/

section Missing
variable {d : Dev} {o : RecvOp} {pos : Nat}

/-- A transfer that leaves its stream touches no core and nothing of the fabric. -/
theorem Dev.streamDone_coresFab (d : Dev) (sid : Nat) : (d.streamDone sid).cores = d.cores ∧ (d.streamDone sid).fab = d.fab := by
  unfold Dev.streamDone
  split
  · exact ⟨rfl, rfl⟩
  · split
    · exact ⟨rfl, rfl⟩
    · exact ⟨rfl, rfl⟩

/-- The last bead of a RECV completes it, with what its beads met, and it leaves the list. -/
theorem Dev.recvDone_last {e : TiqEntry} (he : (d.core o.core).entry? o.id = some e) (hp : o.remaining = [pos]) (cause : Cause) (va : Word) :
    (d.recvDone o pos cause va).outcome o.core o.id = some (e.first.merge cause va) ∧
      (d.recvDone o pos cause va).fab.recvs = d.fab.recvs.filter (fun r => !(r.core = o.core && r.id = o.id)) := by
  have hr : [pos].filter (· ≠ pos) = [] := by simp
  have hm : ((d.modCore o.core (fun k => k.modEntry o.id (fun x => { x with first := e.first.merge cause va }))).core o.core).entry? o.id =
      some { e with first := e.first.merge cause va } := by
    rw [Dev.core_modCore_self]
    exact Core.entry?_modEntry he fun _ => rfl
  simp only [Dev.recvDone, he, hp, hr]
  refine ⟨?_, ?_⟩
  · refine Dev.finish_outcome (e := { e with first := e.first.merge cause va }) ?_ _
    rw [Dev.core, (Dev.streamDone_coresFab ..).1]
    exact hm
  · exact congrArg FabricState.recvs (Dev.streamDone_coresFab ..).2

end Missing

/-- RECV_TIMEOUT with one bead missing: that bead is done with. -/
theorem recvTimeout_of_missing {d : Dev} {c id pos : Nat} {o : RecvOp} {now : Time}
    (ho : d.fab.recvs.find? (fun r => r.core = c && r.id = id) = some o) (ht : reached (d.advance now).time o.lastReq (us 1200) = true)
    (hq : d.fab.egressWait.any (fun q => q.owner = .tensor c id) = false) (hp : o.remaining = [pos]) :
    recvTimeout c id now d = (d.advance now).recvDone o pos 0x0420 0 := by
  simp [recvTimeout, ho, ht, hq, hp]

/-! ### Management packets (R514, R515) -/

/-- A packet that the ingress unit lets pass is taken from its switch, and nothing else of the module has changed. -/
theorem Dev.ingress_of_passes {d : Dev} {p : Packet} {now : Time} (h : (d.ingress p now).2 = true) :
    (d.ingress p now).1 = (d.advance now).takeIngress (fun q => q = p) := by
  unfold Dev.ingress at h ⊢
  dsimp only at h ⊢
  split at h
  · cases h
  · next hx =>
    split at h
    · cases h
    · next hk => rw [if_neg hx, if_neg hk]

section Management
variable {d : Dev} {p : Packet} {now : Time} (env : WriteEnv) (h : (d.ingress p now).2 = true) (hb : d.boot.phase = 3)
include h

theorem Dev.ingress_boot : (d.ingress p now).1.boot = d.boot :=
  (congrArg Dev.boot (Dev.ingress_of_passes h)).trans (d.advance_boot now)

theorem Dev.ingress_mem : (d.ingress p now).1.mem = d.mem :=
  (congrArg Dev.mem (Dev.ingress_of_passes h)).trans (d.advance_mem now)

theorem Dev.ingress_cores : (d.ingress p now).1.cores = d.cores :=
  (congrArg Dev.cores (Dev.ingress_of_passes h)).trans (d.advance_cores now)

theorem Dev.ingress_dict : (d.ingress p now).1.dict = d.dict :=
  (congrArg Dev.dict (Dev.ingress_of_passes h)).trans (d.advance_dict now)

include hb

/-- A dictionary request is served, and its response goes back to its sender. -/
theorem mgmt_of_request (hk : bits p.xarg 7 0 = 1) : mgmt p env now d =
    ((d.ingress p now).1.serveKept (.mgmt p.src) env 384 p.payload now).1.mgmt p.src 2 []
      ((d.ingress p now).1.serveKept (.mgmt p.src) env 384 p.payload now).2 := by
  simp [mgmt, h, Dev.ingress_boot h, hb, hk]

/-- The response to a request that is kept ends it. -/
theorem mgmt_of_response (hk : bits p.xarg 7 0 = 2) : (mgmt p env now d).mem = d.mem ∧ (mgmt p env now d).cores = d.cores ∧
    (mgmt p env now d).dict.sent =
      d.dict.sent.filter (fun k => !(k.peer = (Requester.mgmt p.src).code && k.txn = msgField p.payload 2 2)) := by
  simp [mgmt, h, Dev.ingress_boot h, Dev.ingress_mem h, Dev.ingress_cores h, Dev.ingress_dict h, hb, hk]

/-- Every other management packet is a message of a service. -/
theorem mgmt_of_service (h1 : bits p.xarg 7 0 ≠ 1) (h2 : bits p.xarg 7 0 ≠ 2) : mgmt p env now d = (d.ingress p now).1.service p now := by
  have hg : ¬(!(d.ingress p now).2 || decide ((d.ingress p now).1.boot.phase ≠ 3)) = true := by simp [h, Dev.ingress_boot h, hb]
  rw [mgmt, if_neg hg]
  split
  · contradiction
  · contradiction
  · rfl

end Management

/-- A response's message goes out as one stamped packet of the hub. -/
theorem Dev.mgmt_hubOut_nil (d : Dev) (m : BitVec 14) (k : Nat) (bs : List Byte) :
    (d.mgmt m k [] bs).fab.hubOut =
      d.fab.hubOut ++ [d.stamped { ptype := 0x18, tc := 4, dst := m, xarg := BitVec.ofNat 64 k, payload := bs }] := rfl

/-! ### The obligation -/

/-- Settles O30: each command under its premises is the one branch that they lead to, and its parts are read off there. -/
theorem managementAndRemoteTransfers : Obligations.ManagementAndRemoteTransfers := by
  unfold Obligations.ManagementAndRemoteTransfers
  refine ⟨?send, ?recv, ?timeout, ?request, ?response, ?service⟩
  case send =>
    intro core id errs e tdd tds rs ms d0 d1 ps now s h0 hw hi hn hb hr hs hm hp
    refine Does.of_run (f := send core.val id errs now) rfl ?_
    obtain ⟨f, hf⟩ := send_of_read h0 hw hi hn hb hr hs hm
    rw [hf, Dev.foldl_egress fun p => p, hp]
    exact ⟨rfl, d1.streamUse_inFlight e.stream, fun _ => rfl⟩
  case recv =>
    intro core id e tdd tds rs now s hw hi hn hm hs
    refine Does.of_run (f := recv core.val id now) rfl ?_
    obtain ⟨f, p, hf⟩ := recv_of_room hw hi hn hm hs
    rw [hf, Dev.foldl_egress]
    simp [Dev.streamUse, Dev.withRecv, Dev.recvOp, sameBytes]
  case timeout =>
    intro core id o pos e now s ho ht hq hp he
    refine Does.of_run (f := recvTimeout core.val id now) rfl ?_
    obtain ⟨hc, rfl⟩ : o.core = core.val ∧ o.id = id := by simpa using List.find?_some ho
    rw [recvTimeout_of_missing ho ht hq hp, Dev.retag_outcome, Dev.retag_fab, ← s.dev.advance_fab now, ← hc]
    exact Dev.recvDone_last (by rwa [Dev.advance_core, hc]) hp 0x0420 0
  case request =>
    intro p env y now s hx hb hk hy
    refine Does.of_run (f := mgmt p env now) rfl ?_
    rw [mgmt_of_request env hx hb hk, ← hy]
    exact ⟨y.1.mgmt_hubOut_nil .., rfl, rfl, rfl⟩
  case response =>
    intro p env now s hx hb hk
    refine Does.of_run (f := mgmt p env now) rfl ?_
    obtain ⟨hmem, hcores, hsent⟩ := mgmt_of_response env hx hb hk
    exact ⟨hsent, hmem, hcores⟩
  case service =>
    intro p env now s hx hb h1 h2
    refine Does.of_run (f := mgmt p env now) rfl ?_
    rw [mgmt_of_service env hx hb h1 h2]
    exact ⟨rfl, rfl, rfl, rfl⟩

end Sys2Proof.Machine
end

section
/-!
# Memory stays in its one canonical form (O52)

The form is the model's own (rising addresses, no byte listed that an unlisted address reads as; log 1). One lemma for each operation of the model
says that it keeps the form, in the order of the model's files; its proof follows the operation's body, by the lemmas of the operations it calls.
The bytes themselves change in few places only, and `Laws/Memory.lean` speaks of those: a plain write, a bead, a fill with 0, an accumulator's
store, a scrub and the resets. Everything else puts other fields into the record (`Dev.Canonical.update`, `Dev.Canonical.updateMem`).
-/
namespace Sys2Proof.Machine

/-- The bytes of memory stand in their one canonical form. -/
def Dev.Canonical (d : Dev) : Prop := d.mem.mem.wf = true

section Records
variable {d : Dev} {time fresh full signetMask overSignet cores coh fe ports fab parts rigs pkg power tm sec rel rst boot cfg dict host pins out}
  {poison side hub egress hubRetired dram mapOut chanRetired pages tableNext dramOn selfRefresh}

theorem Dev.Canonical.update (h : d.Canonical) :
    Dev.Canonical ⟨time, fresh, full, signetMask, overSignet, d.mem, cores, coh, fe, ports, fab, parts, rigs, pkg, power, tm, sec, rel, rst, boot,
      cfg, dict, host, pins, out⟩ := h

theorem Dev.Canonical.updateMem (h : d.Canonical) :
    Dev.Canonical ⟨time, fresh, full, signetMask, overSignet,
      ⟨d.mem.mem, poison, side, hub, egress, hubRetired, dram, mapOut, chanRetired, pages, tableNext, dramOn, selfRefresh⟩, cores, coh, fe, ports,
      fab, parts, rigs, pkg, power, tm, sec, rel, rst, boot, cfg, dict, host, pins, out⟩ := h

end Records

theorem Dev.Canonical.ite {c : Prop} [Decidable c] {d d' : Dev} (h : d.Canonical) (h' : d'.Canonical) :
    (if c then d else d').Canonical := by
  split
  · exact h
  · exact h'

theorem Dev.Canonical.foldl {α : Type} {f : Dev → α → Dev} {l : List α} {d : Dev} (hf : ∀ d x, d.Canonical → (f d x).Canonical)
    (h : d.Canonical) : (l.foldl f d).Canonical := foldl_wf f hf l d h

theorem Dev.Canonical.ite_fst {c : Prop} [Decidable c] {β : Type} {x y : Dev × β} (hx : x.1.Canonical) (hy : y.1.Canonical) :
    (if c then x else y).1.Canonical := by
  split
  · exact hx
  · exact hy

theorem Dev.Canonical.ite_snd {c : Prop} [Decidable c] {β : Type} {x y : β × Dev} (hx : x.2.Canonical) (hy : y.2.Canonical) :
    (if c then x else y).2.Canonical := by
  split
  · exact hx
  · exact hy

theorem Dev.Canonical.foldl_fst {α β : Type} {f : Dev × β → α → Dev × β} {l : List α} {s : Dev × β}
    (hf : ∀ s x, s.1.Canonical → (f s x).1.Canonical) (h : s.1.Canonical) : (l.foldl f s).1.Canonical := by
  induction l generalizing s with
  | nil => exact h
  | cons x l ih => exact ih (hf s x h)

/-- A fold that steps a device and something beside it, written with the two steps apart. -/
theorem Dev.Canonical.foldl_pair {α β : Type} {g : Dev × β → α → Dev} {k : Dev × β → α → β} {l : List α} {s : Dev × β}
    (hg : ∀ s x, s.1.Canonical → (g s x).Canonical) (h : s.1.Canonical) : (l.foldl (fun s x => (g s x, k s x)) s).1.Canonical :=
  .foldl_fst hg h

end Sys2Proof.Machine
end

section
/-! ## Memory stays canonical: the shared operations -/
namespace Sys2Proof.Machine

variable {d : Dev}

theorem Dev.Canonical.advance {now} (h : d.Canonical) : (d.advance now).Canonical :=
  .ite (.update h) h

theorem Dev.Canonical.draw (h : d.Canonical) : d.draw.2.Canonical :=
  .update h

theorem Dev.Canonical.emit {o} (h : d.Canonical) : (d.emit o).Canonical :=
  .update h

theorem Dev.Canonical.modCore {c f} (h : d.Canonical) : (d.modCore c f).Canonical :=
  .update h

theorem Dev.Canonical.modPart {p f} (h : d.Canonical) : (d.modPart p f).Canonical :=
  .update h

theorem Dev.Canonical.modRig {i f} (h : d.Canonical) : (d.modRig i f).Canonical :=
  .update h

theorem Dev.Canonical.stale (h : d.Canonical) : d.stale.Canonical :=
  .update h

theorem Dev.Canonical.retry {c n} (h : d.Canonical) : (d.retry c n).Canonical :=
  .modCore h

theorem Dev.Canonical.event {p} (h : d.Canonical) : (d.event p).Canonical :=
  .modPart h

theorem Dev.Canonical.writeRing {ring n} (h : d.Canonical) : (d.writeRing ring n).Canonical :=
  .update (.ite (.emit h) (.emit (.emit h)))

theorem Dev.Canonical.ringNotice {ring n} (h : d.Canonical) : (d.ringNotice ring n).Canonical :=
  .ite (.writeRing h) (.ite (.update h) (.update h))

theorem Dev.Canonical.deliverNotice {n part} (h : d.Canonical) : (d.deliverNotice n part).Canonical := by
  unfold Dev.deliverNotice
  extract_lets
  split
  · exact .ringNotice h
  · exact .foldl (fun _ _ h => .ringNotice h) (.ringNotice h)

theorem Dev.Canonical.forwardNotice {n} (h : d.Canonical) : (d.forwardNotice n).Canonical :=
  .emit h

theorem Dev.Canonical.notify {n} (h : d.Canonical) : (d.notify n).Canonical :=
  .ite (.deliverNotice h) (.forwardNotice h)

theorem Dev.Canonical.notice {code cls arg0 arg1} (h : d.Canonical) : (d.notice code cls arg0 arg1).Canonical :=
  .notify h

theorem Dev.Canonical.coreNotice {c code cls part arg0 arg1} (h : d.Canonical) : (d.coreNotice c code cls part arg0 arg1).Canonical :=
  .notify h

theorem Dev.Canonical.hubWriteBack {line} (h : d.Canonical) : (d.hubWriteBack line).Canonical := by
  unfold Dev.hubWriteBack
  split
  · exact h
  · exact .updateMem h

theorem Dev.Canonical.hubTrim (h : d.Canonical) : d.hubTrim.Canonical :=
  .ite h (.updateMem (.draw h))

theorem Dev.Canonical.writePlain {a bs clears poison} (h : d.Canonical) : (d.writePlain a bs clears poison).Canonical :=
  Dev.writePlain_wf h a bs clears poison

theorem Dev.Canonical.writeBead {a bytes sb poison} (h : d.Canonical) : (d.writeBead a bytes sb poison).Canonical :=
  Dev.writeBead_wf h a bytes sb poison

theorem Dev.Canonical.zeroFill {a n} (h : d.Canonical) : (d.zeroFill a n).Canonical :=
  Dev.zeroFill_wf h a n

theorem Dev.Canonical.poison {a n} (h : d.Canonical) : (d.poison a n).Canonical :=
  .updateMem h

theorem Dev.Canonical.landWith {a sb} {w : Dev → Dev} (hw : ∀ d, d.Canonical → Dev.Canonical (w d)) (h : d.Canonical) :
    (d.landWith a sb w).1.Canonical := by
  unfold Dev.landWith
  refine .ite_fst h ?_
  split
  · exact hw _ h
  · refine .ite_fst h (.ite_fst (.modCore h) ?_)
    dsimp only
    split
    · exact .event (.modCore (hw _ h))
    · exact .modCore (hw _ h)

theorem Dev.Canonical.landBead {a bytes sb poison} (h : d.Canonical) : (d.landBead a bytes sb poison).1.Canonical :=
  .landWith (fun _ h => .writeBead h) h

theorem Dev.Canonical.arriveBead {a bytes sb poison} (h : d.Canonical) : (d.arriveBead a bytes sb poison).1.Canonical :=
  .landBead h

theorem Dev.Canonical.finish {c id r} (h : d.Canonical) : (d.finish c id r).Canonical :=
  .modCore h

theorem Dev.Canonical.settleQueue {i} (h : d.Canonical) : (d.settleQueue i).Canonical := by
  unfold Dev.settleQueue
  split
  · exact h
  · exact .update h

theorem Dev.Canonical.settleCore {c} (h : d.Canonical) : (d.settleCore c).Canonical :=
  .update h

theorem Dev.Canonical.settleAll (h : d.Canonical) : d.settleAll.Canonical :=
  .foldl (fun _ _ => .settleCore) (.foldl (fun _ _ => .settleQueue) h)

theorem Dev.Canonical.charge {c r} (h : d.Canonical) : (d.charge c r).Canonical :=
  .settleCore (.settleQueue h)

theorem Dev.Canonical.hubSend {p} (h : d.Canonical) : (d.hubSend p).Canonical :=
  .update h

theorem Dev.Canonical.mgmt {dst kind args bytes} (h : d.Canonical) : (d.mgmt dst kind args bytes).Canonical :=
  .hubSend h

theorem Dev.Canonical.reportEnded {c} (h : d.Canonical) : (d.reportEnded c).Canonical :=
  .ite h (.foldl (fun _ _ h => .mgmt h) (.update h))

theorem Dev.Canonical.noteEnd {c r e} (h : d.Canonical) : (d.noteEnd c r e).Canonical :=
  .ite (.update h) (.reportEnded (.update h))

theorem Dev.Canonical.endEntry {c e} (h : d.Canonical) : (d.endEntry c e).Canonical := by
  unfold Dev.endEntry
  split
  · exact h
  · exact .modRig (.noteEnd (.modCore (.charge h)))

theorem Dev.Canonical.beginEnd {c e} (h : d.Canonical) : (d.beginEnd c e).Canonical := by
  unfold Dev.beginEnd
  extract_lets
  split
  · exact .ite (.modCore h) (.endEntry (.modCore h))
  · exact .modCore h

theorem Dev.Canonical.exception {c mcause mtval} (h : d.Canonical) : (d.exception c mcause mtval).Canonical :=
  .beginEnd (.modCore h)

theorem Dev.Canonical.semSet {n v} (h : d.Canonical) : (d.semSet n v).Canonical :=
  .writePlain h

theorem Dev.Canonical.semForeign {handle key sender} (h : d.Canonical) : (d.semForeign handle key sender).Canonical :=
  .notice h

theorem Dev.Canonical.recheckTails {n} (h : d.Canonical) : (d.recheckTails n).Canonical :=
  .update h

theorem Dev.Canonical.serveWait {w} (h : d.Canonical) : (d.serveWait w).Canonical :=
  .ite (.finish (.update (.ite (.semSet h) h))) h

theorem Dev.Canonical.serveWaits {n} (h : d.Canonical) : (d.serveWaits n).Canonical :=
  .foldl (fun _ _ => .serveWait) h

theorem Dev.Canonical.semAdd {n inc} (h : d.Canonical) : (d.semAdd n inc).Canonical := by
  unfold Dev.semAdd
  extract_lets _ d1
  have h1 : d1.Canonical := by
    unfold d1
    split
    · exact .event (.semSet h)
    · exact .semSet h
  exact .serveWaits (.recheckTails h1)

theorem Dev.Canonical.egress {p o} (h : d.Canonical) : (d.egress p o).Canonical :=
  .update h

theorem Dev.Canonical.signalHome {handle inc key sender} (h : d.Canonical) : (d.signalHome handle inc key sender).1.Canonical := by
  unfold Dev.signalHome
  extract_lets
  split
  · exact .semAdd h
  · exact .semForeign (.stale h)
  · exact .stale h

end Sys2Proof.Machine
end

section
/-! ## Memory stays canonical: translation -/
namespace Sys2Proof.Machine

variable {d : Dev}

theorem Dev.Canonical.walkNotice {who f} (h : d.Canonical) : (d.walkNotice who f).Canonical := by
  unfold Dev.walkNotice
  split
  · exact h
  · exact .notify h

theorem Dev.Canonical.hubWalk {part need va n} (h : d.Canonical) : (d.hubWalk part need va n).Canonical := by
  unfold Dev.hubWalk
  split
  · exact .walkNotice h
  · exact h

theorem Dev.Canonical.homeWalk {key need va n} (h : d.Canonical) : (d.homeWalk key need va n).Canonical := by
  unfold Dev.homeWalk
  split
  · exact .hubWalk h
  · exact h

theorem Dev.Canonical.tcFill {c va} (h : d.Canonical) : (d.tcFill c va).Canonical := by
  unfold Dev.tcFill
  extract_lets
  split
  · exact .ite h (.modCore h)
  · exact h

theorem Dev.Canonical.writeVa {who va bs clears poison} (h : d.Canonical) : (d.writeVa who va bs clears poison).Canonical :=
  .foldl_fst (fun _ _ h => .writePlain h) h

end Sys2Proof.Machine
end

section
/-! ## Memory stays canonical: page tables -/
namespace Sys2Proof.Machine

variable {d : Dev}

theorem Dev.Canonical.setPte {a e} (h : d.Canonical) : (d.setPte a e).Canonical :=
  .writePlain h

theorem Dev.Canonical.newTable (h : d.Canonical) : d.newTable.2.Canonical :=
  .updateMem h

theorem Dev.Canonical.placeLeaf {va target leaf} {l t : Nat} {d : Dev} (h : d.Canonical) : (Dev.placeLeaf va target leaf l t d).Canonical := by
  induction l generalizing t d with
  | zero => exact .setPte h
  | succ l ih => exact .ite (.setPte h) (.ite (ih h) (ih (.setPte (.newTable h))))

theorem Dev.Canonical.dropPage {mpa n} (h : d.Canonical) : (d.dropPage mpa n).Canonical :=
  .updateMem h

theorem Dev.Canonical.tellPart {p kind args} (h : d.Canonical) : (d.tellPart p kind args).Canonical :=
  .foldl (fun _ _ h => .mgmt h) h

theorem Dev.Canonical.unmapDone {l} (h : d.Canonical) : (d.unmapDone l).Canonical :=
  .emit (.ite (.mgmt (.modPart (.setPte h))) (.dropPage (.setPte h)))

theorem Dev.Canonical.unmapAgain (h : d.Canonical) : d.unmapAgain.Canonical :=
  .foldl (fun _ _ => .unmapDone) (.update h)

end Sys2Proof.Machine
end

section
/-! ## Memory stays canonical: the package links as paths -/
namespace Sys2Proof.Machine

variable {d : Dev}

theorem Dev.Canonical.modUcie {e f} (h : d.Canonical) : (d.modUcie e f).Canonical :=
  .update h

theorem Dev.Canonical.pkgQueue {first n side vc key fs} (h : d.Canonical) : (d.pkgQueue first n side vc key fs).Canonical := by
  unfold Dev.pkgQueue
  split
  · exact .modUcie h
  · exact h

theorem Dev.Canonical.pruneOnPkg (h : d.Canonical) : d.pruneOnPkg.Canonical :=
  .update h

end Sys2Proof.Machine
end

section
/-! ## Memory stays canonical: findings and retirements -/
namespace Sys2Proof.Machine

variable {d : Dev}

theorem Dev.Canonical.reply {cause arg0 arg1} (h : d.Canonical) : (d.reply cause arg0 arg1).Canonical :=
  .emit h

theorem Dev.Canonical.streamDone {sid} (h : d.Canonical) : (d.streamDone sid).Canonical := by
  unfold Dev.streamDone
  split
  · exact h
  · exact .ite (.reply (.update h)) (.update h)

theorem Dev.Canonical.dropWaiting {c cause} (h : d.Canonical) : (d.dropWaiting c cause).Canonical :=
  .foldl (fun _ _ h => .mgmt h) (.update (.update h))

theorem Dev.Canonical.dropWith {c e} (h : d.Canonical) : (d.dropWith c e).Canonical :=
  .unmapAgain (.endEntry (.modCore (.update (.foldl (fun _ _ h => .streamDone h) (.update h)))))

theorem Dev.Canonical.dropEntry {c cause} (h : d.Canonical) : (d.dropEntry c cause).Canonical :=
  .dropWith (.dropWaiting h)

theorem Dev.Canonical.widened {old new} (h : d.Canonical) : (d.widened old new).Canonical :=
  .notice h

theorem Dev.Canonical.detect {f} (h : d.Canonical) : (d.detect f).Canonical := by
  unfold Dev.detect
  split
  · exact .update h
  split
  · exact .widened (.update h)
  split
  · exact .update h
  · exact .widened (.update h)

theorem Dev.Canonical.offlineCore {c finding} (h : d.Canonical) : (d.offlineCore c finding).Canonical :=
  .pruneOnPkg (.modRig (.modCore (.update (.dropEntry (.settleAll h)))))

theorem Dev.Canonical.retireCore {c finding} (h : d.Canonical) : (d.retireCore c finding).Canonical :=
  .ite h (.detect (.offlineCore h))

theorem Dev.Canonical.permanent {r} (h : d.Canonical) : (d.permanent r).Canonical :=
  .ite h (.ite (.retireCore h) (.detect h))

theorem Dev.Canonical.transient {s} (h : d.Canonical) : (d.transient s).Canonical :=
  .ite (.permanent (.update h)) (.update h)

theorem Dev.Canonical.relCount {i n} (h : d.Canonical) : (d.relCount i n).Canonical :=
  .update h

theorem Dev.Canonical.countRetry {c n} (h : d.Canonical) : (d.countRetry c n).Canonical := by
  unfold Dev.countRetry
  split
  · exact .retry h
  · exact .modRig h

theorem Dev.Canonical.eccPoison {x} (h : d.Canonical) : (d.eccPoison x).Canonical := by
  unfold Dev.eccPoison
  split
  · exact .poison h
  · exact .poison h
  · exact .modCore h
  · exact .poison h

theorem Dev.Canonical.eccTransients {s n} (h : d.Canonical) : (d.eccTransients s n).Canonical :=
  .foldl (fun _ _ h => .transient h) h

theorem Dev.Canonical.eccSeen {e} (h : d.Canonical) : (d.eccSeen e).Canonical := by
  unfold Dev.eccSeen
  extract_lets _ _ _ _ _ d1 _ _ _ d2 _ d3 _ _ _ d4
  have h1 : d1.Canonical := .update (.relCount h)
  have h2 : d2.Canonical := .eccPoison (.eccTransients (.ite (.relCount (.relCount h)) (.relCount h)))
  have h3 : d3.Canonical := .ite h2 (.update h2)
  have h4 : d4.Canonical := .update h3
  split
  · exact .transient h
  · exact .ite (.ite (.permanent h1) h1) (.relCount h)
  · exact .ite (.permanent (.transient h)) (.transient h)
  · exact .eccTransients (.ite (.relCount h) h)
  · exact .ite (.ite (.permanent h4) h4) h3

theorem Dev.Canonical.ecc {e} (h : d.Canonical) : (d.ecc e).Canonical :=
  .eccSeen (.countRetry h)

theorem Dev.Canonical.eccHeld {c id errs} (h : d.Canonical) : (d.eccHeld c id errs).Canonical :=
  .foldl (fun _ _ => .eccSeen) (.modCore h)

theorem Dev.Canonical.consume {c cause va e} (h : d.Canonical) : (d.consume c cause va e).Canonical := by
  unfold Dev.consume
  split
  · exact h
  · exact .beginEnd (.update (.modPart h))

theorem Dev.Canonical.readBead {who x b} (h : d.Canonical) : (d.readBead who x b).1.Canonical :=
  .ite_fst h (.ite_fst (.foldl (fun _ _ h => .poison h) h) h)

theorem Dev.Canonical.readEach {read : Dev → Accessor → Desc → Nat → Dev × Except Cause BeadVal} {who : Accessor} {x : Desc}
    (hread : ∀ d b, Dev.Canonical d → (read d who x b).1.Canonical) {bs m} (h : d.Canonical) : (readEach read who x bs d m).1.Canonical := by
  induction bs generalizing d m with
  | nil => exact h
  | cons b bs ih =>
    have hb := hread d b h
    rw [Machine.readEach]
    split
    next hr => rw [hr] at hb; exact hb
    next hr => rw [hr] at hb; exact ih hb

theorem Dev.Canonical.readBeads {who x bs m} (h : d.Canonical) : (d.readBeads who x bs m).1.Canonical := by
  have hread : ∀ d b, Dev.Canonical d → (d.readBead who x b).1.Canonical := fun _ _ h => .readBead h
  rw [readBeads_eq_readEach]
  exact .readEach hread h

theorem Dev.Canonical.readAll {who ps} (h : d.Canonical) : (d.readAll who ps).1.Canonical := by
  induction ps generalizing d with
  | nil => exact h
  | cons p ps ih =>
    unfold Dev.readAll
    dsimp only
    split
    · exact .readBeads h
    · exact ih (.readBeads h)

theorem Dev.Canonical.writeBeadVa {who va bytes sb poison} (h : d.Canonical) : (d.writeBeadVa who va bytes sb poison).Canonical :=
  .ite (.writeBead h) (.updateMem (.writeVa h))

theorem Dev.Canonical.putBytes {who va bytes sb poison keep} (h : d.Canonical) : (d.putBytes who va bytes sb poison keep).1.Canonical :=
  .landWith (fun _ h => .foldl (fun _ _ h => .poison h) (.writeBeadVa h)) h

theorem Dev.Canonical.putBead {who x b codes scales poison keep} (h : d.Canonical) : (d.putBead who x b codes scales poison keep).1.Canonical :=
  .putBytes h

theorem Dev.Canonical.mergePut {who x b newc news poison} (h : d.Canonical) : (d.mergePut who x b newc news poison).1.Canonical :=
  .putBead h

end Sys2Proof.Machine
end

section
/-! ## Memory stays canonical: the issue queue -/
namespace Sys2Proof.Machine

variable {d : Dev}

theorem Dev.Canonical.failEntry {c e cause} (h : d.Canonical) : (d.failEntry c e cause).Canonical :=
  .finish h

theorem Dev.Canonical.beginEntry {c id cycle} (h : d.Canonical) : (d.beginEntry c id cycle).Canonical := by
  unfold Dev.beginEntry
  split
  · exact h
  · refine .ite (.modCore ?_) h
    split
    · exact .walkNotice h
    · exact .foldl (fun _ _ h => .tcFill h) h

theorem Dev.Canonical.completeEntry {c id} (h : d.Canonical) : (d.completeEntry c id).Canonical := by
  unfold Dev.completeEntry
  split
  · exact h
  split
  · extract_lets _ _ _ _ d1 _ _ _ d2
    have h1 : d1.Canonical := .unmapAgain (.update (.modCore (.ite (.stale (.retry h)) (.retry h))))
    have h2 : d2.Canonical := .ite (.consume h1) (.ite (.beginEnd h1) h1)
    split
    · exact .ite h2 (.endEntry h2)
    · exact h2
  · exact h

theorem Dev.Canonical.working {c id} (h : d.Canonical) : (d.working c id).1.Canonical := by
  unfold Dev.working
  extract_lets d1
  have h1 : d1.Canonical := by
    unfold d1
    split
    · exact .ite (.beginEntry h) h
    · exact h
  exact h1

end Sys2Proof.Machine
end

section
/-! ## Memory stays canonical: the matrix engine -/
namespace Sys2Proof.Machine

variable {d : Dev}

theorem Dev.Canonical.accStore {c u acc poison} (h : d.Canonical) : (d.accStore c u acc poison).Canonical :=
  Dev.accStore_wf h c u acc poison

theorem Dev.Canonical.runGroup {c e u} (h : d.Canonical) : (d.runGroup c e u).Canonical := by
  unfold Dev.runGroup
  refine .ite h ?_
  extract_lets
  split
  · exact .failEntry (.readAll h)
  · exact .modCore (.readAll h)

theorem Dev.Canonical.runGroups {c id u n} (h : d.Canonical) : (d.runGroups c id u n).Canonical := by
  induction n generalizing d with
  | zero => exact h
  | succ n ih =>
    unfold Dev.runGroups
    split
    · exact .ite (ih (.runGroup h)) h
    · exact h

theorem Dev.Canonical.mismatch {c e dup} (h : d.Canonical) : (d.mismatch c e dup).Canonical :=
  .ite (.retireCore (.modCore h)) (.modCore h)

theorem Dev.Canonical.endPass {c e u} (h : d.Canonical) : (d.endPass c e u).Canonical :=
  .finish (.modCore (.accStore h))

theorem Dev.Canonical.putTile {c out rows poison} (h : d.Canonical) : (d.putTile c out rows poison).1.Canonical :=
  .foldl_pair (fun _ _ h => .mergePut h) h

theorem Dev.Canonical.putStats {c ch x rows m poison} (h : d.Canonical) : (d.putStats c ch x rows m poison).1.Canonical :=
  .ite_fst h (.foldl_pair (fun _ _ h => .mergePut h) h)

theorem Dev.Canonical.runClose {c e u} (h : d.Canonical) : (d.runClose c e u).Canonical := by
  unfold Dev.runClose
  extract_lets
  split
  · exact .failEntry (.readAll h)
  · refine .finish (.modCore ?_)
    split
    · exact .putStats (.putTile (.readAll h))
    · exact .putTile (.readAll h)

theorem Dev.Canonical.takeClose {c id} (h : d.Canonical) : (d.takeClose c id).Canonical := by
  unfold Dev.takeClose
  split
  · split
    · exact .ite (.runClose h) h
    · exact h
  · exact h

theorem Dev.Canonical.endMma {c id} (h : d.Canonical) : (d.endMma c id).Canonical := by
  unfold Dev.endMma
  split
  · split
    · exact .ite h (.ite (.endPass h) (.ite (.takeClose h) (.ite (.takeClose (.modCore h)) h)))
    · exact h
  · exact h

theorem Dev.Canonical.mmaRun {c id mode} (h : d.Canonical) : (d.mmaRun c id mode).Canonical := by
  unfold Dev.mmaRun
  extract_lets
  split
  · split
    · exact .ite (.endMma (.runGroups (.working h))) h
    · exact h
  · exact h

theorem Dev.Canonical.mmaOpen {c id now} (h : d.Canonical) : (mmaOpen c id now d).Canonical :=
  .mmaRun (.advance h)

theorem Dev.Canonical.mmaContinue {c id now} (h : d.Canonical) : (mmaContinue c id now d).Canonical :=
  .mmaRun (.advance h)

theorem Dev.Canonical.mmaClose {c id now} (h : d.Canonical) : (mmaClose c id now d).Canonical :=
  .mmaRun (.advance h)

theorem Dev.Canonical.mmaOpenClose {c id now} (h : d.Canonical) : (mmaOpenClose c id now d).Canonical :=
  .mmaRun (.advance h)

theorem Dev.Canonical.mmaGroupStart {c id fault errs now} (h : d.Canonical) : (mmaGroupStart c id fault errs now d).Canonical := by
  unfold Machine.mmaGroupStart
  extract_lets
  split
  · split
    · refine .ite (.eccHeld (.advance h)) (.ite (.ite (.mismatch (.eccHeld (.advance h))) (.eccHeld (.advance h))) ?_)
      refine .ite (.eccHeld (.advance h)) ?_
      split
      · exact .runGroup (.eccHeld (.advance h))
      · exact .mismatch (.eccHeld (.advance h))
      · exact .mismatch (.eccHeld (.advance h))
    · exact .eccHeld (.advance h)
  · exact .eccHeld (.advance h)

theorem Dev.Canonical.epilogueCloseStart {c parity errs now} (h : d.Canonical) : (epilogueCloseStart c parity errs now d).Canonical := by
  unfold Machine.epilogueCloseStart
  extract_lets
  split
  · exact .advance h
  · exact .ite (.ite (.retireCore (.modCore (.eccHeld (.advance h)))) (.takeClose (.modCore (.eccHeld (.advance h)))))
      (.takeClose (.eccHeld (.advance h)))

theorem Dev.Canonical.arrivalStayExpire {c id now} (h : d.Canonical) : (arrivalStayExpire c id now d).Canonical := by
  unfold Machine.arrivalStayExpire
  extract_lets
  split
  · split
    · exact .ite (.failEntry (.modCore (.advance h))) (.advance h)
    · exact .advance h
  · exact .advance h

end Sys2Proof.Machine
end

section
/-! ## Memory stays canonical: coherent windows, the egress buffer and the hub cache -/
namespace Sys2Proof.Machine

variable {d : Dev}

theorem Dev.Canonical.cohSend {dst m} (h : d.Canonical) : (d.cohSend dst m).Canonical :=
  .hubSend h

theorem Dev.Canonical.takeIngress {p} (h : d.Canonical) : (d.takeIngress p).Canonical :=
  .update h

theorem Dev.Canonical.modDir {line f} (h : d.Canonical) : (d.modDir line f).Canonical :=
  .update h

theorem Dev.Canonical.cohApply {line op rig} (h : d.Canonical) : (d.cohApply line op rig).1.Canonical := by
  unfold Dev.cohApply
  extract_lets
  split
  · exact .modDir (.writePlain h)
  · exact .modDir (.writePlain h)
  · exact .ite_fst (.modDir (.writePlain (.update h))) (.update h)
  · exact .update h
  · exact h

theorem Dev.Canonical.scalarPoison {c va} (h : d.Canonical) : (d.scalarPoison c va).Canonical :=
  .consume (.modCore h)

theorem Dev.Canonical.answerLoad {c w v} (h : d.Canonical) : (d.answerLoad c w v).Canonical :=
  .modCore h

theorem Dev.Canonical.storeDone {c va} (h : d.Canonical) : (d.storeDone c va).Canonical :=
  .reportEnded (.modCore h)

theorem Dev.Canonical.ackCore {c va result cause} (h : d.Canonical) : (d.ackCore c va result cause).Canonical := by
  unfold Dev.ackCore
  refine .ite (.ite h (.notice h)) (.ite (.scalarPoison (.storeDone h)) (.ite (.exception (.modCore (.storeDone h))) ?_))
  split
  · exact .ite (.answerLoad (.storeDone h)) (.storeDone h)
  · exact .storeDone h

theorem Dev.Canonical.cohAck {writer key va core result ok cause} (h : d.Canonical) : (d.cohAck writer key va core result ok cause).Canonical :=
  .ite (.ackCore h) (.cohSend h)

theorem Dev.Canonical.cohGrant {line src key va core} (h : d.Canonical) : (d.cohGrant line src key va core).Canonical :=
  .ite (.cohSend h) (.cohSend (.modDir (.update h)))

theorem Dev.Canonical.cohBegin {line op writer rig key va core} (h : d.Canonical) : (d.cohBegin line op writer rig key va core).Canonical :=
  .ite (.cohAck h) (.ite (.cohAck (.cohApply h)) (.foldl (fun _ _ h => .cohSend h) (.modDir h)))

theorem Dev.Canonical.cohServe {line m} (h : d.Canonical) : (d.cohServe line m).Canonical := by
  unfold Dev.cohServe
  refine .ite (.modDir h) ?_
  split
  · exact .cohGrant h
  · exact .cohBegin h
  · exact h

theorem Dev.Canonical.cohRelease {line} (h : d.Canonical) : (d.cohRelease line).Canonical :=
  .foldl (fun _ _ h => .cohServe h) (.modDir h)

theorem Dev.Canonical.windowDone {line} (h : d.Canonical) : (d.windowDone line).Canonical :=
  .update h

theorem Dev.Canonical.cohEnd {line} (h : d.Canonical) : (d.cohEnd line).Canonical := by
  unfold Dev.cohEnd
  split
  · exact .ite (.cohRelease (.ite (.cohApply (.windowDone (.modDir h))) (.cohAck (.cohApply (.windowDone (.modDir h)))))) h
  · exact h

theorem Dev.Canonical.windowWrote {key va a n} (h : d.Canonical) : (d.windowWrote key va a n).Canonical := by
  unfold Dev.windowWrote
  split
  · exact .foldl (fun _ _ h => .ite (.modDir h) (.foldl (fun _ _ h => .cohSend h) (.modDir (.modDir h)))) h
  · exact h

theorem Dev.Canonical.writeHub {who va bs clears} (h : d.Canonical) : (d.writeHub who va bs clears).Canonical :=
  .foldl_fst (fun _ _ h => .windowWrote h) (.writeVa h)

theorem Dev.Canonical.cohAnswer {line src tag} (h : d.Canonical) : (d.cohAnswer line src tag).Canonical := by
  unfold Dev.cohAnswer
  extract_lets
  split
  · split
    · exact .cohEnd (.modDir h)
    · exact .stale h
  · exact .stale h

theorem Dev.Canonical.cohForget {m} (h : d.Canonical) : (d.cohForget m).Canonical :=
  .foldl (fun _ _ => .cohEnd) (.update h)

theorem Dev.Canonical.loadFrom {c w data poison} (h : d.Canonical) : (d.loadFrom c w data poison).Canonical :=
  .ite (.scalarPoison h) (.answerLoad h)

theorem Dev.Canonical.dropCopy {r} (h : d.Canonical) : (d.dropCopy r).Canonical :=
  .cohSend (.update h)

theorem Dev.Canonical.keepCopy {r} (h : d.Canonical) : (d.keepCopy r).Canonical := by
  unfold Dev.keepCopy
  extract_lets others
  refine .ite ?_ (.update h)
  clear_value others
  split
  · exact .dropCopy (.update h)
  · exact .hubTrim (.update h)

theorem Dev.Canonical.hostAnswer {h' r} (h : d.Canonical) : (d.hostAnswer h' r).Canonical := by
  unfold Dev.hostAnswer
  split <;> exact .emit h

theorem Dev.Canonical.apertureFault {part va c} (h : d.Canonical) : (d.apertureFault part va c).Canonical :=
  .notify h

theorem Dev.Canonical.hostReadFail {h' cause} (h : d.Canonical) : (d.hostReadFail h' cause).Canonical :=
  .hostAnswer (.apertureFault (.update h))

theorem Dev.Canonical.hostReadLine {h' line data poison} (h : d.Canonical) : (d.hostReadLine h' line data poison).Canonical :=
  .ite (.hostAnswer (.update h)) (.update h)

theorem Dev.Canonical.grant {m now} (h : d.Canonical) : (grant m now d).Canonical := by
  unfold Machine.grant
  split
  · extract_lets d1 _ d2
    have h1 : d1.Canonical := .takeIngress (.advance h)
    have h2 : d2.Canonical := .ite h1 (.keepCopy h1)
    refine .ite (.foldl (fun _ _ h => .ite (.hostReadFail h) (.hostReadLine h)) h2) ?_
    split
    · exact .ite (.ite (.ackCore h2) (.loadFrom h2)) h2
    · exact h2
  · exact h

theorem Dev.Canonical.readSh {m now} (h : d.Canonical) : (readSh m now d).Canonical := by
  unfold Machine.readSh
  split
  · extract_lets d1
    have h1 : d1.Canonical := .takeIngress (.advance h)
    split
    · exact .cohServe h1
    · exact .cohSend (.homeWalk h1)
  · exact h

theorem Dev.Canonical.write {m now} (h : d.Canonical) : (write m now d).Canonical := by
  unfold Machine.write
  split
  · extract_lets d1
    have h1 : d1.Canonical := .takeIngress (.advance h)
    split
    · exact .cohServe h1
    · exact .cohSend (.homeWalk h1)
  · exact h

theorem Dev.Canonical.writeAck {m now} (h : d.Canonical) : (writeAck m now d).Canonical := by
  unfold Machine.writeAck
  split
  · exact .ackCore (.takeIngress (.advance h))
  · exact h

theorem Dev.Canonical.snoopInv {m now} (h : d.Canonical) : (snoopInv m now d).Canonical := by
  unfold Machine.snoopInv
  split
  · extract_lets _ _ _ d1
    have h1 : d1.Canonical := .update (.takeIngress (.advance h))
    split
    · exact .cohSend (.update h1)
    split <;> exact .cohSend h1
  · exact h

theorem Dev.Canonical.ansInvalidated {m now} (h : d.Canonical) : (ansInvalidated m now d).Canonical := by
  unfold Machine.ansInvalidated
  split
  · extract_lets d1
    have h1 : d1.Canonical := .takeIngress (.advance h)
    split
    · exact .cohAnswer h1
    · exact .stale (.homeWalk h1)
  · exact h

theorem Dev.Canonical.ansEvicting {m now} (h : d.Canonical) : (ansEvicting m now d).Canonical := by
  unfold Machine.ansEvicting
  split
  · extract_lets d1
    have h1 : d1.Canonical := .takeIngress (.advance h)
    split
    · exact .cohAnswer h1
    · exact .stale (.homeWalk h1)
  · exact h

theorem Dev.Canonical.evictNotice {m now} (h : d.Canonical) : (evictNotice m now d).Canonical := by
  unfold Machine.evictNotice
  split
  · extract_lets d1
    have h1 : d1.Canonical := .takeIngress (.advance h)
    split
    · exact .stale (.homeWalk h1)
    · exact .ite (.modDir h1) (.stale h1)
  · exact h

theorem Dev.Canonical.readerCopyEvict {key va now} (h : d.Canonical) : (readerCopyEvict key va now d).Canonical := by
  unfold Machine.readerCopyEvict
  extract_lets
  split
  · exact .advance h
  · exact .dropCopy (.advance h)

theorem Dev.Canonical.evictionRecordExpire {now} (h : d.Canonical) : (evictionRecordExpire now d).Canonical :=
  .update (.advance h)

theorem Dev.Canonical.snoopResendTimeout {line now} (h : d.Canonical) : (snoopResendTimeout line now d).Canonical := by
  unfold Machine.snoopResendTimeout
  extract_lets
  split
  · exact .advance h
  · exact .ite (.advance h) (.ite (.foldl (fun _ _ h => .notice h) (.modDir (.advance h))) (.foldl (fun _ _ h => .cohSend h) (.modDir (.advance h))))

theorem Dev.Canonical.egressSend {l o} (h : d.Canonical) : (d.egressSend l o).Canonical :=
  .egress (.updateMem h)

theorem Dev.Canonical.egressWriteback {key va now} (h : d.Canonical) : (egressWriteback key va now d).Canonical := by
  unfold Machine.egressWriteback
  extract_lets
  split
  · exact .egressSend (.advance h)
  · exact .advance h

theorem Dev.Canonical.egressStore {home part key va bs} (h : d.Canonical) : (d.egressStore home part key va bs).Canonical := by
  unfold Dev.egressStore
  extract_lets
  split
  · exact .updateMem h
  · refine .updateMem (.ite ?_ h)
    split
    · exact .egressSend h
    · exact h

theorem Dev.Canonical.hubCacheEvict {line errs now} (h : d.Canonical) : (hubCacheEvict line errs now d).Canonical :=
  .hubWriteBack (.foldl (fun _ _ => .ecc) (.advance h))

end Sys2Proof.Machine
end

section
/-! ## Memory stays canonical: the step clasp and the start of journal recovery -/
namespace Sys2Proof.Machine

variable {d : Dev}

theorem Dev.Canonical.jrnReport {p} (h : d.Canonical) : (d.jrnReport p).2.Canonical :=
  .ite (.notice h) h

theorem Dev.Canonical.abortEntries {p} (h : d.Canonical) : (d.abortEntries p).Canonical :=
  .foldl (fun _ _ h => .dropEntry h) h

theorem Dev.Canonical.jrnMember {p coord} (h : d.Canonical) : (d.jrnMember p coord).Canonical :=
  .ite (.modPart (.jrnReport (.modPart (.abortEntries h)))) (.mgmt (.jrnReport (.modPart (.abortEntries h))))

theorem Dev.Canonical.journalStart {p} (h : d.Canonical) : (d.journalStart p).Canonical := by
  unfold Dev.journalStart
  extract_lets
  split
  · exact h
  · exact .ite (.mgmt h) (.foldl (fun _ _ h => .mgmt h) (.jrnMember (.modPart h)))

theorem Dev.Canonical.closeFailed {p cause} (h : d.Canonical) : (d.closeFailed p cause).Canonical :=
  .ite h (.journalStart h)

theorem Dev.Canonical.claspCount {n} (h : d.Canonical) : (d.claspCount n).Canonical := by
  unfold Dev.claspCount
  split
  · exact h
  · exact .ite (.ite h (.notify (.modPart h))) (.ite h (.foldl (fun _ _ h => .ite (.closeFailed (.signalHome h)) (.egress h)) (.semSet h)))

theorem Dev.Canonical.signalApply {handle inc key sender} (h : d.Canonical) : (d.signalApply handle inc key sender).1.Canonical :=
  .ite_fst (.claspCount (.signalHome h)) (.signalHome h)

theorem Dev.Canonical.journalAuto {p} (h : d.Canonical) : (d.journalAuto p).Canonical :=
  .ite h (.journalStart h)

theorem Dev.Canonical.replayEnded {queue index} (h : d.Canonical) : (d.replayEnded queue index).Canonical := by
  unfold Dev.replayEnded
  split
  · exact .ite (.modPart (.modPart h)) (.mgmt (.modPart h))
  · exact h

end Sys2Proof.Machine
end

section
/-! ## Memory stays canonical: the data mover -/
namespace Sys2Proof.Machine

variable {d : Dev}

theorem Dev.Canonical.readSource {who s have' limit} (h : d.Canonical) : (d.readSource who s have' limit).1.Canonical :=
  .ite_fst h (.readBeads h)

theorem Dev.Canonical.moveBead {who s x ms b} (h : d.Canonical) : (d.moveBead who s x ms b).1.Canonical := by
  unfold Dev.moveBead
  split
  · exact h
  · exact .putBytes h

theorem Dev.Canonical.formBead {who s x ms b} (h : d.Canonical) : (d.formBead who s x ms b).1.Canonical :=
  .putBead h

theorem Dev.Canonical.putRow {who s x ms r} (h : d.Canonical) : (d.putRow who s x ms r).Canonical :=
  .foldl (fun _ _ h => .poison h) (.writeVa h)

theorem Dev.Canonical.putCopy {who s x ms} (h : d.Canonical) : (d.putCopy who s x ms).1.Canonical :=
  .ite_fst (.foldl (fun _ _ h => .putRow h) h) (.foldl_fst (fun _ _ h => .ite_fst (.moveBead h) (.formBead h)) h)

theorem Dev.Canonical.copy {c e tdd tds} (h : d.Canonical) : (d.copy c e tdd tds).Canonical := by
  unfold Dev.copy
  extract_lets
  split
  · exact .finish (.readSource h)
  · exact .finish (.modCore (.putCopy (.readSource h)))

theorem Dev.Canonical.copyStage {c e tds} (h : d.Canonical) : (d.copyStage c e tds).Canonical := by
  unfold Dev.copyStage
  extract_lets
  split
  · exact .finish (.readSource h)
  · exact .modCore (.readSource h)

theorem Dev.Canonical.copyRun {c id errs sel} (h : d.Canonical) : (d.copyRun c id errs sel).Canonical := by
  unfold Dev.copyRun
  extract_lets
  split
  · split
    · exact .ite (.working (.eccHeld h)) (.ite (.ite (.copy (.working (.eccHeld h))) (.working (.eccHeld h)))
        (.ite (.copyStage (.working (.eccHeld h))) (.working (.eccHeld h))))
    · exact h
  · exact h

theorem Dev.Canonical.tload {c id errs now} (h : d.Canonical) : (tload c id errs now d).Canonical :=
  .copyRun (.advance h)

theorem Dev.Canonical.tstore {c id errs now} (h : d.Canonical) : (tstore c id errs now d).Canonical :=
  .copyRun (.advance h)

theorem Dev.Canonical.tmove {c id errs now} (h : d.Canonical) : (tmove c id errs now d).Canonical :=
  .copyRun (.advance h)

end Sys2Proof.Machine
end

section
/-! ## Memory stays canonical: the synchronisation unit and the chain set -/
namespace Sys2Proof.Machine

variable {d : Dev}

theorem Dev.Canonical.arm {c id now} (h : d.Canonical) : (arm c id now d).Canonical := by
  unfold Machine.arm
  extract_lets
  split
  · exact .working (.advance h)
  split
  · exact .finish (.modCore (.working (.advance h)))
  · exact h

theorem Dev.Canonical.disarm {c id now} (h : d.Canonical) : (disarm c id now d).Canonical := by
  unfold Machine.disarm
  extract_lets
  split
  · exact .working (.advance h)
  split
  · split
    · exact .ite (.finish (.modCore (.working (.advance h)))) (.working (.advance h))
    · exact .finish (.working (.advance h))
  · exact h

theorem Dev.Canonical.sendSignal {c e} (h : d.Canonical) : (d.sendSignal c e).Canonical :=
  .ite (.finish (.signalApply h)) (.egress (.modCore h))

theorem Dev.Canonical.signalRun {c id release} (h : d.Canonical) : (d.signalRun c id release).Canonical := by
  unfold Dev.signalRun
  extract_lets
  split
  · exact .working h
  split
  · exact .ite h (.ite (.working h) (.sendSignal (.working h)))
  · exact h

theorem Dev.Canonical.signal {c id now} (h : d.Canonical) : (signal c id now d).Canonical :=
  .signalRun (.advance h)

theorem Dev.Canonical.signalRelease {c id now} (h : d.Canonical) : (signalRelease c id now d).Canonical :=
  .signalRun (.advance h)

theorem Dev.Canonical.waitRun {c id consume} (h : d.Canonical) : (d.waitRun c id consume).Canonical := by
  unfold Dev.waitRun
  extract_lets
  split
  · exact .working h
  split
  · refine .ite h ?_
    extract_lets
    refine .ite (.finish (.working h)) ?_
    split
    · exact .serveWaits (.ite (.working h) (.update (.working h)))
    · exact .finish (.semForeign (.working h))
    · exact .finish (.stale (.working h))
  · exact h

theorem Dev.Canonical.wait {c id now} (h : d.Canonical) : (wait c id now d).Canonical :=
  .waitRun (.advance h)

theorem Dev.Canonical.waitConsume {c id now} (h : d.Canonical) : (waitConsume c id now d).Canonical :=
  .waitRun (.advance h)

theorem Dev.Canonical.waitSatisfied {sem now} (h : d.Canonical) : (waitSatisfied sem now d).Canonical :=
  .serveWaits (.advance h)

theorem Dev.Canonical.flushRange {key va n o} (h : d.Canonical) : (d.flushRange key va n o).Canonical :=
  .foldl (fun _ _ h => .egressSend h) h

theorem Dev.Canonical.rflushDone {c e} (h : d.Canonical) : (d.rflushDone c e).Canonical := by
  unfold Dev.rflushDone
  split
  · exact .ite h (.finish h)
  · exact h

theorem Dev.Canonical.rflushAgain {c} (h : d.Canonical) : (d.rflushAgain c).Canonical :=
  .foldl (fun _ _ h => .rflushDone h) h

theorem Dev.Canonical.rflush {c id now} (h : d.Canonical) : (rflush c id now d).Canonical := by
  unfold Machine.rflush
  extract_lets
  split
  · exact .working (.advance h)
  split
  · exact .ite (.finish (.working (.advance h))) (.ite (.rflushDone (.working (.advance h)))
      (.ite (.working (.advance h)) (.rflushAgain (.modCore (.flushRange (.working (.advance h)))))))
  · exact h

theorem Dev.Canonical.clasp {c id now} (h : d.Canonical) : (clasp c id now d).Canonical := by
  unfold Machine.clasp
  extract_lets
  split
  · exact .working (.advance h)
  split
  · exact .ite (.working (.advance h)) (.finish (.working (.advance h)))
  · exact h

theorem Dev.Canonical.digestRun {c id errs useAcc} (h : d.Canonical) : (d.digestRun c id errs useAcc).Canonical := by
  unfold Dev.digestRun
  extract_lets
  split
  · exact .working (.eccHeld h)
  split
  · refine .ite h (.ite (.working (.eccHeld h)) ?_)
    extract_lets
    split
    · exact .finish (.readBeads (.working (.eccHeld h)))
    · exact .finish (.ite (.modPart (.writeVa (.modCore (.readBeads (.working (.eccHeld h))))))
        (.writeVa (.modCore (.readBeads (.working (.eccHeld h))))))
  · exact h

theorem Dev.Canonical.digest {c id errs now} (h : d.Canonical) : (digest c id errs now d).Canonical :=
  .digestRun (.advance h)

theorem Dev.Canonical.digestAcc {c id errs now} (h : d.Canonical) : (digestAcc c id errs now d).Canonical :=
  .digestRun (.advance h)

theorem Dev.Canonical.cset {c id now} (h : d.Canonical) : (cset c id now d).Canonical := by
  unfold Machine.cset
  extract_lets
  split
  · split
    · exact .ite (.finish (.modCore (.advance h))) (.advance h)
    · exact .advance h
  · exact .advance h

end Sys2Proof.Machine
end

section
/-! ## Memory stays canonical: the control core -/
namespace Sys2Proof.Machine

variable {d : Dev}

theorem Dev.Canonical.csrTo {c a rd} (h : d.Canonical) : (d.csrTo c a rd).Canonical := by
  unfold Dev.csrTo
  split
  · exact .modCore h
  · exact h

theorem Dev.Canonical.csrReads {c l} (h : d.Canonical) : (d.csrReads c l).Canonical :=
  .foldl (fun _ _ h => .csrTo h) h

theorem Dev.Canonical.of_progStop {c p} {t : Dev} (h : d.Canonical) (ht : d.progStop c p = some t) : t.Canonical := by
  unfold Dev.progStop at ht
  split at ht
  · cases ht
    exact .exception (.draw h)
  split at ht <;> cases ht
  · exact .exception (.walkNotice h)
  · exact .scalarPoison h

theorem Dev.Canonical.bringUp {p} (h : d.Canonical) : (d.bringUp p).Canonical :=
  .csrReads (.modCore h)

theorem Dev.Canonical.prog {p now ok} {f : Dev → Dev} (hf : ∀ d, d.Canonical → (f d).Canonical) (h : d.Canonical) :
    (d.prog p now ok f).Canonical := by
  unfold Dev.prog
  refine .ite ?_ (.advance h)
  split
  next => exact hf _ (.bringUp (.advance h))
  next t ht => exact .ite (.of_progStop (.bringUp (.advance h)) ht) (.advance h)

theorem Dev.Canonical.ecallEnd {p now} (h : d.Canonical) : (ecallEnd p now d).Canonical :=
  .prog (fun _ h => .ite (.beginEnd h) (.exception h)) h

theorem Dev.Canonical.programException {p mcause mtval now} (h : d.Canonical) : (programException p mcause mtval now d).Canonical :=
  .prog (fun _ h => .exception h) h

theorem Dev.Canonical.branchMispredict {p young now} (h : d.Canonical) : (branchMispredict p young now d).Canonical :=
  .prog (fun _ h => .modCore h) h

theorem Dev.Canonical.scalarTrap {c mcause mtval f} (h : d.Canonical) : (d.scalarTrap c mcause mtval f).Canonical :=
  .exception (.walkNotice h)

theorem Dev.Canonical.await {c w} (h : d.Canonical) : (d.await c w).Canonical :=
  .modCore h

theorem Dev.Canonical.loadMem {c w mpa} (h : d.Canonical) : (d.loadMem c w mpa).Canonical :=
  .ite (.scalarPoison h) (.answerLoad h)

theorem Dev.Canonical.loadLds {c w off} (h : d.Canonical) : (d.loadLds c w off).Canonical :=
  .ite (.scalarPoison h) (.answerLoad h)

theorem Dev.Canonical.loadRemote {c w home} (h : d.Canonical) : (d.loadRemote c w home).Canonical :=
  .egress (.await (.update h))

theorem Dev.Canonical.scalarLoad {p w errs now} (h : d.Canonical) : (scalarLoad p w errs now d).Canonical := by
  unfold Machine.scalarLoad
  extract_lets
  refine .prog (fun _ h => ?_) h
  extract_lets _ d1 t d2
  have h1 : d1.Canonical := .foldl (fun _ _ => .ecc) h
  have h2 : d2.Canonical := .tcFill h1
  refine .ite h1 ?_
  clear_value t
  split
  · exact .scalarTrap h1
  · exact .loadLds h1
  · exact .loadMem (.tcFill h1)
  · exact .loadMem (.tcFill h1)
  · exact .ite h1 (.loadMem (.tcFill h1))
  · exact .ite h1 (.loadRemote (.tcFill h1))
  refine .ite h2 ?_
  split
  · exact .loadFrom h2
  · exact .cohSend (.await h2)

theorem Dev.Canonical.storeLds {c off bs} (h : d.Canonical) : (d.storeLds c off bs).Canonical :=
  .modCore h

theorem Dev.Canonical.cohWrite {c va home line op} (h : d.Canonical) : (d.cohWrite c va home line op).Canonical := by
  unfold Dev.cohWrite
  extract_lets
  split
  · exact .cohServe (.ite h (.modCore h))
  · exact .cohSend (.ite h (.modCore h))

theorem Dev.Canonical.scalarStore {p va size v now} (h : d.Canonical) : (scalarStore p va size v now d).Canonical := by
  unfold Machine.scalarStore
  extract_lets
  refine .prog (fun _ h => ?_) h
  extract_lets
  split
  · exact .scalarTrap h
  · exact .storeLds h
  · exact .writePlain (.tcFill h)
  · exact .writePlain (.tcFill h)
  · exact .ite h (.cohWrite (.tcFill h))
  · exact .ite h (.cohWrite (.tcFill h))
  · exact .egressStore (.tcFill h)

theorem Dev.Canonical.amo {p op wide va v rd rl now} (h : d.Canonical) : (amo p op wide va v rd rl now d).Canonical := by
  unfold Machine.amo
  extract_lets
  refine .prog (fun _ h => ?_) h
  extract_lets
  split
  · exact .scalarTrap h
  · exact .ite (.scalarPoison h) (.answerLoad (.storeLds h))
  · exact .ite (.scalarPoison h) (.answerLoad (.writePlain h))
  · exact .ite h (.cohWrite (.await h))
  · exact .ite h (.cohWrite (.await h))
  · exact .exception h
  · exact .exception h

theorem Dev.Canonical.lr {p wide va rd now} (h : d.Canonical) : (lr p wide va rd now d).Canonical := by
  unfold Machine.lr
  extract_lets
  refine .prog (fun _ h => ?_) h
  split
  · exact .scalarTrap h
  · exact .loadLds (.modCore h)
  · exact .loadMem (.modCore h)
  · exact .cohWrite (.await (.modCore h))
  · exact .cohWrite (.await (.modCore h))
  · exact .exception h
  · exact .exception h

theorem Dev.Canonical.sc {p wide va v rd now} (h : d.Canonical) : (sc p wide va v rd now d).Canonical := by
  unfold Machine.sc
  extract_lets
  refine .prog (fun _ h => ?_) h
  extract_lets
  split
  · exact .scalarTrap h
  · exact .ite (.scalarPoison h) (.ite (.answerLoad (.storeLds (.modCore h))) (.answerLoad (.modCore h)))
  · exact .ite (.scalarPoison h) (.ite (.answerLoad (.writePlain (.modCore h))) (.answerLoad (.modCore h)))
  · exact .ite h (.cohWrite (.await (.modCore h)))
  · exact .ite h (.cohWrite (.await (.modCore h)))
  · exact .exception h
  · exact .exception h

theorem Dev.Canonical.fence {p predW now} (h : d.Canonical) : (fence p predW now d).Canonical :=
  .prog (fun _ h => h) h

theorem Dev.Canonical.modTx {c f} (h : d.Canonical) : (d.modTx c f).Canonical :=
  .modCore h

theorem Dev.Canonical.txctlWrite {p v rd now} (h : d.Canonical) : (txctlWrite p v rd now d).Canonical :=
  .prog (fun _ h => .modTx (.csrTo h)) h

theorem Dev.Canonical.txfaultWrite {p rd now} (h : d.Canonical) : (txfaultWrite p rd now d).Canonical :=
  .prog (fun _ h => .modTx (.csrTo h)) h

theorem Dev.Canonical.tdWrite {p hi v rd now} (h : d.Canonical) : (tdWrite p hi v rd now d).Canonical :=
  .prog (fun _ h => .modTx (.csrTo h)) h

theorem Dev.Canonical.crdataWrite {p v rd now} (h : d.Canonical) : (crdataWrite p v rd now d).Canonical :=
  .prog (fun _ h => .modTx (.csrTo h)) h

theorem Dev.Canonical.csrWrite {p addr v rd now} (h : d.Canonical) : (csrWrite p addr v rd now d).Canonical := by
  unfold Machine.csrWrite
  extract_lets
  refine .prog (fun _ h => ?_) h
  extract_lets
  split
  · exact .modCore (.csrTo h)
  · exact .modCore (.csrTo h)
  · exact .modCore (.csrTo h)
  · exact .modTx (.csrTo h)
  · exact .modTx (.csrTo h)
  · exact .modTx (.csrTo h)
  · exact .modTx (.csrTo h)
  · exact .modTx (.csrTo h)
  · exact .modTx (.csrTo h)
  · exact .modTx (.csrTo h)
  · exact .exception (.draw h)

theorem Dev.Canonical.tiqEnter {p word now} (h : d.Canonical) : (tiqEnter p word now d).Canonical :=
  .prog (fun _ h => .modCore h) h

theorem Dev.Canonical.engineBegin {c id cycle now} (h : d.Canonical) : (engineBegin c id cycle now d).Canonical :=
  .beginEntry (.modCore (.advance h))

theorem Dev.Canonical.recheckEntry {c e} (h : d.Canonical) : (d.recheckEntry c e).Canonical := by
  unfold Dev.recheckEntry
  refine .ite h ?_
  split
  · exact .modCore (.walkNotice h)
  · exact .modCore h

theorem Dev.Canonical.commitEntry {c e} (h : d.Canonical) : (d.commitEntry c e).Canonical := by
  unfold Dev.commitEntry
  split
  · exact .exception (.draw h)
  extract_lets
  split
  · split
    · exact .exception h
    · exact .ite (.scalarPoison h) (.ite (.completeEntry (.modCore (.recheckEntry h))) (.modCore (.recheckEntry h)))
  · exact .ite (.completeEntry (.modCore (.recheckEntry h))) (.modCore (.recheckEntry h))

theorem Dev.Canonical.tensorCommit {c now} (h : d.Canonical) : (tensorCommit c now d).Canonical := by
  unfold Machine.tensorCommit
  extract_lets
  refine .ite ?_ (.advance h)
  split
  · exact .ite (.commitEntry (.advance h)) (.advance h)
  · exact .advance h

theorem Dev.Canonical.tensorComplete {c id now} (h : d.Canonical) : (tensorComplete c id now d).Canonical :=
  .completeEntry (.advance h)

theorem Dev.Canonical.beadLand {mpa bytes sb poison now} (h : d.Canonical) : (beadLand mpa bytes sb poison now d).Canonical := by
  unfold Machine.beadLand
  extract_lets
  split
  · exact .ite (.arriveBead (.advance h)) (.advance h)
  · exact .advance h

end Sys2Proof.Machine
end

section
/-! ## Memory stays canonical: the fabric switches -/
namespace Sys2Proof.Machine

variable {d : Dev}

theorem Dev.Canonical.modSwitch {die f} (h : d.Canonical) : (d.modSwitch die f).Canonical :=
  .update h

theorem Dev.Canonical.modCount {p f} (h : d.Canonical) : (d.modCount p f).Canonical :=
  .update h

theorem Dev.Canonical.modPort {p f} (h : d.Canonical) : (d.modPort p f).Canonical :=
  .update h

theorem Dev.Canonical.keyDrop {port k} (h : d.Canonical) : (d.keyDrop port k).Canonical :=
  .ite (.notice (.modCount h)) (.modCount h)

theorem Dev.Canonical.countTx {port p} (h : d.Canonical) : (d.countTx port p).Canonical :=
  .modCount h

theorem Dev.Canonical.ringSend {a b p} (h : d.Canonical) : (d.ringSend a b p).Canonical :=
  .pkgQueue h

theorem Dev.Canonical.sendOut {die o p} (h : d.Canonical) : (d.sendOut die o p).Canonical :=
  .ite (.modPort (.countTx (.modSwitch h))) (.ite (.ringSend (.modSwitch h)) (.ite (.ringSend (.modSwitch h))
    (.modSwitch (.pkgQueue (.modSwitch h)))))

theorem Dev.Canonical.routeBank {die p} (h : d.Canonical) : (d.routeBank die p).2.2.Canonical := by
  unfold Dev.routeBank
  split
  · exact h
  · exact .modSwitch h

theorem Dev.Canonical.halyardCopy {die input p} (h : d.Canonical) : (d.halyardCopy die input p).Canonical :=
  .ite (.ite (.modCount h) (.modSwitch h)) (.foldl (fun _ _ h => .ite (.modCount h) (.ite (.modSwitch h) (.modSwitch h))) h)

theorem Dev.Canonical.arbOne {die a} {st : Dev × List Nat} (h : st.1.Canonical) : (Dev.arbOne die st a).1.Canonical := by
  unfold Dev.arbOne
  extract_lets d0 free r p d1 ent adm prod
  have h1 : d1.Canonical := .routeBank h
  clear_value d1
  refine .ite_fst (.halyardCopy h) (.ite_fst (.modSwitch h1) ?_)
  split
  · exact .sendOut (.ite (.modCount h1) h1)
  · exact .ite_fst (.modSwitch h1) (.modSwitch h1)

theorem Dev.Canonical.arbCheck {die a} (h : d.Canonical) : (d.arbCheck die a).1.Canonical :=
  .ite_fst (.modSwitch h) (.ite_fst (.ite (.modCount h) (.modSwitch h)) (.ite_fst (.keyDrop h) h))

theorem Dev.Canonical.promote {die} (h : d.Canonical) : (d.promote die).Canonical := by
  unfold Dev.promote
  extract_lets _ best
  refine .ite h ?_
  clear_value best
  split
  · split
    · exact .modSwitch h
    · exact h
  · exact h

theorem Dev.Canonical.serveHalyards {die o} {st : Dev × List Nat} (h : st.1.Canonical) : (Dev.serveHalyards die st o).1.Canonical := by
  unfold Dev.serveHalyards
  extract_lets
  split
  · exact .ite_fst (.modSwitch h) (.ite_fst (.sendOut (.modSwitch h)) h)
  · exact h

theorem Dev.Canonical.injectOne {die i} {st : Dev × List Nat} (h : st.1.Canonical) : (Dev.injectOne die st i).1.Canonical := by
  unfold Dev.injectOne
  extract_lets
  split
  · exact h
  · refine .ite_fst (.modSwitch (.modSwitch h)) (.ite_fst (.modSwitch (.modSwitch h)) (.ite_fst (.halyardCopy (.modSwitch h))
      (.ite_fst (.modSwitch (.modSwitch (.routeBank h))) ?_)))
    split
    · exact .sendOut (.modSwitch (.routeBank h))
    · exact .modSwitch h

theorem Dev.Canonical.toDie {die p} (h : d.Canonical) : (d.toDie die p).Canonical :=
  .pkgQueue h

theorem Dev.Canonical.fillHub {die} (h : d.Canonical) : (d.fillHub die).Canonical :=
  .foldl (fun _ _ h => .toDie h) (.update h)

theorem Dev.Canonical.fromHub {die p} (h : d.Canonical) : (d.fromHub die p).Canonical :=
  .modSwitch h

theorem Dev.Canonical.turn {port} (h : d.Canonical) : (d.turn port).Canonical :=
  .ite (.modPort h) (.emit (.modPort h))

theorem Dev.Canonical.sendFrame {port ftype fseq nak body} (h : d.Canonical) : (d.sendFrame port ftype fseq nak body).Canonical :=
  .emit (.turn h)

theorem Dev.Canonical.sendMgmt {port o} (h : d.Canonical) : (d.sendMgmt port o).Canonical :=
  .emit (.turn h)

theorem Dev.Canonical.closeFrame {port} (h : d.Canonical) : (d.closeFrame port).Canonical :=
  .ite h (.sendFrame (.modPort h))

theorem Dev.Canonical.switchCycle {die slots now} (h : d.Canonical) : (switchCycle die slots now d).Canonical := by
  delta Machine.switchCycle
  extract_lets d1 d2 ports d3 s free arr extra d4 st r r2 r3
  have h1 : d1.Canonical := .promote (.fillHub (.advance h))
  have h2 : d2.Canonical := .foldl (fun _ _ h => .ite h (.closeFrame h)) h1
  have h3 : d3.Canonical := .foldl (fun _ _ h => .modCount h) h2
  have h4 : d4.Canonical := .modSwitch h3
  have hst : st.1.Canonical := .foldl_pair (fun _ _ h => .arbCheck h) h4
  have hr : r.1.Canonical := .foldl_fst (fun _ _ => .arbOne) hst
  have hr2 : r2.1.Canonical := .foldl_fst (fun _ _ => .serveHalyards) hr
  exact .modSwitch (.foldl_fst (fun _ _ => .injectOne) hr2)

theorem Dev.Canonical.injectionPromote {die now} (h : d.Canonical) : (injectionPromote die now d).Canonical :=
  .promote (.advance h)

theorem Dev.Canonical.routeStage {die table now} (h : d.Canonical) : (routeStage die table now d).Canonical :=
  .ite (.reply (.advance h)) (.reply (.modSwitch (.advance h)))

theorem Dev.Canonical.routeArmTime {t now} (h : d.Canonical) : (routeArmTime t now d).Canonical :=
  .ite (.reply (.advance h)) (.ite (.reply (.advance h)) (.reply (.update (.advance h))))

theorem Dev.Canonical.epochSwitch {now} (h : d.Canonical) : (epochSwitch now d).Canonical := by
  unfold Machine.epochSwitch
  extract_lets
  split
  · exact .ite (.update (.advance h)) (.advance h)
  · exact .advance h

theorem Dev.Canonical.epochRetire {now} (h : d.Canonical) : (epochRetire now d).Canonical := by
  unfold Machine.epochRetire
  extract_lets
  split
  · exact .ite (.foldl (fun _ _ h => .modSwitch h) (.update (.advance h))) (.advance h)
  · exact .advance h

end Sys2Proof.Machine
end

section
/-! ## Memory stays canonical: pair order between modules -/
namespace Sys2Proof.Machine

variable {d : Dev}

theorem Dev.Canonical.packetDone {c e cause va} (h : d.Canonical) : (d.packetDone c e cause va).Canonical :=
  .ite (.finish (.ite (.streamDone (.modCore h)) (.modCore h))) (.modCore h)

theorem Dev.Canonical.recvDone {o pos cause va} (h : d.Canonical) : (d.recvDone o pos cause va).Canonical := by
  unfold Dev.recvDone
  extract_lets
  split
  · exact .update h
  · exact .ite (.finish (.streamDone (.update (.modCore h)))) (.update (.modCore h))

theorem Dev.Canonical.loadFault {c va} (h : d.Canonical) : (d.loadFault c va).Canonical :=
  .ite (.exception (.modCore h)) h

theorem Dev.Canonical.flushLost {p cause va} (h : d.Canonical) : (d.flushLost p cause va).Canonical :=
  .ite h (.update h)

theorem Dev.Canonical.settle {q cause va} (h : d.Canonical) : (d.settle q cause va).Canonical := by
  unfold Dev.settle
  extract_lets _ d1
  have h1 : d1.Canonical := .ite (.foldl (fun _ _ => .rflushAgain) (.flushLost h)) h
  split
  · split
    · exact h1
    refine .ite ?_ (.packetDone h1)
    refine .ite h1 ?_
    split
    · exact .recvDone h1
    · exact h1
  · exact .update h1
  · exact .ite h1 (.loadFault h1)
  · exact .foldl (fun _ _ h => .hostReadFail h) h1
  · exact .closeFailed h1
  · exact h1

theorem Dev.Canonical.streamUse {sid} (h : d.Canonical) : (d.streamUse sid).Canonical :=
  .update h

theorem Dev.Canonical.send {c id errs now} (h : d.Canonical) : (send c id errs now d).Canonical := by
  unfold Machine.send
  extract_lets _ d1
  have h1 : d1.Canonical := .working (.eccHeld (.advance h))
  split
  · exact .working (.eccHeld (.advance h))
  split
  · refine .ite h1 ?_
    extract_lets
    split
    · exact .finish (.readBeads h1)
    · exact .foldl (fun _ _ h => .egress h) (.modCore (.streamUse (.readBeads h1)))
  · exact h

theorem Dev.Canonical.recv {c id now} (h : d.Canonical) : (recv c id now d).Canonical := by
  unfold Machine.recv
  extract_lets
  split
  · exact .working (.advance h)
  split
  · exact .ite (.working (.advance h)) (.foldl (fun _ _ h => .egress h) (.modCore (.streamUse (.update (.working (.advance h))))))
  · exact h

theorem Dev.Canonical.modOut {m f} (h : d.Canonical) : (d.modOut m f).Canonical :=
  .update h

theorem Dev.Canonical.modInn {m f} (h : d.Canonical) : (d.modInn m f).Canonical :=
  .update h

theorem Dev.Canonical.egressPost {die now} (h : d.Canonical) : (egressPost die now d).Canonical := by
  unfold Machine.egressPost
  extract_lets
  split
  · exact .advance h
  extract_lets _ _ _ _ _ _ _ _ _ _ _ d1
  have h1 : d1.Canonical := .update (.modOut (.update (.advance h)))
  exact .ite (.settle (.update (.advance h))) (.ite (.advance h) (.ite (.toDie h1) (.modSwitch h1)))

theorem Dev.Canonical.ingressKey {k} (h : d.Canonical) : (d.ingressKey k).Canonical :=
  .ite (.notice (.update h)) (.update h)

theorem Dev.Canonical.ingress {p now} (h : d.Canonical) : (d.ingress p now).1.Canonical :=
  .ite_fst (.update (.takeIngress (.advance h))) (.ite_fst (.ingressKey (.takeIngress (.advance h))) (.takeIngress (.advance h)))

theorem Dev.Canonical.answer {ptype dst key pseq addr xarg} (h : d.Canonical) : (d.answer ptype dst key pseq addr xarg).Canonical :=
  .hubSend h

theorem Dev.Canonical.refusePkt {p cause va} (h : d.Canonical) : (d.refusePkt p cause va).Canonical :=
  .answer h

theorem Dev.Canonical.landRecord {who va sb cform rec' pz} (h : d.Canonical) : (d.landRecord who va sb cform rec' pz).1.Canonical :=
  .putBytes h

theorem Dev.Canonical.owe {p a n} (h : d.Canonical) : (d.owe p a n).Canonical := by
  unfold Dev.owe
  extract_lets
  split
  · exact .windowWrote h
  · exact .modInn (.windowWrote h)

theorem Dev.Canonical.applyBead {p} (h : d.Canonical) : (d.applyBead p).Canonical := by
  unfold Dev.applyBead
  extract_lets _ _ chk _ _ _ d1 d2
  have h1 : d1.Canonical := by
    unfold d1
    clear_value chk
    split
    · exact .refusePkt (.homeWalk h)
    · exact h
  have h2 : d2.Canonical := .modInn h1
  refine .ite ?_ (.modInn h1)
  clear_value chk
  split
  · exact .ite h2 (.ite (.owe (.landRecord h2)) (.refusePkt (.landRecord h2)))
  · exact h2

theorem Dev.Canonical.applyLineWb {p} (h : d.Canonical) : (d.applyLineWb p).Canonical := by
  unfold Dev.applyLineWb
  split
  · exact .refusePkt (.homeWalk h)
  · exact .owe (.writePlain h)

theorem Dev.Canonical.applyReadReq {p} (h : d.Canonical) : (d.applyReadReq p).Canonical := by
  unfold Dev.applyReadReq
  extract_lets
  split
  · exact .refusePkt (.homeWalk h)
  · exact .ite (.hubSend h) (.foldl (fun _ _ h => .hubSend h) h)

theorem Dev.Canonical.applySignal {p} (h : d.Canonical) : (d.applySignal p).Canonical :=
  .ite (.signalApply h) (.refusePkt (.signalApply h))

theorem Dev.Canonical.applyPair {p} (h : d.Canonical) : (d.applyPair p).Canonical := by
  unfold Dev.applyPair
  split
  · exact .applyBead h
  · exact .applyLineWb h
  · exact .applyReadReq h
  · exact .applySignal h

theorem Dev.Canonical.advanceOne {m p} (h : d.Canonical) : (d.advanceOne m p).Canonical := by
  unfold Dev.advanceOne
  extract_lets
  split
  · exact .applyPair (.modInn h)
  · exact .update (.modInn h)

theorem Dev.Canonical.drainHeld {m n} {d : Dev} (h : d.Canonical) : (Dev.drainHeld m n d).Canonical := by
  induction n generalizing d with
  | zero => exact h
  | succ n ih =>
    unfold Dev.drainHeld
    dsimp only
    split
    · exact ih (.advanceOne (.update (.modInn h)))
    · exact .ite (ih (.advanceOne (.modInn h))) h

theorem Dev.Canonical.markGone {m first count} (h : d.Canonical) : (d.markGone m first count).Canonical :=
  .modInn h

theorem Dev.Canonical.lossSend {m key first count} (h : d.Canonical) : (d.lossSend m key first count).Canonical :=
  .answer h

theorem Dev.Canonical.reorderFull {p} (h : d.Canonical) : (d.reorderFull p).Canonical :=
  .lossSend (.markGone (.ite (.notice (.update (.update h))) (.update h)))

theorem Dev.Canonical.pairArrive {p} (h : d.Canonical) : (d.pairArrive p).Canonical := by
  unfold Dev.pairArrive
  extract_lets _ _ _ _ _ d1
  have h1 : d1.Canonical := .ite (.modInn (.update h)) h
  exact .ite (.lossSend h1) (.ite (.drainHeld (.advanceOne (.modInn h1))) (.ite (.ite (.reorderFull h1) (.modInn (.update h1))) (.stale h1)))

theorem Dev.Canonical.pairIngress {p t now} (h : d.Canonical) : (d.pairIngress p t now).Canonical :=
  .ite h (.ite (.pairArrive (.ingress h)) (.ingress h))

theorem Dev.Canonical.bead {p now} (h : d.Canonical) : (bead p now d).Canonical :=
  .pairIngress h

theorem Dev.Canonical.lineWb {p now} (h : d.Canonical) : (lineWb p now d).Canonical :=
  .pairIngress h

theorem Dev.Canonical.readReq {p now} (h : d.Canonical) : (readReq p now d).Canonical :=
  .pairIngress h

theorem Dev.Canonical.pktSignal {p now} (h : d.Canonical) : (pktSignal p now d).Canonical :=
  .pairIngress h

theorem Dev.Canonical.recvLand {o e p a rec' pos} (h : d.Canonical) : (d.recvLand o e p a rec' pos).Canonical := by
  unfold Dev.recvLand
  split
  · exact .recvDone (.ite_fst h (.landRecord h))
  · exact h

theorem Dev.Canonical.recvFrag {p} (h : d.Canonical) : (d.recvFrag p).Canonical := by
  unfold Dev.recvFrag
  refine .ite (.stale h) ?_
  split
  · exact .stale h
  split
  · exact .stale h
  refine .ite h ?_
  split
  · exact .stale h
  refine .ite (.stale h) ?_
  extract_lets
  split
  · exact .recvLand h
  · exact .update h

theorem Dev.Canonical.readResp {p now} (h : d.Canonical) : (readResp p now d).Canonical := by
  unfold Machine.readResp
  refine .ite h ?_
  extract_lets
  refine .ite (.ingress h) (.ite (.recvFrag (.ingress h)) ?_)
  split
  · split
    · exact .loadFrom (.ingress h)
    · exact .ingress h
  · exact .hostReadLine (.ingress h)
  · exact .stale (.ingress h)

theorem Dev.Canonical.settleWindow {m f cause} (h : d.Canonical) : (d.settleWindow m f cause).Canonical :=
  .foldl (fun _ _ h => .settle h) (.modOut h)

theorem Dev.Canonical.pairAck {p now} (h : d.Canonical) : (pairAck p now d).Canonical :=
  .ite h (.ite (.ingress h) (.settleWindow (.modOut (.ingress h))))

theorem Dev.Canonical.pairLoss {p now} (h : d.Canonical) : (pairLoss p now d).Canonical :=
  .ite h (.ite (.ingress h) (.settleWindow (.ite (.modOut (.ingress h)) (.ingress h))))

theorem Dev.Canonical.pairSkip {p now} (h : d.Canonical) : (pairSkip p now d).Canonical :=
  .ite h (.ite (.drainHeld (.markGone (.ingress h))) (.ingress h))

theorem Dev.Canonical.refuseRx {p now} (h : d.Canonical) : (refuseRx p now d).Canonical :=
  .ite h (.ite (.ingress h) (.foldl (fun _ _ h => .settle h) (.modOut (.ingress h))))

theorem Dev.Canonical.ackSend {m} (h : d.Canonical) : (d.ackSend m).Canonical :=
  .modInn (.answer h)

theorem Dev.Canonical.pairAckSend {m now} (h : d.Canonical) : (pairAckSend m now d).Canonical :=
  .ite (.ackSend (.advance h)) (.advance h)

theorem Dev.Canonical.pairAckRepeat {m now} (h : d.Canonical) : (pairAckRepeat m now d).Canonical := by
  unfold Machine.pairAckRepeat
  extract_lets
  split
  · exact .ite (.ackSend (.advance h)) (.advance h)
  · exact .advance h

theorem Dev.Canonical.pairGapLost {m now} (h : d.Canonical) : (pairGapLost m now d).Canonical := by
  unfold Machine.pairGapLost
  extract_lets
  split
  · exact .advance h
  · exact .ite (.lossSend (.drainHeld (.markGone (.advance h)))) (.advance h)

theorem Dev.Canonical.sourceLossDeclare {m now} (h : d.Canonical) : (sourceLossDeclare m now d).Canonical := by
  unfold Machine.sourceLossDeclare
  extract_lets
  split
  · exact .advance h
  · exact .settleWindow (.answer (.update (.advance h)))

theorem Dev.Canonical.recvTimeout {c id now} (h : d.Canonical) : (recvTimeout c id now d).Canonical := by
  unfold Machine.recvTimeout
  extract_lets
  split
  · refine .ite ?_ (.advance h)
    refine .foldl (fun _ _ h => ?_) (.advance h)
    split
    · exact .recvDone h
    · exact h
  · exact .advance h

end Sys2Proof.Machine
end

section
/-! ## Memory stays canonical: the command front end -/
namespace Sys2Proof.Machine

variable {d : Dev}

theorem Dev.Canonical.modQueue {i f} (h : d.Canonical) : (d.modQueue i f).Canonical :=
  .update h

theorem Dev.Canonical.queueNotice {q code cls arg0 arg1} (h : d.Canonical) : (d.queueNotice q code cls arg0 arg1).Canonical :=
  .notify h

theorem Dev.Canonical.gather {r} (h : d.Canonical) : (d.gather r).Canonical :=
  .foldl (fun _ _ h => .mgmt h) h

theorem Dev.Canonical.tellShare {i q share} (h : d.Canonical) : (d.tellShare i q share).Canonical :=
  .ite h (.foldl (fun _ _ h => .mgmt h) (.foldl (fun _ _ => .settleCore) h))

theorem Dev.Canonical.deactivate {i q f} (h : d.Canonical) : (d.deactivate i q f).Canonical :=
  .ite (.tellShare (.modQueue (.settleAll h))) (.modQueue (.settleAll h))

theorem Dev.Canonical.queueCreate {part func desc now} (h : d.Canonical) : (queueCreate part func desc now d).Canonical := by
  unfold Machine.queueCreate
  extract_lets
  split
  · exact .reply (.advance h)
  split
  · exact .reply (.advance h)
  · exact .reply (.recheckTails (.tellShare (.update (.settleAll (.advance h)))))

theorem Dev.Canonical.queueFree {i} (h : d.Canonical) : (d.queueFree i).Canonical := by
  unfold Dev.queueFree
  split
  · exact .ite (.reply (.update h)) h
  · exact h

theorem Dev.Canonical.queueDestroy {part handle now} (h : d.Canonical) : (queueDestroy part handle now d).Canonical := by
  unfold Machine.queueDestroy
  extract_lets
  split
  · exact .ite (.queueFree (.deactivate (.advance h))) (.reply (.ite (.advance h) (.stale (.advance h))))
  · exact .reply (.stale (.advance h))

theorem Dev.Canonical.ringFault {i} (h : d.Canonical) : (d.ringFault i).Canonical := by
  unfold Dev.ringFault
  split
  · exact .ite (.queueNotice (.deactivate h)) h
  · exact h

theorem Dev.Canonical.hostRingGone {q} (h : d.Canonical) : (d.hostRingGone q).Canonical :=
  .ite (.queueNotice (.deactivate h)) h

theorem Dev.Canonical.entryFetch {i host now} (h : d.Canonical) : (entryFetch i host now d).Canonical := by
  unfold Machine.entryFetch
  extract_lets
  split
  · exact .advance h
  refine .ite (.advance h) ?_
  split
  · exact .ringFault (.advance h)
  · exact .modQueue (.advance h)

theorem Dev.Canonical.doorTail {i w} (h : d.Canonical) : (d.doorTail i w).Canonical := by
  unfold Dev.doorTail
  split
  · exact .stale h
  · exact .ite h (.ite (.event (.modQueue h)) (.queueNotice h))

theorem Dev.Canonical.doorHead {i w} (h : d.Canonical) : (d.doorHead i w).Canonical := by
  unfold Dev.doorHead
  split
  · exact .stale h
  · exact .ite (.ite h (.event (.modQueue h))) (.queueNotice h)

theorem Dev.Canonical.door {i w} (h : d.Canonical) : (d.door i w).Canonical :=
  .ite (.doorHead h) (.doorTail h)

theorem Dev.Canonical.fwdMember {m func kind bytes} (h : d.Canonical) : (d.fwdMember m func kind bytes).1.Canonical :=
  .emit (.update h)

theorem Dev.Canonical.ring {func m i w} (h : d.Canonical) : (d.ring func m i w).Canonical :=
  .ite h (.ite (.ite (.door h) (.stale h)) (.ite h (.fwdMember h)))

theorem Dev.Canonical.doorbellSqTail {func m i w now} (h : d.Canonical) : (doorbellSqTail func m i w now d).Canonical :=
  .ite (.advance h) (.ring (.advance h))

theorem Dev.Canonical.doorbellCqHead {func m i w now} (h : d.Canonical) : (doorbellCqHead func m i w now d).Canonical :=
  .ite (.advance h) (.ring (.advance h))

theorem Dev.Canonical.blurScratch {c} (h : d.Canonical) : (d.blurScratch c).Canonical :=
  Dev.blurScratch_wf h c

theorem Dev.Canonical.startEntry {c qkey handle index part rig borrowed e} (h : d.Canonical) :
    (d.startEntry c qkey handle index part rig borrowed e).Canonical :=
  .modRig (.modCore (.update (.blurScratch (.settleCore (.settleQueue h)))))

theorem Dev.Canonical.startNext {c} (h : d.Canonical) : (d.startNext c).Canonical := by
  unfold Dev.startNext
  refine .ite h ?_
  split
  · exact .modQueue (.startEntry h)
  split
  · exact .update (.mgmt (.startEntry h))
  · exact h

theorem Dev.Canonical.passInvalid {i n} {d : Dev} (h : d.Canonical) : (Dev.passInvalid i n d).Canonical := by
  induction n generalizing d with
  | zero => exact h
  | succ n ih =>
    unfold Dev.passInvalid
    split
    · split
      · exact .ite (ih (.modQueue h)) h
      · exact h
    · exact h

theorem Dev.Canonical.forward {i} (h : d.Canonical) : (d.forward i).Canonical := by
  unfold Dev.forward
  split
  · split
    · exact .ite (.mgmt (.modQueue h)) h
    · exact h
  · exact h

theorem Dev.Canonical.take {c x borrow} (h : d.Canonical) : (d.take c x borrow).Canonical := by
  unfold Dev.take
  extract_lets
  split
  · split
    · exact .update (.modQueue h)
    · exact h
  split
  · exact .update h
  · exact h

theorem Dev.Canonical.dispatch {c now} (h : d.Canonical) : (dispatch c now d).Canonical := by
  unfold Machine.dispatch
  extract_lets _ _ d1
  have h1 : d1.Canonical := .startNext (.foldl (fun _ _ h => .forward (.passInvalid h)) (.settleCore (.settleAll (.advance h))))
  refine .ite ?_ h1
  split
  · extract_lets
    split
    · exact .event (.startNext (.take h1))
    · exact .startNext (.take h1)
  · exact h1

theorem Dev.Canonical.creditRefresh {i now} (h : d.Canonical) : (creditRefresh i now d).Canonical := by
  unfold Machine.creditRefresh
  extract_lets d1
  have h1 : d1.Canonical := .settleQueue (.advance h)
  split
  · exact .ite h1 (.forward (.gather (.foldl (fun _ _ h => .ite h (.mgmt h)) h1)))
  · exact h1

theorem Dev.Canonical.sendMsix {func vec} (h : d.Canonical) : (d.sendMsix func vec).Canonical :=
  .emit h

theorem Dev.Canonical.requestMsix {i} (h : d.Canonical) : (d.requestMsix i).Canonical := by
  unfold Dev.requestMsix
  split
  · exact .ite (.modQueue (.sendMsix h)) (.modQueue h)
  · exact h

theorem Dev.Canonical.entrySignal {i q f} (h : d.Canonical) : (d.entrySignal i q f).Canonical :=
  .ite (.modQueue (.signalApply h)) (.egress (.modQueue h))

theorem Dev.Canonical.entryRecord {i q f e} (h : d.Canonical) : (d.entryRecord i q f e).Canonical := by
  unfold Dev.entryRecord
  extract_lets _ _ _ _ d1 d2 _ d3
  have h1 : d1.Canonical := .modQueue (.ite h (.ite (.writeHub h) (.emit h)))
  have h2 : d2.Canonical := .ite (.queueNotice h1) h1
  have h3 : d3.Canonical := .queueFree (.replayEnded (.event (.ite (.requestMsix h2) h2)))
  exact .ite h (.ite (.journalAuto h3) h3)

theorem Dev.Canonical.entryEnd {i now} (h : d.Canonical) : (entryEnd i now d).Canonical := by
  unfold Machine.entryEnd
  extract_lets
  split
  · exact .advance h
  split
  · exact .advance h
  split
  · exact .advance h
  extract_lets _ d1 d2
  have h1 : d1.Canonical := by
    unfold d1
    split
    · exact .startNext (.advance h)
    · exact .advance h
  have h2 : d2.Canonical := .entrySignal h1
  refine .ite ?_ (.entryRecord h1)
  refine .ite h1 ?_
  split
  · split
    · exact .ite (.entryRecord h2) h2
    · exact h2
  · exact h2

theorem Dev.Canonical.msixHoldoffExpire {i now} (h : d.Canonical) : (msixHoldoffExpire i now d).Canonical := by
  unfold Machine.msixHoldoffExpire
  extract_lets
  split
  · exact .ite (.requestMsix (.advance h)) (.advance h)
  split
  · exact .sendMsix (.update (.advance h))
  · exact .advance h

theorem Dev.Canonical.cqHeadPoll {i now} (h : d.Canonical) : (cqHeadPoll i now d).Canonical := by
  unfold Machine.cqHeadPoll
  extract_lets
  split
  · exact .ite (.modQueue (.advance h)) (.advance h)
  · exact .advance h

theorem Dev.Canonical.schedWindowEnd {now} (h : d.Canonical) : (schedWindowEnd now d).Canonical :=
  .ite (.settleAll (.advance h)) (.update (.settleAll (.advance h)))

theorem Dev.Canonical.queueUrgent {i now} (h : d.Canonical) : (queueUrgent i now d).Canonical := by
  unfold Machine.queueUrgent
  extract_lets
  split
  · split
    · exact .ite (.modQueue (.advance h)) (.advance h)
    · exact .advance h
  · exact .advance h

theorem Dev.Canonical.feQueueStay {i now} (h : d.Canonical) : (feQueueStay i now d).Canonical := by
  unfold Machine.feQueueStay
  extract_lets
  split
  · split
    · exact .ite (.queueNotice (.modQueue (.advance h))) (.advance h)
    · exact .advance h
  · exact .advance h

theorem Dev.Canonical.idQuarantineEnd {k n now} (h : d.Canonical) : (idQuarantineEnd k n now d).Canonical := by
  unfold Machine.idQuarantineEnd
  extract_lets
  split <;> exact .update (.advance h)

theorem Dev.Canonical.streamOpen {part dest now} (h : d.Canonical) : (streamOpen part dest now d).Canonical := by
  unfold Machine.streamOpen
  extract_lets
  refine .ite (.reply (.advance h)) ?_
  split
  · exact .reply (.advance h)
  · exact .reply (.update (.advance h))

theorem Dev.Canonical.streamClose {part handle now} (h : d.Canonical) : (streamClose part handle now d).Canonical := by
  unfold Machine.streamClose
  extract_lets
  split
  · exact .reply (.ite (.stale (.advance h)) (.advance h))
  · exact .ite (.reply (.update (.advance h))) (.update (.advance h))

theorem Dev.Canonical.semWrite {n v key gen alloc} (h : d.Canonical) : (d.semWrite n v key gen alloc).Canonical :=
  .writePlain h

theorem Dev.Canonical.semAlloc {part init now} (h : d.Canonical) : (Machine.semAlloc part init now d).Canonical := by
  unfold Machine.semAlloc
  dsimp only
  split
  · exact .reply (.advance h)
  · exact .reply (.semWrite (.update (.advance h)))

theorem Dev.Canonical.semFree {part handle now} (h : d.Canonical) : (semFree part handle now d).Canonical := by
  unfold Machine.semFree
  extract_lets
  split
  · exact .reply (.update (.semWrite (.foldl (fun _ _ h => .finish h) (.update (.advance h)))))
  · exact .reply (.semForeign (.advance h))
  · exact .reply (.stale (.advance h))

theorem Dev.Canonical.drainNotices {ring n} {d : Dev} (h : d.Canonical) : (Dev.drainNotices ring n d).Canonical := by
  rw [Dev.Canonical, Dev.drainNotices_mem]; exact h

theorem Dev.Canonical.noticeFlush {ring now} (h : d.Canonical) : (noticeFlush ring now d).Canonical :=
  .drainNotices (.advance h)

end Sys2Proof.Machine
end

section
/-! ## Memory stays canonical: rigs -/
namespace Sys2Proof.Machine

variable {d : Dev}

theorem Dev.Canonical.quiesceCore {c} (h : d.Canonical) : (d.quiesceCore c).Canonical :=
  .modRig h

theorem Dev.Canonical.quiesceRig {r} (h : d.Canonical) : (d.quiesceRig r).Canonical :=
  .update (.foldl (fun _ _ => .quiesceCore) (.modRig h))

theorem Dev.Canonical.verbForward {r verb} (h : d.Canonical) : (d.verbForward r verb).Canonical :=
  .foldl (fun _ _ h => .mgmt h) h

theorem Dev.Canonical.quiesce {r now} (h : d.Canonical) : (quiesce r now d).Canonical := by
  unfold Machine.quiesce
  extract_lets
  split
  · exact .reply (.quiesceRig (.verbForward (.advance h)))
  · exact .reply (.advance h)

theorem Dev.Canonical.resume {r now} (h : d.Canonical) : (resume r now d).Canonical := by
  unfold Machine.resume
  extract_lets
  split
  · exact .reply (.update (.foldl (fun _ _ h => .modRig h) (.foldl (fun _ _ h => .modRig h) (.verbForward (.advance h)))))
  · exact .reply (.advance h)

theorem Dev.Canonical.resetStop {cores} (h : d.Canonical) : (d.resetStop cores).Canonical :=
  .pruneOnPkg (.foldl (fun _ _ h => .ite h (.modRig (.reportEnded (.modCore (.update (.dropEntry h)))))) h)

theorem Dev.Canonical.resetStart {x} (h : d.Canonical) : (d.resetStart x).Canonical :=
  .ite (.update h) (.update (.resetStop h))

theorem Dev.Canonical.resetRetain {r now} (h : d.Canonical) : (resetRetain r now d).Canonical := by
  unfold Machine.resetRetain
  extract_lets
  split
  · exact .ite (.reply (.advance h)) (.reply (.resetStart (.advance h)))
  · exact .reply (.advance h)

theorem Dev.Canonical.clearSram {c} (h : d.Canonical) : (d.clearSram c).Canonical :=
  .zeroFill (.zeroFill h)

theorem Dev.Canonical.clearSealed {c} (h : d.Canonical) : (d.clearSealed c).Canonical :=
  .ite h (.zeroFill h)

theorem Dev.Canonical.resetCore {retain quiesce c} (h : d.Canonical) : (d.resetCore retain quiesce c).Canonical :=
  .ite h (.modRig (.modCore (.ite (.clearSealed h) (.clearSram h))))

theorem Dev.Canonical.dropJob {p} (h : d.Canonical) : (d.dropJob p).Canonical :=
  .modPart (.foldl (fun _ _ h => .modCore h) h)

theorem Dev.Canonical.flushPart {p} (h : d.Canonical) : (d.flushPart p).Canonical :=
  .foldl (fun _ _ h => .egress h) (.updateMem h)

end Sys2Proof.Machine
end

section
/-! ## Memory stays canonical: the package links -/
namespace Sys2Proof.Machine

variable {d : Dev}

theorem Dev.Canonical.sendFlit {e ty vc seq ack sop eop poison payload} (h : d.Canonical) :
    (d.sendFlit e ty vc seq ack sop eop poison payload).Canonical :=
  .emit (.modUcie h)

theorem Dev.Canonical.pkgFlitSend {e now} (h : d.Canonical) : (pkgFlitSend e now d).Canonical := by
  unfold Machine.pkgFlitSend
  extract_lets
  refine .ite (.advance h) ?_
  split
  · exact .emit (.modUcie (.advance h))
  · exact .ite (.advance h) (.sendFlit (.modUcie (.advance h)))
  split
  · exact .ite (.sendFlit (.advance h)) (.sendFlit (.modUcie (.advance h)))
  · exact .sendFlit (.advance h)

theorem Dev.Canonical.pkgDiscard {e crcFails} (h : d.Canonical) : (d.pkgDiscard e crcFails).Canonical :=
  .ite h (.sendFlit (.modUcie h))

theorem Dev.Canonical.pkgNakRx {e seq now} (h : d.Canonical) : (pkgNakRx e seq now d).Canonical :=
  .modUcie (.advance h)

theorem Dev.Canonical.pkgCreditInitRx {e vc n now} (h : d.Canonical) : (pkgCreditInitRx e vc n now d).Canonical :=
  .ite (.advance h) (.modUcie (.advance h))

theorem Dev.Canonical.onPkgForward {from' targets bs} (h : d.Canonical) : (d.onPkgForward from' targets bs).Canonical := by
  unfold Dev.onPkgForward
  extract_lets
  split <;> exact .foldl (fun _ _ h => .pkgQueue h) h

theorem Dev.Canonical.onPkgArrive {die bs} (h : d.Canonical) : (d.onPkgArrive die bs).Canonical :=
  .onPkgForward (.update h)

theorem Dev.Canonical.pkgDeliver {e vc bs} (h : d.Canonical) : (d.pkgDeliver e vc bs).Canonical := by
  unfold Dev.pkgDeliver
  extract_lets
  refine .ite (.ite h (.onPkgArrive h)) (.ite h ?_)
  split
  · exact .ite (.modSwitch h) (.ite (.fromHub h) (.modSwitch h))
  · exact h

theorem Dev.Canonical.pkgAccept {e f} (h : d.Canonical) : (d.pkgAccept e f).Canonical :=
  .ite (.pkgDeliver (.modUcie h)) (.modUcie h)

theorem Dev.Canonical.pkgFlitRx {e bs now} (h : d.Canonical) : (pkgFlitRx e bs now d).Canonical := by
  unfold Machine.pkgFlitRx
  extract_lets _ _ _ _ d1 d2
  have h1 : d1.Canonical := .modUcie (.advance h)
  have h2 : d2.Canonical := .modUcie h1
  exact .ite (.advance h) (.ite (.pkgDiscard (.advance h)) (.ite (.pkgCreditInitRx (.advance h))
    (.ite (.pkgNakRx h1) (.ite h2 (.ite (.pkgDiscard h2) (.pkgAccept h2))))))

theorem Dev.Canonical.pkgReplayTimeout {e now} (h : d.Canonical) : (pkgReplayTimeout e now d).Canonical :=
  .ite (.modUcie (.advance h)) (.advance h)

theorem Dev.Canonical.pkgReplayExhausted {e now} (h : d.Canonical) : (pkgReplayExhausted e now d).Canonical :=
  .ite (.modUcie (.modUcie (.advance h))) (.advance h)

theorem Dev.Canonical.retireDie {die} (h : d.Canonical) : (d.retireDie die).Canonical := by
  unfold Dev.retireDie
  exact .notify (.pruneOnPkg (.update (.foldl (fun _ _ h => .ite (.modRig (.dropEntry h)) (.modRig h)) (.settleAll h))))

theorem Dev.Canonical.onPkgAgain {bs} (h : d.Canonical) : (d.onPkgAgain bs).Canonical := by
  unfold Dev.onPkgAgain
  split
  · exact .onPkgForward h
  · exact h

theorem Dev.Canonical.pkgMove {e vc held} (h : d.Canonical) : (d.pkgMove e vc held).Canonical := by
  unfold Dev.pkgMove
  extract_lets
  refine .ite (.foldl (fun _ _ h => .pkgQueue h) h) (.ite (.foldl (fun _ _ => .onPkgAgain) h) ?_)
  refine .ite h (.ite (.modSwitch h) ?_)
  refine .ite (.update h) ?_
  split
  · exact .foldl (fun _ _ h => .ringSend h) h
  · exact h

theorem Dev.Canonical.retireUcie {link} (h : d.Canonical) : (d.retireUcie link).Canonical :=
  .foldl (fun _ _ => .retireDie) (.foldl (fun _ _ h => .pkgMove h) (.foldl (fun _ _ h => .modUcie h) (.notice h)))

theorem Dev.Canonical.ucieUp {link rate} (h : d.Canonical) : (d.ucieUp link rate).Canonical :=
  .foldl (fun _ _ h => .modUcie h) h

theorem Dev.Canonical.ucieRetrainDone {link rate now} (h : d.Canonical) : (ucieRetrainDone link rate now d).Canonical :=
  .ite (.advance h) (.ite (.retireUcie (.advance h)) (.foldl (fun _ _ h => .modUcie h) (.advance h)))

theorem Dev.Canonical.onpkgHalyardPost {kind dies clusters payload now} (h : d.Canonical) :
    (onpkgHalyardPost kind dies clusters payload now d).Canonical :=
  .ite (.advance h) (.onPkgForward (.update (.advance h)))

theorem Dev.Canonical.onpkgHalyardDeliver {c now} (h : d.Canonical) : (onpkgHalyardDeliver c now d).Canonical := by
  unfold Machine.onpkgHalyardDeliver
  extract_lets
  split
  · exact .advance h
  · exact .ite (.advance h) (.ite (.modCore (.update (.advance h))) (.update (.advance h)))

theorem Dev.Canonical.onpkgHalyardAck {seq cluster now} (h : d.Canonical) : (onpkgHalyardAck seq cluster now d).Canonical :=
  .update (.pruneOnPkg (.advance h))

end Sys2Proof.Machine
end

section
/-! ## Memory stays canonical: the Maltuox links -/
namespace Sys2Proof.Machine

variable {d : Dev}

theorem Dev.Canonical.discardFrames {port} (h : d.Canonical) : (d.discardFrames port).Canonical :=
  .ite (.modPort h) (.notice (.modPort h))

theorem Dev.Canonical.unlinked (h : d.Canonical) : d.unlinked.Canonical :=
  .ite (.update h) h

theorem Dev.Canonical.retireLanes {port m} (h : d.Canonical) : (d.retireLanes port m).Canonical :=
  .foldl (fun _ _ h => .ite (.notice (.modPort h)) h) h

theorem Dev.Canonical.retireProposed {port} (h : d.Canonical) : (d.retireProposed port).Canonical := by
  unfold Dev.retireProposed
  extract_lets _ d1
  have h1 : d1.Canonical := by
    unfold d1
    split
    · exact .retireLanes h
    · exact h
  exact .modPort h1

theorem Dev.Canonical.enterRetrain {port reason} (h : d.Canonical) : (d.enterRetrain port reason).Canonical :=
  .emit (.modPort (.retireProposed (.discardFrames h)))

theorem Dev.Canonical.goDown {port} (h : d.Canonical) : (d.goDown port).Canonical :=
  .notice (.unlinked (.modPort (.discardFrames h)))

theorem Dev.Canonical.fail {port stuck code arg0} (h : d.Canonical) : (d.fail port stuck code arg0).Canonical :=
  .ite (.unlinked (.modPort h)) (.notice (.unlinked (.modPort h)))

theorem Dev.Canonical.requestRetrain {port reason} (h : d.Canonical) : (d.requestRetrain port reason).Canonical :=
  .ite (.sendMgmt (.modPort h)) h

theorem Dev.Canonical.tagFail {port} (h : d.Canonical) : (d.tagFail port).Canonical :=
  .ite (.requestRetrain (.notice (.modPort h))) (.modPort h)

theorem Dev.Canonical.resendFrames {port} (h : d.Canonical) : (d.resendFrames port).Canonical :=
  .ite (.ite h (.requestRetrain (.modPort h))) (.modPort (.foldl (fun _ _ h => .sendFrame h) h))

theorem Dev.Canonical.applyAck {port fack nak} (h : d.Canonical) : (d.applyAck port fack nak).Canonical :=
  .ite (.resendFrames (.ite h (.modPort h))) (.ite h (.modPort h))

theorem Dev.Canonical.discardRx {port} (h : d.Canonical) : (d.discardRx port).Canonical :=
  .ite h (.sendFrame (.modPort h))

theorem Dev.Canonical.rxPackets {port ps} (h : d.Canonical) : (d.rxPackets port ps).Canonical :=
  .modSwitch (.foldl (fun _ _ h => .modCount h) h)

theorem Dev.Canonical.linkDataFrame {port bs now} (h : d.Canonical) : (linkDataFrame port bs now d).Canonical := by
  unfold Machine.linkDataFrame
  extract_lets
  refine .ite (.advance h) (.ite (.discardRx (.advance h)) ?_)
  split
  · exact .discardRx (.advance h)
  refine .ite (.advance h) (.ite (.discardRx (.tagFail (.advance h))) ?_)
  extract_lets _ d1 _ _ _ d2
  have h1 : d1.Canonical := .applyAck (.modPort (.advance h))
  have h2 : d2.Canonical := .rxPackets (.modPort h1)
  exact .ite (.discardRx h1) (.ite (.sendFrame h2) h2)

theorem Dev.Canonical.linkIdleFrame {port bs now} (h : d.Canonical) : (linkIdleFrame port bs now d).Canonical := by
  unfold Machine.linkIdleFrame
  extract_lets
  refine .ite (.advance h) ?_
  split
  · exact .advance h
  · exact .ite (.advance h) (.ite (.tagFail (.advance h)) (.applyAck (.modPort (.advance h))))

theorem Dev.Canonical.groupMarker {port bs now} (h : d.Canonical) : (groupMarker port bs now d).Canonical :=
  .ite (.modPort (.advance h)) (.advance h)

theorem Dev.Canonical.linkReplayTimeout {port now} (h : d.Canonical) : (linkReplayTimeout port now d).Canonical :=
  .ite (.resendFrames (.advance h)) (.advance h)

theorem Dev.Canonical.proposeWidth {port remove} (h : d.Canonical) : (d.proposeWidth port remove).Canonical :=
  .ite h (.ite (.requestRetrain (.retireLanes h)) (.sendMgmt (.modPort h)))

theorem Dev.Canonical.laneSerWindowEnd {port lanes bad total now} (h : d.Canonical) : (laneSerWindowEnd port lanes bad total now d).Canonical :=
  .ite (.advance h) (.ite (.requestRetrain (.modPort (.proposeWidth (.modPort (.advance h))))) (.proposeWidth (.modPort (.advance h))))

theorem Dev.Canonical.linkLockLost {port now} (h : d.Canonical) : (linkLockLost port now d).Canonical :=
  .ite (.enterRetrain (.modPort (.advance h))) (.advance h)

theorem Dev.Canonical.peerSignalDetect {port now} (h : d.Canonical) : (peerSignalDetect port now d).Canonical :=
  .ite (.emit (.modPort (.advance h))) (.advance h)

theorem Dev.Canonical.equalizeDone {port ok now} (h : d.Canonical) : (equalizeDone port ok now d).Canonical :=
  .ite (.advance h) (.ite (.emit (.modPort (.advance h))) (.fail (.advance h)))

theorem Dev.Canonical.laneTestDone {port own peer now} (h : d.Canonical) : (laneTestDone port own peer now d).Canonical := by
  unfold Machine.laneTestDone
  extract_lets _ _ d1
  have h1 : d1.Canonical := .retireLanes (.advance h)
  exact .ite (.advance h) (.ite (.goDown h1) (.ite (.fail h1) (.ite (.goDown h1) (.sendMgmt (.modPort (.draw h1))))))

theorem Dev.Canonical.identResend {port now} (h : d.Canonical) : (identResend port now d).Canonical :=
  .ite (.sendMgmt (.modPort (.advance h))) (.advance h)

theorem Dev.Canonical.applyHalyards (h : d.Canonical) : d.applyHalyards.Canonical :=
  .foldl (fun _ _ h => .modSwitch h) h

theorem Dev.Canonical.cableCheck {port} (h : d.Canonical) : (d.cableCheck port).Canonical := by
  unfold Dev.cableCheck
  extract_lets
  split
  · exact .ite h (.ite (.notice (.ite (.modPort h) (.applyHalyards (.modPort h)))) (.ite (.modPort h) (.applyHalyards (.modPort h))))
  · exact h

theorem Dev.Canonical.gainId {m} (h : d.Canonical) : (d.gainId m).Canonical :=
  .foldl (fun _ _ => .cableCheck) (.foldl (fun _ _ h => .ite (.requestRetrain h) h) (.update h))

theorem Dev.Canonical.deriveId (h : d.Canonical) : d.deriveId.Canonical := by
  unfold Dev.deriveId
  refine .ite h ?_
  extract_lets ids
  clear_value ids
  split
  · exact h
  · exact .ite (.gainId h) (.notice h)

theorem Dev.Canonical.ident {port b now} (h : d.Canonical) : (ident port b now d).Canonical := by
  unfold Machine.ident
  extract_lets _ _ _ _ _ d1
  have h1 : d1.Canonical := .modPort (.advance h)
  exact .ite (.advance h) (.ite (.fail h1) (.ite (.fail h1) (.ite (.fail h1) (.ite (.fail h1) (.modPort h1)))))

theorem Dev.Canonical.sendSeal {port} (h : d.Canonical) : (d.sendSeal port).Canonical :=
  .sendMgmt (.modPort h)

theorem Dev.Canonical.sendBeacon {port} (h : d.Canonical) : (d.sendBeacon port).Canonical :=
  .sendMgmt (.modPort h)

theorem Dev.Canonical.keyAgreeDone {port now} (h : d.Canonical) : (keyAgreeDone port now d).Canonical := by
  unfold Machine.keyAgreeDone
  extract_lets
  split
  · exact .advance h
  refine .ite (.advance h) ?_
  extract_lets _ _ _ _ _ _ d1
  have h1 : d1.Canonical := .ite (.update (.modPort (.advance h))) (.modPort (.advance h))
  exact .sendSeal (.sendBeacon (.cableCheck (.deriveId (.ite h1 (.update h1)))))

theorem Dev.Canonical.linkRetryTimeout {port now} (h : d.Canonical) : (linkRetryTimeout port now d).Canonical :=
  .ite (.emit (.modPort (.advance h))) (.advance h)

theorem Dev.Canonical.acceptRetrain {port reason} (h : d.Canonical) : (d.acceptRetrain port reason).Canonical :=
  .sendMgmt (.modPort h)

theorem Dev.Canonical.retrainReq {port serial reason now} (h : d.Canonical) : (retrainReq port serial reason now d).Canonical :=
  .ite (.advance h) (.ite (.advance h) (.acceptRetrain (.modPort (.retireProposed (.advance h)))))

theorem Dev.Canonical.retrainAccept {port group now} (h : d.Canonical) : (retrainAccept port group now d).Canonical := by
  unfold Machine.retrainAccept
  extract_lets
  split
  · exact .modPort (.advance h)
  · exact .advance h

theorem Dev.Canonical.retrainReqResend {port now} (h : d.Canonical) : (retrainReqResend port now d).Canonical := by
  unfold Machine.retrainReqResend
  extract_lets
  split
  · exact .advance h
  · exact .ite (.advance h) (.ite (.enterRetrain (.advance h)) (.sendMgmt (.modPort (.advance h))))

theorem Dev.Canonical.retrainSwitchGroup {port group now} (h : d.Canonical) : (retrainSwitchGroup port group now d).Canonical :=
  .ite (.enterRetrain (.closeFrame (.advance h))) (.advance h)

theorem Dev.Canonical.retrainDone {port now} (h : d.Canonical) : (retrainDone port now d).Canonical :=
  .ite (.notice (.modPort (.advance h))) (.advance h)

theorem Dev.Canonical.acceptWidth {port new} (h : d.Canonical) : (d.acceptWidth port new).Canonical :=
  .ite (.requestRetrain (.modPort (.retireLanes h))) (.sendMgmt (.modPort h))

theorem Dev.Canonical.widthPropose {port lanes now} (h : d.Canonical) : (widthPropose port lanes now d).Canonical := by
  unfold Machine.widthPropose
  extract_lets
  refine .ite (.advance h) ?_
  split
  · exact .acceptWidth (.advance h)
  · exact .ite (.acceptWidth (.advance h)) (.modPort (.advance h))
  · exact .advance h

theorem Dev.Canonical.widthAccept {port lanes group now} (h : d.Canonical) : (widthAccept port lanes group now d).Canonical :=
  .ite (.modPort (.advance h)) (.advance h)

theorem Dev.Canonical.widthSwitchGroup {port group now} (h : d.Canonical) : (widthSwitchGroup port group now d).Canonical := by
  unfold Machine.widthSwitchGroup
  extract_lets _ _ _ _ _ d1
  have h1 : d1.Canonical := .notice (.modPort (.retireLanes (.advance h)))
  exact .ite (.advance h) (.ite (.goDown h1) (.ite h1 (.resendFrames h1)))

theorem Dev.Canonical.unstick {port} (h : d.Canonical) : (d.unstick port).Canonical :=
  .ite (.emit (.modPort h)) h

theorem Dev.Canonical.unstickChanged {old} (h : d.Canonical) : (d.unstickChanged old).Canonical :=
  .foldl (fun _ _ h => .ite (.unstick h) h) h

theorem Dev.Canonical.linkCmdRetrain {port now} (h : d.Canonical) : (linkCmdRetrain port now d).Canonical :=
  .requestRetrain (.unstick (.advance h))

theorem Dev.Canonical.linkCmdFullTrain {port now} (h : d.Canonical) : (linkCmdFullTrain port now d).Canonical :=
  .ite (.advance h) (.emit (.unlinked (.modPort (.discardFrames (.advance h)))))

theorem Dev.Canonical.linkCmdDisable {port now} (h : d.Canonical) : (linkCmdDisable port now d).Canonical :=
  .unlinked (.modPort (.discardFrames (.advance h)))

theorem Dev.Canonical.linkCmdEnable {port now} (h : d.Canonical) : (linkCmdEnable port now d).Canonical :=
  .ite (.emit (.modPort (.advance h))) (.unstick (.advance h))

theorem Dev.Canonical.setTimeState {st} (h : d.Canonical) : (d.setTimeState st).Canonical :=
  .ite (.notice (.update h)) (.update h)

theorem Dev.Canonical.censusCheck (h : d.Canonical) : d.censusCheck.Canonical :=
  .ite (.update h) h

theorem Dev.Canonical.steer {port theta} (h : d.Canonical) : (d.steer port theta).Canonical := by
  unfold Dev.steer
  split
  · exact .setTimeState (.applyHalyards (.update h))
  extract_lets _ _ _ _ _ d1 d2 d3 _ _ _ d4
  have h1 : d1.Canonical := .ite (.applyHalyards (.update h)) (.update h)
  have h2 : d2.Canonical := .ite (.setTimeState h1) h1
  have h3 : d3.Canonical := .ite (.mgmt h2) h2
  have h4 : d4.Canonical := .update (.draw h3)
  refine .ite h3 ?_
  split
  · exact h4
  · exact .censusCheck (.setTimeState (.update h4))

theorem Dev.Canonical.beacon {port bseq ttx echoSeq echoRx root hops wraps now} (h : d.Canonical) :
    (beacon port bseq ttx echoSeq echoRx root hops wraps now d).Canonical :=
  .ite (.advance h) (.steer (.modPort (.advance h)))

theorem Dev.Canonical.timeHoldover {now} (h : d.Canonical) : (timeHoldover now d).Canonical :=
  .ite (.setTimeState (.update (.advance h))) (.advance h)

theorem Dev.Canonical.beaconSend {port now} (h : d.Canonical) : (beaconSend port now d).Canonical :=
  .ite (.sendBeacon (.advance h)) (.advance h)

theorem Dev.Canonical.sealSend {port now} (h : d.Canonical) : (sealSend port now d).Canonical :=
  .ite (.sendSeal (.advance h)) (.advance h)

theorem Dev.Canonical.sealFrame {port epoch cfg link ttx now} (h : d.Canonical) : (sealFrame port epoch cfg link ttx now d).Canonical := by
  unfold Machine.sealFrame
  extract_lets _ _ _ _ d1 _ d2 _ _ d3
  have h1 : d1.Canonical := .modPort (.advance h)
  have h2 : d2.Canonical := .ite (.update h1) h1
  have h3 : d3.Canonical := .ite (.notice (.modPort h2)) h2
  exact .ite (.advance h) (.ite h3 (.ite (.censusCheck (.update h3)) (.ite h3 (.mgmt (.update h3)))))

end Sys2Proof.Machine
end

section
/-! ## Memory stays canonical: power, measurement and cooling -/
namespace Sys2Proof.Machine

variable {d : Dev}

theorem Dev.Canonical.modCorePower {c f} (h : d.Canonical) : (d.modCorePower c f).Canonical :=
  .update h

theorem Dev.Canonical.modClusterPower {k f} (h : d.Canonical) : (d.modClusterPower k f).Canonical :=
  .update h

theorem Dev.Canonical.refloor (h : d.Canonical) : d.refloor.Canonical := by
  unfold Dev.refloor
  exact .ite h (.notice (.update h))

theorem Dev.Canonical.grantWake {q} (h : d.Canonical) : (d.grantWake q).Canonical :=
  .update (.modCorePower (.modCore (.modClusterPower h)))

theorem Dev.Canonical.arbiterOne {q} {st : Dev × TickRoom} (h : st.1.Canonical) : (arbiterOne st q).1.Canonical :=
  .ite_fst h (.ite_fst h (.ite_fst h (.grantWake h)))

theorem Dev.Canonical.arbiterTick {now} (h : d.Canonical) : (arbiterTick now d).Canonical :=
  .ite (.advance h) (.foldl_fst (fun _ _ => .arbiterOne) (.advance h))

theorem Dev.Canonical.askWake {q} (h : d.Canonical) : (d.askWake q).Canonical :=
  .ite h (.update h)

theorem Dev.Canonical.engineWake {c unit now} (h : d.Canonical) : (engineWake c unit now d).Canonical :=
  .ite (.advance h) (.askWake (.advance h))

theorem Dev.Canonical.keepGrant {k} (h : d.Canonical) : (d.keepGrant k).Canonical :=
  .modClusterPower h

theorem Dev.Canonical.engineSleep {c unit now} (h : d.Canonical) : (engineSleep c unit now d).Canonical :=
  .ite (.advance h) (.modCorePower (.keepGrant (.advance h)))

theorem Dev.Canonical.grantReturn {k now} (h : d.Canonical) : (grantReturn k now d).Canonical :=
  .ite (.advance h) (.modClusterPower (.advance h))

theorem Dev.Canonical.reefChange {c now} (h : d.Canonical) : (reefChange c now d).Canonical :=
  .ite (.modCorePower (.keepGrant (.advance h))) (.ite (.modCorePower (.keepGrant (.advance h)))
    (.ite (.askWake (.advance h)) (.ite (.askWake (.advance h)) (.advance h))))

theorem Dev.Canonical.setReq {n w r} {d : Dev} (h : d.Canonical) : (Dev.setReq n w r d).Canonical := by
  induction n generalizing w r d with
  | zero => exact h
  | succ n ih => exact .foldl (fun _ _ h => .ite h (ih h)) (.modRig h)

theorem Dev.Canonical.writeReq {w r} (h : d.Canonical) : (d.writeReq w r).Canonical :=
  .setReq h

theorem Dev.Canonical.powerReqWrite {r w now} (h : d.Canonical) : (powerReqWrite r w now d).Canonical := by
  unfold Machine.powerReqWrite
  extract_lets
  split
  · exact .ite (.reply (.writeReq (.advance h))) (.reply (.foldl (fun _ _ h => .ite (.setReq h) (.mgmt h)) (.modRig (.advance h))))
  · exact .reply (.advance h)

theorem Dev.Canonical.dieNotice {die code last} (h : d.Canonical) : (d.dieNotice die code last).1.Canonical :=
  .ite_fst (.notify h) h

theorem Dev.Canonical.droopTrip {k now} (h : d.Canonical) : (droopTrip k now d).Canonical :=
  .modClusterPower (.advance h)

theorem Dev.Canonical.droopRelease {k now} (h : d.Canonical) : (droopRelease k now d).Canonical :=
  .modClusterPower (.advance h)

theorem Dev.Canonical.droopReef {k now} (h : d.Canonical) : (droopReef k now d).Canonical :=
  .ite (.advance h) (.ite (.update (.dieNotice (.modClusterPower (.advance h)))) (.dieNotice (.modClusterPower (.advance h))))

theorem Dev.Canonical.droopLevelDecay {k now} (h : d.Canonical) : (droopLevelDecay k now d).Canonical :=
  .modClusterPower (.advance h)

theorem Dev.Canonical.sensorFault {s} (h : d.Canonical) : (d.sensorFault s).Canonical := by
  unfold Dev.sensorFault
  extract_lets _ d1 _ d2
  have h1 : d1.Canonical := by
    unfold d1
    split
    · exact .modClusterPower (.notice h)
    · exact .notice h
  have h2 : d2.Canonical := .ite (.update h1) h1
  exact .ite (.update h2) h2

theorem Dev.Canonical.inputSample (h : d.Canonical) : d.inputSample.Canonical :=
  .update h

theorem Dev.Canonical.coolantSample (h : d.Canonical) : d.coolantSample.Canonical :=
  .ite (.notice (.ite (.notice (.update h)) (.update h))) (.ite (.notice (.update h)) (.update h))

theorem Dev.Canonical.thermalCritical {k} (h : d.Canonical) : (d.thermalCritical k).Canonical :=
  .ite h (.ite h (.detect (.notify h)))

theorem Dev.Canonical.sensorSample {s v ok now} (h : d.Canonical) : (sensorSample s v ok now d).Canonical := by
  unfold Machine.sensorSample
  extract_lets _ _ _ d1 d2 _ _ d3 d4 d5 _ _ d6
  have h1 : d1.Canonical := .update (.advance h)
  have h2 : d2.Canonical := .update (.advance h)
  have h3 : d3.Canonical := .ite (.update h2) h2
  have h4 : d4.Canonical := .ite (.inputSample h3) h3
  have h5 : d5.Canonical := .ite (.refloor (.coolantSample h4)) h4
  have h6 : d6.Canonical := .ite (.update h5) h5
  refine .ite (.advance h) (.ite (.ite h1 (.refloor (.sensorFault h1))) ?_)
  split
  · exact .thermalCritical (.modClusterPower h6)
  · exact h6

theorem Dev.Canonical.thermalReef {k now} (h : d.Canonical) : (thermalReef k now d).Canonical :=
  .ite (.advance h) (.ite (.update (.dieNotice (.modClusterPower (.advance h)))) (.dieNotice (.modClusterPower (.advance h))))

theorem Dev.Canonical.thermalDecay {k now} (h : d.Canonical) : (thermalDecay k now d).Canonical :=
  .ite (.modClusterPower (.advance h)) (.advance h)

theorem Dev.Canonical.enforce {n} (h : d.Canonical) : (d.enforce n).Canonical :=
  .update h

theorem Dev.Canonical.powerEnvelopeExceeded {now} (h : d.Canonical) : (powerEnvelopeExceeded now d).Canonical := by
  unfold Machine.powerEnvelopeExceeded
  extract_lets
  split
  · exact .advance h
  · exact .ite (.notice (.enforce (.advance h))) (.advance h)

theorem Dev.Canonical.powerPeakExceeded {now} (h : d.Canonical) : (powerPeakExceeded now d).Canonical :=
  .ite (.notice (.enforce (.update (.advance h)))) (.advance h)

theorem Dev.Canonical.enforcementDecay {now} (h : d.Canonical) : (enforcementDecay now d).Canonical :=
  .ite (.update (.advance h)) (.advance h)

theorem Dev.Canonical.powerInputUndervolt {now} (h : d.Canonical) : (powerInputUndervolt now d).Canonical := by
  unfold Machine.powerInputUndervolt
  extract_lets
  split
  · exact .ite (.notice (.update (.advance h))) (.advance h)
  · exact .advance h

theorem Dev.Canonical.undervoltClear {now} (h : d.Canonical) : (undervoltClear now d).Canonical := by
  unfold Machine.undervoltClear
  extract_lets
  split
  · exact .ite (.update (.advance h)) (.advance h)
  · exact .advance h

theorem Dev.Canonical.coolantHold {now} (h : d.Canonical) : (Machine.coolantHold now d).Canonical := by
  unfold Machine.coolantHold
  extract_lets d1
  have h1 : d1.Canonical := .advance h
  clear_value d1
  split
  · exact h1
  · refine .ite h1 (.notice (.updateMem ?_))
    exact .foldl (fun _ _ h => .ite (.modRig (.dropEntry h)) h) h1

theorem Dev.Canonical.coolantHoldRelease {now} (h : d.Canonical) : (coolantHoldRelease now d).Canonical := by
  unfold Machine.coolantHoldRelease
  extract_lets
  split
  · exact .advance h
  · exact .ite (.advance h) (.foldl (fun _ _ h => .ite (.resetStart h) h) (.updateMem (.advance h)))

theorem Dev.Canonical.valveControl {now} (h : d.Canonical) : (valveControl now d).Canonical :=
  .ite (.advance h) (.update (.advance h))

theorem Dev.Canonical.valveFault {now} (h : d.Canonical) : (valveFault now d).Canonical := by
  unfold Machine.valveFault
  extract_lets
  split
  · exact .ite (.notice (.update (.advance h))) (.advance h)
  · exact .advance h

theorem Dev.Canonical.fabricTimeWrap {now} (h : d.Canonical) : (fabricTimeWrap now d).Canonical :=
  .ite (.update h) h

end Sys2Proof.Machine
end

section
/-! ## Memory stays canonical: map and unmap, key slots and jobs -/
namespace Sys2Proof.Machine

variable {d : Dev}

theorem Dev.Canonical.hold {r} (h : d.Canonical) : (d.hold r).Canonical :=
  .update h

theorem Dev.Canonical.invalidate {p va n} (h : d.Canonical) : (d.invalidate p va n).Canonical :=
  .update h

theorem Dev.Canonical.takePage {p mpa n slot keep} (h : d.Canonical) : (d.takePage p mpa n slot keep).Canonical := by
  unfold Dev.takePage
  split
  · exact .ite (.updateMem h) (.zeroFill (.updateMem h))
  · exact .modPart (.updateMem h)
  · exact h

theorem Dev.Canonical.serveMap {p va target slot size flags home} (h : d.Canonical) : (d.serveMap p va target slot size flags home).Canonical := by
  unfold Dev.serveMap
  extract_lets
  split
  · exact .reply h
  extract_lets
  refine .ite (.reply h) (.ite ?_ (.reply (.tellPart (.placeLeaf (.takePage h)))))
  split
  · exact .update h
  · exact .reply (.placeLeaf (.ite (.modPart h) h))

theorem Dev.Canonical.mapReq {p va target slot size flags home now} (h : d.Canonical) : (mapReq p va target slot size flags home now d).Canonical :=
  .ite (.hold (.advance h)) (.serveMap (.advance h))

theorem Dev.Canonical.serveUnmap {p va size remote} (h : d.Canonical) : (d.serveUnmap p va size remote).Canonical := by
  unfold Dev.serveUnmap
  split
  · exact .reply h
  extract_lets _ at'
  clear_value at'
  split
  · exact .reply h
  · exact .ite (.update h) (.unmapAgain (.update (.invalidate h)))

theorem Dev.Canonical.unmapReq {p va size remote now} (h : d.Canonical) : (unmapReq p va size remote now d).Canonical :=
  .ite (.hold (.advance h)) (.serveUnmap (.advance h))

theorem Dev.Canonical.homeMapped {home p va size window} (h : d.Canonical) : (d.homeMapped home p va size window).Canonical := by
  unfold Dev.homeMapped
  extract_lets
  refine .foldl (fun _ _ h => ?_) (.update h)
  split
  · exact .serveMap h
  · exact h

theorem Dev.Canonical.remoteUnmapped {m p va size} (h : d.Canonical) : (d.remoteUnmapped m p va size).Canonical := by
  unfold Dev.remoteUnmapped
  extract_lets
  refine .foldl (fun _ _ h => ?_) (.update h)
  split
  · exact .serveUnmap h
  · exact h

theorem Dev.Canonical.cryptoErase {slot} (h : d.Canonical) : (d.cryptoErase slot).Canonical :=
  .ite (.update (.updateMem h)) (.notice (.update (.updateMem h)))

theorem Dev.Canonical.serveErase {p slot} (h : d.Canonical) : (d.serveErase p slot).Canonical :=
  .ite (.reply h) (.ite (.reply h) (.reply (.cryptoErase h)))

theorem Dev.Canonical.keyErase {p slot now} (h : d.Canonical) : (keyErase p slot now d).Canonical :=
  .ite (.hold (.advance h)) (.serveErase (.advance h))

theorem Dev.Canonical.applyLoad {p groups digest} (h : d.Canonical) : (d.applyLoad p groups digest).Canonical := by
  unfold Dev.applyLoad
  exact .refloor (.modPart (.foldl (fun _ _ h => .clearSealed (.modCore h)) h))

theorem Dev.Canonical.replyShort {r} (h : d.Canonical) : (d.replyShort r).Canonical :=
  .emit h

theorem Dev.Canonical.serveLoad {p va len pair four others} (h : d.Canonical) : (d.serveLoad p va len pair four others).Canonical := by
  unfold Dev.serveLoad
  extract_lets
  split
  · exact .reply (.walkNotice (.modPart h))
  split
  · exact .replyShort (.modPart h)
  · exact .reply (.foldl (fun _ _ h => .mgmt h) (.applyLoad h))

theorem Dev.Canonical.jobLoad {p va len pair four others now} (h : d.Canonical) : (jobLoad p va len pair four others now d).Canonical :=
  .ite (.hold (.advance h)) (.serveLoad (.advance h))

theorem Dev.Canonical.applyUnload {p} (h : d.Canonical) : (d.applyUnload p).Canonical :=
  .dropJob (.foldl (fun _ _ h => .modCore (.clearSealed (.ite (.dropEntry h) h))) h)

theorem Dev.Canonical.jobUnload {p value now} (h : d.Canonical) : (jobUnload p value now d).Canonical :=
  .ite (.reply (.advance h)) (.reply (.foldl (fun _ _ h => .mgmt h) (.applyUnload (.advance h))))

end Sys2Proof.Machine
end

section
/-! ## Memory stays canonical: training support and halyards -/
namespace Sys2Proof.Machine

variable {d : Dev}

theorem Dev.Canonical.jrnRegionWrite {p base bytes now} (h : d.Canonical) : (jrnRegionWrite p base bytes now d).Canonical :=
  .ite (.reply (.advance h)) (.reply (.modPart (.advance h)))

theorem Dev.Canonical.jrnCmdRecover {p now} (h : d.Canonical) : (jrnCmdRecover p now d).Canonical :=
  .reply (.journalStart (.advance h))

theorem Dev.Canonical.submitReplay {p coord args} (h : d.Canonical) : (d.submitReplay p coord args).Canonical := by
  unfold Dev.submitReplay
  extract_lets
  split
  · exact h
  · exact .ite h (.modPart (.modQueue (.ite (.writeHub h) (.emit h))))

theorem Dev.Canonical.journalDecide {p now} (h : d.Canonical) : (journalDecide p now d).Canonical :=
  .ite (.advance h) (.foldl (fun _ _ h => .ite (.submitReplay h) (.mgmt h)) (.modPart (.advance h)))

theorem Dev.Canonical.setSlotState {p slot state} (h : d.Canonical) : (d.setSlotState p slot state).Canonical :=
  .ite h (.writeHub h)

theorem Dev.Canonical.journalFinish {p now} (h : d.Canonical) : (journalFinish p now d).Canonical :=
  .ite (.advance h) (.notify (.modPart (.ite (.modPart (.advance h)) (.foldl (fun _ _ h => .mgmt h) (.setSlotState (.advance h))))))

theorem Dev.Canonical.compareDigests {p n answers} (h : d.Canonical) : (d.compareDigests p n answers).Canonical := by
  unfold Dev.compareDigests
  extract_lets
  refine .ite (.ite (.notify (.modPart h)) (.modPart h)) ?_
  split
  · exact .modPart h
  · exact .ite (.foldl (fun _ _ h => .mgmt h) (.foldl (fun _ _ h => .quiesceRig h) (.notify (.modPart h)))) (.notify (.modPart h))

theorem Dev.Canonical.digestCompare {p answers now} (h : d.Canonical) : (digestCompare p answers now d).Canonical := by
  unfold Machine.digestCompare
  extract_lets
  split
  · exact .advance h
  · exact .ite (.advance h) (.compareDigests (.advance h))

theorem Dev.Canonical.digestCompareRetry {p answers now} (h : d.Canonical) : (digestCompareRetry p answers now d).Canonical := by
  unfold Machine.digestCompareRetry
  extract_lets
  split
  · exact .ite (.compareDigests (.modPart (.advance h))) (.advance h)
  · exact .advance h

theorem Dev.Canonical.halyardPost {h' p} (h : d.Canonical) : (d.halyardPost h' p).Canonical :=
  .hubSend (.update h)

theorem Dev.Canonical.fillReq {p req now} (h : d.Canonical) : (fillReq p req now d).Canonical := by
  unfold Machine.fillReq
  extract_lets
  refine .ite (.reply (.advance h)) ?_
  split
  · exact .reply (.walkNotice (.advance h))
  · exact .reply (.foldl (fun _ _ h => .foldl (fun _ _ h => .halyardPost h) h) (.halyardPost (.advance h)))

theorem Dev.Canonical.modHaly {h' f} (h : d.Canonical) : (d.modHaly h' f).Canonical :=
  .update h

theorem Dev.Canonical.fillBegin {h' p} (h : d.Canonical) : (d.fillBegin h' p).Canonical := by
  unfold Dev.fillBegin
  split
  · exact h
  extract_lets
  split
  · exact .notify (.walkNotice (.modHaly h))
  · exact .modHaly h

theorem Dev.Canonical.fillFragment {h' p} (h : d.Canonical) : (d.fillFragment h' p).Canonical := by
  unfold Dev.fillFragment
  split
  · exact h
  extract_lets
  split
  · exact .modHaly h
  · exact .ite (.modHaly (.modHaly h)) (.ite (.modPart (.landRecord (.modHaly (.modHaly h)))) (.landRecord (.modHaly (.modHaly h))))

theorem Dev.Canonical.halyardDeliver {h' p} (h : d.Canonical) : (d.halyardDeliver h' p).Canonical :=
  .ite h (.ite (.update h) (.ite (.fillBegin h) (.fillFragment h)))

theorem Dev.Canonical.halyardDrain {x n} {d : Dev} (h : d.Canonical) : (Dev.halyardDrain x n d).Canonical := by
  induction n generalizing d with
  | zero => exact h
  | succ n ih =>
    unfold Dev.halyardDrain
    dsimp only
    split
    · exact .ite (.modHaly h) h
    · exact ih (.halyardDeliver (.modHaly h))

theorem Dev.Canonical.halyardArrive {p} (h : d.Canonical) : (d.halyardArrive p).Canonical :=
  .ite h (.ite (.halyardDrain (.modHaly h)) (.modHaly (.halyardDrain (.modHaly h))))

/-- The check of the packet is a variable in the proof: the kernel would otherwise evaluate it. -/
theorem halyard_canonical {at' p now} (h : d.Canonical) : (halyard at' p now d).Canonical := by
  have hc : ∀ die a, ((d.advance now).arbCheck die a).1.Canonical := fun _ _ => .arbCheck (.advance h)
  unfold Machine.halyard
  generalize (d.advance now).arbCheck = check at hc ⊢
  revert check
  refine id fun check hc => ?_
  split
  next die input =>
    have hr := hc die { input := input, p := p }
    split
    next heq => rw [heq] at hr; exact .halyardCopy hr
    next heq => rw [heq] at hr; exact hr
  · exact .ite (.update (.takeIngress (.advance h))) (.halyardArrive (.takeIngress (.advance h)))

theorem Dev.Canonical.halyard {at' p now} (h : d.Canonical) : (Machine.halyard at' p now d).Canonical :=
  halyard_canonical h

theorem Dev.Canonical.halyardGapRepair {h' now} (h : d.Canonical) : (halyardGapRepair h' now d).Canonical := by
  unfold Machine.halyardGapRepair
  extract_lets
  split
  · refine .ite (.advance h) (.ite (.hubSend (.modHaly (.advance h))) ?_)
    extract_lets _ d1
    have h1 : d1.Canonical := by
      unfold d1
      split
      · exact .notify (.modPart (.modHaly (.advance h)))
      · exact .modHaly (.advance h)
    exact .halyardDrain (.modHaly h1)
  · exact .advance h

theorem Dev.Canonical.halyardRepairRequest {src h' first count now} (h : d.Canonical) : (halyardRepairRequest src h' first count now d).Canonical :=
  .foldl (fun _ _ h => .hubSend h) (.advance h)

end Sys2Proof.Machine
end

section
/-! ## Memory stays canonical: security and tenancy -/
namespace Sys2Proof.Machine

variable {d : Dev}

theorem Dev.Canonical.protectStage {s now} (h : d.Canonical) : (protectStage s now d).Canonical :=
  .reply (.update (.advance h))

theorem Dev.Canonical.protectCommit {expected t now} (h : d.Canonical) : (Machine.protectCommit expected t now d).Canonical := by
  unfold Machine.protectCommit
  extract_lets d1 _ refuse
  have h1 : d1.Canonical := .advance h
  have hrefuse : ∀ c, (refuse c).Canonical := fun _ => .reply (.update h1)
  clear_value d1 refuse
  refine .ite (hrefuse _) (.ite (hrefuse _) ?_)
  split
  · exact hrefuse _
  split
  · extract_lets moved changed d2 d3
    have h2 : d2.Canonical := .foldl (fun _ _ h => .modCore (.clearSram h)) h1
    clear_value d2
    exact .reply (.update h2)
  · exact hrefuse _

theorem Dev.Canonical.pruneEntry {p level a} {below : Nat → Dev → Dev} (hb : ∀ t {d : Dev}, d.Canonical → (below t d).Canonical)
    (h : d.Canonical) : (Dev.pruneEntry p below level a d).Canonical :=
  .ite h (.ite (.ite h (.dropPage (.setPte h))) (hb _ h))

theorem Dev.Canonical.prune {p l t} {d : Dev} (h : d.Canonical) : (Dev.prune p l t d).Canonical := by
  induction l generalizing t d with
  | zero => exact .foldl (fun _ _ => .pruneEntry fun _ _ h => h) h
  | succ l ih => exact .foldl (fun _ _ => .pruneEntry fun _ _ h => ih h) h

theorem Dev.Canonical.revoke {p} (h : d.Canonical) : (d.revoke p).Canonical :=
  .modPart (.foldl (fun _ _ h => .modCore h) h)

theorem Dev.Canonical.newNonce {p} (h : d.Canonical) : (d.newNonce p).Canonical :=
  .modPart (.draw h)

theorem Dev.Canonical.releasePart {p} (h : d.Canonical) : (d.releasePart p).Canonical :=
  .updateMem (.update (.foldl (fun _ _ h => .reply h) (.foldl (fun _ _ h => .update (.semWrite (.foldl (fun _ _ h => .finish h) (.update h))))
    (.foldl (fun _ _ h => .zeroFill h) h))))

theorem Dev.Canonical.installPart {s} (h : d.Canonical) : (d.installPart s).Canonical :=
  .update (.ite h (.ite (.writePlain h) (.zeroFill h)))

theorem Dev.Canonical.serveReq {x} (h : d.Canonical) : (d.serveReq x).Canonical := by
  unfold Dev.serveReq
  split
  · exact .serveMap h
  · exact .serveUnmap h
  · exact .serveErase h
  · exact .ite (.hold h) (.serveLoad h)
  · exact h
  · exact h

theorem Dev.Canonical.serveHallmark {nonce} (h : d.Canonical) : (d.serveHallmark nonce).Canonical :=
  .reply (.update h)

theorem Dev.Canonical.serveHallmarkPart {p nonce} (h : d.Canonical) : (d.serveHallmarkPart p nonce).Canonical :=
  .reply (.modPart h)

theorem Dev.Canonical.hallmarkReq {nonce now} (h : d.Canonical) : (hallmarkReq nonce now d).Canonical :=
  .ite (.hold (.advance h)) (.serveHallmark (.advance h))

theorem Dev.Canonical.hallmarkReqP {p nonce now} (h : d.Canonical) : (hallmarkReqP p nonce now d).Canonical :=
  .ite (.hold (.advance h)) (.serveHallmarkPart (.advance h))

theorem Dev.Canonical.serveHeld (h : d.Canonical) : d.serveHeld.Canonical := by
  unfold Dev.serveHeld
  refine .foldl (fun _ _ h => ?_) (.update h)
  split
  · exact .serveHallmark h
  · exact .serveHallmarkPart h
  · exact .serveReq h

theorem Dev.Canonical.protectSwitch {now} (h : d.Canonical) : (protectSwitch now d).Canonical := by
  unfold Machine.protectSwitch
  extract_lets
  split
  · exact .advance h
  · exact .ite (.advance h) (.serveHeld (.foldl (fun _ _ h => .newNonce (.revoke h))
      (.update (.foldl (fun _ _ => .cryptoErase) (.foldl (fun _ _ h => .ite (.prune h) h)
      (.update (.foldl (fun _ _ => .installPart) (.foldl (fun _ _ => .releasePart) (.advance h)))))))))

theorem Dev.Canonical.protectAbort (h : d.Canonical) : d.protectAbort.Canonical :=
  .ite (.serveHeld (.notice (.update h))) h

theorem Dev.Canonical.consentToken {p t now} (h : d.Canonical) : (consentToken p t now d).Canonical :=
  .ite (.reply (.newNonce (.ite (.revoke (.advance h)) (.modPart (.advance h))))) (.reply (.newNonce (.advance h)))

theorem Dev.Canonical.consentExpired {p now} (h : d.Canonical) : (consentExpired p now d).Canonical :=
  .ite (.notify (.revoke (.advance h))) (.advance h)

theorem Dev.Canonical.signetInstall {b now} (h : d.Canonical) : (signetInstall b now d).Canonical := by
  unfold Machine.signetInstall
  extract_lets
  split
  · exact .reply (.advance h)
  · exact .ite (.reply (.advance h)) (.ite (.reply (.advance h)) (.ite (.reply (.advance h)) (.reply (.update (.advance h)))))

theorem Dev.Canonical.checkSignets (h : d.Canonical) : d.checkSignets.Canonical := by
  unfold Dev.checkSignets
  extract_lets
  refine .foldl (fun _ _ h => ?_) (.update h)
  split
  · exact .update h
  · exact .notice h

end Sys2Proof.Machine
end

section
/-! ## Memory stays canonical: the vector engine -/
namespace Sys2Proof.Machine

variable {d : Dev}

theorem Dev.Canonical.vEnd {c e cause tcsx} (h : d.Canonical) : (d.vEnd c e cause tcsx).Canonical :=
  .finish h

theorem Dev.Canonical.vFormed {c id reads special} (h : d.Canonical) : (d.vFormed c id reads special).Canonical :=
  .modCore h

theorem Dev.Canonical.vrunGather {c e u b draws} (h : d.Canonical) : (d.vrunGather c e u b draws).1.Canonical :=
  .readAll h

theorem Dev.Canonical.vrunWrite {c e u b v poison} (h : d.Canonical) : (d.vrunWrite c e u b v poison).1.Canonical := by
  unfold Dev.vrunWrite
  extract_lets who resReg putRes mask putMask zeros old w put special
  have hres : ∀ d n r, d.Canonical → (putRes d n r).Canonical := by
    intro d n r h
    dsimp only [putRes]
    split
    · exact h
    · refine .ite (.foldl (fun _ _ h => .poison h) h) ?_
      split
      · exact .mergePut h
      · exact h
  have hmask : ∀ d, d.Canonical → (putMask d).Canonical := fun _ h => .ite h (.ite (.writeVa h) (.writeVa h))
  have hput : put.1.Canonical := .ite_fst h (.ite_fst (.putBead h) (.ite_fst (.putBead h) (.ite_fst (.putBead h) (.putBead h))))
  exact hmask _ (hres _ _ _ (hres _ _ _ hput))

theorem Dev.Canonical.vrunBead {c e u b g} (h : d.Canonical) : (d.vrunBead c e u b g).Canonical :=
  .ite (.vEnd (.vFormed (.vrunWrite h))) (.vFormed (.vrunWrite h))

theorem Dev.Canonical.packGather {c e u b draws} (h : d.Canonical) : (d.packGather c e u b draws).1.Canonical :=
  .readAll h

theorem Dev.Canonical.packBead {c e u b g} (h : d.Canonical) : (d.packBead c e u b g).Canonical := by
  unfold Dev.packBead
  extract_lets _ _ _ _ _ _ _ _ _ _ w
  have hw : w.1.Canonical := .ite_fst (.putBead h) (.ite_fst (.putBead h) (.putBead h))
  exact .ite (.vEnd (.vFormed hw)) (.vFormed hw)

theorem Dev.Canonical.putMap {c e u} (h : d.Canonical) : (d.putMap c e u).Canonical := by
  unfold Dev.putMap
  extract_lets
  split
  · exact .writeVa h
  · exact .foldl (fun _ _ h => .poison h) (.poison (.writeVa h))

theorem Dev.Canonical.vGather {c e o b draws} (h : d.Canonical) : (d.vGather c e o b draws).1.Canonical := by
  unfold Dev.vGather
  split
  · exact .vrunGather h
  · exact .packGather h

theorem Dev.Canonical.vBead {c e o b draws} (h : d.Canonical) : (d.vBead c e o b draws).Canonical := by
  unfold Dev.vBead
  extract_lets g r
  have hr : r.1.Canonical := by
    unfold r
    split
    · exact h
    · exact .modCore (.vGather h)
  split
  · exact .vEnd hr
  split
  · exact .modCore hr
  split
  · exact .vrunBead hr
  · exact .packBead hr

theorem Dev.Canonical.vStep {c e o} (h : d.Canonical) : (d.vStep c e o).Canonical := by
  unfold Dev.vStep
  split
  · exact h
  · exact .ite (.modCore h) h
  · refine .ite h ?_
    extract_lets d1
    have h1 : d1.Canonical := by
      unfold d1
      split
      · exact .walkNotice h
      · exact h
    split
    · exact .vEnd (.ite (.putMap (.ite (.modCore h1) h1)) (.ite (.modCore h1) h1))
    · exact .vEnd h1
  · exact .ite h (.vBead h)

theorem Dev.Canonical.vSteps {c id o n} (h : d.Canonical) : (d.vSteps c id o n).Canonical := by
  induction n generalizing d with
  | zero => exact h
  | succ n ih =>
    unfold Dev.vSteps
    split
    · refine .ite h ?_
      split
      · exact .ite (ih (.vStep h)) h
      · exact .ite (ih (.vStep h)) h
      · exact .vStep h
    · exact h

theorem Dev.Canonical.vectorRun {c id sel} (h : d.Canonical) : (d.vectorRun c id sel).Canonical := by
  unfold Dev.vectorRun
  extract_lets
  split
  · split
    · exact .ite (.vSteps (.working h)) h
    · exact h
  · exact h

theorem Dev.Canonical.vrun {c id now} (h : d.Canonical) : (vrun c id now d).Canonical :=
  .vectorRun (.advance h)

theorem Dev.Canonical.compressBuild {c id now} (h : d.Canonical) : (compressBuild c id now d).Canonical :=
  .vectorRun (.advance h)

theorem Dev.Canonical.compressReuse {c id now} (h : d.Canonical) : (compressReuse c id now d).Canonical :=
  .vectorRun (.advance h)

theorem Dev.Canonical.expandFill {c id now} (h : d.Canonical) : (expandFill c id now d).Canonical :=
  .vectorRun (.advance h)

theorem Dev.Canonical.expandKeep {c id now} (h : d.Canonical) : (expandKeep c id now d).Canonical :=
  .vectorRun (.advance h)

theorem Dev.Canonical.vectorBeadForm {c id parity errs now} (h : d.Canonical) : (vectorBeadForm c id parity errs now d).Canonical := by
  unfold Machine.vectorBeadForm
  extract_lets _ _ d1
  have h1 : d1.Canonical := .modCore (.eccHeld (.advance h))
  split
  · split
    · exact .ite (.eccHeld (.advance h)) (.ite (.ite (.retireCore h1) h1) (.vStep (.eccHeld (.advance h))))
    · exact .eccHeld (.advance h)
  · exact .eccHeld (.advance h)

theorem Dev.Canonical.vectorArrivalStayExpire {c id now} (h : d.Canonical) : (vectorArrivalStayExpire c id now d).Canonical := by
  unfold Machine.vectorArrivalStayExpire
  extract_lets
  split
  · split
    · split
      · exact .ite (.vEnd (.advance h)) (.advance h)
      · exact .advance h
    · exact .advance h
  · exact .advance h

end Sys2Proof.Machine
end

section
/-! ## Memory stays canonical: reset, failed modules and hangs -/
namespace Sys2Proof.Machine

variable {d : Dev}

theorem Dev.Canonical.census (h : d.Canonical) : d.census.Canonical :=
  .refloor (.update h)

theorem Dev.Canonical.poisonCore {c} (h : d.Canonical) : (d.poisonCore c).Canonical := by
  unfold Dev.poisonCore
  exact .modCore (.updateMem (.clearSram h))

theorem Dev.Canonical.spareCore {c} (h : d.Canonical) : (d.spareCore c).Canonical :=
  .census (.refloor (.coreNotice (.modRig (.update (.clearSealed (.poisonCore (.modCore (.settleAll h))))))))

theorem Dev.Canonical.loseCore {c} (h : d.Canonical) : (d.loseCore c).Canonical :=
  .census (.refloor (.coreNotice (.modRig h)))

theorem Dev.Canonical.spareOrLose {c} (h : d.Canonical) : (d.spareOrLose c).Canonical :=
  .ite h (.ite (.spareCore h) (.loseCore h))

theorem Dev.Canonical.finishRecovery (h : d.Canonical) : d.finishRecovery.Canonical :=
  .update h

theorem Dev.Canonical.loseStacks {x} (h : d.Canonical) : (d.loseStacks x).Canonical :=
  .ite h (.update h)

theorem Dev.Canonical.resetDone {x} (h : d.Canonical) : (d.resetDone x).Canonical :=
  .notify h

theorem Dev.Canonical.endReset {x} (h : d.Canonical) : (d.endReset x).Canonical := by
  unfold Dev.endReset
  extract_lets _ _ _ _ _ _ d1 d2 _ _ _ d3 d4 d5
  have h1 : d1.Canonical := .foldl (fun _ _ h => .offlineCore h) (.foldl (fun _ _ h => .resetCore h) (.update h))
  have h2 : d2.Canonical := .ite (.foldl (fun _ _ => .spareOrLose) h1) h1
  have h3 : d3.Canonical := .loseStacks (.foldl (fun _ _ h => .modRig h) (.ite (.retireDie (.update h)) (.ite (.census h2) h2)))
  have h4 : d4.Canonical := by
    unfold d4
    split
    · exact .dropJob h3
    · exact h3
  have h5 : d5.Canonical := .ite h4 (.resetDone h4)
  exact .serveHeld (.foldl (fun _ _ h => .reply h) (.ite (.finishRecovery h5) h5))

theorem Dev.Canonical.resetDrainDone {r part now} (h : d.Canonical) : (resetDrainDone r part now d).Canonical := by
  unfold Machine.resetDrainDone
  extract_lets
  split
  · exact .advance h
  · exact .ite (.advance h) (.endReset (.advance h))

theorem Dev.Canonical.moduleResetStart {cause groups} (h : d.Canonical) : (d.moduleResetStart cause groups).Canonical :=
  .ite (.resetStart h) (.update (.foldl (fun _ _ => .flushPart) (.emit (.resetStart h))))

theorem Dev.Canonical.rigResetStart {r cause} (h : d.Canonical) : (d.rigResetStart r cause).Canonical :=
  .ite (.moduleResetStart h) (.resetStart h)

theorem Dev.Canonical.resetClear {r value now} (h : d.Canonical) : (resetClear r value now d).Canonical := by
  unfold Machine.resetClear
  refine .ite (.quiesce h) (.ite (.resume h) ?_)
  refine .ite (.resetRetain h) ?_
  extract_lets
  refine .ite (.reply (.advance h)) ?_
  split
  · exact .reply (.rigResetStart (.verbForward (.advance h)))
  · exact .reply (.advance h)

theorem Dev.Canonical.partResetStart {p cause} (h : d.Canonical) : (d.partResetStart p cause).Canonical :=
  .ite (.journalStart (.flushPart (.resetStart h))) (.flushPart (.resetStart h))

theorem Dev.Canonical.partResetAll {p cause} (h : d.Canonical) : (d.partResetAll p cause).Canonical :=
  .foldl (fun _ _ h => .mgmt h) (.partResetStart h)

theorem Dev.Canonical.partReset {p value now} (h : d.Canonical) : (partReset p value now d).Canonical :=
  .ite (.reply (.advance h)) (.reply (.partResetAll (.advance h)))

theorem Dev.Canonical.resetMemories (h : d.Canonical) : d.resetMemories.Canonical :=
  Dev.resetMemories_wf h

theorem Dev.Canonical.resetPart {p} (h : d.Canonical) : (d.resetPart p).Canonical :=
  .newNonce (.modPart (.dropJob h))

theorem Dev.Canonical.resetQueues (h : d.Canonical) : d.resetQueues.Canonical :=
  .update h

theorem Dev.Canonical.bootStages (h : d.Canonical) : d.bootStages.Canonical :=
  .update h

theorem Dev.Canonical.applyConfig (h : d.Canonical) : d.applyConfig.Canonical :=
  .applyHalyards (.refloor (.update h))

theorem Dev.Canonical.resetRigs (h : d.Canonical) : d.resetRigs.Canonical :=
  .foldl (fun _ _ h => .modRig h) (.foldl (fun _ _ h => .ite h (.modRig h)) (.update h))

theorem Dev.Canonical.retireChannel {k} (h : d.Canonical) : (d.retireChannel k).Canonical :=
  .ite h (.notice (.census (.updateMem h)))

theorem Dev.Canonical.moduleReset {badChans now} (h : d.Canonical) : (moduleReset badChans now d).Canonical := by
  unfold Machine.moduleReset
  extract_lets _ _ _ _ _ _ _ _ _ _ _ d1 _ _ d2
  have h1 : d1.Canonical := .bootStages (.applyConfig (.foldl (fun _ _ => .resetPart) (.resetQueues (.update (.resetMemories (.advance h))))))
  have h2 : d2.Canonical := .census (.checkSignets (.foldl (fun _ _ => .retireChannel) (.ite (.foldl (fun _ _ => .spareOrLose) (.resetRigs h1)) h1)))
  split
  · exact .advance h
  refine .ite (.advance h) ?_
  extract_lets _ d1
  have h1 : d1.Canonical := .notify (.foldl (fun _ _ h => .modRig h) (.ite h2 (.foldl (fun _ _ h => .emit h) h2)))
  exact .foldl (fun _ _ => .journalAuto) (.foldl (fun _ _ h => .reply h) (.ite (.notify h1) h1))

theorem Dev.Canonical.forgetPeer {m} (h : d.Canonical) : (d.forgetPeer m).Canonical :=
  .update (.settleAll h)

theorem Dev.Canonical.resetAnnounce {m now} (h : d.Canonical) : (resetAnnounce m now d).Canonical :=
  .update (.forgetPeer (.cohForget (.advance h)))

theorem Dev.Canonical.passHeld (h : d.Canonical) : d.passHeld.Canonical :=
  .ite h (.foldl (fun _ _ h => .forwardNotice h) (.ite (.update h) (.forwardNotice (.update h))))

theorem Dev.Canonical.anchorTo {new} (h : d.Canonical) : (d.anchorTo new).Canonical :=
  .ite h (.notice (.passHeld (.ite (.update (.update h)) (.foldl (fun _ _ => .hostRingGone) (.update (.update h))))))

theorem Dev.Canonical.moduleFailed {m} (h : d.Canonical) : (d.moduleFailed m).Canonical := by
  unfold Dev.moduleFailed
  extract_lets _ _ _ _ _ _ _ _ _ _ d1 _ _ d2
  have h1 : d1.Canonical := by
    unfold d1
    refine .foldl (fun _ _ h => ?_) (.foldl (fun _ _ h => .settle h) (.update (.settleWindow (.update (.forgetPeer (.cohForget h))))))
    refine .foldl (fun _ _ h => ?_) h
    split
    · exact .recvDone h
    · exact h
  have h2 : d2.Canonical := .update h1
  exact .foldl (fun _ _ h => .ite (.journalAuto h) h) (.ite (.anchorTo h2) h2)

theorem Dev.Canonical.moduleFailTimeout {m now} (h : d.Canonical) : (moduleFailTimeout m now d).Canonical :=
  .ite (.advance h) (.moduleFailed (.notice (.emit (.advance h))))

theorem Dev.Canonical.moduleFailedReceive {m now} (h : d.Canonical) : (moduleFailedReceive m now d).Canonical :=
  .ite (.advance h) (.moduleFailed (.advance h))

theorem Dev.Canonical.declareHang {p rs unchanged} (h : d.Canonical) : (d.declareHang p rs unchanged).Canonical :=
  .ite (.partResetAll (.notify (.modPart h))) (.notify (.modPart h))

theorem Dev.Canonical.hangReportRound {p others unchanged now} (h : d.Canonical) : (hangReportRound p others unchanged now d).Canonical := by
  unfold Machine.hangReportRound
  extract_lets _ _ d1 _ _ _ _ _ _ _ d2
  have h1 : d1.Canonical := .modPart (.advance h)
  have h2 : d2.Canonical := .modPart h1
  refine .ite (.advance h) ?_
  split
  · exact h1
  · exact .ite (.mgmt h1) (.ite (.declareHang h2) h2)

end Sys2Proof.Machine
end

section
/-! ## Memory stays canonical: reliability -/
namespace Sys2Proof.Machine

variable {d : Dev}

theorem Dev.Canonical.scrubbed {s} (h : d.Canonical) : (d.scrubbed s).Canonical :=
  Dev.scrubbed_wf h s

theorem Dev.Canonical.scrubVisit {errs fails now} (h : d.Canonical) : (scrubVisit errs fails now d).Canonical :=
  .foldl (fun _ _ h => .ite (.permanent (.scrubbed h)) (.scrubbed h)) (.update (.foldl (fun _ _ => .ecc) (.advance h)))

theorem Dev.Canonical.containLocal {p} (h : d.Canonical) : (d.containLocal p).Canonical := by
  unfold Dev.containLocal
  extract_lets _ d1
  have h1 : d1.Canonical := by
    unfold d1
    refine .foldl (fun _ _ h => ?_) h
    extract_lets
    split <;> exact .dropWith (.dropWaiting h)
  exact .applyUnload h1

theorem Dev.Canonical.jobContainedEnd {p now} (h : d.Canonical) : (jobContainedEnd p now d).Canonical := by
  unfold Machine.jobContainedEnd
  extract_lets _ _ d1
  have h1 : d1.Canonical := .foldl (fun _ _ h => .mgmt h) (.containLocal (.advance h))
  split
  · exact .advance h
  refine .ite (.advance h) ?_
  split
  · exact .notify h1
  · exact h1

theorem Dev.Canonical.retirePair {c pair} (h : d.Canonical) : (d.retirePair c pair).Canonical :=
  .coreNotice (.census (.modCore h))

theorem Dev.Canonical.retireHubBank {bank} (h : d.Canonical) : (d.retireHubBank bank).Canonical :=
  .notice (.census (.updateMem (.foldl (fun _ _ => .hubWriteBack) h)))

theorem Dev.Canonical.retire {w} (h : d.Canonical) : (d.retire w).Canonical := by
  unfold Dev.retire
  split
  · exact .ite (.loseCore h) h
  · exact .retirePair h
  · exact .retireHubBank h
  · exact .retireChannel h

theorem Dev.Canonical.recoveryStart {bist fails now} (h : d.Canonical) : (recoveryStart bist fails now d).Canonical := by
  unfold Machine.recoveryStart
  extract_lets
  split
  · exact .advance h
  extract_lets d1 _ d2
  have h1 : d1.Canonical := .foldl (fun _ _ => .retire) (.update (.advance h))
  have h2 : d2.Canonical := .update h1
  refine .ite h1 ?_
  split
  · exact .ite h2 (.finishRecovery (.retire h1))
  · exact .finishRecovery (.retire h1)
  · exact .finishRecovery (.retire h1)
  · exact .finishRecovery (.retire h1)
  · exact h2
  · exact .ite (.resetStart h2) (.rigResetStart h2)

theorem Dev.Canonical.coreSpared {c now} (h : d.Canonical) : (coreSpared c now d).Canonical :=
  .ite (.ite (.finishRecovery (.spareCore (.advance h))) (.spareCore (.advance h))) (.advance h)

theorem Dev.Canonical.modPair {s f} (h : d.Canonical) : (d.modPair s f).Canonical :=
  .ite (.update h) (.update h)

theorem Dev.Canonical.takeover {s} (h : d.Canonical) : (d.takeover s).Canonical := by
  unfold Dev.takeover
  extract_lets _ _ _ _ _ d1 _ d2
  have h1 : d1.Canonical := .ite (.protectAbort (.foldl (fun _ _ h => .reply h) (.update (.update h)))) (.update h)
  have h2 : d2.Canonical := .ite (.update h1) h1
  exact .ite (.moduleResetStart h) (.ite (.foldl (fun _ _ h => .ite (.journalStart h) h) h2) h2)

theorem Dev.Canonical.finding {s} (h : d.Canonical) : (d.finding s).1.Canonical :=
  .modPair h

theorem Dev.Canonical.pairOut {s gone cause} (h : d.Canonical) : (d.pairOut s gone cause).Canonical :=
  .ite (.notice (.modPair h)) (.detect (.modPair h))

theorem Dev.Canonical.lockstepMismatch {s now} (h : d.Canonical) : (lockstepMismatch s now d).Canonical :=
  .ite (.advance h) (.pairOut (.takeover (.finding (.notice (.relCount (.advance h))))))

theorem Dev.Canonical.lockstepCheckerFault {s now} (h : d.Canonical) : (lockstepCheckerFault s now d).Canonical :=
  .ite (.advance h) (.modPair (.takeover (.finding (.notice (.relCount (.advance h))))))

theorem Dev.Canonical.lockstepSelftest {s unequal now} (h : d.Canonical) : (lockstepSelftest s unequal now d).Canonical :=
  .ite (.advance h) (.ite (.modPair (.relCount (.advance h))) (.lockstepCheckerFault (.advance h)))

theorem Dev.Canonical.uncheckedPairExit {s done now} (h : d.Canonical) : (uncheckedPairExit s done now d).Canonical :=
  .ite (.pairOut (.advance h)) (.advance h)

theorem Dev.Canonical.pairRestartDone {s ok now} (h : d.Canonical) : (pairRestartDone s ok now d).Canonical := by
  unfold Machine.pairRestartDone
  extract_lets _ d1 _ d2
  have h1 : d1.Canonical := .modPair (.advance h)
  have h2 : d2.Canonical := .ite (.ite (.update h1) (.update h1)) (.pairOut (.advance h))
  exact .ite (.advance h) (.ite (.finishRecovery h2) h2)

theorem Dev.Canonical.testpackPush {pushed b now} (h : d.Canonical) : (testpackPush pushed b now d).Canonical := by
  unfold Machine.testpackPush
  extract_lets _ _ d1
  have h1 : d1.Canonical := by
    unfold d1
    split
    · exact .update (.advance h)
    · exact .advance h
  exact .ite (.ite (.reply (.advance h)) (.advance h)) (.ite (.reply (.emit h1)) h1)

theorem Dev.Canonical.testpackRun {slot c idleMs now} (h : d.Canonical) : (testpackRun slot c idleMs now d).Canonical := by
  unfold Machine.testpackRun
  extract_lets
  split
  · exact .advance h
  · exact .ite (.advance h) (.update (.modCore (.clearSram (.advance h))))

theorem Dev.Canonical.testpackRunEnd {c ecall0 result finding now} (h : d.Canonical) : (testpackRunEnd c ecall0 result finding now d).Canonical := by
  unfold Machine.testpackRunEnd
  extract_lets _ d1
  have h1 : d1.Canonical := .modCore (.clearSram (.advance h))
  split
  · exact .advance h
  · exact .ite (.update h1) (.ite (.retireCore (.coreNotice (.update h1))) (.coreNotice (.update h1)))

end Sys2Proof.Machine
end

section
/-! ## Memory stays canonical: bring-up, firmware and configuration -/
namespace Sys2Proof.Machine

variable {d : Dev}

theorem Dev.Canonical.cold (_ : d.Canonical) : d.cold.Canonical := rfl

theorem Dev.Canonical.powerLost {cause overvolt} (h : d.Canonical) : (d.powerLost cause overvolt).Canonical :=
  .update (.cold h)

theorem Dev.Canonical.powerInputOvervolt {now} (h : d.Canonical) : (powerInputOvervolt now d).Canonical :=
  .update (.powerLost (.advance h))

theorem Dev.Canonical.overvoltRestart {now} (h : d.Canonical) : (overvoltRestart now d).Canonical :=
  .ite (.advance h) (.update (.advance h))

theorem Dev.Canonical.inputPowerRemoved {now} (h : d.Canonical) : (inputPowerRemoved now d).Canonical :=
  .update (.powerLost (.draw (.advance h)))

theorem Dev.Canonical.standbyPowerUp {now} (h : d.Canonical) : (standbyPowerUp now d).Canonical :=
  .ite (.advance h) (.update (.advance h))

theorem Dev.Canonical.pwrEnAssert {now} (h : d.Canonical) : (pwrEnAssert now d).Canonical :=
  .ite (.advance h) (.update (.advance h))

theorem Dev.Canonical.inputRangeLostInSequencing {now} (h : d.Canonical) : (inputRangeLostInSequencing now d).Canonical :=
  .ite (.advance h) (.update (.advance h))

theorem Dev.Canonical.inputRangeRestoredInSequencing {now} (h : d.Canonical) : (inputRangeRestoredInSequencing now d).Canonical :=
  .ite (.advance h) (.update (.advance h))

theorem Dev.Canonical.completeAll {now} (h : d.Canonical) : (d.completeAll now).Canonical :=
  .foldl (fun _ _ h => .foldl (fun _ _ h => .entryEnd h) h) h

theorem Dev.Canonical.pwrEnFall {now} (h : d.Canonical) : (pwrEnFall now d).Canonical :=
  .ite (.advance h) (.update (.powerLost (.draw (.ite (.emit (.completeAll (.foldl (fun _ _ h => .dropEntry h) (.advance h)))) (.advance h)))))

theorem Dev.Canonical.startRigs (h : d.Canonical) : d.startRigs.Canonical :=
  .foldl (fun _ _ h => .ite h (.modRig h)) h

theorem Dev.Canonical.trainLink {slow dead l} (h : d.Canonical) : (Dev.trainLink slow dead d l).Canonical :=
  .ite h (.ite (.retireUcie h) (.ucieUp h))

theorem Dev.Canonical.startCores {bist} (h : d.Canonical) : (d.startCores bist).Canonical :=
  .ite h (.foldl (fun _ _ => .spareOrLose) (.foldl (fun _ _ h => .offlineCore h) (.startRigs h)))

theorem Dev.Canonical.powerOn {slow dead badChans bist now} (h : d.Canonical) : (powerOn slow dead badChans bist now d).Canonical := by
  unfold Machine.powerOn
  refine .ite (.advance h) ?_
  extract_lets _ _ _ _ _ _ _ _ d1
  have h1 : d1.Canonical := .bootStages (.update (.draw (.cold (.advance h))))
  exact .ite h1 (.foldl (fun _ _ h => .emit h) (.applyConfig (.update (.update (.census
    (.startCores (.updateMem (.foldl (fun _ _ => .retireChannel) (.foldl (fun _ _ => .trainLink) (.checkSignets h1))))))))))

theorem Dev.Canonical.fwStore {b} (h : d.Canonical) : (d.fwStore b).Canonical :=
  .ite (.update h) (.update h)

theorem Dev.Canonical.fwRefuse {here c} (h : d.Canonical) : (d.fwRefuse here c).Canonical :=
  .ite (.reply (.update h)) (.update h)

theorem Dev.Canonical.fwPush {b here bcast now} (h : d.Canonical) : (fwPush b here bcast now d).Canonical := by
  unfold Machine.fwPush
  extract_lets _ d1 d2
  have h1 : d1.Canonical := .fwStore (.advance h)
  have h2 : d2.Canonical := .ite (.emit h1) h1
  exact .ite (.fwRefuse (.advance h)) (.ite (.fwRefuse (.advance h)) (.ite (.reply h2) h2))

theorem Dev.Canonical.fwActivate {v now} (h : d.Canonical) : (fwActivate v now d).Canonical :=
  .ite (.reply (.advance h)) (.reply (.update (.advance h)))

theorem Dev.Canonical.fwSvnCommit {v now} (h : d.Canonical) : (fwSvnCommit v now d).Canonical :=
  .ite (.reply (.advance h)) (.reply (.update (.advance h)))

theorem Dev.Canonical.b3Fetch {b now} (h : d.Canonical) : (b3Fetch b now d).Canonical :=
  .ite (.advance h) (.ite (.fwRefuse (.advance h)) (.census (.startCores (.update (.fwStore (.advance h))))))

theorem Dev.Canonical.censusOriginTimeout {now} (h : d.Canonical) : (censusOriginTimeout now d).Canonical := by
  unfold Machine.censusOriginTimeout
  extract_lets
  split
  · exact .advance h
  · exact .ite (.advance h) (.gainId (.advance h))

theorem Dev.Canonical.censusClaim {port src now} (h : d.Canonical) : (censusClaim port src now d).Canonical :=
  .ite (.advance h) (.mgmt (.applyHalyards (.update (.advance h))))

theorem Dev.Canonical.chooseAnchor {es} (h : d.Canonical) : (d.chooseAnchor es).Canonical := by
  unfold Dev.chooseAnchor
  extract_lets _ _ _ _ _ a
  clear_value a
  split
  · exact .update h
  · exact .ite (.passHeld (.update h)) (.update (.anchorTo (.update h)))

theorem Dev.Canonical.censusSummary {es now} (h : d.Canonical) : (censusSummary es now d).Canonical := by
  unfold Machine.censusSummary
  extract_lets _ root _ _ _ d1 d2 d3 _ _ d4
  have h1 : d1.Canonical := .update (.advance h)
  have h2 : d2.Canonical := .ite (.emit h1) h1
  have h3 : d3.Canonical := by
    unfold d3
    clear_value root
    split
    · exact .notice h2
    · exact h2
  have h4 : d4.Canonical := .ite (.update h3) h3
  exact .censusCheck (.chooseAnchor (.update (.ite (.notice h4) h4)))

theorem Dev.Canonical.recensus (h : d.Canonical) : d.recensus.Canonical := by
  unfold Dev.recensus
  exact .applyHalyards (.foldl (fun _ _ => .cableCheck) (.deriveId (.update h)))

theorem Dev.Canonical.cfgRefuse {here c} (h : d.Canonical) : (d.cfgRefuse here c).Canonical :=
  .ite (.reply (.update h)) (.update h)

theorem Dev.Canonical.cfgDone {here} (h : d.Canonical) : (d.cfgDone here).Canonical :=
  .ite (.reply (.update h)) (.update h)

theorem Dev.Canonical.sealObjectWrite {index sub v now} (h : d.Canonical) : (sealObjectWrite index sub v now d).Canonical := by
  unfold Machine.sealObjectWrite
  extract_lets
  split
  · exact .reply (.advance h)
  refine .ite (.reply (.advance h)) (.ite (.cfgRefuse (.advance h)) ?_)
  split
  · exact .cfgDone (.update (.advance h))
  · exact .reply (.advance h)

theorem Dev.Canonical.configPush {b here pf now} (h : d.Canonical) : (configPush b here pf now d).Canonical := by
  unfold Machine.configPush
  extract_lets
  refine .ite (.cfgRefuse (.advance h)) ?_
  split
  · exact .cfgRefuse (.advance h)
  · exact .ite (.cfgRefuse (.advance h)) (.cfgDone (.ite (.emit (.update (.advance h))) (.update (.advance h))))

theorem Dev.Canonical.configDiscard {v now} (h : d.Canonical) : (configDiscard v now d).Canonical :=
  .ite (.reply (.advance h)) (.ite (.cfgRefuse (.advance h)) (.cfgDone (.update (.advance h))))

theorem Dev.Canonical.configArm {b here now} (h : d.Canonical) : (configArm b here now d).Canonical := by
  unfold Machine.configArm
  extract_lets _ _ _ _ d1
  have h1 : d1.Canonical := .update (.advance h)
  split
  · exact .cfgRefuse (.advance h)
  · exact .ite (.cfgRefuse (.advance h)) (.ite (.cfgRefuse (.advance h)) (.ite (.cfgRefuse (.advance h)) (.cfgDone (.ite (.emit h1) h1))))

theorem Dev.Canonical.configCancel {v now} (h : d.Canonical) : (configCancel v now d).Canonical := by
  unfold Machine.configCancel
  extract_lets
  refine .ite (.reply (.advance h)) ?_
  split
  · exact .cfgDone (.advance h)
  · exact .ite (.cfgDone (.update (.advance h))) (.cfgRefuse (.advance h))

theorem Dev.Canonical.configSwitch {now} (h : d.Canonical) : (configSwitch now d).Canonical := by
  unfold Machine.configSwitch
  extract_lets
  split
  · exact .ite (.advance h) (.ite (.recensus (.unstickChanged (.applyConfig (.update (.advance h)))))
      (.unstickChanged (.applyConfig (.update (.advance h)))))
  · exact .advance h

theorem Dev.Canonical.configSynced {force staged armed now} (h : d.Canonical) : (configSynced force staged armed now d).Canonical := by
  unfold Machine.configSynced
  extract_lets _ _ _ _ _ _ d1
  have h1 : d1.Canonical := .notice (.unstickChanged (.applyConfig (.update (.advance h))))
  exact .ite (.advance h) (.censusCheck (.ite (.recensus h1) h1))

end Sys2Proof.Machine
end

section
/-! ## Memory stays canonical: the dictionary's service -/
namespace Sys2Proof.Machine

variable {d : Dev}

theorem Dev.Canonical.retag (h : d.Canonical) : d.retag.Canonical :=
  .update h

theorem Dev.Canonical.tagOf {o k} (h : d.Canonical) : (d.tagOf o k).Canonical := by
  unfold Dev.tagOf
  split
  · exact h
  · exact .update (.ite_snd h (.draw h))

theorem Dev.Canonical.sampled {index sub} (h : d.Canonical) : (d.sampled index sub).Canonical :=
  .ite (.modSwitch h) (.ite (.update h) h)

theorem Dev.Canonical.serveRead {q staged room r} (h : d.Canonical) : (d.serveRead q staged room r).1.Canonical := by
  unfold Dev.serveRead
  split
  · exact h
  · exact .ite_fst h (.sampled (.ite (.gather (.tagOf (.retag h))) (.tagOf (.retag h))))

theorem Dev.Canonical.ringConfig {ring f} (h : d.Canonical) : (d.ringConfig ring f).Canonical :=
  .drainNotices (.update h)

theorem Dev.Canonical.noticeRingConfig {part f now} (h : d.Canonical) : (noticeRingConfig part f now d).Canonical :=
  .ite (.reply (.advance h)) (.reply (.ringConfig (.advance h)))

theorem Dev.Canonical.anchorTakeover {here value now} (h : d.Canonical) : (anchorTakeover here value now d).Canonical := by
  unfold Machine.anchorTakeover
  extract_lets _ _ _ d1 _ d2
  have h1 : d1.Canonical := .update (.advance h)
  have h2 : d2.Canonical := .ite (.anchorTo (.ite (.emit h1) h1)) (.advance h)
  exact .ite (.reply (.advance h)) (.ite (.reply h2) h2)

theorem Dev.Canonical.ask {f : Dev → Dev} (hf : ∀ d, d.Canonical → (f d).Canonical) (h : d.Canonical) : (d.ask f).1.Canonical :=
  .update (hf _ (.update h))

theorem Dev.Canonical.setJrn {p f} (h : d.Canonical) : (d.setJrn p f).Canonical :=
  .modPart h

theorem Dev.Canonical.keep {index sub v} (h : d.Canonical) : (d.keep index sub v).Canonical :=
  .update h

theorem Dev.Canonical.actModule {q env o index sub select v now} (h : d.Canonical) : (d.actModule q env o index sub select v now).Canonical := by
  unfold Dev.actModule
  extract_lets
  split
  · exact .configPush h
  · exact .configArm h
  · exact .configCancel h
  · exact .configDiscard h
  · exact .signetInstall h
  · exact .fwPush h
  · exact .fwActivate h
  · exact .fwSvnCommit h
  · exact .noticeRingConfig h
  · exact .noticeRingConfig h
  · exact .update h
  · exact .update h
  · exact .anchorTakeover h
  · exact .powerReqWrite h
  · exact .resetClear h
  · exact .update h
  · exact .update h
  · exact .ite (.linkCmdRetrain h) (.ite (.linkCmdFullTrain h) (.ite (.linkCmdDisable h) (.linkCmdEnable h)))
  · exact .routeArmTime h
  · exact .routeStage h
  · exact .update h
  · exact .update h
  · exact .update h
  · exact .update h
  · exact .update h
  · exact .update h
  · split
    · exact .protectStage h
    · exact .reply h
  · exact .protectCommit h
  · exact .hallmarkReq h
  · exact .testpackPush h
  · exact .keep h

theorem Dev.Canonical.actPart {q env o p sub v now} (h : d.Canonical) : (d.actPart q env o p sub v now).Canonical := by
  unfold Dev.actPart
  extract_lets
  split
  · exact .jobLoad h
  · exact .jobUnload h
  · exact .mapReq h
  · exact .unmapReq h
  · exact .consentToken h
  · exact .keyErase h
  · exact .hallmarkReqP h
  · exact .queueCreate h
  · exact .queueDestroy h
  · exact .partReset h
  · exact .modPart h
  · exact .modPart h
  · exact .ite (.reply h) (.streamOpen h)
  · exact .streamClose h
  · exact .semAlloc h
  · exact .semFree h
  · exact .modPart h
  · exact .modPart h
  · exact .noticeRingConfig h
  · exact .noticeRingConfig h
  · exact .update h
  · exact .jrnRegionWrite h
  · exact .jrnRegionWrite h
  · exact .setJrn h
  · exact .setJrn h
  · exact .setJrn h
  · exact .jrnCmdRecover h
  · exact .setJrn h
  · exact .setJrn h
  · exact .setJrn h
  · exact .ite (.reply h) (.setJrn h)
  · exact .ite (.reply h) (.setJrn h)
  · exact .setJrn h
  · exact .setJrn h
  · exact .setJrn h
  · exact .fillReq h
  · exact h

theorem Dev.Canonical.writeValue {q env o r v now} (h : d.Canonical) : (d.writeValue q env o r v now).1.Canonical := by
  unfold Dev.writeValue
  split
  · refine .retag (.ask (fun d h => .ite (.sealObjectWrite h) ?_) (.tagOf (.retag h)))
    split
    · exact .actPart h
    · exact .actModule h
  · exact .tagOf (.retag h)

theorem Dev.Canonical.closeWrite {owner key} (h : d.Canonical) : (d.closeWrite owner key).Canonical :=
  .update h

theorem Dev.Canonical.writeSegment {q env o r now} (h : d.Canonical) : (d.writeSegment q env o r now).1.Canonical := by
  unfold Dev.writeSegment
  extract_lets
  split
  · exact .ite_fst (.closeWrite h) (.ite_fst (.closeWrite h) (.ite_fst (.writeValue (.closeWrite h)) (.update (.closeWrite h))))
  · exact .ite_fst h (.ite_fst h (.ite_fst (.writeValue h) (.update (.closeWrite h))))

theorem Dev.Canonical.serveWrite {q env r now} (h : d.Canonical) : (d.serveWrite q env r now).1.Canonical := by
  unfold Dev.serveWrite
  split
  · exact h
  · exact .ite_fst h (.ite_fst h (.ite_fst (.writeSegment h) (.ite_fst h (.writeValue h))))

theorem Dev.Canonical.serve {q env room r now} (h : d.Canonical) : (d.serve q env room r now).1.Canonical := by
  unfold Dev.serve
  split
  · exact .serveRead h
  · exact .serveWrite h
  · exact .serveRead h
  · exact h
  · exact h
  · exact h

theorem Dev.Canonical.serveMessage {q env limit b now} (h : d.Canonical) : (d.serveMessage q env limit b now).1.Canonical := by
  unfold Dev.serveMessage
  split
  · exact h
  · exact .serve h

theorem Dev.Canonical.serveRow {q env r now} (h : d.Canonical) : (d.serveRow q env r now).Canonical :=
  .ite (.emit (.advance h)) (.emit (.serve (.advance h)))

theorem Dev.Canonical.dictRead {q r now} (h : d.Canonical) : (dictRead q r now d).Canonical :=
  .serveRow h

theorem Dev.Canonical.dictWrite {q env r now} (h : d.Canonical) : (dictWrite q env r now d).Canonical :=
  .serveRow h

theorem Dev.Canonical.dictReadStaged {q r now} (h : d.Canonical) : (dictReadStaged q r now d).Canonical :=
  .serveRow h

theorem Dev.Canonical.dictDescribe {q r now} (h : d.Canonical) : (dictDescribe q r now d).Canonical :=
  .serveRow h

theorem Dev.Canonical.dictNext {q r now} (h : d.Canonical) : (dictNext q r now d).Canonical :=
  .serveRow h

theorem Dev.Canonical.dictSegmentTimeout {now} (h : d.Canonical) : (dictSegmentTimeout now d).Canonical :=
  .update (.advance h)

theorem Dev.Canonical.keepResponse {peer txn m} (h : d.Canonical) : (d.keepResponse peer txn m).Canonical :=
  .update h

theorem Dev.Canonical.serveKept {q env limit b now} (h : d.Canonical) : (d.serveKept q env limit b now).1.Canonical := by
  unfold Dev.serveKept
  extract_lets
  split
  · exact h
  · exact .keepResponse (.serveMessage h)

theorem Dev.Canonical.serveBooted {q env limit b now} (h : d.Canonical) : (d.serveBooted q env limit b now).1.Canonical :=
  .ite_fst (.serveMessage h) (.ite_fst (.serveMessage h) h)

theorem Dev.Canonical.udpDatagramRx {g env now} (h : d.Canonical) : (udpDatagramRx g env now d).Canonical :=
  .ite (.advance h) (.ite (.update (.advance h)) (.ite (.ite (.emit (.serveBooted (.advance h))) (.advance h))
    (.ite (.ite (.update (.serveKept (.advance h))) (.advance h)) (.emit (.serveKept (.advance h))))))

theorem Dev.Canonical.multicastResponseDelay {peer txn now} (h : d.Canonical) : (multicastResponseDelay peer txn now d).Canonical := by
  unfold Machine.multicastResponseDelay
  extract_lets
  split
  · exact .emit (.update (.advance h))
  · exact .advance h

end Sys2Proof.Machine
end

section
/-! ## Memory stays canonical: the host interface -/
namespace Sys2Proof.Machine

variable {d : Dev}

theorem Dev.Canonical.linkTrained {width rate} (h : d.Canonical) : (d.linkTrained width rate).Canonical :=
  .update h

theorem Dev.Canonical.perstNDeassert {width rate now} (h : d.Canonical) : (perstNDeassert width rate now d).Canonical :=
  .ite (.advance h) (.linkTrained (.update (.advance h)))

theorem Dev.Canonical.pcieLinkUp {width rate now} (h : d.Canonical) : (pcieLinkUp width rate now d).Canonical :=
  .ite (.advance h) (.linkTrained (.advance h))

theorem Dev.Canonical.funcClear {f} (h : d.Canonical) : (d.funcClear f).Canonical :=
  .update h

theorem Dev.Canonical.funcQueues {f} (h : d.Canonical) : (d.funcQueues f).Canonical :=
  .foldl (fun _ _ => .hostRingGone) h

theorem Dev.Canonical.vfReset {f} (h : d.Canonical) : (d.vfReset f).Canonical := by
  unfold Dev.vfReset
  extract_lets d1
  have h1 : d1.Canonical := by
    unfold d1
    split
    · exact .ringConfig h
    · exact h
  exact .foldl (fun _ _ h => .mgmt h) (.funcQueues (.funcClear h1))

theorem Dev.Canonical.pfReset (h : d.Canonical) : d.pfReset.Canonical := by
  unfold Dev.pfReset
  exact .ringConfig (.funcQueues (.funcClear (.foldl (fun _ _ => .vfReset) h)))

theorem Dev.Canonical.pcieReset {perst now} (h : d.Canonical) : (pcieReset perst now d).Canonical :=
  .update (.pfReset (.advance h))

theorem Dev.Canonical.vfFlr {f now} (h : d.Canonical) : (vfFlr f now d).Canonical :=
  .ite (.advance h) (.vfReset (.advance h))

theorem Dev.Canonical.pfFlr {now} (h : d.Canonical) : (pfFlr now d).Canonical :=
  .ite (.advance h) (.pfReset (.advance h))

theorem Dev.Canonical.busMasterDisable {f now} (h : d.Canonical) : (busMasterDisable f now d).Canonical :=
  .update (.advance h)

theorem Dev.Canonical.busMasterEnable {f now} (h : d.Canonical) : (busMasterEnable f now d).Canonical :=
  .ite (.advance h) (.foldl (fun _ _ h => .drainNotices h) (.completeAll (.update (.advance h))))

theorem Dev.Canonical.pcieCompletionTimeout {i now} (h : d.Canonical) : (pcieCompletionTimeout i now d).Canonical := by
  unfold Machine.pcieCompletionTimeout
  extract_lets
  split
  · exact .ite (.advance h) (.ringFault (.advance h))
  · exact .advance h

theorem Dev.Canonical.noticeRingDoorbell {func w now} (h : d.Canonical) : (noticeRingDoorbell func w now d).Canonical := by
  unfold Machine.noticeRingDoorbell
  extract_lets _ ring
  clear_value ring
  split
  · exact .advance h
  · exact .ite (.advance h) (.ite (.stale (.advance h)) (.ite (.notice (.advance h)) (.drainNotices (.update (.advance h)))))

theorem Dev.Canonical.setBox {f b} (h : d.Canonical) : (d.setBox f b).Canonical :=
  .update h

theorem Dev.Canonical.boxDone {f m} (h : d.Canonical) : (d.boxDone f m).Canonical :=
  .ite (.sendMsix (.setBox h)) (.setBox h)

theorem Dev.Canonical.boxForward {f m req} (h : d.Canonical) : (d.boxForward f m req).Canonical :=
  .update (.fwdMember h)

theorem Dev.Canonical.boxServe {f env now} (h : d.Canonical) : (d.boxServe f env now).Canonical :=
  .ite (.boxDone h) (.ite (.boxDone h) (.ite (.boxDone (.serveBooted h)) (.ite (.boxDone h)
    (.ite (.boxDone h) (.ite (.boxDone (.serveMessage h)) (.ite (.boxDone h) (.boxForward h)))))))

theorem Dev.Canonical.mbxGo {f w env now} (h : d.Canonical) : (mbxGo f w env now d).Canonical :=
  .ite (.advance h) (.ite (.setBox (.advance h)) (.boxServe (.setBox (.advance h))))

theorem Dev.Canonical.mbxDoneClear {f done overrun now} (h : d.Canonical) : (mbxDoneClear f done overrun now d).Canonical :=
  .ite (.advance h) (.setBox (.advance h))

theorem Dev.Canonical.apertureCtrlWrite {f w now} (h : d.Canonical) : (apertureCtrlWrite f w now d).Canonical :=
  .ite (.advance h) (.update (.advance h))

theorem Dev.Canonical.hostReadAsk {id part home line} (h : d.Canonical) : (d.hostReadAsk id part home line).Canonical := by
  unfold Dev.hostReadAsk
  extract_lets
  refine .ite ?_ (.egress (.update h))
  split
  · exact .update h
  · exact .cohSend (.update h)

theorem Dev.Canonical.apertureLoad {h'} (h : d.Canonical) : (d.apertureLoad h').Canonical := by
  unfold Dev.apertureLoad
  extract_lets
  split
  · exact .hostAnswer (.apertureFault (.walkNotice h))
  · extract_lets d1
    have h1 : d1.Canonical := .foldl (fun _ _ h => .hostReadAsk h) (.update h)
    split
    · split
      · exact .hostReadLine h1
      · exact h1
    · exact h1
  · exact .hostAnswer h

theorem Dev.Canonical.apertureLine {part m x} (h : d.Canonical) : (d.apertureLine part m x).Canonical := by
  unfold Dev.apertureLine
  extract_lets
  split
  · exact .cohServe h
  · exact .ite (.cohSend h) (.egressStore h)
  · exact .writeVa h

theorem Dev.Canonical.apertureStore {part va bs} (h : d.Canonical) : (d.apertureStore part va bs).Canonical := by
  unfold Dev.apertureStore
  extract_lets
  split
  · exact .apertureFault (.walkNotice h)
  · exact .foldl (fun _ _ h => .apertureLine h) h

theorem Dev.Canonical.apertureServe {key h'} (h : d.Canonical) : (d.apertureServe key h').Canonical := by
  unfold Dev.apertureServe
  split
  · exact .hostAnswer (.apertureFault h)
  · exact .apertureLoad h

theorem Dev.Canonical.apertureRead {f off n tag errs now} (h : d.Canonical) : (apertureRead f off n tag errs now d).Canonical :=
  .ite (.advance h) (.ite (.hostAnswer (.advance h)) (.ite (.apertureServe (.foldl (fun _ _ => .ecc) (.advance h)))
    (.update (.fwdMember (.advance h)))))

theorem Dev.Canonical.apertureWrite {f off bs now} (h : d.Canonical) : (apertureWrite f off bs now d).Canonical := by
  unfold Machine.apertureWrite
  extract_lets
  refine .ite (.advance h) (.ite ?_ (.update (.fwdMember (.advance h))))
  split
  · exact .apertureStore (.advance h)
  · exact .apertureFault (.advance h)

theorem Dev.Canonical.apertureResendTimeout {m fseq now} (h : d.Canonical) : (apertureResendTimeout m fseq now d).Canonical := by
  unfold Machine.apertureResendTimeout
  extract_lets
  split
  · exact .advance h
  · exact .ite (.advance h) (.emit (.update (.advance h)))

theorem Dev.Canonical.applied {h'} (h : d.Canonical) : (d.applied h').Canonical :=
  .update h

theorem Dev.Canonical.hostFwdDoorbell {h' now} (h : d.Canonical) : (hostFwdDoorbell h' now d).Canonical :=
  .ite (.advance h) (.ite (.door (.applied (.advance h))) (.stale (.applied (.advance h))))

theorem Dev.Canonical.hostFwdDictRequest {h' env now} (h : d.Canonical) : (hostFwdDictRequest h' env now d).Canonical :=
  .ite (.advance h) (.emit (.serveKept (.advance h)))

theorem Dev.Canonical.hostFwdDictResponse {h' now} (h : d.Canonical) : (hostFwdDictResponse h' now d).Canonical := by
  unfold Machine.hostFwdDictResponse
  extract_lets
  split
  · exact .advance h
  · exact .ite (.boxDone (.update (.advance h))) (.update (.advance h))

theorem Dev.Canonical.hostFwdNotice {h' now} (h : d.Canonical) : (hostFwdNotice h' now d).Canonical :=
  .ite (.emit (.advance h)) (.deliverNotice (.advance h))

theorem Dev.Canonical.hostFwdApertureRead {h' errs now} (h : d.Canonical) : (hostFwdApertureRead h' errs now d).Canonical :=
  .ite (.advance h) (.apertureServe (.foldl (fun _ _ => .ecc) (.advance h)))

theorem Dev.Canonical.hostFwdApertureWrite {h' now} (h : d.Canonical) : (hostFwdApertureWrite h' now d).Canonical := by
  unfold Machine.hostFwdApertureWrite
  extract_lets _ _ _ d1
  have h1 : d1.Canonical := .applied (.advance h)
  refine .ite (.advance h) (.ite (.ite (.emit (.advance h)) (.advance h)) ?_)
  refine .emit ?_
  split
  · exact .apertureStore h1
  · exact .apertureFault h1

theorem Dev.Canonical.hostFwdApertureCompletion {h' now} (h : d.Canonical) : (hostFwdApertureCompletion h' now d).Canonical := by
  unfold Machine.hostFwdApertureCompletion
  extract_lets
  split
  · exact .advance h
  · exact .ite (.update (.advance h)) (.hostAnswer (.update (.advance h)))

theorem Dev.Canonical.anchorLinkDownTimeout {now} (h : d.Canonical) : (anchorLinkDownTimeout now d).Canonical :=
  .ite (.advance h) (.anchorTo (.update (.advance h)))

theorem Dev.Canonical.dictRequestRetry {peer txn now} (h : d.Canonical) : (dictRequestRetry peer txn now d).Canonical := by
  unfold Machine.dictRequestRetry
  extract_lets
  split
  · exact .advance h
  · exact .ite (.advance h) (.ite (.update (.advance h)) (.fwdMember (.update (.advance h))))

theorem Dev.Canonical.quietly {f : Dev → Dev} (hf : ∀ d, d.Canonical → (f d).Canonical) (h : d.Canonical) : (d.quietly f).Canonical :=
  .ask hf h

theorem Dev.Canonical.creditArrives {src w} (h : d.Canonical) : (d.creditArrives src w).Canonical :=
  .update h

theorem Dev.Canonical.entryArrives {src w b} (h : d.Canonical) : (d.entryArrives src w b).Canonical := by
  unfold Dev.entryArrives
  extract_lets
  split
  · exact .mgmt h
  · exact .event (.creditArrives (.update h))

theorem Dev.Canonical.chargeLate {i n} (h : d.Canonical) : (d.chargeLate i n).Canonical := by
  unfold Dev.chargeLate
  split
  · exact .update h
  · exact h

theorem Dev.Canonical.entryBegun {src w} (h : d.Canonical) : (d.entryBegun src w).Canonical := by
  unfold Dev.entryBegun
  extract_lets
  split
  · exact h
  · exact .ite (.chargeLate (.modQueue (.settleQueue h))) h

theorem Dev.Canonical.entryReported {src w} (h : d.Canonical) : (d.entryReported src w).Canonical := by
  unfold Dev.entryReported
  extract_lets
  split
  · exact h
  · exact .ite (.modQueue (.ite (.chargeLate (.settleQueue h)) (.settleQueue h))) h

theorem Dev.Canonical.rigReported {src w b} (h : d.Canonical) : (d.rigReported src w b).Canonical :=
  .update (.settleAll h)

theorem Dev.Canonical.shareTold {src w} (h : d.Canonical) : (d.shareTold src w).Canonical :=
  .update (.foldl (fun _ _ => .settleCore) h)

theorem Dev.Canonical.partService {kind src p w b} (h : d.Canonical) : (d.partService kind src p w b).Canonical := by
  unfold Dev.partService
  extract_lets
  split
  · exact .jrnMember h
  · exact .ite (.setJrn h) h
  · exact .journalStart h
  · exact .submitReplay h
  · exact .setJrn h
  · exact .setSlotState h
  · exact .ite h (.applyLoad h)
  · exact .applyUnload h
  · exact .foldl (fun _ _ h => .quiesceRig h) h
  · exact .containLocal h
  · exact .partResetStart h
  · exact .homeMapped h
  · exact .remoteUnmapped h
  · exact h

theorem Dev.Canonical.service {p now} (h : d.Canonical) : (d.service p now).Canonical := by
  unfold Dev.service
  extract_lets kind
  clear_value kind
  split
  · exact .entryArrives h
  · exact .entryReported h
  · exact .creditArrives h
  · exact .entryBegun h
  · exact .rigReported h
  · exact .mgmt h
  · exact .shareTold h
  · exact .emit h
  · exact .censusClaim h
  · exact .censusCheck (.update h)
  · exact .ite (.rigResetStart h) (.quietly (fun _ h => .resetClear h) h)
  · exact .setReq h
  · exact .funcQueues h
  · exact .halyardRepairRequest h
  · exact .halyardArrive h
  · split
    · exact .ite h (.partService h)
    · exact h

theorem Dev.Canonical.mgmtPacket {p env now} (h : d.Canonical) : (Machine.mgmt p env now d).Canonical := by
  unfold Machine.mgmt
  extract_lets
  refine .ite (.ingress h) ?_
  split
  · exact .mgmt (.serveKept (.ingress h))
  · exact .update (.ingress h)
  · exact .service (.ingress h)

end Sys2Proof.Machine
end

section
/-! ## Memory stays canonical: the commands and the step -/
namespace Sys2Proof.Machine

/-- What keeps memory canonical, run as a command, keeps it so: to count versions writes no byte of memory. -/
theorem memoryCanonical_of_run {s t : State} {f : Dev → Dev} (hf : (f s.dev).Canonical) (ht : s.run f = .next t) : memoryCanonical t := by
  cases ht
  exact Dev.Canonical.retag hf

/-- Every command keeps memory canonical, each by the lemma about its own meaning. -/
theorem exec_memoryCanonical {c : Instr} {s t : State} (h : s.dev.Canonical) (ht : exec c s = .next t) : memoryCanonical t := by
  cases c with
  | powerOn => exact memoryCanonical_of_run (.powerOn h) ht
  | pwrEnAssert => exact memoryCanonical_of_run (.pwrEnAssert h) ht
  | pwrEnFall => exact memoryCanonical_of_run (.pwrEnFall h) ht
  | perstNDeassert => exact memoryCanonical_of_run (.perstNDeassert h) ht
  | pcieReset => exact memoryCanonical_of_run (.pcieReset h) ht
  | vfFlr => exact memoryCanonical_of_run (.vfFlr h) ht
  | pfFlr => exact memoryCanonical_of_run (.pfFlr h) ht
  | busMasterDisable => exact memoryCanonical_of_run (.busMasterDisable h) ht
  | mbxGo => exact memoryCanonical_of_run (.mbxGo h) ht
  | mbxDoneClear => exact memoryCanonical_of_run (.mbxDoneClear h) ht
  | apertureCtrlWrite => exact memoryCanonical_of_run (.apertureCtrlWrite h) ht
  | apertureRead => exact memoryCanonical_of_run (.apertureRead h) ht
  | apertureWrite => exact memoryCanonical_of_run (.apertureWrite h) ht
  | hostFwdDoorbell => exact memoryCanonical_of_run (.hostFwdDoorbell h) ht
  | hostFwdDictRequest => exact memoryCanonical_of_run (.hostFwdDictRequest h) ht
  | hostFwdDictResponse => exact memoryCanonical_of_run (.hostFwdDictResponse h) ht
  | hostFwdNotice => exact memoryCanonical_of_run (.hostFwdNotice h) ht
  | hostFwdApertureRead => exact memoryCanonical_of_run (.hostFwdApertureRead h) ht
  | hostFwdApertureWrite => exact memoryCanonical_of_run (.hostFwdApertureWrite h) ht
  | hostFwdApertureCompletion => exact memoryCanonical_of_run (.hostFwdApertureCompletion h) ht
  | apertureResendTimeout => exact memoryCanonical_of_run (.apertureResendTimeout h) ht
  | anchorTakeover => exact memoryCanonical_of_run (.anchorTakeover h) ht
  | anchorLinkDownTimeout => exact memoryCanonical_of_run (.anchorLinkDownTimeout h) ht
  | doorbellSqTail => exact memoryCanonical_of_run (.doorbellSqTail h) ht
  | doorbellCqHead => exact memoryCanonical_of_run (.doorbellCqHead h) ht
  | noticeRingDoorbell => exact memoryCanonical_of_run (.noticeRingDoorbell h) ht
  | dictRead => exact memoryCanonical_of_run (.dictRead h) ht
  | dictWrite => exact memoryCanonical_of_run (.dictWrite h) ht
  | dictReadStaged => exact memoryCanonical_of_run (.dictReadStaged h) ht
  | dictDescribe => exact memoryCanonical_of_run (.dictDescribe h) ht
  | dictNext => exact memoryCanonical_of_run (.dictNext h) ht
  | dictSegmentTimeout => exact memoryCanonical_of_run (.dictSegmentTimeout h) ht
  | dictRequestRetry => exact memoryCanonical_of_run (.dictRequestRetry h) ht
  | udpDatagramRx => exact memoryCanonical_of_run (.udpDatagramRx h) ht
  | multicastResponseDelay => exact memoryCanonical_of_run (.multicastResponseDelay h) ht
  | noticeRingConfig => exact memoryCanonical_of_run (.noticeRingConfig h) ht
  | ecallEnd => exact memoryCanonical_of_run (.ecallEnd h) ht
  | programException => exact memoryCanonical_of_run (.programException h) ht
  | branchMispredict => exact memoryCanonical_of_run (.branchMispredict h) ht
  | scalarLoad => exact memoryCanonical_of_run (.scalarLoad h) ht
  | scalarStore => exact memoryCanonical_of_run (.scalarStore h) ht
  | amo => exact memoryCanonical_of_run (.amo h) ht
  | lr => exact memoryCanonical_of_run (.lr h) ht
  | sc => exact memoryCanonical_of_run (.sc h) ht
  | fence => exact memoryCanonical_of_run (.fence h) ht
  | txctlWrite => exact memoryCanonical_of_run (.txctlWrite h) ht
  | txfaultWrite => exact memoryCanonical_of_run (.txfaultWrite h) ht
  | tdWrite => exact memoryCanonical_of_run (.tdWrite h) ht
  | crdataWrite => exact memoryCanonical_of_run (.crdataWrite h) ht
  | csrWrite => exact memoryCanonical_of_run (.csrWrite h) ht
  | tiqEnter => exact memoryCanonical_of_run (.tiqEnter h) ht
  | engineBegin => exact memoryCanonical_of_run (.engineBegin h) ht
  | tensorCommit => exact memoryCanonical_of_run (.tensorCommit h) ht
  | tensorComplete => exact memoryCanonical_of_run (.tensorComplete h) ht
  | mmaOpen => exact memoryCanonical_of_run (.mmaOpen h) ht
  | mmaContinue => exact memoryCanonical_of_run (.mmaContinue h) ht
  | mmaClose => exact memoryCanonical_of_run (.mmaClose h) ht
  | mmaOpenClose => exact memoryCanonical_of_run (.mmaOpenClose h) ht
  | mmaGroupStart => exact memoryCanonical_of_run (.mmaGroupStart h) ht
  | epilogueCloseStart => exact memoryCanonical_of_run (.epilogueCloseStart h) ht
  | arrivalStayExpire => exact memoryCanonical_of_run (.arrivalStayExpire h) ht
  | beadLand => exact memoryCanonical_of_run (.beadLand h) ht
  | vrun => exact memoryCanonical_of_run (.vrun h) ht
  | compressBuild => exact memoryCanonical_of_run (.compressBuild h) ht
  | compressReuse => exact memoryCanonical_of_run (.compressReuse h) ht
  | expandFill => exact memoryCanonical_of_run (.expandFill h) ht
  | expandKeep => exact memoryCanonical_of_run (.expandKeep h) ht
  | vectorBeadForm => exact memoryCanonical_of_run (.vectorBeadForm h) ht
  | vectorArrivalStayExpire => exact memoryCanonical_of_run (.vectorArrivalStayExpire h) ht
  | tload => exact memoryCanonical_of_run (.tload h) ht
  | tstore => exact memoryCanonical_of_run (.tstore h) ht
  | tmove => exact memoryCanonical_of_run (.tmove h) ht
  | send => exact memoryCanonical_of_run (.send h) ht
  | recv => exact memoryCanonical_of_run (.recv h) ht
  | arm => exact memoryCanonical_of_run (.arm h) ht
  | disarm => exact memoryCanonical_of_run (.disarm h) ht
  | signal => exact memoryCanonical_of_run (.signal h) ht
  | signalRelease => exact memoryCanonical_of_run (.signalRelease h) ht
  | wait => exact memoryCanonical_of_run (.wait h) ht
  | waitConsume => exact memoryCanonical_of_run (.waitConsume h) ht
  | waitSatisfied => exact memoryCanonical_of_run (.waitSatisfied h) ht
  | rflush => exact memoryCanonical_of_run (.rflush h) ht
  | clasp => exact memoryCanonical_of_run (.clasp h) ht
  | digest => exact memoryCanonical_of_run (.digest h) ht
  | digestAcc => exact memoryCanonical_of_run (.digestAcc h) ht
  | cset => exact memoryCanonical_of_run (.cset h) ht
  | mapReq => exact memoryCanonical_of_run (.mapReq h) ht
  | unmapReq => exact memoryCanonical_of_run (.unmapReq h) ht
  | readSh => exact memoryCanonical_of_run (.readSh h) ht
  | grant => exact memoryCanonical_of_run (.grant h) ht
  | write => exact memoryCanonical_of_run (.write h) ht
  | writeAck => exact memoryCanonical_of_run (.writeAck h) ht
  | snoopInv => exact memoryCanonical_of_run (.snoopInv h) ht
  | ansInvalidated => exact memoryCanonical_of_run (.ansInvalidated h) ht
  | ansEvicting => exact memoryCanonical_of_run (.ansEvicting h) ht
  | evictNotice => exact memoryCanonical_of_run (.evictNotice h) ht
  | readerCopyEvict => exact memoryCanonical_of_run (.readerCopyEvict h) ht
  | evictionRecordExpire => exact memoryCanonical_of_run (.evictionRecordExpire h) ht
  | snoopResendTimeout => exact memoryCanonical_of_run (.snoopResendTimeout h) ht
  | egressWriteback => exact memoryCanonical_of_run (.egressWriteback h) ht
  | hubCacheEvict => exact memoryCanonical_of_run (.hubCacheEvict h) ht
  | queueCreate => exact memoryCanonical_of_run (.queueCreate h) ht
  | queueDestroy => exact memoryCanonical_of_run (.queueDestroy h) ht
  | entryFetch => exact memoryCanonical_of_run (.entryFetch h) ht
  | dispatch => exact memoryCanonical_of_run (.dispatch h) ht
  | creditRefresh => exact memoryCanonical_of_run (.creditRefresh h) ht
  | entryEnd => exact memoryCanonical_of_run (.entryEnd h) ht
  | msixHoldoffExpire => exact memoryCanonical_of_run (.msixHoldoffExpire h) ht
  | cqHeadPoll => exact memoryCanonical_of_run (.cqHeadPoll h) ht
  | schedWindowEnd => exact memoryCanonical_of_run (.schedWindowEnd h) ht
  | queueUrgent => exact memoryCanonical_of_run (.queueUrgent h) ht
  | feQueueStay => exact memoryCanonical_of_run (.feQueueStay h) ht
  | idQuarantineEnd => exact memoryCanonical_of_run (.idQuarantineEnd h) ht
  | streamOpen => exact memoryCanonical_of_run (.streamOpen h) ht
  | streamClose => exact memoryCanonical_of_run (.streamClose h) ht
  | semAlloc => exact memoryCanonical_of_run (.semAlloc h) ht
  | semFree => exact memoryCanonical_of_run (.semFree h) ht
  | noticeFlush => exact memoryCanonical_of_run (.noticeFlush h) ht
  | pkgFlitSend => exact memoryCanonical_of_run (.pkgFlitSend h) ht
  | pkgFlitRx => exact memoryCanonical_of_run (.pkgFlitRx h) ht
  | pkgNakRx => exact memoryCanonical_of_run (.pkgNakRx h) ht
  | pkgCreditInitRx => exact memoryCanonical_of_run (.pkgCreditInitRx h) ht
  | pkgReplayTimeout => exact memoryCanonical_of_run (.pkgReplayTimeout h) ht
  | ucieRetrainDone => exact memoryCanonical_of_run (.ucieRetrainDone h) ht
  | onpkgHalyardPost => exact memoryCanonical_of_run (.onpkgHalyardPost h) ht
  | onpkgHalyardDeliver => exact memoryCanonical_of_run (.onpkgHalyardDeliver h) ht
  | onpkgHalyardAck => exact memoryCanonical_of_run (.onpkgHalyardAck h) ht
  | quiesce => exact memoryCanonical_of_run (.quiesce h) ht
  | resume => exact memoryCanonical_of_run (.resume h) ht
  | resetRetain => exact memoryCanonical_of_run (.resetRetain h) ht
  | resetClear => exact memoryCanonical_of_run (.resetClear h) ht
  | powerReqWrite => exact memoryCanonical_of_run (.powerReqWrite h) ht
  | linkDataFrame => exact memoryCanonical_of_run (.linkDataFrame h) ht
  | linkIdleFrame => exact memoryCanonical_of_run (.linkIdleFrame h) ht
  | groupMarker => exact memoryCanonical_of_run (.groupMarker h) ht
  | linkReplayTimeout => exact memoryCanonical_of_run (.linkReplayTimeout h) ht
  | laneSerWindowEnd => exact memoryCanonical_of_run (.laneSerWindowEnd h) ht
  | linkLockLost => exact memoryCanonical_of_run (.linkLockLost h) ht
  | peerSignalDetect => exact memoryCanonical_of_run (.peerSignalDetect h) ht
  | equalizeDone => exact memoryCanonical_of_run (.equalizeDone h) ht
  | laneTestDone => exact memoryCanonical_of_run (.laneTestDone h) ht
  | ident => exact memoryCanonical_of_run (.ident h) ht
  | identResend => exact memoryCanonical_of_run (.identResend h) ht
  | keyAgreeDone => exact memoryCanonical_of_run (.keyAgreeDone h) ht
  | linkRetryTimeout => exact memoryCanonical_of_run (.linkRetryTimeout h) ht
  | retrainReq => exact memoryCanonical_of_run (.retrainReq h) ht
  | retrainAccept => exact memoryCanonical_of_run (.retrainAccept h) ht
  | retrainReqResend => exact memoryCanonical_of_run (.retrainReqResend h) ht
  | retrainSwitchGroup => exact memoryCanonical_of_run (.retrainSwitchGroup h) ht
  | retrainDone => exact memoryCanonical_of_run (.retrainDone h) ht
  | widthPropose => exact memoryCanonical_of_run (.widthPropose h) ht
  | widthAccept => exact memoryCanonical_of_run (.widthAccept h) ht
  | widthSwitchGroup => exact memoryCanonical_of_run (.widthSwitchGroup h) ht
  | linkCmdRetrain => exact memoryCanonical_of_run (.linkCmdRetrain h) ht
  | linkCmdFullTrain => exact memoryCanonical_of_run (.linkCmdFullTrain h) ht
  | linkCmdDisable => exact memoryCanonical_of_run (.linkCmdDisable h) ht
  | linkCmdEnable => exact memoryCanonical_of_run (.linkCmdEnable h) ht
  | beacon => exact memoryCanonical_of_run (.beacon h) ht
  | beaconSend => exact memoryCanonical_of_run (.beaconSend h) ht
  | sealFrame => exact memoryCanonical_of_run (.sealFrame h) ht
  | sealSend => exact memoryCanonical_of_run (.sealSend h) ht
  | switchCycle => exact memoryCanonical_of_run (.switchCycle h) ht
  | injectionPromote => exact memoryCanonical_of_run (.injectionPromote h) ht
  | egressPost => exact memoryCanonical_of_run (.egressPost h) ht
  | bead => exact memoryCanonical_of_run (.bead h) ht
  | lineWb => exact memoryCanonical_of_run (.lineWb h) ht
  | readReq => exact memoryCanonical_of_run (.readReq h) ht
  | readResp => exact memoryCanonical_of_run (.readResp h) ht
  | pktSignal => exact memoryCanonical_of_run (.pktSignal h) ht
  | pairAck => exact memoryCanonical_of_run (.pairAck h) ht
  | pairLoss => exact memoryCanonical_of_run (.pairLoss h) ht
  | pairSkip => exact memoryCanonical_of_run (.pairSkip h) ht
  | refuse => exact memoryCanonical_of_run (.refuseRx h) ht
  | mgmt => exact memoryCanonical_of_run (.mgmtPacket h) ht
  | halyard => exact memoryCanonical_of_run (.halyard h) ht
  | pairAckSend => exact memoryCanonical_of_run (.pairAckSend h) ht
  | pairAckRepeat => exact memoryCanonical_of_run (.pairAckRepeat h) ht
  | pairGapLost => exact memoryCanonical_of_run (.pairGapLost h) ht
  | sourceLossDeclare => exact memoryCanonical_of_run (.sourceLossDeclare h) ht
  | recvTimeout => exact memoryCanonical_of_run (.recvTimeout h) ht
  | routeStage => exact memoryCanonical_of_run (.routeStage h) ht
  | routeArmTime => exact memoryCanonical_of_run (.routeArmTime h) ht
  | epochSwitch => exact memoryCanonical_of_run (.epochSwitch h) ht
  | epochRetire => exact memoryCanonical_of_run (.epochRetire h) ht
  | halyardGapRepair => exact memoryCanonical_of_run (.halyardGapRepair h) ht
  | halyardRepairRequest => exact memoryCanonical_of_run (.halyardRepairRequest h) ht
  | fillReq => exact memoryCanonical_of_run (.fillReq h) ht
  | jrnRegionWrite => exact memoryCanonical_of_run (.jrnRegionWrite h) ht
  | jrnCmdRecover => exact memoryCanonical_of_run (.jrnCmdRecover h) ht
  | journalDecide => exact memoryCanonical_of_run (.journalDecide h) ht
  | journalFinish => exact memoryCanonical_of_run (.journalFinish h) ht
  | digestCompare => exact memoryCanonical_of_run (.digestCompare h) ht
  | digestCompareRetry => exact memoryCanonical_of_run (.digestCompareRetry h) ht
  | arbiterTick => exact memoryCanonical_of_run (.arbiterTick h) ht
  | engineWake => exact memoryCanonical_of_run (.engineWake h) ht
  | engineSleep => exact memoryCanonical_of_run (.engineSleep h) ht
  | grantReturn => exact memoryCanonical_of_run (.grantReturn h) ht
  | reefChange => exact memoryCanonical_of_run (.reefChange h) ht
  | droopTrip => exact memoryCanonical_of_run (.droopTrip h) ht
  | sensorSample => exact memoryCanonical_of_run (.sensorSample h) ht
  | thermalReef => exact memoryCanonical_of_run (.thermalReef h) ht
  | powerInputUndervolt => exact memoryCanonical_of_run (.powerInputUndervolt h) ht
  | valveControl => exact memoryCanonical_of_run (.valveControl h) ht
  | protectStage => exact memoryCanonical_of_run (.protectStage h) ht
  | protectCommit => exact memoryCanonical_of_run (.protectCommit h) ht
  | protectSwitch => exact memoryCanonical_of_run (.protectSwitch h) ht
  | keyErase => exact memoryCanonical_of_run (.keyErase h) ht
  | consentToken => exact memoryCanonical_of_run (.consentToken h) ht
  | consentExpired => exact memoryCanonical_of_run (.consentExpired h) ht
  | hallmarkReq => exact memoryCanonical_of_run (.hallmarkReq h) ht
  | hallmarkReqP => exact memoryCanonical_of_run (.hallmarkReqP h) ht
  | signetInstall => exact memoryCanonical_of_run (.signetInstall h) ht
  | scrubVisit => exact memoryCanonical_of_run (.scrubVisit h) ht
  | jobContainedEnd => exact memoryCanonical_of_run (.jobContainedEnd h) ht
  | recoveryStart => exact memoryCanonical_of_run (.recoveryStart h) ht
  | testpackPush => exact memoryCanonical_of_run (.testpackPush h) ht
  | testpackRun => exact memoryCanonical_of_run (.testpackRun h) ht
  | testpackRunEnd => exact memoryCanonical_of_run (.testpackRunEnd h) ht
  | partReset => exact memoryCanonical_of_run (.partReset h) ht
  | resetDrainDone => exact memoryCanonical_of_run (.resetDrainDone h) ht
  | moduleReset => exact memoryCanonical_of_run (.moduleReset h) ht
  | resetAnnounce => exact memoryCanonical_of_run (.resetAnnounce h) ht
  | moduleFailTimeout => exact memoryCanonical_of_run (.moduleFailTimeout h) ht
  | moduleFailedReceive => exact memoryCanonical_of_run (.moduleFailedReceive h) ht
  | hangReportRound => exact memoryCanonical_of_run (.hangReportRound h) ht
  | fwPush => exact memoryCanonical_of_run (.fwPush h) ht
  | fwActivate => exact memoryCanonical_of_run (.fwActivate h) ht
  | fwSvnCommit => exact memoryCanonical_of_run (.fwSvnCommit h) ht
  | b3Fetch => exact memoryCanonical_of_run (.b3Fetch h) ht
  | censusOriginTimeout => exact memoryCanonical_of_run (.censusOriginTimeout h) ht
  | censusClaim => exact memoryCanonical_of_run (.censusClaim h) ht
  | censusSummary => exact memoryCanonical_of_run (.censusSummary h) ht
  | configPush => exact memoryCanonical_of_run (.configPush h) ht
  | sealObjectWrite => exact memoryCanonical_of_run (.sealObjectWrite h) ht
  | configArm => exact memoryCanonical_of_run (.configArm h) ht
  | configCancel => exact memoryCanonical_of_run (.configCancel h) ht
  | configDiscard => exact memoryCanonical_of_run (.configDiscard h) ht
  | configSwitch => exact memoryCanonical_of_run (.configSwitch h) ht
  | configSynced => exact memoryCanonical_of_run (.configSynced h) ht
  | jobLoad => exact memoryCanonical_of_run (.jobLoad h) ht
  | jobUnload => exact memoryCanonical_of_run (.jobUnload h) ht
  | standbyPowerUp => exact memoryCanonical_of_run (.standbyPowerUp h) ht
  | busMasterEnable => exact memoryCanonical_of_run (.busMasterEnable h) ht
  | pcieLinkUp => exact memoryCanonical_of_run (.pcieLinkUp h) ht
  | pcieCompletionTimeout => exact memoryCanonical_of_run (.pcieCompletionTimeout h) ht
  | inputRangeLostInSequencing => exact memoryCanonical_of_run (.inputRangeLostInSequencing h) ht
  | inputRangeRestoredInSequencing => exact memoryCanonical_of_run (.inputRangeRestoredInSequencing h) ht
  | powerInputOvervolt => exact memoryCanonical_of_run (.powerInputOvervolt h) ht
  | overvoltRestart => exact memoryCanonical_of_run (.overvoltRestart h) ht
  | inputPowerRemoved => exact memoryCanonical_of_run (.inputPowerRemoved h) ht
  | pkgReplayExhausted => exact memoryCanonical_of_run (.pkgReplayExhausted h) ht
  | droopRelease => exact memoryCanonical_of_run (.droopRelease h) ht
  | droopReef => exact memoryCanonical_of_run (.droopReef h) ht
  | droopLevelDecay => exact memoryCanonical_of_run (.droopLevelDecay h) ht
  | powerEnvelopeExceeded => exact memoryCanonical_of_run (.powerEnvelopeExceeded h) ht
  | powerPeakExceeded => exact memoryCanonical_of_run (.powerPeakExceeded h) ht
  | enforcementDecay => exact memoryCanonical_of_run (.enforcementDecay h) ht
  | thermalDecay => exact memoryCanonical_of_run (.thermalDecay h) ht
  | undervoltClear => exact memoryCanonical_of_run (.undervoltClear h) ht
  | coolantHold => exact memoryCanonical_of_run (.coolantHold h) ht
  | coolantHoldRelease => exact memoryCanonical_of_run (.coolantHoldRelease h) ht
  | valveFault => exact memoryCanonical_of_run (.valveFault h) ht
  | timeHoldover => exact memoryCanonical_of_run (.timeHoldover h) ht
  | fabricTimeWrap => exact memoryCanonical_of_run (.fabricTimeWrap h) ht
  | coreSpared => exact memoryCanonical_of_run (.coreSpared h) ht
  | lockstepSelftest => exact memoryCanonical_of_run (.lockstepSelftest h) ht
  | lockstepMismatch => exact memoryCanonical_of_run (.lockstepMismatch h) ht
  | lockstepCheckerFault => exact memoryCanonical_of_run (.lockstepCheckerFault h) ht
  | uncheckedPairExit => exact memoryCanonical_of_run (.uncheckedPairExit h) ht
  | pairRestartDone => exact memoryCanonical_of_run (.pairRestartDone h) ht

/-- Settles O52: the command in front keeps memory canonical, and an empty queue leaves the machine as it is. -/
theorem memoryStaysCanonical : Obligations.MemoryStaysCanonical := by
  intro s t h ht
  unfold step at ht
  split at ht
  · cases ht
    exact h
  next c rest _ => exact exec_memoryCanonical (s := { s with pending := rest }) h ht

end Sys2Proof.Machine
end

section
/-!
The reader's side of the coherent windows, the egress buffer and the hub cache (R245, R270, R277 to R280): what each message does to the copies
that this module keeps, and what it sends.
-/
namespace Sys2Proof.Machine

section Reader
variable {d : Dev} {key : BitVec 16} {va : Nat} {src : BitVec 14}

/-! ### What the ingress unit leaves -/

@[simp] theorem Dev.takeIngress_time (p : Packet → Bool) : (d.takeIngress p).time = d.time := rfl
@[simp] theorem Dev.takeIngress_mem (p : Packet → Bool) : (d.takeIngress p).mem = d.mem := rfl
@[simp] theorem Dev.takeIngress_coh (p : Packet → Bool) : (d.takeIngress p).coh = d.coh := rfl
@[simp] theorem Dev.takeIngress_core (p : Packet → Bool) (c : Nat) : (d.takeIngress p).core c = d.core c := rfl

/-- A coherence message goes out as one stamped packet of the hub. -/
theorem Dev.cohSend_hubOut (d : Dev) (dst : BitVec 14) (m : CohMsg) :
    (d.cohSend dst m).fab.hubOut = d.fab.hubOut ++ [d.stamped (m.packet dst)] := rfl

theorem Dev.cohSend_coh (d : Dev) (dst : BitVec 14) (m : CohMsg) : (d.cohSend dst m).coh = d.coh := rfl

/-! ### Copies kept and dropped (R245, R280) -/

/-- The line of a copy that is held. -/
theorem Dev.line_of_copyOf {r : ReaderCopy} (h : d.copyOf key va = some r) : r.pkey = key ∧ r.va = va := by
  simpa using List.find?_some h

/-- With room in ways 0 to 14 a copy takes the place of an older one of its line, and no other copy gives way. -/
theorem Dev.keepCopy_of_room {r : ReaderCopy}
    (h : d.mem.hub.length + (d.coh.copies.filter (fun x => !(x.pkey = r.pkey && x.va = r.va))).length < d.hubRoom) :
    d.keepCopy r =
      { d with coh := { d.coh with copies := d.coh.copies.filter (fun x => !(x.pkey = r.pkey && x.va = r.va)) ++ [r] } } := by
  refine if_neg ?_
  simp only [Dev.hubRoom, List.length_append, List.length_singleton] at h ⊢
  omega

theorem Dev.keepCopy_core (d : Dev) (r : ReaderCopy) (c : Nat) : (d.keepCopy r).core c = d.core c := by
  unfold Dev.keepCopy
  refine iteInduction (motive := fun e : Dev => e.core c = d.core c) (fun _ => ?_) fun _ => rfl
  split
  · rfl
  · rw [Dev.core, Dev.hubTrim_cores, Dev.core]

/-- READER_COPY_EVICT of a copy that is held. -/
theorem readerCopyEvict_of_copy {r : ReaderCopy} {now : Time} (h : d.copyOf key va = some r) :
    readerCopyEvict key va now d = (d.advance now).dropCopy r := by
  have h' : (d.advance now).copyOf key va = some r := by rwa [Dev.copyOf, Dev.advance_coh]
  rw [readerCopyEvict, h']

/-! ### Answers to a snoop (R279, R280) -/

/-- The module with a SNOOP_INV taken in and noted. -/
def Dev.noteSnoop (d : Dev) (src : BitVec 14) (key : BitVec 16) (va : Nat) (gen : BitVec 6) (now : Time) : Dev :=
  let d := (d.advance now).takeIngress (CohMsg.isIn (.snoopInv src key va gen))
  { d with coh := { d.coh with snooped := d.coh.snooped ++ [{ pkey := key, va := va, gen := gen, time := d.time }] } }

section Snoop
variable {gen : BitVec 6} {now : Time} {r : ReaderCopy}

theorem Dev.noteSnoop_copies : (d.noteSnoop src key va gen now).coh.copies = d.coh.copies := by
  rw [← d.advance_coh now]
  rfl

theorem Dev.noteSnoop_evicted : (d.noteSnoop src key va gen now).coh.evicted = d.coh.evicted := by
  rw [← d.advance_coh now]
  rfl

theorem Dev.noteSnoop_copyOf : (d.noteSnoop src key va gen now).copyOf key va = d.copyOf key va := by
  rw [Dev.copyOf, Dev.noteSnoop_copies, Dev.copyOf]

/-- An answer to a snoop goes out as one packet, stamped as it is when the snoop is taken in. -/
theorem Dev.noteSnoop_cohSend_hubOut (m : CohMsg) :
    ((d.noteSnoop src key va gen now).cohSend src m).fab.hubOut =
      d.fab.hubOut ++ [((d.advance now).takeIngress (CohMsg.isIn (.snoopInv src key va gen))).stamped (m.packet src)] := by
  rw [Dev.cohSend_hubOut, ← d.advance_fab now]
  rfl

theorem snoopInv_of_copy (h : d.copyOf key va = some r) :
    snoopInv (.snoopInv src key va gen) now d =
      let e := (d.noteSnoop src key va gen now).cohSend src (.ansInvalidated d.id key va r.tag)
      { e with coh := { e.coh with copies := e.coh.copies.filter (· ≠ r) } } := by
  rw [← Dev.noteSnoop_copyOf (src := src) (gen := gen) (now := now)] at h
  rw [← d.advance_id now]
  unfold Dev.noteSnoop at h
  simp only [snoopInv, h]
  rfl

theorem snoopInv_of_evicted (h : d.copyOf key va = none) (hr : d.coh.evicted.find? (fun x => x.pkey = key && x.va = va) = some r) :
    snoopInv (.snoopInv src key va gen) now d =
      (d.noteSnoop src key va gen now).cohSend src (.ansEvicting d.id key va r.tag) := by
  rw [← Dev.noteSnoop_copyOf (src := src) (gen := gen) (now := now)] at h
  rw [← Dev.noteSnoop_evicted (src := src) (key := key) (va := va) (gen := gen) (now := now)] at hr
  rw [← d.advance_id now]
  unfold Dev.noteSnoop at h hr
  simp only [snoopInv, h, hr]
  rfl

theorem snoopInv_of_neither (h : d.copyOf key va = none) (hr : d.coh.evicted.find? (fun x => x.pkey = key && x.va = va) = none) :
    snoopInv (.snoopInv src key va gen) now d =
      (d.noteSnoop src key va gen now).cohSend src (.ansInvalidated d.id key va 0) := by
  rw [← Dev.noteSnoop_copyOf (src := src) (gen := gen) (now := now)] at h
  rw [← Dev.noteSnoop_evicted (src := src) (key := key) (va := va) (gen := gen) (now := now)] at hr
  rw [← d.advance_id now]
  unfold Dev.noteSnoop at h hr
  simp only [snoopInv, h, hr]
  rfl

end Snoop

/-! ### Answers at a core (R278, R279) -/

@[simp] theorem Scalar.setReg_stores (s : Scalar) (toF : Bool) (rd : Nat) (v : Word) : (s.setReg toF rd v).stores = s.stores := by
  unfold Scalar.setReg
  split
  · rfl
  · split <;> rfl

/-- The scalar state of a core whose awaited value has come. -/
theorem Dev.answerLoad_sc (d : Dev) (c : Nat) (w : MemWait) (v : Word) :
    ((d.answerLoad c w v).core c).sc = { (d.core c).sc.setReg w.toF w.rd v with wait := none } := by
  rw [Dev.answerLoad, Dev.core_modCore_self]

/-- A performed store leaves a core's list of them, and nothing else of its scalar state changes. -/
theorem Dev.storeDone_sc (d : Dev) (c va : Nat) :
    ((d.storeDone c va).core c).sc = { (d.core c).sc with stores := (d.core c).sc.stores.erase va } := by
  rw [Dev.storeDone, Dev.core, Dev.reportEnded_cores, ← Dev.core, Dev.core_modCore_self]

/-- The acknowledgement that a core's AMO or SC waits for: the access is performed, and its result is the awaited value. -/
theorem Dev.ackCore_of_wait {c : Nat} {w : MemWait} (hc : c < 512) (hw : (d.core c).sc.wait = some w) (hk : w.kind ≠ 0)
    (hv : w.va / 64 * 64 = va) (result : Word) : d.ackCore c va result 0 = (d.storeDone c va).answerLoad c w result := by
  rw [Dev.ackCore, if_neg (by omega)]
  simp [hw, hk, hv]

/-- A fresh GRANT that a load of its line waits for: the copy is kept, and the load answered from it. -/
theorem grant_of_load {data : Nat} {tag : BitVec 16} {gen : BitVec 6} {core : Nat} {w : MemWait} {now : Time} (hc : core < 512)
    (hf : d.grantFresh key va tag gen = true) (hw : (d.core core).sc.wait = some w) (hk : w.kind = 0) (ht : w.tag = none)
    (hv : w.va / 64 * 64 = va) :
    grant (.grant src key va data false tag gen false core 0) now d =
      (((d.advance now).takeIngress (CohMsg.isIn (.grant src key va data false tag gen false core 0))).keepCopy
        { home := src, pkey := key, va := va, data := data, poison := false, tag := tag, gen := gen, time := (d.advance now).time }).answerLoad
        core w (widenLoad w.size w.signed (lineBytes data (w.va % 64) w.size)) := by
  have hf' (p : Packet → Bool) : ((d.advance now).takeIngress p).grantFresh key va tag gen = true := by
    rwa [Dev.grantFresh, Dev.takeIngress_coh, Dev.advance_coh]
  have hc' : ¬512 ≤ core := by omega
  simp [grant, hf', hc', Dev.keepCopy_core, hw, hk, ht, hv, Dev.loadFrom]

/-! ### Lines written back (R245, R270) -/

/-- EGRESS_WRITEBACK of a line that the egress buffer holds. -/
theorem egressWriteback_of_line {l : EgressLine} {now : Time} (h : d.mem.egress.find? (fun x => x.pkey = key && x.va = va) = some l) :
    egressWriteback key va now d = (d.advance now).egressSend l .egress := by
  have h' : (d.advance now).mem.egress.find? (fun x => x.pkey = key && x.va = va) = some l := by rwa [Dev.advance_mem]
  rw [egressWriteback, h']

/-- A dirty line of the hub cache goes to DRAM as ciphertext and leaves the cache. -/
theorem Dev.hubWriteBack_of_dirty {line : Nat} {h : HcLine} (hh : d.mem.hub.find? line = some h) (hd : h.dirty = true) :
    d.hubWriteBack line = { d with mem := { d.mem with
      dram := d.mem.dram.set line (d.cipher line h.keySlot), hub := d.mem.hub.del line } } := by
  simp [Dev.hubWriteBack, hh, hd]

end Reader

/-! ### The obligation -/

/-- Settles O18: each command under its premises takes one branch, and what it leaves and sends is read off there. -/
theorem coherenceAtTheReader : Obligations.CoherenceAtTheReader := by
  unfold Obligations.CoherenceAtTheReader
  refine ⟨?grant, ?ack, ?snoopHeld, ?snoopEvicting, ?snoopNeither, ?evict, ?expire, ?egress, ?hub⟩
  case grant =>
    intro src key va data tag gen core w now s hc hf hroom hw hk ht hv
    refine Does.of_run (f := grant (.grant src key va data false tag gen false core 0) now) rfl ?_
    rw [grant_of_load hc hf hw hk ht hv, Dev.keepCopy_of_room (by simpa [Dev.hubRoom] using hroom), ← s.dev.advance_coh now,
      ← s.dev.advance_core core now]
    exact ⟨rfl, Dev.answerLoad_sc ..⟩
  case ack =>
    intro src key va result ok core w now s hc hw hk hv
    refine Does.of_run (f := writeAck (.writeAck src key va result ok core 0) now) rfl ?_
    rw [writeAck, Dev.ackCore_of_wait hc (by simpa using hw) hk hv, Dev.retag_core]
    refine ⟨?wait, ?stores, fun hx hr => Dev.answerLoad_reg _ _ _ _ hx hr⟩
    case wait => rw [Dev.answerLoad_sc]
    case stores => simp [Dev.answerLoad_sc, Dev.storeDone_sc]
  case snoopHeld =>
    intro src key va gen r now s hr
    refine Does.of_run (f := snoopInv (.snoopInv src key va gen) now) rfl ?_
    rw [snoopInv_of_copy hr, Dev.retag_coh, Dev.retag_fab]
    dsimp only
    rw [Dev.noteSnoop_cohSend_hubOut, Dev.cohSend_coh, Dev.noteSnoop_copies]
    exact ⟨rfl, rfl⟩
  case snoopEvicting =>
    intro src key va gen r now s hn hr
    refine Does.of_run (f := snoopInv (.snoopInv src key va gen) now) rfl ?_
    rw [snoopInv_of_evicted hn hr, Dev.retag_coh, Dev.retag_fab, Dev.noteSnoop_cohSend_hubOut, Dev.cohSend_coh]
    exact ⟨Dev.noteSnoop_copies, Dev.noteSnoop_evicted, rfl⟩
  case snoopNeither =>
    intro src key va gen now s hn hr
    refine Does.of_run (f := snoopInv (.snoopInv src key va gen) now) rfl ?_
    rw [snoopInv_of_neither hn hr, Dev.retag_coh, Dev.retag_fab, Dev.noteSnoop_cohSend_hubOut, Dev.cohSend_coh]
    exact ⟨Dev.noteSnoop_copies, Dev.noteSnoop_evicted, rfl⟩
  case evict =>
    intro key va r now s hr
    refine Does.of_run (f := readerCopyEvict key va.toNat now) rfl ?_
    obtain ⟨rfl, hva⟩ := Dev.line_of_copyOf hr
    rw [readerCopyEvict_of_copy hr, Dev.retag_coh, Dev.retag_fab, ← hva, ← s.dev.advance_coh now, ← s.dev.advance_fab now,
      ← s.dev.advance_id now]
    exact ⟨rfl, rfl, rfl⟩
  case expire =>
    intro now s
    refine Does.of_run (f := evictionRecordExpire now) rfl ?_
    rw [← s.dev.advance_coh now]
    exact ⟨rfl, rfl⟩
  case egress =>
    intro key va l now s hl
    refine Does.of_run (f := egressWriteback key va.toNat now) rfl ?_
    rw [egressWriteback_of_line hl, sameBytes, ← s.dev.advance_fab now, ← s.dev.advance_mem now]
    exact ⟨rfl, rfl, fun _ => rfl⟩
  case hub =>
    intro line errs h d0 now s hd hh hdirty
    refine Does.of_run (f := hubCacheEvict line errs now) rfl ?_
    rw [hubCacheEvict, hd, Dev.hubWriteBack_of_dirty hh hdirty]
    exact ⟨rfl, rfl, fun _ => rfl⟩

end Sys2Proof.Machine
end

section
/-!
Queues and notice rings as the host creates, rings and configures them (R284 to R296, R310, R518): what settling, a semaphore's tail and a
doorbell change of a queue, and what writing notices leaves of a ring.
-/
namespace Sys2Proof.Machine

section FrontEnd
variable {d : Dev} {i : Nat} {q : Queue}

/-! ### What settling leaves of a queue (R299) -/

/-- A queue but for what settling writes: its credit, its window's charge, and when they were last brought up. -/
def Queue.unsettled (q : Queue) : Queue := { q with credit := 0, windowCharge := 0, credited := 0 }

theorem Queue.flight_of_unsettled {q' : Queue} (h : q'.unsettled = q.unsettled) : q'.flight = q.flight := congrArg (·.flight) h

theorem queueHandle_of_unsettled {q' : Queue} (h : q'.unsettled = q.unsettled) (i : Nat) : queueHandle i q' = queueHandle i q := by
  have hg : q'.gen = q.gen := congrArg (·.gen) h
  rw [queueHandle, hg, queueHandle]

theorem Dev.settleQueue_unsettled (d : Dev) (j i : Nat) :
    ((d.settleQueue j).fe.queues.find? i).map Queue.unsettled = (d.fe.queues.find? i).map Queue.unsettled := by
  unfold Dev.settleQueue
  split
  · rfl
  · next q hq =>
    dsimp only
    rw [KMap.find?_set]
    split
    · next hi =>
      subst hi
      rw [hq]
      rfl
    · rfl

theorem Dev.settleAll_unsettled (d : Dev) (i : Nat) :
    (d.settleAll.fe.queues.find? i).map Queue.unsettled = (d.fe.queues.find? i).map Queue.unsettled :=
  (foldl_keeps (fun d : Dev => (d.fe.queues.find? i).map Queue.unsettled) Dev.settleCore (fun _ _ => rfl) _ _).trans
    (foldl_keeps (fun d : Dev => (d.fe.queues.find? i).map Queue.unsettled) Dev.settleQueue (fun d j => d.settleQueue_unsettled j i) _ _)

@[simp] theorem Dev.settleQueue_qIds (d : Dev) (j : Nat) : (d.settleQueue j).fe.qIds = d.fe.qIds := by
  unfold Dev.settleQueue
  split
  · rfl
  · rfl

@[simp] theorem Dev.settleAll_qIds (d : Dev) : d.settleAll.fe.qIds = d.fe.qIds :=
  (foldl_keeps (fun d : Dev => d.fe.qIds) Dev.settleCore (fun _ _ => rfl) _ _).trans
    (foldl_keeps (fun d : Dev => d.fe.qIds) Dev.settleQueue Dev.settleQueue_qIds _ _)

/-! ### What changes one queue -/

theorem Dev.find?_modQueue (h : d.fe.queues.find? i = some q) (f : Queue → Queue) :
    (d.modQueue i f).fe.queues.find? i = some (f q) := by
  simp only [Dev.modQueue, KMap.upd, KMap.get, h, KMap.find?_set, if_pos, Option.getD_some]

@[simp] theorem Dev.tellShare_queues (d : Dev) (i : Nat) (q : Queue) (n : Nat) : (d.tellShare i q n).fe.queues = d.fe.queues := by
  unfold Dev.tellShare
  split
  · rfl
  · exact (foldl_keeps (fun d : Dev => d.fe.queues) (fun d m => d.mgmt m 0x19 _ _) (fun _ _ => rfl) _ _).trans
      (foldl_keeps (fun d : Dev => d.fe.queues) Dev.settleCore (fun _ _ => rfl) _ _)

/-- A queue that takes its tail from a semaphore may have it moved, and begin to wait; nothing else of it changes (R293). -/
theorem Dev.find?_recheckTails (h : d.fe.queues.find? i = some q) (n : Nat) :
    ∃ t w, (d.recheckTails n).fe.queues.find? i = some { q with tail := t, waitStart := w } := by
  simp only [Dev.recheckTails, KMap.find?_mapv, h, Option.map_some]
  split
  · exact ⟨_, _, rfl⟩
  · exact ⟨_, _, rfl⟩

/-! ### Creation (R286) -/

/-- An active queue as its descriptor makes it, nothing submitted to it yet. -/
def Queue.ofDesc (part func : Nat) (desc : List Byte) (t : Time) : Queue :=
  { state := .active, part := part, func := func, desc := desc, rig := BitVec.ofNat 32 (leNat ((desc.drop 0x10).take 4)), created := t,
    credited := t }

/-- The module with an identifier of a queue taken and the queue listed under it. -/
def Dev.enterQueue (d : Dev) (i : Nat) (q : Queue) : Dev :=
  { d with fe := { d.fe with qIds := d.fe.qIds.take i, queues := d.fe.queues.set i q } }

theorem IdTable.take_gen (t : IdTable) (i : Nat) : (t.take i).gens.get 0 i = t.gens.get 0 i + 1 := by
  rw [IdTable.take, KMap.get_upd, if_pos rfl]

/-- QUEUE_CREATE of a descriptor that passes, with an identifier free, lists the queue under it with its next generation, tells of its share,
looks at its tail's semaphore and answers the handle. -/
theorem queueCreate_of_pick {part func : Nat} {desc : List Byte} {now : Time}
    (hr : (d.advance now).queueRefusal part (Queue.ofDesc part func desc (d.advance now).time) = none)
    (hp : d.fe.qIds.pick 4096 (d.advance now).time = some i)
    (hq : q = { Queue.ofDesc part func desc (d.advance now).time with gen := d.fe.qIds.gens.get 0 i + 1 }) :
    queueCreate part func desc now d = ((((d.advance now).settleAll.enterQueue i q).tellShare i q q.share).recheckTails
      (SemHandle.ofWord (BitVec.ofNat 64 (q.field 0x28 8))).sem).reply 0 (queueHandle i q) 0 := by
  subst hq
  unfold queueCreate
  dsimp only
  rw [Queue.ofDesc] at hr
  rw [hr, Dev.advance_fe, hp]
  dsimp only
  rw [Dev.settleAll_qIds, Dev.advance_fe, IdTable.take_gen, Dev.enterQueue, Dev.settleAll_qIds, Dev.advance_fe]
  rfl

theorem Dev.find?_enterQueue (d : Dev) (i : Nat) (q : Queue) : (d.enterQueue i q).fe.queues.find? i = some q :=
  (KMap.find?_set ..).trans (if_pos rfl)

/-! ### Destruction (R287) -/

/-- A queue that leaves ACTIVE is changed as it stands settled. -/
theorem Dev.find?_deactivate (h : d.fe.queues.find? i = some q) (f : Queue → Queue) :
    ∃ q', q'.unsettled = q.unsettled ∧ (d.deactivate i q f).fe.queues.find? i = some (f q') := by
  have hs := d.settleAll_unsettled i
  rw [h, Option.map_some, Option.map_eq_some_iff] at hs
  obtain ⟨q', hq', hu⟩ := hs
  refine ⟨q', hu, ?_⟩
  have hf := Dev.find?_modQueue hq' f
  unfold Dev.deactivate
  dsimp only
  split
  · rwa [Dev.tellShare_queues]
  · exact hf

/-- A draining queue with nothing in flight is freed, and its destruction answered. -/
theorem Dev.queueFree_of_drained (h : d.fe.queues.find? i = some q) (hs : q.state = .draining) (hf : q.flight = []) :
    (d.queueFree i).fe.queues.find? i = none ∧ (d.queueFree i).out = d.out ++ [.reply 0 (BitVec.ofNat 64 (queueHandle i q)) 0 []] := by
  simp [Dev.queueFree, h, hs, hf, KMap.find?_del]

/-- QUEUE_DESTROY of an active queue of the partition makes it drain, with the entries not dispatched dropped. -/
theorem queueDestroy_of_active {part handle : Nat} (now : Time) (h : d.fe.queues.find? (handle % 4096) = some q) (hp : q.part = part)
    (hh : queueHandle (handle % 4096) q = handle) (hs : q.state = .active) :
    queueDestroy part handle now d = ((d.advance now).deactivate (handle % 4096) q
      (fun q => { q with state := .draining, ahead := [], waitStart := none })).queueFree (handle % 4096) := by
  simp [queueDestroy, h, hp, hh, hs]

/-! ### Doorbells (R292, R296) -/

@[simp] theorem Dev.advance_doorQueue (d : Dev) (now : Time) (i : Nat) (w : Word) : (d.advance now).doorQueue i w = d.doorQueue i w := by
  simp only [Dev.doorQueue, Dev.advance_fe]

@[simp] theorem Dev.advance_doorOf (d : Dev) (now : Time) (func i : Nat) : (d.advance now).doorOf func i = d.doorOf func i := by
  simp only [Dev.doorOf, Dev.advance_fe, Dev.advance_host, Dev.advance_part]

theorem Dev.find?_of_doorQueue {w : Word} (h : d.doorQueue i w = some q) : d.fe.queues.find? i = some q := by
  unfold Dev.doorQueue at h
  split at h
  · next x hx =>
    rw [hx, (Option.ite_none_right_eq_some.1 h).2]
  · cases h

section Own
variable {func m : Nat} (hl : d.host.linkUp = true) (hs : d.serves = true) (hk : func ≠ 0 → d.funcKey func ≠ 0) (hm : d.ownMember m = true)
  (hd : d.doorOf func i = true)
include hl hs hk hm hd

/-- A doorbell to this module, while it serves the host, from a function that may ring the queue, is applied here. -/
theorem Dev.ring_of_own (w : Word) : d.ring func m i w = d.door i w := by
  simp only [Dev.ring, hl, hs, hm, hd]
  by_cases h0 : func = 0
  · simp [h0]
  · simp [hk h0]

theorem Dev.ring_advance_of_own (w : Word) (now : Time) : (d.advance now).ring func m i w = (d.advance now).door i w :=
  Dev.ring_of_own (by simpa) (by simpa) (by simpa) (by simpa) (by simpa) w

theorem doorbellSqTail_of_own {w : Word} (hb : bit w 38 = false) (now : Time) :
    doorbellSqTail func m i w now d = (d.advance now).doorTail i w := by
  simp [doorbellSqTail, hb, Dev.ring_advance_of_own hl hs hk hm hd, Dev.door]

theorem doorbellCqHead_of_own {w : Word} (hb : bit w 38 = true) (now : Time) :
    doorbellCqHead func m i w now d = (d.advance now).doorHead i w := by
  simp [doorbellCqHead, hb, Dev.ring_advance_of_own hl hs hk hm hd, Dev.door]

end Own

theorem Dev.doorTail_of_tailOk {w : Word} (h : d.doorQueue i w = some q) (hs : q.dbSem = false) (ht : q.tailOk (w.truncate 32) = true) :
    d.doorTail i w = (d.modQueue i (fun q => q.setTail (w.truncate 32) d.time)).event q.part := by
  simp [Dev.doorTail, h, hs, ht]

theorem Dev.doorHead_of_records {w : Word} (h : d.doorQueue i w = some q) (hc : q.cqDev = false)
    (hr : (w.truncate 32 - q.cqHead).toNat ≤ (BitVec.ofNat 32 q.records - q.cqHead).toNat) :
    d.doorHead i w = (d.modQueue i (fun q => { q with cqHead := w.truncate 32 })).event q.part := by
  simp only [Dev.doorHead, h, hc, if_pos hr]
  rfl

/-! ### Notice rings (R310, R311, R518) -/

/-- Where a notice ring lies, and how far the host has read it. -/
def NoticeRing.place (r : NoticeRing) : Word × Nat := (r.base, r.head)

/-- A notice written moves a ring's tail; base and head stand. -/
@[simp] theorem Dev.writeRing_place (d : Dev) (r : Nat) (n : Notice) (k : Nat) :
    ((d.writeRing r n).fe.rings.get {} k).place = (d.fe.rings.get {} k).place := by
  have hr : (d.writeRing r n).fe.rings = d.fe.rings.set r { d.fe.rings.get {} r with
      tail := (d.fe.rings.get {} r).tail + 1
      alerts := if 2 ≤ n.cls.toNat then (d.fe.rings.get {} r).alerts.insert (d.fe.rings.get {} r).tail else (d.fe.rings.get {} r).alerts } := by
    unfold Dev.writeRing
    dsimp only
    split
    · rfl
    · rfl
  rw [hr, KMap.get_set]
  split
  · next h =>
    subst h
    rfl
  · rfl

/-- Held notices written move no ring's base or head. -/
@[simp] theorem Dev.drainNotices_place (r n : Nat) (d : Dev) (k : Nat) :
    ((Dev.drainNotices r n d).fe.rings.get {} k).place = (d.fe.rings.get {} k).place := by
  induction n generalizing d with
  | zero => rfl
  | succ n ih =>
    unfold Dev.drainNotices
    split
    · rfl
    · split
      · rw [ih, Dev.writeRing_place, KMap.get_set]
        split
        · next h =>
          subst h
          rfl
        · rfl
      · split
        · rw [ih, Dev.writeRing_place]
        · rfl

/-- The base that is configured stands, with head 0, whatever notices are then written. -/
theorem Dev.ringConfig_base (d : Dev) (r : Nat) (v : Word) : ((d.ringConfig r (.base v)).fe.rings.get {} r).place = (v, 0) := by
  unfold Dev.ringConfig
  dsimp only
  rw [Dev.drainNotices_place, KMap.get_upd, if_pos rfl]
  rfl

theorem noticeRingConfig_of_aligned {part : Option Nat} {v : Word} (now : Time) (h : v.toNat % 4096 = 0) :
    noticeRingConfig part (.base v) now d = ((d.advance now).ringConfig (ringOf part) (.base v)).reply 0 0 0 := by
  simp [noticeRingConfig, h]

/-- The head that a doorbell's 32 bits stand for is those bits, where they do not lie behind the ring's head. -/
theorem ringHead_eq {head w : Nat} (h : head ≤ w % 2 ^ 32) : head + (w + 2 ^ 32 - head % 2 ^ 32) % 2 ^ 32 = w % 2 ^ 32 := by
  omega

/-- A ring with its head moved, and the notices that the host has read taken from its alerts. -/
def Dev.ringRead (d : Dev) (k head : Nat) : Dev :=
  { d with fe := { d.fe with rings := d.fe.rings.set k { d.fe.rings.get {} k with
      head := head, alerts := (d.fe.rings.get {} k).alerts.filter (head ≤ ·) } } }

/-- NOTICE_RING_DOORBELL of the physical function moves its ring's head, no further than the tail; what was held is then written. -/
theorem noticeRingDoorbell_of_head {w : Word} (now : Time) (hl : d.host.linkUp = true) (hs : d.serves = true) (hc : bit w 38 = true)
    (hg : bits w 37 32 = 0) (hh : (d.fe.rings.get {} 0).head ≤ w.toNat % 2 ^ 32) (ht : w.toNat % 2 ^ 32 ≤ (d.fe.rings.get {} 0).tail) :
    noticeRingDoorbell 0 w now d = Dev.drainNotices 0 257 ((d.advance now).ringRead 0 (w.toNat % 2 ^ 32)) := by
  have hgo : (!d.host.linkUp || !d.serves) = false := by simp [hl, hs]
  have hdoor : (!bit w 38 || decide (bits w 37 32 ≠ 0)) = false := by simp [hc, hg]
  unfold noticeRingDoorbell
  simp only [Dev.advance_host, Dev.advance_serves, Dev.advance_fe, hgo, hdoor, ringHead_eq hh, if_neg (Nat.not_lt.2 ht), if_true,
    Bool.false_eq_true, if_false, Dev.ringRead]

theorem Dev.ringRead_head (d : Dev) (k head : Nat) : ((d.ringRead k head).fe.rings.get {} k).head = head := by
  rw [Dev.ringRead, KMap.get_set, if_pos rfl]

end FrontEnd

/-- Settles O4: each command under its premises is one change of its queue or ring, and settling, a semaphore's tail and the notices written
leave of it what is claimed. -/
theorem queuesAndDoorbells : Obligations.QueuesAndDoorbells := by
  unfold Obligations.QueuesAndDoorbells
  refine ⟨?create, ?destroy, ?sqTail, ?cqHead, ?ringDoorbell, ?ringConfig⟩
  case create =>
    intro part func desc n now s hr hp
    refine Does.of_run (f := queueCreate part func desc now) rfl ?_
    rw [queueCreate_of_pick hr hp rfl]
    have hlisted := Dev.find?_enterQueue (s.dev.advance now).settleAll n
      { Queue.ofDesc part func desc (s.dev.advance now).time with gen := s.dev.fe.qIds.gens.get 0 n + 1 }
    obtain ⟨t, w, hq⟩ := Dev.find?_recheckTails ((congrArg (·.find? n) (Dev.tellShare_queues ..)).trans hlisted) _
    exact ⟨_, hq, rfl, rfl, rfl, rfl, List.getLast?_concat⟩
  case destroy =>
    intro part handle q now s hq hp hh hs hf
    refine Does.of_run (f := queueDestroy part handle now) rfl ?_
    obtain ⟨q', hu, hq'⟩ := Dev.find?_deactivate (d := s.dev.advance now) (by rwa [Dev.advance_fe])
      (fun q => { q with state := .draining, ahead := [], waitStart := none })
    obtain ⟨hnone, hout⟩ := Dev.queueFree_of_drained hq' rfl ((Queue.flight_of_unsettled hu).trans hf)
    rw [queueDestroy_of_active now hq hp hh hs]
    refine ⟨hnone, hout.trans ?_⟩
    rw [Dev.deactivate_out, Dev.advance_out]
    exact congrArg (fun h => s.dev.out ++ [Output.reply 0 (BitVec.ofNat 64 h) 0 []]) ((queueHandle_of_unsettled hu _).trans hh)
  case sqTail =>
    intro func member queue w q now s hb hl hs hk hm hd hq hsem ht
    refine Does.of_run (f := doorbellSqTail func member queue w now) rfl ?_
    rw [doorbellSqTail_of_own hl hs (by simpa using hk) hm hd hb now, Dev.doorTail_of_tailOk (by simpa) hsem ht]
    exact ⟨_, Dev.find?_modQueue (by simpa using Dev.find?_of_doorQueue hq) _, rfl, rfl, s.dev.advance_mem now⟩
  case cqHead =>
    intro func member queue w q now s hb hl hs hk hm hd hq hdev hr
    refine Does.of_run (f := doorbellCqHead func member queue w now) rfl ?_
    rw [doorbellCqHead_of_own hl hs (by simpa using hk) hm hd hb now, Dev.doorHead_of_records (by simpa) hdev hr]
    exact ⟨_, Dev.find?_modQueue (by simpa using Dev.find?_of_doorQueue hq) _, rfl, rfl, s.dev.advance_mem now⟩
  case ringDoorbell =>
    intro w now s hl hs hc hg _ hh ht
    refine Does.of_run (f := noticeRingDoorbell 0 w now) rfl ?_
    rw [noticeRingDoorbell_of_head now hl hs hc hg hh ht]
    exact (congrArg Prod.snd (Dev.drainNotices_place ..)).trans (Dev.ringRead_head ..)
  case ringConfig =>
    intro part v now s hv
    refine Does.of_run (f := noticeRingConfig (part.map Fin.val) (.base v) now) rfl ?_
    rw [noticeRingConfig_of_aligned now hv]
    have h := Dev.ringConfig_base (s.dev.advance now) (ringOf (part.map Fin.val)) v
    exact ⟨congrArg Prod.fst h, congrArg Prod.snd h, List.getLast?_concat⟩

end Sys2Proof.Machine
end

section
/-!
# The frame of the Maltuox links (O55)

What the links do is told relative to the module `b` before it: all that lies beyond the links stands as in `b`, the coherence state too unless
the last link may have been lost, which ends the copies of other modules (10 R281). One lemma for each operation, in the order of the model's
file; its proof follows the operation's body, by the lemmas of the operations it calls.
-/
namespace Sys2Proof.Machine

/-- What lies beyond the links, but for the coherence state. -/
def Dev.beyondLinks (d : Dev) : MemState × KMap Core × KMap Rig × Package × PowerState × Security × ConfigState × KMap (List Byte) × Pins :=
  (d.mem, d.cores, d.rigs, d.pkg, d.power, d.sec, d.cfg, d.dict.values, d.pins)

/-- Beyond the links `d` is as `b`; the coherence state may differ only where the last link may have been `lost`. -/
structure Dev.LinksOnly (lost : Bool) (b d : Dev) : Prop where
  rest : d.beyondLinks = b.beyondLinks
  coh : lost = false → d.coh = b.coh

theorem Dev.LinksOnly.refl (lost : Bool) (b : Dev) : b.LinksOnly lost b := ⟨rfl, fun _ => rfl⟩

section Shared
variable {lost : Bool} {b d : Dev} {time fresh full signetMask overSignet fe ports fab parts tm rel rst boot host out}

/-- Fields of the links, and those that no obligation of the frame speaks of, take any value. -/
theorem Dev.LinksOnly.update (h : b.LinksOnly lost d) :
    b.LinksOnly lost ⟨time, fresh, full, signetMask, overSignet, d.mem, d.cores, d.coh, fe, ports, fab, parts, d.rigs, d.pkg, d.power, tm, d.sec,
      rel, rst, boot, d.cfg, d.dict, host, d.pins, out⟩ := ⟨h.rest, h.coh⟩

theorem Dev.LinksOnly.ite {c : Prop} [Decidable c] {d d' : Dev} (h : b.LinksOnly lost d) (h' : b.LinksOnly lost d') :
    b.LinksOnly lost (if c then d else d') := by
  split
  · exact h
  · exact h'

theorem Dev.LinksOnly.foldl {α : Type} {f : Dev → α → Dev} {l : List α} {d : Dev}
    (hf : ∀ d x, b.LinksOnly lost d → b.LinksOnly lost (f d x)) (h : b.LinksOnly lost d) : b.LinksOnly lost (l.foldl f d) := by
  induction l generalizing d with
  | nil => exact h
  | cons x l ih => exact ih (hf d x h)

theorem Dev.LinksOnly.advance {now} (h : b.LinksOnly lost d) : b.LinksOnly lost (d.advance now) := .ite (.update h) h

theorem Dev.LinksOnly.draw (h : b.LinksOnly lost d) : b.LinksOnly lost d.draw.2 := .update h

theorem Dev.LinksOnly.emit {o} (h : b.LinksOnly lost d) : b.LinksOnly lost (d.emit o) := .update h

theorem Dev.LinksOnly.modPort {p f} (h : b.LinksOnly lost d) : b.LinksOnly lost (d.modPort p f) := .update h

theorem Dev.LinksOnly.modCount {p f} (h : b.LinksOnly lost d) : b.LinksOnly lost (d.modCount p f) := .update h

theorem Dev.LinksOnly.modSwitch {die f} (h : b.LinksOnly lost d) : b.LinksOnly lost (d.modSwitch die f) := .update h

theorem Dev.LinksOnly.mgmt {dst kind args bytes} (h : b.LinksOnly lost d) : b.LinksOnly lost (d.mgmt dst kind args bytes) := .update h

theorem Dev.LinksOnly.notice {code cls arg0 arg1} (h : b.LinksOnly lost d) : b.LinksOnly lost (d.notice code cls arg0 arg1) :=
  ⟨by simpa [Dev.beyondLinks] using h.rest, by simpa using h.coh⟩

end Shared

section Frames
variable {lost : Bool} {b d : Dev}

theorem Dev.LinksOnly.turn {port} (h : b.LinksOnly lost d) : b.LinksOnly lost (d.turn port) := .ite (.modPort h) (.emit (.modPort h))

theorem Dev.LinksOnly.sendFrame {port ftype fseq nak body} (h : b.LinksOnly lost d) :
    b.LinksOnly lost (d.sendFrame port ftype fseq nak body) := .emit (.turn h)

theorem Dev.LinksOnly.sendMgmt {port o} (h : b.LinksOnly lost d) : b.LinksOnly lost (d.sendMgmt port o) := .emit (.turn h)

theorem Dev.LinksOnly.closeFrame {port} (h : b.LinksOnly lost d) : b.LinksOnly lost (d.closeFrame port) := .ite h (.sendFrame (.modPort h))

/-! ### In-flight frames, retrains and failures -/

theorem Dev.LinksOnly.discardFrames {port} (h : b.LinksOnly lost d) : b.LinksOnly lost (d.discardFrames port) :=
  .ite (.modPort h) (.notice (.modPort h))

/-- Only here the coherence state changes. -/
theorem Dev.LinksOnly.unlinked (h : b.LinksOnly true d) : b.LinksOnly true d.unlinked := by
  unfold Dev.unlinked
  split
  · exact ⟨h.rest, nofun⟩
  · exact h

theorem Dev.LinksOnly.retireLanes {port m} (h : b.LinksOnly lost d) : b.LinksOnly lost (d.retireLanes port m) :=
  .foldl (fun _ _ h => .ite (.notice (.modPort h)) h) h

theorem Dev.LinksOnly.retireProposed {port} (h : b.LinksOnly lost d) : b.LinksOnly lost (d.retireProposed port) := by
  unfold Dev.retireProposed
  extract_lets _ d1
  have h1 : b.LinksOnly lost d1 := by
    unfold d1
    split
    · exact .retireLanes h
    · exact h
  exact .modPort h1

theorem Dev.LinksOnly.enterRetrain {port reason} (h : b.LinksOnly lost d) : b.LinksOnly lost (d.enterRetrain port reason) :=
  .emit (.modPort (.retireProposed (.discardFrames h)))

theorem Dev.LinksOnly.goDown {port} (h : b.LinksOnly true d) : b.LinksOnly true (d.goDown port) :=
  .notice (.unlinked (.modPort (.discardFrames h)))

theorem Dev.LinksOnly.fail {port stuck code arg0} (h : b.LinksOnly true d) : b.LinksOnly true (d.fail port stuck code arg0) :=
  .ite (.unlinked (.modPort h)) (.notice (.unlinked (.modPort h)))

theorem Dev.LinksOnly.requestRetrain {port reason} (h : b.LinksOnly lost d) : b.LinksOnly lost (d.requestRetrain port reason) :=
  .ite (.sendMgmt (.modPort h)) h

/-! ### Frames received -/

theorem Dev.LinksOnly.tagFail {port} (h : b.LinksOnly lost d) : b.LinksOnly lost (d.tagFail port) :=
  .ite (.requestRetrain (.notice (.modPort h))) (.modPort h)

theorem Dev.LinksOnly.resendFrames {port} (h : b.LinksOnly lost d) : b.LinksOnly lost (d.resendFrames port) :=
  .ite (.ite h (.requestRetrain (.modPort h))) (.modPort (.foldl (fun _ _ h => .sendFrame h) h))

theorem Dev.LinksOnly.applyAck {port fack nak} (h : b.LinksOnly lost d) : b.LinksOnly lost (d.applyAck port fack nak) :=
  .ite (.resendFrames (.ite h (.modPort h))) (.ite h (.modPort h))

theorem Dev.LinksOnly.discardRx {port} (h : b.LinksOnly lost d) : b.LinksOnly lost (d.discardRx port) := .ite h (.sendFrame (.modPort h))

theorem Dev.LinksOnly.rxPackets {port ps} (h : b.LinksOnly lost d) : b.LinksOnly lost (d.rxPackets port ps) :=
  .modSwitch (.foldl (fun _ _ h => .modCount h) h)

theorem Dev.LinksOnly.linkDataFrame {port bs now} (h : b.LinksOnly lost d) : b.LinksOnly lost (linkDataFrame port bs now d) := by
  unfold Machine.linkDataFrame
  extract_lets
  refine .ite (.advance h) (.ite (.discardRx (.advance h)) ?_)
  split
  · exact .discardRx (.advance h)
  · refine .ite (.advance h) (.ite (.discardRx (.tagFail (.advance h))) ?_)
    extract_lets _ d1 _ _ _ d2
    have h1 : b.LinksOnly lost d1 := .applyAck (.modPort (.advance h))
    have h2 : b.LinksOnly lost d2 := .rxPackets (.modPort h1)
    exact .ite (.discardRx h1) (.ite (.sendFrame h2) h2)

theorem Dev.LinksOnly.linkIdleFrame {port bs now} (h : b.LinksOnly lost d) : b.LinksOnly lost (linkIdleFrame port bs now d) := by
  unfold Machine.linkIdleFrame
  extract_lets
  refine .ite (.advance h) ?_
  split
  · exact .advance h
  · exact .ite (.advance h) (.ite (.tagFail (.advance h)) (.applyAck (.modPort (.advance h))))

theorem Dev.LinksOnly.groupMarker {port bs now} (h : b.LinksOnly lost d) : b.LinksOnly lost (groupMarker port bs now d) :=
  .ite (.modPort (.advance h)) (.advance h)

theorem Dev.LinksOnly.linkReplayTimeout {port now} (h : b.LinksOnly lost d) : b.LinksOnly lost (linkReplayTimeout port now d) :=
  .ite (.resendFrames (.advance h)) (.advance h)

/-! ### Lane errors -/

theorem Dev.LinksOnly.proposeWidth {port remove} (h : b.LinksOnly lost d) : b.LinksOnly lost (d.proposeWidth port remove) :=
  .ite h (.ite (.requestRetrain (.retireLanes h)) (.sendMgmt (.modPort h)))

theorem Dev.LinksOnly.laneSerWindowEnd {port lanes bad total now} (h : b.LinksOnly lost d) :
    b.LinksOnly lost (laneSerWindowEnd port lanes bad total now d) :=
  .ite (.advance h) (.ite (.requestRetrain (.modPort (.proposeWidth (.modPort (.advance h))))) (.proposeWidth (.modPort (.advance h))))

theorem Dev.LinksOnly.linkLockLost {port now} (h : b.LinksOnly lost d) : b.LinksOnly lost (linkLockLost port now d) :=
  .ite (.enterRetrain (.modPort (.advance h))) (.advance h)

end Frames

section Training
variable {lost : Bool} {b d : Dev}

theorem Dev.LinksOnly.peerSignalDetect {port now} (h : b.LinksOnly lost d) : b.LinksOnly lost (peerSignalDetect port now d) :=
  .ite (.emit (.modPort (.advance h))) (.advance h)

theorem Dev.LinksOnly.equalizeDone {port ok now} (h : b.LinksOnly true d) : b.LinksOnly true (equalizeDone port ok now d) :=
  .ite (.advance h) (.ite (.emit (.modPort (.advance h))) (.fail (.advance h)))

theorem Dev.LinksOnly.identResend {port now} (h : b.LinksOnly lost d) : b.LinksOnly lost (identResend port now d) :=
  .ite (.sendMgmt (.modPort (.advance h))) (.advance h)

theorem Dev.LinksOnly.linkRetryTimeout {port now} (h : b.LinksOnly lost d) : b.LinksOnly lost (linkRetryTimeout port now d) :=
  .ite (.emit (.modPort (.advance h))) (.advance h)

theorem Dev.LinksOnly.laneTestDone {port own peer now} (h : b.LinksOnly true d) : b.LinksOnly true (laneTestDone port own peer now d) := by
  unfold Machine.laneTestDone
  extract_lets _ _ d1
  have h1 : b.LinksOnly true d1 := .retireLanes (.advance h)
  exact .ite (.advance h) (.ite (.goDown h1) (.ite (.fail h1) (.ite (.goDown h1) (.sendMgmt (.modPort (.draw h1))))))

theorem Dev.LinksOnly.ident {port i now} (h : b.LinksOnly true d) : b.LinksOnly true (ident port i now d) := by
  unfold Machine.ident
  extract_lets _ _ _ _ _ d1
  have h1 : b.LinksOnly true d1 := .modPort (.advance h)
  exact .ite (.advance h) (.ite (.fail h1) (.ite (.fail h1) (.ite (.fail h1) (.ite (.fail h1) (.modPort h1)))))

theorem Dev.LinksOnly.applyHalyards (h : b.LinksOnly lost d) : b.LinksOnly lost d.applyHalyards := .foldl (fun _ _ h => .modSwitch h) h

theorem Dev.LinksOnly.cableCheck {port} (h : b.LinksOnly lost d) : b.LinksOnly lost (d.cableCheck port) := by
  unfold Dev.cableCheck
  extract_lets
  split
  · exact .ite h (.ite (.notice (.ite (.modPort h) (.applyHalyards (.modPort h)))) (.ite (.modPort h) (.applyHalyards (.modPort h))))
  · exact h

theorem Dev.LinksOnly.gainId {m} (h : b.LinksOnly lost d) : b.LinksOnly lost (d.gainId m) :=
  .foldl (fun _ _ => .cableCheck) (.foldl (fun _ _ h => .ite (.requestRetrain h) h) (.update h))

theorem Dev.LinksOnly.deriveId (h : b.LinksOnly lost d) : b.LinksOnly lost d.deriveId := by
  unfold Dev.deriveId
  refine .ite h ?_
  extract_lets ids
  clear_value ids
  split
  · exact h
  · exact .ite (.gainId h) (.notice h)

theorem Dev.LinksOnly.sendSeal {port} (h : b.LinksOnly lost d) : b.LinksOnly lost (d.sendSeal port) := .sendMgmt (.modPort h)

theorem Dev.LinksOnly.sendBeacon {port} (h : b.LinksOnly lost d) : b.LinksOnly lost (d.sendBeacon port) := .sendMgmt (.modPort h)

theorem Dev.LinksOnly.keyAgreeDone {port now} (h : b.LinksOnly lost d) : b.LinksOnly lost (keyAgreeDone port now d) := by
  unfold Machine.keyAgreeDone
  extract_lets
  split
  · exact .advance h
  · refine .ite (.advance h) ?_
    extract_lets _ _ _ _ _ _ d1
    have h1 : b.LinksOnly lost d1 := .ite (.update (.modPort (.advance h))) (.modPort (.advance h))
    exact .sendSeal (.sendBeacon (.cableCheck (.deriveId (.ite h1 (.update h1)))))

/-! ### Retrain, width change and commands -/

theorem Dev.LinksOnly.retrainReq {port serial reason now} (h : b.LinksOnly lost d) :
    b.LinksOnly lost (retrainReq port serial reason now d) :=
  .ite (.advance h) (.ite (.advance h) (.sendMgmt (.modPort (.modPort (.retireProposed (.advance h))))))

theorem Dev.LinksOnly.retrainAccept {port group now} (h : b.LinksOnly lost d) : b.LinksOnly lost (retrainAccept port group now d) := by
  unfold Machine.retrainAccept
  extract_lets
  split
  · exact .modPort (.advance h)
  · exact .advance h

theorem Dev.LinksOnly.retrainReqResend {port now} (h : b.LinksOnly lost d) : b.LinksOnly lost (retrainReqResend port now d) := by
  unfold Machine.retrainReqResend
  extract_lets
  split
  · exact .advance h
  · exact .ite (.advance h) (.ite (.enterRetrain (.advance h)) (.sendMgmt (.modPort (.advance h))))

theorem Dev.LinksOnly.retrainSwitchGroup {port group now} (h : b.LinksOnly lost d) : b.LinksOnly lost (retrainSwitchGroup port group now d) :=
  .ite (.enterRetrain (.closeFrame (.advance h))) (.advance h)

theorem Dev.LinksOnly.retrainDone {port now} (h : b.LinksOnly lost d) : b.LinksOnly lost (retrainDone port now d) :=
  .ite (.notice (.modPort (.advance h))) (.advance h)

theorem Dev.LinksOnly.acceptWidth {port new} (h : b.LinksOnly lost d) : b.LinksOnly lost (d.acceptWidth port new) :=
  .ite (.requestRetrain (.modPort (.retireLanes h))) (.sendMgmt (.modPort h))

theorem Dev.LinksOnly.widthPropose {port lanes now} (h : b.LinksOnly lost d) : b.LinksOnly lost (widthPropose port lanes now d) := by
  unfold Machine.widthPropose
  extract_lets
  refine .ite (.advance h) ?_
  split
  · exact .acceptWidth (.advance h)
  · exact .ite (.acceptWidth (.advance h)) (.modPort (.advance h))
  · exact .advance h

theorem Dev.LinksOnly.widthAccept {port lanes group now} (h : b.LinksOnly lost d) : b.LinksOnly lost (widthAccept port lanes group now d) :=
  .ite (.modPort (.advance h)) (.advance h)

theorem Dev.LinksOnly.widthSwitchGroup {port group now} (h : b.LinksOnly true d) : b.LinksOnly true (widthSwitchGroup port group now d) := by
  unfold Machine.widthSwitchGroup
  extract_lets _ _ _ _ _ d1
  have h1 : b.LinksOnly true d1 := .notice (.modPort (.retireLanes (.advance h)))
  exact .ite (.advance h) (.ite (.goDown h1) (.ite h1 (.resendFrames h1)))

theorem Dev.LinksOnly.unstick {port} (h : b.LinksOnly lost d) : b.LinksOnly lost (d.unstick port) := .ite (.emit (.modPort h)) h

theorem Dev.LinksOnly.linkCmdRetrain {port now} (h : b.LinksOnly lost d) : b.LinksOnly lost (linkCmdRetrain port now d) :=
  .requestRetrain (.unstick (.advance h))

theorem Dev.LinksOnly.linkCmdFullTrain {port now} (h : b.LinksOnly true d) : b.LinksOnly true (linkCmdFullTrain port now d) :=
  .ite (.advance h) (.emit (.unlinked (.modPort (.discardFrames (.advance h)))))

theorem Dev.LinksOnly.linkCmdDisable {port now} (h : b.LinksOnly true d) : b.LinksOnly true (linkCmdDisable port now d) :=
  .unlinked (.modPort (.discardFrames (.advance h)))

theorem Dev.LinksOnly.linkCmdEnable {port now} (h : b.LinksOnly lost d) : b.LinksOnly lost (linkCmdEnable port now d) :=
  .ite (.emit (.modPort (.advance h))) (.unstick (.advance h))

/-! ### Beacons, seals and fabric time -/

theorem Dev.LinksOnly.setTimeState {st} (h : b.LinksOnly lost d) : b.LinksOnly lost (d.setTimeState st) :=
  .ite (.notice (.update h)) (.update h)

theorem Dev.LinksOnly.censusCheck (h : b.LinksOnly lost d) : b.LinksOnly lost d.censusCheck := .ite (.update h) h

theorem Dev.LinksOnly.steer {port theta} (h : b.LinksOnly lost d) : b.LinksOnly lost (d.steer port theta) := by
  unfold Dev.steer
  split
  · exact .setTimeState (.applyHalyards (.update h))
  · extract_lets _ _ _ _ _ d1 d2 d3 _ _ _ d4
    have h1 : b.LinksOnly lost d1 := .ite (.applyHalyards (.update h)) (.update h)
    have h2 : b.LinksOnly lost d2 := .ite (.setTimeState h1) h1
    have h3 : b.LinksOnly lost d3 := .ite (.mgmt h2) h2
    have h4 : b.LinksOnly lost d4 := .update (.draw h3)
    refine .ite h3 ?_
    split
    · exact h4
    · exact .censusCheck (.setTimeState (.update h4))

theorem Dev.LinksOnly.beacon {port bseq ttx echoSeq echoRx root hops wraps now} (h : b.LinksOnly lost d) :
    b.LinksOnly lost (beacon port bseq ttx echoSeq echoRx root hops wraps now d) :=
  .ite (.advance h) (.steer (.modPort (.advance h)))

theorem Dev.LinksOnly.beaconSend {port now} (h : b.LinksOnly lost d) : b.LinksOnly lost (beaconSend port now d) :=
  .ite (.sendBeacon (.advance h)) (.advance h)

theorem Dev.LinksOnly.sealSend {port now} (h : b.LinksOnly lost d) : b.LinksOnly lost (sealSend port now d) :=
  .ite (.sendSeal (.advance h)) (.advance h)

theorem Dev.LinksOnly.sealFrame {port epoch cfg link ttx now} (h : b.LinksOnly lost d) :
    b.LinksOnly lost (sealFrame port epoch cfg link ttx now d) := by
  unfold Machine.sealFrame
  extract_lets _ _ _ _ d1 _ d2 _ _ d3
  have h1 : b.LinksOnly lost d1 := .modPort (.advance h)
  have h2 : b.LinksOnly lost d2 := .ite (.update h1) h1
  have h3 : b.LinksOnly lost d3 := .ite (.notice (.modPort h2)) h2
  exact .ite (.advance h) (.ite h3 (.ite (.censusCheck (.update h3)) (.ite h3 (.mgmt (.update h3)))))

end Training

/-- A command that acts on the links keeps what lies beyond them. -/
theorem Keeps.of_linksOnly {c : Instr} {f : Dev → Dev} (hc : ∀ s, exec c s = s.run f) (hf : ∀ d : Dev, d.LinksOnly true (f d)) :
    Keeps c (fun d => (d.mem, d.cores, d.rigs, d.pkg, d.power, d.sec, d.cfg, d.dict.values, d.pins)) :=
  Keeps.of_run hc fun d => (hf d).rest

/-- A command that takes no port out of ACTIVE keeps the coherence state with the rest. -/
theorem Keeps.of_linksOnly_coh {c : Instr} {f : Dev → Dev} (hc : ∀ s, exec c s = s.run f) (hf : ∀ d : Dev, d.LinksOnly false (f d)) :
    Keeps c (fun d => (d.mem, d.cores, d.coh, d.rigs, d.pkg, d.power, d.sec, d.cfg, d.dict.values, d.pins)) :=
  Keeps.of_run hc fun d => by
    have hrest := (hf d).rest
    simp only [Dev.beyondLinks, Prod.mk.injEq] at hrest
    obtain ⟨hmem, hcores, hothers⟩ := hrest
    simp only [Prod.mk.injEq]
    exact ⟨hmem, hcores, (hf d).coh rfl, hothers⟩

/-- Settles O55: each command is built of operations of the links; only one that may take a port out of ACTIVE for good may end copies. -/
theorem linkFrame : Obligations.LinkFrame := by
  unfold Obligations.LinkFrame
  refine ⟨?linkLockLost, ?equalizeDone, ?ident, ?identResend, ?retrainReq, ?retrainReqResend, ?retrainAccept, ?widthAccept, ?widthPropose,
    ?retrainSwitchGroup, ?retrainDone, ?linkCmdDisable, ?linkCmdRetrain, ?linkCmdFullTrain, ?linkCmdEnable, ?peerSignalDetect, ?linkRetryTimeout,
    ?laneTestDone, ?laneSerWindowEnd, ?widthSwitchGroup, ?linkIdleFrame, ?linkDataFrame, ?linkReplayTimeout, ?groupMarker, ?beacon, ?beaconSend,
    ?sealFrame, ?sealSend, ?keyAgreeDone⟩
  case linkLockLost => exact fun port now => .of_linksOnly_coh (fun _ => rfl) fun d => .linkLockLost (.refl _ d)
  case equalizeDone => exact fun port ok now => .of_linksOnly (fun _ => rfl) fun d => .equalizeDone (.refl _ d)
  case ident => exact fun port i now => .of_linksOnly (fun _ => rfl) fun d => .ident (.refl _ d)
  case identResend => exact fun port now => .of_linksOnly_coh (fun _ => rfl) fun d => .identResend (.refl _ d)
  case retrainReq => exact fun port serial reason now => .of_linksOnly_coh (fun _ => rfl) fun d => .retrainReq (.refl _ d)
  case retrainReqResend => exact fun port now => .of_linksOnly_coh (fun _ => rfl) fun d => .retrainReqResend (.refl _ d)
  case retrainAccept => exact fun port group now => .of_linksOnly_coh (fun _ => rfl) fun d => .retrainAccept (.refl _ d)
  case widthAccept => exact fun port lanes group now => .of_linksOnly_coh (fun _ => rfl) fun d => .widthAccept (.refl _ d)
  case widthPropose => exact fun port lanes now => .of_linksOnly_coh (fun _ => rfl) fun d => .widthPropose (.refl _ d)
  case retrainSwitchGroup => exact fun port group now => .of_linksOnly_coh (fun _ => rfl) fun d => .retrainSwitchGroup (.refl _ d)
  case retrainDone => exact fun port now => .of_linksOnly_coh (fun _ => rfl) fun d => .retrainDone (.refl _ d)
  case linkCmdDisable => exact fun port now => .of_linksOnly (fun _ => rfl) fun d => .linkCmdDisable (.refl _ d)
  case linkCmdRetrain => exact fun port now => .of_linksOnly_coh (fun _ => rfl) fun d => .linkCmdRetrain (.refl _ d)
  case linkCmdFullTrain => exact fun port now => .of_linksOnly (fun _ => rfl) fun d => .linkCmdFullTrain (.refl _ d)
  case linkCmdEnable => exact fun port now => .of_linksOnly_coh (fun _ => rfl) fun d => .linkCmdEnable (.refl _ d)
  case peerSignalDetect => exact fun port now => .of_linksOnly_coh (fun _ => rfl) fun d => .peerSignalDetect (.refl _ d)
  case linkRetryTimeout => exact fun port now => .of_linksOnly_coh (fun _ => rfl) fun d => .linkRetryTimeout (.refl _ d)
  case laneTestDone => exact fun port own peer now => .of_linksOnly (fun _ => rfl) fun d => .laneTestDone (.refl _ d)
  case laneSerWindowEnd => exact fun port lanes bad total now => .of_linksOnly_coh (fun _ => rfl) fun d => .laneSerWindowEnd (.refl _ d)
  case widthSwitchGroup => exact fun port group now => .of_linksOnly (fun _ => rfl) fun d => .widthSwitchGroup (.refl _ d)
  case linkIdleFrame => exact fun port bs now => .of_linksOnly_coh (fun _ => rfl) fun d => .linkIdleFrame (.refl _ d)
  case linkDataFrame => exact fun port bs now => .of_linksOnly_coh (fun _ => rfl) fun d => .linkDataFrame (.refl _ d)
  case linkReplayTimeout => exact fun port now => .of_linksOnly_coh (fun _ => rfl) fun d => .linkReplayTimeout (.refl _ d)
  case groupMarker => exact fun port bs now => .of_linksOnly_coh (fun _ => rfl) fun d => .groupMarker (.refl _ d)
  case beacon => exact fun port bseq ttx echoSeq echoRx root hops wraps now => .of_linksOnly_coh (fun _ => rfl) fun d => .beacon (.refl _ d)
  case beaconSend => exact fun port now => .of_linksOnly_coh (fun _ => rfl) fun d => .beaconSend (.refl _ d)
  case sealFrame => exact fun port epoch cfg link ttx now => .of_linksOnly_coh (fun _ => rfl) fun d => .sealFrame (.refl _ d)
  case sealSend => exact fun port now => .of_linksOnly_coh (fun _ => rfl) fun d => .sealSend (.refl _ d)
  case keyAgreeDone => exact fun port now => .of_linksOnly_coh (fun _ => rfl) fun d => .keyAgreeDone (.refl _ d)

end Sys2Proof.Machine
end

section
/-!
# What the operations of the Maltuox links do to a port

One rule for each operation that the commands of a link share: what it leaves of the port, and what of the port it keeps. A sent frame moves the
transmission counter and the group shown (`Port.turned`); a request for a retrain writes its own record beside that.
-/
namespace Sys2Proof.Machine

/-! ### Operations that leave every port as it was -/

section Untouched
variable (d : Dev) (q : Nat)

theorem Dev.port_congr {d d' : Dev} (h : d'.ports = d.ports) (q : Nat) : d'.port q = d.port q := by unfold Dev.port; rw [h]

/-- What the configuration in force says rests on nothing else. -/
theorem Dev.cfgNat_congr {d d' : Dev} (h : d'.cfg = d.cfg) (index sub dflt : Nat) : d'.cfgNat index sub dflt = d.cfgNat index sub dflt := by
  unfold Dev.cfgNat
  rw [h]

@[simp] theorem Dev.emit_port (o : Output) : (d.emit o).port q = d.port q := rfl
@[simp] theorem Dev.draw_port : d.draw.2.port q = d.port q := rfl
@[simp] theorem Dev.mgmt_port (m : BitVec 14) (k : Nat) (as : List Nat) (bs : List Byte) : (d.mgmt m k as bs).port q = d.port q := rfl
@[simp] theorem Dev.notice_port (c : Cause) (k a b : Nat) : (d.notice c k a b).port q = d.port q := Dev.port_congr (by simp) q
@[simp] theorem Dev.applyHalyards_port : d.applyHalyards.port q = d.port q := Dev.port_congr (by simp) q

@[simp] theorem Dev.unlinked_port : d.unlinked.port q = d.port q := by
  unfold Dev.unlinked
  split <;> rfl

@[simp] theorem Dev.setTimeState_port (st : Nat) : (d.setTimeState st).port q = d.port q := by
  unfold Dev.setTimeState
  dsimp only
  split
  · exact Dev.notice_port ..
  · rfl

@[simp] theorem Dev.censusCheck_port : d.censusCheck.port q = d.port q := by
  unfold Dev.censusCheck
  dsimp only
  split <;> rfl

end Untouched

/-- What a change of a port keeps of it, every port keeps. -/
theorem Dev.modPort_keeps {α : Type} (g : Port → α) {f : Port → Port} (hf : ∀ p, g (f p) = g p) (d : Dev) (i q : Nat) :
    g ((d.modPort i f).port q) = g (d.port q) := by
  rw [Dev.port_modPort]
  split
  · next h => rw [hf, h]
  · rfl

theorem Dev.modPort_port_self (d : Dev) (port : Nat) (f : Port → Port) : (d.modPort port f).port port = f (d.port port) := by
  rw [Dev.port_modPort, if_pos rfl]

/-! ### Frames sent (R315, R333) -/

/-- A port after one frame more has had its turn. -/
def Port.turned (p : Port) (t : Time) : Port := { p with fr := { p.fr with txCount := p.fr.txCount + 1, sentGroup := some (p.groupNow t) } }

section Turns
variable (d : Dev) (port : Nat)

theorem Dev.turn_port (q : Nat) : (d.turn port).port q = if q = port then (d.port port).turned d.time else d.port q := by
  unfold Dev.turn
  dsimp only
  split
  · exact Dev.port_modPort ..
  · rw [Dev.emit_port]
    exact Dev.port_modPort ..

@[simp] theorem Dev.turn_port_self : (d.turn port).port port = (d.port port).turned d.time := by rw [Dev.turn_port, if_pos rfl]

@[simp] theorem Dev.sendFrame_port_self (ftype : Nat) (fseq : BitVec 12) (nak : Bool) (body : List Byte) :
    (d.sendFrame port ftype fseq nak body).port port = (d.port port).turned d.time := d.turn_port_self port

@[simp] theorem Dev.sendMgmt_port_self (o : Output) : (d.sendMgmt port o).port port = (d.port port).turned d.time := d.turn_port_self port

@[simp] theorem Dev.turn_time : (d.turn port).time = d.time := by
  unfold Dev.turn
  dsimp only
  split <;> rfl

@[simp] theorem Dev.turn_fab : (d.turn port).fab = d.fab := by
  unfold Dev.turn
  dsimp only
  split <;> rfl

@[simp] theorem Dev.sendFrame_time (ftype : Nat) (fseq : BitVec 12) (nak : Bool) (body : List Byte) :
    (d.sendFrame port ftype fseq nak body).time = d.time := d.turn_time port

@[simp] theorem Dev.sendFrame_fab (ftype : Nat) (fseq : BitVec 12) (nak : Bool) (body : List Byte) :
    (d.sendFrame port ftype fseq nak body).fab = d.fab := d.turn_fab port

theorem Dev.sendFrame_out (ftype : Nat) (fseq : BitVec 12) (nak : Bool) (body : List Byte) :
    (d.sendFrame port ftype fseq nak body).out = (d.turn port).out ++ [.frame port ((d.port port).frameBytes ftype fseq nak body)] := rfl

@[simp] theorem Dev.sendMgmt_out (o : Output) : (d.sendMgmt port o).out = (d.turn port).out ++ [o] := rfl

/-- What of a port no turn of a frame touches, every port keeps. -/
theorem Dev.turn_keeps {α : Type} (g : Port → α) (hg : ∀ p t, g (Port.turned p t) = g p) (q : Nat) :
    g ((d.turn port).port q) = g (d.port q) := by
  rw [Dev.turn_port]
  split
  · next h => rw [hg, h]
  · rfl

/-- What of a port the marker of a group rests on (R315). -/
def Port.marking (p : Port) : Option (BitVec 32) × BitVec 32 × Time × BitVec 4 := (p.fr.sentGroup, p.fr.gcount, p.fr.gAt, p.activeLanes)

/-- A turn puts out the group's marker, where it is due, and nothing else. -/
theorem Dev.turn_out : (d.turn port).out = d.out ++ if (d.port port).fr.sentGroup = some ((d.port port).groupNow d.time) then []
    else [.marker port ((d.port port).markerBytes ((d.port port).groupNow d.time))] := by
  unfold Dev.turn
  dsimp only
  split
  · next h => rw [if_pos (by exact h), List.append_nil, Dev.modPort_out]
  · next h => rw [if_neg (by exact h), Dev.emit_out, Dev.modPort_out]; rfl

/-- A change of the port that leaves the marker's grounds leaves what its turn puts out. -/
theorem Dev.turn_modPort_out {f : Port → Port} (hf : (f (d.port port)).marking = (d.port port).marking) :
    ((d.modPort port f).turn port).out = (d.turn port).out := by
  simp only [Port.marking, Prod.mk.injEq] at hf
  obtain ⟨hsent, hcount, hat, hlanes⟩ := hf
  have hgroup : ∀ t, (f (d.port port)).groupNow t = (d.port port).groupNow t := fun t => by rw [Port.groupNow, Port.groupNow, hcount, hat, hlanes]
  have hmarker : ∀ g, (f (d.port port)).markerBytes g = (d.port port).markerBytes g := fun g => by
    rw [Port.markerBytes, Port.markerBytes, hlanes]
  rw [Dev.turn_out, Dev.turn_out, Dev.modPort_port_self, Dev.modPort_out, Dev.modPort_time, hsent, hgroup, hmarker]

end Turns

/-! ### Frames discarded, lanes retired (R323, R327, R328) -/

/-- A port whose unacknowledged frames are discarded and counted. -/
def Port.discarded (p : Port) : Port :=
  { p with framesLost := p.framesLost + (p.fr.replay.length + b2n (!p.fr.frame.isEmpty)), fr := { p.fr with replay := [], frame := [] } }

@[simp] theorem Dev.discardFrames_port_self (d : Dev) (port : Nat) : (d.discardFrames port).port port = (d.port port).discarded := by
  unfold Dev.discardFrames
  dsimp only
  split
  · exact Dev.modPort_port_self ..
  · rw [Dev.notice_port]
    exact Dev.modPort_port_self ..

/-- A lane of the mask retired, one bit at a time, sets all its bits. -/
theorem or_bits_of_mask (r m : BitVec 4) :
    [0, 1, 2, 3].foldl (fun r i => if bit m i && !bit r i then r ||| BitVec.ofNat 4 (2 ^ i) else r) r = r ||| m := by
  revert r m
  decide

theorem Dev.retireLanes_port_self (d : Dev) (port : Nat) (m : BitVec 4) :
    (d.retireLanes port m).port port = { d.port port with retiredLanes := (d.port port).retiredLanes ||| m } := by
  rw [← or_bits_of_mask]
  unfold Dev.retireLanes
  show (([0, 1, 2, 3] : List Nat).foldl _ d).port port = _
  generalize ([0, 1, 2, 3] : List Nat) = l
  induction l generalizing d with
  | nil => rfl
  | cons i l ih =>
    rw [List.foldl_cons, List.foldl_cons, ih]
    split
    · next h => rw [Dev.notice_port, Dev.modPort_port_self]
    · rfl

@[simp] theorem Dev.retireLanes_time (d : Dev) (port : Nat) (m : BitVec 4) : (d.retireLanes port m).time = d.time :=
  foldl_keeps Dev.time _ (fun d i => by split <;> simp) _ _

@[simp] theorem Dev.retireLanes_cfg (d : Dev) (port : Nat) (m : BitVec 4) : (d.retireLanes port m).cfg = d.cfg :=
  foldl_keeps Dev.cfg _ (fun d i => by split <;> simp) _ _

/-- Dropping a proposal may retire lanes, and writes the negotiation. -/
theorem Dev.retireProposed_port_self (d : Dev) (port : Nat) : ∃ r, (d.retireProposed port).port port =
    { d.port port with retiredLanes := r, tr := { (d.port port).tr with proposal := none, widthGroup := none } } := by
  unfold Dev.retireProposed
  dsimp only
  rw [Dev.modPort_port_self]
  split
  · exact ⟨_, by rw [Dev.retireLanes_port_self]⟩
  · exact ⟨_, rfl⟩

@[simp] theorem Dev.retireProposed_time (d : Dev) (port : Nat) : (d.retireProposed port).time = d.time := by
  unfold Dev.retireProposed
  dsimp only
  rw [Dev.modPort_time]
  split
  · exact Dev.retireLanes_time ..
  · rfl

/-- A port that has entered RETRAIN: its frames dropped and counted, its negotiation cleared, the lanes `r` retired. -/
def Port.retrains (p : Port) (reason : Nat) (r : BitVec 4) : Port :=
  { p.discarded with
    state := .retrain, retiredLanes := r, encOn := false, fr := { p.discarded.fr with locked := false }
    tr := { p.tr.cleared with retraining := true, retrainReason := reason, peerIdent := none, passed := 0 } }

theorem Dev.enterRetrain_port_self (d : Dev) (port reason : Nat) :
    ∃ r, (d.enterRetrain port reason).port port = (d.port port).retrains reason r := by
  obtain ⟨r, hr⟩ := (d.discardFrames port).retireProposed_port_self port
  refine ⟨r, ?_⟩
  rw [Dev.enterRetrain, Dev.emit_port, Dev.modPort_port_self, hr, Dev.discardFrames_port_self]
  rfl

theorem Dev.fail_port_self (d : Dev) (port : Nat) (stuck : Bool) (code : Cause) (arg0 : Nat) :
    ((d.fail port stuck code arg0).port port).state = .failed ∧ ((d.fail port stuck code arg0).port port).tr.stuck = stuck := by
  unfold Dev.fail
  dsimp only
  split
  · rw [Dev.unlinked_port, Dev.modPort_port_self]
    exact ⟨rfl, rfl⟩
  · rw [Dev.notice_port, Dev.unlinked_port, Dev.modPort_port_self]
    exact ⟨rfl, rfl⟩

/-! ### Requests for a retrain, frames sent again (R320, R328) -/

/-- What of a port neither a turn of a frame nor the record of a request touches, a request for a retrain keeps of every port. -/
theorem Dev.requestRetrain_keeps {α : Type} (g : Port → α) (ht : ∀ p t, g (Port.turned p t) = g p)
    (hr : ∀ p r n t, g { p with tr := { p.tr with reqOutstanding := r, reqResends := n, reqAt := t } } = g p) (d : Dev) (port reason q : Nat) :
    g ((d.requestRetrain port reason).port q) = g (d.port q) := by
  unfold Dev.requestRetrain
  dsimp only
  split
  · rw [Dev.sendMgmt, Dev.emit_port, Dev.turn_keeps _ _ g ht, Dev.modPort_keeps g fun p => hr p _ _ _]
  · rfl

/-- Frames sent one after another only take their turns. -/
theorem Dev.foldl_sendFrame_keeps {α : Type} (g : Port → α) (ht : ∀ p t, g (Port.turned p t) = g p) (port q : Nat) (l : List HeldFrame)
    (d : Dev) :
    g ((l.foldl (fun (d : Dev) f => d.sendFrame port 1 f.fseq false (frameBody f.packets)) d).port q) = g (d.port q) :=
  foldl_keeps (fun d => g (d.port q)) _ (fun d f => by rw [Dev.sendFrame, Dev.emit_port, Dev.turn_keeps _ _ g ht]) l d

/-- State and lanes of a port: what acknowledgements, repeats and requests leave alone. -/
def Port.line (p : Port) : LinkState × BitVec 4 × BitVec 4 := (p.state, p.activeLanes, p.retiredLanes)

theorem Dev.resendFrames_line (d : Dev) (port q : Nat) : ((d.resendFrames port).port q).line = (d.port q).line := by
  unfold Dev.resendFrames
  dsimp only
  split
  · split
    · rfl
    · rw [Dev.requestRetrain_keeps Port.line (fun _ _ => rfl) (fun _ _ _ _ => rfl)]
      exact Dev.modPort_keeps Port.line (by intro; rfl) d port q
  · refine (Dev.modPort_keeps Port.line (by intro; rfl) _ port q).trans ?_
    exact Dev.foldl_sendFrame_keeps Port.line (fun _ _ => rfl) port q _ d

end Sys2Proof.Machine
end

section
/-! # A port trains from DETECT to ACTIVE (O24) -/
namespace Sys2Proof.Machine

/-! ### The lane test (R323, R324) -/

/-- Where a lane stands on which both ends agree, not every lane is retired. -/
theorem retired_ne_all {r own peer : BitVec 4} (h : (~~~r &&& own &&& peer) ≠ 0) : r ||| (~~~r &&& ~~~own) ≠ 0xF := by
  revert r own peer
  decide

/-- The port once its lane test has brought it to IDENTIFY: the lanes that failed here retired, its IDENT made. -/
theorem laneTestDone_of_enough {d : Dev} {port : Nat} {own peer : BitVec 4} (now : Time) (hs : (d.port port).state = .laneTest)
    (hb : (~~~(d.port port).retiredLanes &&& own &&& peer) ≠ 0)
    (hw : d.minWidth port ≤ laneCount (~~~(d.port port).retiredLanes &&& own &&& peer)) :
    ∃ (e : Dev) (tr : Training) (fr : Framing),
      laneTestDone port own peer now d = e.sendMgmt port (.ident port (e.port port).tr.myIdent) ∧
      e.port port = { d.port port with
        state := .identify, activeLanes := ~~~(d.port port).retiredLanes &&& own &&& peer
        retiredLanes := (d.port port).retiredLanes ||| (~~~(d.port port).retiredLanes &&& ~~~own), tr := tr, fr := fr } := by
  unfold laneTestDone
  extract_lets d1 tested d2 both r fresh d3
  have hp1 : d1.port port = d.port port := Dev.advance_port ..
  have hp2 : d2.port port = { d.port port with retiredLanes := (d.port port).retiredLanes ||| (tested &&& ~~~own) } := by
    rw [← hp1]
    exact Dev.retireLanes_port_self ..
  have hmin : d2.minWidth port = d.minWidth port := Dev.cfgNat_congr ((Dev.retireLanes_cfg ..).trans (d.advance_cfg now)) ..
  have htested : tested = ~~~(d.port port).retiredLanes := congrArg (fun p : Port => ~~~p.retiredLanes) hp1
  have hboth : both = ~~~(d.port port).retiredLanes &&& own &&& peer := congrArg (· &&& own &&& peer) htested
  have hlane : (d2.port port).retiredLanes ≠ 0xF := by
    rw [hp2, htested]
    exact retired_ne_all hb
  rw [if_neg (by simp [hp1, hs]), if_neg hlane, if_neg (hboth ▸ hb), if_neg (by rw [hboth, hmin]; exact Nat.not_lt.2 hw)]
  refine ⟨d3, ?_, ?_, rfl, ?port⟩
  case port =>
    have hp3 : d3.port port = _ := r.2.modPort_port_self port _
    rw [hp3, Dev.draw_port, hp2, hboth, htested]

/-! ### The peer's IDENT (R326) -/

/-- Whether a port takes a peer by its key: a point of the curve that LINK_PEER_ALLOW does not exclude (R326). -/
def Dev.admitsKey (d : Dev) (port : Nat) (key : BitVec 768) : Prop :=
  Config.validPoint key = true ∧ (d.peerAllow port = 0 ∨ (Config.sha384 (leBytes 96 key.toNat)).toNat = d.peerAllow port)

theorem Dev.not_admitsKey_iff (d : Dev) (port : Nat) (key : BitVec 768) : ¬d.admitsKey port key ↔
    (!Config.validPoint key || (decide (d.peerAllow port ≠ 0) &&
      decide ((Config.sha384 (leBytes 96 key.toNat)).toNat ≠ d.peerAllow port))) = true := by
  simp only [Dev.admitsKey, Bool.or_eq_true, Bool.and_eq_true, Bool.not_eq_true', decide_eq_true_eq, Decidable.not_and_iff_not_or_not, not_or,
    Bool.not_eq_true, ne_eq]

theorem Dev.advance_peerAllow (d : Dev) (now : Time) (port : Nat) : (d.advance now).peerAllow port = d.peerAllow port :=
  Dev.cfgNat_congr (d.advance_cfg now) ..

/-- An IDENT whose key is not admitted, with the other encryption setting, or from this module, fails the port for good. -/
theorem ident_of_refused {d : Dev} {port : Nat} {b : Ident} (now : Time) (hs : (d.port port).state = .identify)
    (hl : (d.port port).fr.locked = true)
    (h : ¬d.admitsKey port b.pubKey ∨ b.enc ≠ (d.port port).tr.myIdent.enc ∨ b.serial = d.boot.serial) :
    ∃ (e : Dev) (code : Cause) (arg : Nat), ident port b now d = e.fail port true code arg := by
  unfold ident
  extract_lets d1 p lanes dig allow d2
  have hp : p = d.port port := Dev.advance_port ..
  have hboot : d2.boot = d.boot := d.advance_boot now
  have hallow : allow = d.peerAllow port := d.advance_peerAllow now port
  rw [if_neg (by simp [hp, hs, hl]), hallow]
  by_cases hk : d.admitsKey port b.pubKey
  · rw [if_neg (fun h => (d.not_admitsKey_iff port b.pubKey).2 h hk)]
    by_cases he : b.enc = p.tr.myIdent.enc
    · have hn := (h.resolve_left (not_not_intro hk)).resolve_left (by rw [← hp]; exact not_not_intro he)
      rw [if_neg (not_not_intro he), if_pos (by rw [hboot]; exact hn)]
      exact ⟨_, _, _, rfl⟩
    · rw [if_pos he]
      exact ⟨_, _, _, rfl⟩
  · rw [if_pos ((d.not_admitsKey_iff port b.pubKey).1 hk)]
    exact ⟨_, _, _, rfl⟩

/-- A port that an IDENT has brought to KEY_AGREE. -/
def Port.agrees (p : Port) (b : Ident) : Port :=
  { p with
    state := .keyAgree, activeLanes := p.tr.passed &&& b.lanes, peerPort := b.port, peerModule := b.module, peerAssigned := !b.unassigned
    peerSerial := b.serial, peerKey := Config.sha384 (leBytes 96 b.pubKey.toNat), cableBad := false, tr := { p.tr with peerIdent := some b } }

/-- An IDENT whose key is admitted, that agrees with this end and leaves a lane, brings the port to KEY_AGREE. -/
theorem ident_of_admitted {d : Dev} {port : Nat} {b : Ident} (now : Time) (hs : (d.port port).state = .identify)
    (hl : (d.port port).fr.locked = true) (hk : d.admitsKey port b.pubKey) (he : b.enc = (d.port port).tr.myIdent.enc)
    (hn : b.serial ≠ d.boot.serial) (hlanes : (d.port port).tr.passed &&& b.lanes ≠ 0) :
    (ident port b now d).port port = (d.port port).agrees b := by
  unfold ident
  extract_lets d1 p lanes dig allow d2
  have hp : p = d.port port := Dev.advance_port ..
  have hboot : d2.boot = d.boot := d.advance_boot now
  have hallow : allow = d.peerAllow port := d.advance_peerAllow now port
  have hpassed : lanes = (d.port port).tr.passed &&& b.lanes := by rw [← hp]
  have hp2 : d2.port port = { p with activeLanes := lanes } := d1.modPort_port_self port _
  rw [if_neg (by simp [hp, hs, hl]), hallow, if_neg (fun h => (d.not_admitsKey_iff port b.pubKey).2 h hk), hp, if_neg (not_not_intro he),
    if_neg (by rwa [hboot]), if_neg (by rwa [hpassed]), Dev.modPort_port_self, hp2, hpassed, hp]
  rfl

/-! ### Key agreement done (R325, R331 to R333) -/

section Agreed
variable {α : Type} (g : Port → α) (ht : ∀ p t, g (Port.turned p t) = g p) (hc : ∀ p b, g { p with cableBad := b } = g p)
  (hr : ∀ p r n t, g { p with tr := { p.tr with reqOutstanding := r, reqResends := n, reqAt := t } } = g p)

include hc in
/-- A check of a cable writes its own result only. -/
theorem Dev.cableCheck_keeps (d : Dev) (port q : Nat) : g ((d.cableCheck port).port q) = g (d.port q) := by
  unfold Dev.cableCheck
  dsimp only
  have hmod : ∀ b, g ((d.modPort port fun p => { p with cableBad := b }).port q) = g (d.port q) := fun b =>
    Dev.modPort_keeps g (fun p => hc p b) d port q
  split
  · split
    · rfl
    · split
      · rw [Dev.notice_port]
        split
        · exact hmod _
        · rw [Dev.applyHalyards_port]
          exact hmod _
      · split
        · exact hmod _
        · rw [Dev.applyHalyards_port]
          exact hmod _
  · rfl

include ht hr hc in
/-- A module ID gained asks for retrains and checks the cables. -/
theorem Dev.deriveId_keeps (d : Dev) (q : Nat) : g (d.deriveId.port q) = g (d.port q) := by
  unfold Dev.deriveId
  split
  · rfl
  · extract_lets ids
    clear_value ids
    split
    · rfl
    · split
      · refine (foldl_keeps (fun d => g (d.port q)) Dev.cableCheck (fun d p => d.cableCheck_keeps g hc p q) _ _).trans ?_
        refine (foldl_keeps (fun d => g (d.port q)) _ (fun d p => ?_) _ _).trans rfl
        split
        · exact Dev.requestRetrain_keeps g ht hr ..
        · rfl
      · rw [Dev.notice_port]

end Agreed

/-- State, encryption and counters of a port's session, but for the transmission counter. -/
def Port.session (p : Port) : LinkState × Bool × BitVec 64 × BitVec 12 × BitVec 12 × List HeldFrame :=
  (p.state, p.encOn, p.fr.rxCount, p.fr.nextFseq, p.fr.fack, p.fr.replay)

/-- KEY_AGREE_DONE starts the session, takes up what the peer tells of IDs and cables, and sends the first beacon and seal frames. -/
theorem keyAgreeDone_of_keyAgree {d : Dev} {port : Nat} {b : Ident} (now : Time) (hs : (d.port port).state = .keyAgree)
    (hb : (d.port port).tr.peerIdent = some b) :
    ∃ e : Dev, keyAgreeDone port now d = ((e.deriveId.cableCheck port).sendBeacon port).sendSeal port ∧
      (e.port port).session = (.active, (d.port port).tr.myIdent.enc, 0, 0, 0xFFF, []) ∧ (e.port port).fr.txCount = 0 ∧
      e.boot.moduleId = d.boot.moduleId := by
  unfold keyAgreeDone
  extract_lets d1 p mine
  have hp : p = d.port port := Dev.advance_port ..
  split
  · next h =>
    rw [hp, hb] at h
    cases h
  · next i h =>
    rw [if_neg (by rw [hp, hs]; exact not_not_intro rfl)]
    extract_lets low ctx k part d2 boot d3 rst d4
    have hp2 : d2.port port = _ := d1.modPort_port_self port _
    have hp3 : d3.port port = d2.port port := by
      unfold d3
      split <;> rfl
    have hp4 : d4.port port = d3.port port := by
      unfold d4
      split <;> rfl
    have hid2 : d2.boot.moduleId = d.boot.moduleId := congrArg BringUp.moduleId (d.advance_boot now)
    have hid3 : d3.boot.moduleId = d2.boot.moduleId := by
      unfold d3
      split <;> rfl
    have hid4 : d4.boot.moduleId = d3.boot.moduleId := by
      unfold d4
      split <;> rfl
    refine ⟨d4, rfl, ?_, ?_, hid4.trans (hid3.trans hid2)⟩
    · rw [hp4, hp3, hp2, ← hp]
      rfl
    · rw [hp4, hp3, hp2]

theorem Dev.deriveId_of_assigned {d : Dev} (h : d.boot.moduleId ≠ 0xFFFF) : d.deriveId = d := if_pos h

theorem Dev.sendBeacon_port_self (d : Dev) (port : Nat) : (d.sendBeacon port).port port =
    { d.port port with tm := { (d.port port).tm with bseq := (d.port port).tm.bseq + 1, sentAt := some d.time } }.turned d.time := by
  rw [Dev.sendBeacon, Dev.sendMgmt_port_self, Dev.modPort_port_self, Dev.modPort_time]

theorem Dev.sendSeal_port_self (d : Dev) (port : Nat) : (d.sendSeal port).port port =
    { d.port port with tm := { (d.port port).tm with sealSentAt := some d.time } }.turned d.time := by
  rw [Dev.sendSeal, Dev.sendMgmt_port_self, Dev.modPort_port_self, Dev.modPort_time]

theorem Dev.sendBeacon_session (d : Dev) (port : Nat) : ((d.sendBeacon port).port port).session = (d.port port).session := by
  rw [Dev.sendBeacon_port_self]
  rfl

theorem Dev.sendSeal_session (d : Dev) (port : Nat) : ((d.sendSeal port).port port).session = (d.port port).session := by
  rw [Dev.sendSeal_port_self]
  rfl

theorem Dev.sendBeacon_txCount (d : Dev) (port : Nat) : ((d.sendBeacon port).port port).fr.txCount = (d.port port).fr.txCount + 1 := by
  rw [Dev.sendBeacon_port_self]
  rfl

theorem Dev.sendSeal_txCount (d : Dev) (port : Nat) : ((d.sendSeal port).port port).fr.txCount = (d.port port).fr.txCount + 1 := by
  rw [Dev.sendSeal_port_self]
  rfl

/-- Settles O24: each command under its premises is one branch, and the port is read off what its operations leave. -/
theorem linkTraining : Obligations.LinkTraining := by
  unfold Obligations.LinkTraining
  refine ⟨?detect, ?equalize, ?laneTest, ?ident, ?mismatch, ?resend, ?agreed, ?retry, ?fullTrain, ?disable, ?enable⟩
  case detect =>
    intro port now s hs
    refine Does.of_run (f := peerSignalDetect port.val now) rfl ?_
    simp [peerSignalDetect, hs]
  case equalize =>
    intro port ok now s hs
    refine Does.of_run (f := equalizeDone port.val ok now) rfl ?_
    cases ok with
    | true => simp [equalizeDone, hs]
    | false => simp [equalizeDone, hs, Dev.fail_port_self]
  case laneTest =>
    intro port own peer now s hs hb hw
    refine Does.of_run (f := laneTestDone port.val own peer now) rfl ?_
    obtain ⟨e, tr, fr, he, hp⟩ := laneTestDone_of_enough now hs hb hw
    simp only [he, Dev.retag_port, Dev.retag_out, Dev.sendMgmt_port_self, Dev.sendMgmt_out, hp]
    exact ⟨rfl, rfl, rfl, List.getLast?_concat⟩
  case ident =>
    intro port b now s hs hl he hn hlanes
    refine Does.of_run (f := ident port.val b now) rfl ?_
    split
    · next hk =>
      rw [Dev.retag_port, ident_of_admitted now hs hl hk he hn hlanes]
      exact ⟨rfl, rfl, rfl, rfl, rfl⟩
    · next hk =>
      obtain ⟨e, code, arg, hf⟩ := ident_of_refused now hs hl (.inl hk)
      rw [Dev.retag_port, hf]
      exact (e.fail_port_self port.val true code arg).1
  case mismatch =>
    intro port b now s hs hl h
    refine Does.of_run (f := ident port.val b now) rfl ?_
    obtain ⟨e, code, arg, hf⟩ := ident_of_refused now hs hl (.inr h)
    rw [Dev.retag_port, hf]
    exact e.fail_port_self port.val true code arg
  case resend =>
    intro port now s hs hr
    refine Does.of_run (f := identResend port.val now) rfl ?_
    have heq : identResend port.val now s.dev = ((s.dev.advance now).modPort port.val fun p =>
        { p with tr := { p.tr with identAt := (s.dev.advance now).time } }).sendMgmt port.val (.ident port.val (s.dev.port port.val).tr.myIdent) := by
      simp [identResend, hs, hr]
    rw [heq]
    simp only [Dev.retag_port, Dev.retag_out, Dev.sendMgmt_port_self, Dev.sendMgmt_out, Dev.modPort_port_self, Dev.advance_port]
    exact ⟨by rw [Dev.turn_modPort_out _ _ rfl], rfl, hs⟩
  case agreed =>
    intro port b now s hs hb
    refine Does.of_run (f := keyAgreeDone port.val now) rfl ?_
    obtain ⟨e, he, hsession, htx, hid⟩ := keyAgreeDone_of_keyAgree now hs hb
    have hc : ((keyAgreeDone port.val now s.dev).port port.val).session =
        (.active, (s.dev.port port.val).tr.myIdent.enc, 0, 0, 0xFFF, []) := by
      rw [he, Dev.sendSeal_session, Dev.sendBeacon_session, Dev.cableCheck_keeps Port.session (fun _ _ => rfl),
        Dev.deriveId_keeps Port.session (fun _ _ => rfl) (fun _ _ => rfl) (fun _ _ _ _ => rfl), hsession]
    simp only [Port.session, Prod.mk.injEq] at hc
    obtain ⟨hstate, henc, hrx, hnext, hfack, hreplay⟩ := hc
    refine ⟨hstate, henc, fun hne => ?_, hrx, hnext, hfack, hreplay⟩
    rw [Dev.retag_port, he, Dev.sendSeal_txCount, Dev.sendBeacon_txCount, Dev.cableCheck_keeps (·.fr.txCount) (fun _ _ => rfl),
      Dev.deriveId_of_assigned (by rwa [hid]), htx]
    rfl
  case retry =>
    intro port now s hs hr
    refine Does.of_run (f := linkRetryTimeout port.val now) rfl ?_
    rcases hs with ⟨hs, hstuck⟩ | hs
    · simp [linkRetryTimeout, hs, hstuck, hr]
    · simp [linkRetryTimeout, hs, hr]
  case fullTrain =>
    intro port now s hs
    refine Does.of_run (f := linkCmdFullTrain port.val now) rfl ?_
    simp [linkCmdFullTrain, hs, Port.discarded]
  case disable =>
    intro port now s
    refine Does.of_run (f := linkCmdDisable port.val now) rfl ?_
    simp [linkCmdDisable, Port.discarded]
  case enable =>
    intro port now s hs
    refine Does.of_run (f := linkCmdEnable port.val now) rfl ?_
    simp [linkCmdEnable, hs]

end Sys2Proof.Machine
end

section
/-! # Retrains and width changes (O25) -/
namespace Sys2Proof.Machine

/-- A retrain accepted: the switch group is 256 groups on, and the peer is told it. -/
theorem Dev.acceptRetrain_port_self (d : Dev) (port reason : Nat) : ((d.acceptRetrain port reason).port port) =
    { d.port port with tr := { (d.port port).tr with
        reqOutstanding := none, switchGroup := some ((d.port port).groupNow d.time + 256), retrainReason := reason } }.turned d.time := by
  rw [Dev.acceptRetrain, Dev.sendMgmt_port_self, Dev.modPort_port_self, Dev.modPort_time]

theorem Dev.acceptRetrain_out (d : Dev) (port reason : Nat) :
    (d.acceptRetrain port reason).out.getLast? = some (.retrainAccept port ((d.port port).groupNow d.time + 256)) :=
  List.getLast?_concat

/-- A request that no older one of this end stands against is accepted, the port's own proposal of a width dropped. -/
theorem retrainReq_of_yields {d : Dev} {port reason : Nat} {serial : BitVec 64} (now : Time) (hh : (d.port port).hears = true)
    (hr : (d.port port).tr.reqOutstanding = none ∨ serial.toNat ≤ d.boot.serial.toNat) :
    retrainReq port serial reason now d =
      (((d.advance now).retireProposed port).modPort port fun p => { p with state := .active }).acceptRetrain port reason := by
  have hyield : ((d.port port).tr.reqOutstanding.isSome && decide (d.boot.serial.toNat < serial.toNat)) = false := by
    rcases hr with h | h <;> simp [h]
  simp [retrainReq, hh, hyield]

/-- Closing the current frame discards nothing: what is held unacknowledged and what waits in the frame stay the same number. -/
theorem Dev.closeFrame_port_self (d : Dev) (port : Nat) : ((d.closeFrame port).port port).framesLost = (d.port port).framesLost ∧
    ((d.closeFrame port).port port).fr.replay.length + b2n (!((d.closeFrame port).port port).fr.frame.isEmpty) =
      (d.port port).fr.replay.length + b2n (!(d.port port).fr.frame.isEmpty) := by
  unfold Dev.closeFrame
  dsimp only
  split
  · exact ⟨rfl, rfl⟩
  · next h =>
    rw [Dev.sendFrame_port_self, Dev.modPort_port_self]
    refine ⟨rfl, ?_⟩
    have hf : (d.port port).fr.frame.isEmpty = false := by
      simp only [Bool.or_eq_true, not_or, Bool.not_eq_true] at h
      exact h.1.1
    simp [Port.turned, hf, b2n]

/-- A width change of some lanes accepted: the set and the switch group are told to the peer. -/
theorem Dev.acceptWidth_of_lanes {d : Dev} {port : Nat} {new : BitVec 4} (h : new ≠ 0) : d.acceptWidth port new =
    (d.modPort port fun p => { p with
      state := .width, tr := { p.tr with newLanes := new, widthGroup := some ((d.port port).groupNow d.time + 256) } }).sendMgmt port
        (.widthAccept port new ((d.port port).groupNow d.time + 256)) := by
  simp only [Dev.acceptWidth, if_neg h]

/-- At the agreed group a port with enough lanes left goes on in ACTIVE on the new ones, the others retired. -/
theorem widthSwitchGroup_line {d : Dev} {port : Nat} {group : BitVec 32} (now : Time) (hs : (d.port port).state = .width)
    (hg : (d.port port).tr.widthGroup = some group) (hw : d.minWidth port ≤ laneCount (d.port port).tr.newLanes) :
    ((widthSwitchGroup port group now d).port port).line = (.active, (d.port port).tr.newLanes,
      (d.port port).retiredLanes ||| ((d.port port).activeLanes &&& ~~~(d.port port).tr.newLanes)) := by
  unfold widthSwitchGroup
  extract_lets d1 p g d2 d3 d4
  have hp : p = d.port port := Dev.advance_port ..
  have hcfg : d4.cfg = d.cfg := by simp only [d4, d3, d2, d1, Dev.notice_cfg, Dev.modPort_cfg, Dev.retireLanes_cfg, Dev.advance_cfg]
  have hmin : d4.minWidth port = d.minWidth port := Dev.cfgNat_congr hcfg ..
  have hp4 : (d4.port port).line = (.active, p.tr.newLanes, p.retiredLanes ||| (p.activeLanes &&& ~~~p.tr.newLanes)) := by
    have hp2 : d2.port port = _ := d1.retireLanes_port_self port _
    unfold d4 d3
    rw [Dev.notice_port, Dev.modPort_port_self, hp2]
    rfl
  rw [if_neg (by simp [hp, hs, hg]), if_neg (by rw [hmin, hp]; exact Nat.not_lt.2 hw), ← hp]
  split
  · exact hp4
  · rw [Dev.resendFrames_line, hp4]

/-- Settles O25: each command under its premises is one branch, and port and output are read off what its operations leave. -/
theorem linkRetrainsAndWidth : Obligations.LinkRetrainsAndWidth := by
  unfold Obligations.LinkRetrainsAndWidth
  refine ⟨?request, ?accept, ?resend, ?switchGroup, ?done, ?propose, ?widthAccept, ?widthSwitch, ?command⟩
  case request =>
    intro port serial reason now s hh hr
    refine Does.of_run (f := retrainReq port.val serial reason now) rfl ?_
    obtain ⟨r, hp⟩ := (s.dev.advance now).retireProposed_port_self port.val
    have hgroup : (((s.dev.advance now).retireProposed port.val).port port.val).groupNow (s.dev.advance now).time =
        (s.dev.port port.val).groupNow (s.dev.advance now).time := by
      rw [hp, Dev.advance_port]
      rfl
    rw [retrainReq_of_yields now hh hr, Dev.retag_port, Dev.retag_out, Dev.acceptRetrain_out, Dev.acceptRetrain_port_self,
      Dev.modPort_port_self, Dev.modPort_time, Dev.retireProposed_time]
    exact ⟨congrArg (fun g => some (g + 256)) hgroup, rfl, rfl, congrArg (fun g => some (Output.retrainAccept port.val (g + 256))) hgroup⟩
  case accept =>
    intro port group r now s hh hr
    refine Does.of_run (f := retrainAccept port.val group now) rfl ?_
    simp [retrainAccept, hh, hr]
  case resend =>
    intro port r now s hr ht
    refine Does.of_run (f := retrainReqResend port.val now) rfl ?_
    split
    · next h =>
      obtain ⟨l, hp⟩ := (s.dev.advance now).enterRetrain_port_self port.val r
      simp [retrainReqResend, hr, ht, h, hp, Port.retrains]
    · next h =>
      have heq : retrainReqResend port.val now s.dev = ((s.dev.advance now).modPort port.val fun p => { p with tr := { p.tr with
          reqResends := p.tr.reqResends + 1, reqAt := (s.dev.advance now).time } }).sendMgmt port.val
            (.retrainReq port.val s.dev.boot.serial r) := by
        simp [retrainReqResend, hr, ht, h]
      rw [heq]
      simp only [Dev.retag_port, Dev.retag_out, Dev.sendMgmt_port_self, Dev.sendMgmt_out, Dev.modPort_port_self, Dev.advance_port]
      exact ⟨rfl, by rw [Dev.turn_modPort_out _ _ rfl]⟩
  case switchGroup =>
    intro port group now s hs hg
    refine Does.of_run (f := retrainSwitchGroup port.val group now) rfl ?_
    obtain ⟨l, hp⟩ := ((s.dev.advance now).closeFrame port.val).enterRetrain_port_self port.val (s.dev.port port.val).tr.retrainReason
    obtain ⟨hlost, hheld⟩ := (s.dev.advance now).closeFrame_port_self port.val
    have heq : retrainSwitchGroup port.val group now s.dev =
        ((s.dev.advance now).closeFrame port.val).enterRetrain port.val (s.dev.port port.val).tr.retrainReason := by
      rcases hs with h | h <;> simp [retrainSwitchGroup, h, hg]
    rw [heq, Dev.retag_port, hp]
    refine ⟨rfl, rfl, ?_⟩
    show _ + (_ + _) = _
    rw [hlost, hheld, Dev.advance_port, Nat.add_assoc]
  case done =>
    intro port now s hs hr
    refine Does.of_run (f := retrainDone port.val now) rfl ?_
    simp [retrainDone, hs, hr]
  case propose =>
    intro port lanes now s hh hs hl
    refine Does.of_run (f := widthPropose port.val lanes now) rfl ?_
    have heq : widthPropose port.val lanes now s.dev =
        (s.dev.advance now).acceptWidth port.val ((s.dev.port port.val).activeLanes &&& lanes) := by
      simp [widthPropose, hh, hs]
    rw [heq, Dev.acceptWidth_of_lanes hl]
    simp only [Dev.retag_port, Dev.retag_out, Dev.sendMgmt_port_self, Dev.sendMgmt_out, Dev.modPort_port_self, Dev.advance_port]
    exact ⟨rfl, rfl, rfl, by rw [Dev.turn_modPort_out _ _ rfl]⟩
  case widthAccept =>
    intro port lanes group now s hh hs hp
    refine Does.of_run (f := widthAccept port.val lanes group now) rfl ?_
    simp [widthAccept, hh, hs, hp]
  case widthSwitch =>
    intro port group now s hs hg hw
    refine Does.of_run (f := widthSwitchGroup port.val group now) rfl ?_
    have h := widthSwitchGroup_line now hs hg hw
    simp only [Port.line, Prod.mk.injEq] at h
    exact h
  case command =>
    intro port now s hs hr hg
    refine Does.of_run (f := linkCmdRetrain port.val now) rfl ?_
    have heq : linkCmdRetrain port.val now s.dev = ((s.dev.advance now).modPort port.val fun p => { p with tr := { p.tr with
        reqOutstanding := some reasonCmd, reqResends := 0, reqAt := (s.dev.advance now).time } }).sendMgmt port.val
          (.retrainReq port.val s.dev.boot.serial reasonCmd) := by
      simp [linkCmdRetrain, Dev.unstick, Dev.requestRetrain, hs, hr, hg]
    rw [heq]
    simp only [Dev.retag_port, Dev.retag_out, Dev.sendMgmt_port_self, Dev.sendMgmt_out, Dev.modPort_port_self, Dev.advance_port]
    exact ⟨rfl, by rw [Dev.turn_modPort_out _ _ rfl]⟩

end Sys2Proof.Machine
end

section
/-! # Beacons, seals and fabric time (O26) -/
namespace Sys2Proof.Machine

/-- Steering writes nothing of a port (R336). -/
@[simp] theorem Dev.steer_port (d : Dev) (port q : Nat) (theta : Option Int) : (d.steer port theta).port q = d.port q := by
  unfold Dev.steer
  split
  · rw [Dev.setTimeState_port, Dev.applyHalyards_port]
    rfl
  · extract_lets _ _ moved _ d1 d2 d3 d4 _ _ _ d5
    have h2 : d2.port q = d.port q := by
      unfold d2
      split
      · exact Dev.applyHalyards_port ..
      · rfl
    have h3 : d3.port q = d.port q := by
      unfold d3
      split
      · rw [Dev.setTimeState_port, h2]
      · exact h2
    have h4 : d4.port q = d.port q := by
      unfold d4
      split
      · rw [Dev.mgmt_port, h3]
      · exact h3
    split
    · exact h4
    · split
      · exact h4
      · rw [Dev.censusCheck_port, Dev.setTimeState_port]
        exact h4

theorem Dev.setTimeState_tm (d : Dev) (st : Nat) : (d.setTimeState st).tm = { d.tm with state := st } := by
  unfold Dev.setTimeState
  dsimp only
  split
  · exact Dev.notice_tm ..
  · rfl

theorem Dev.advance_linkSeal (d : Dev) (now : Time) (port : Nat) : (d.advance now).linkSeal port = d.linkSeal port := by
  simp only [Dev.linkSeal, Dev.sealBytes, Dev.advance_cfg, Dev.advance_port]

/-- Whether a peer's seal passes: with this module's epoch and configuration by the link seal, else by the excuse of a switch (R337). -/
def Dev.sealPasses (d : Dev) (port epoch : Nat) (cfg link : BitVec 384) (ttx : Time) : Bool :=
  if decide (epoch = d.cfg.force.epoch) && decide (cfg = d.cfg.force.sealDigest) then decide (link = d.linkSeal port)
  else d.cfg.excused epoch cfg ttx

theorem Dev.advance_sealPasses (d : Dev) (now : Time) (port epoch : Nat) (cfg link : BitVec 384) (ttx : Time) :
    (d.advance now).sealPasses port epoch cfg link ttx = d.sealPasses port epoch cfg link ttx := by
  simp only [Dev.sealPasses, Dev.advance_cfg, Dev.advance_linkSeal]

/-- The mismatches that a port has counted in a row, and when its last seal came. -/
def Port.seals (p : Port) : Nat × Option Time := (p.tm.sealMiss, p.tm.lastSeal)

/-- A seal that is heard clears the count of mismatches where it passes, else adds one to it. -/
theorem sealFrame_seals {d : Dev} {port epoch : Nat} {cfg link : BitVec 384} {ttx now : Time} (hh : (d.port port).hears = true) :
    ((sealFrame port epoch cfg link ttx now d).port port).seals =
      (if d.sealPasses port epoch cfg link ttx then 0 else (d.port port).tm.sealMiss + 1, some (d.advance now).time) := by
  unfold sealFrame
  extract_lets d1 p same ok d2 rst d3 t due d4 boot
  have hp : p = d.port port := Dev.advance_port ..
  have hok : ok = d.sealPasses port epoch cfg link ttx := d.advance_sealPasses now port epoch cfg link ttx
  have h2 : (d2.port port).seals = (if ok then 0 else p.tm.sealMiss + 1, some d1.time) := by
    unfold d2
    rw [Dev.modPort_port_self]
    rfl
  have h3 : d3.port port = d2.port port := by
    unfold d3
    split <;> rfl
  have h4 : (d4.port port).seals = (d3.port port).seals := by
    unfold d4
    split
    · rw [Dev.notice_port, Dev.modPort_port_self]
      rfl
    · rfl
  rw [if_neg (by simp [hp, hh]), ← hok, ← hp, ← h2, ← h3, ← h4]
  split
  · rfl
  · split
    · rw [Dev.censusCheck_port]
      rfl
    · split <;> rfl

/-- A beacon that echoes the last one sent gives the exchange's four times, and steering leaves the port alone (R336). -/
theorem beacon_of_echo {d : Dev} {port : Nat} {bseq echoSeq wraps : BitVec 16} {ttx echoRx t1 now : Time} {root : BitVec 14} {hops : BitVec 8}
    (hh : (d.port port).hears = true) (ht : (d.port port).tm.sentAt = some t1) (hb : (d.port port).tm.bseq = echoSeq)
    (hk : (d.port port).tm.skipNext = false) :
    (beacon port bseq ttx echoSeq echoRx root hops wraps now d).port port = { d.port port with tm := { (d.port port).tm with
      delay := BitVec.ofInt 32 (halfPs (((d.advance now).time - t1) - (ttx - echoRx)).toInt)
      offset := BitVec.ofInt 32 (halfPs ((echoRx - t1) - ((d.advance now).time - ttx)).toInt)
      skipNext := false, echoSeq := bseq, echoRx := (d.advance now).time, root := root, hops := hops, wraps := wraps
      beaconAt := some (d.advance now).time } } := by
  simp [beacon, hh, ht, hb, hk]

/-- Settles O26: what each command writes of its port is read off, and fabric time by the two commands' own branches. -/
theorem linkTime : Obligations.LinkTime := by
  unfold Obligations.LinkTime
  refine ⟨?beacon, ?beaconSend, ?same, ?differs, ?sealSend, ?holdover, ?wrap⟩
  case beacon =>
    intro port bseq ttx echoSeq echoRx root hops wraps t1 now s hh ht hb hk
    refine Does.of_run (f := beacon port.val bseq ttx echoSeq echoRx root hops wraps now) rfl ?_
    rw [Dev.retag_port, beacon_of_echo hh ht hb hk]
    exact ⟨rfl, rfl, rfl, rfl, rfl, rfl, rfl⟩
  case beaconSend =>
    intro port now s hs hd
    refine Does.of_run (f := beaconSend port.val now) rfl ?_
    have heq : beaconSend port.val now s.dev = (s.dev.advance now).sendBeacon port.val := by
      simp [beaconSend, hs, hd]
    rw [heq, Dev.retag_port, Dev.sendBeacon_port_self, Dev.advance_port]
    exact ⟨rfl, rfl⟩
  case same =>
    intro port epoch cfg link ttx now s hh he hc hl
    refine Does.of_run (f := sealFrame port.val epoch cfg link ttx now) rfl ?_
    have hpass : s.dev.sealPasses port.val epoch cfg link ttx = true := by simp [Dev.sealPasses, he, hc, hl]
    have h := sealFrame_seals (epoch := epoch) (cfg := cfg) (link := link) (ttx := ttx) (now := now) hh
    rw [hpass, if_pos rfl] at h
    exact Prod.mk.inj h
  case differs =>
    intro port epoch cfg link ttx now s hh hne hx
    refine Does.of_run (f := sealFrame port.val epoch cfg link ttx now) rfl ?_
    have hpass : s.dev.sealPasses port.val epoch cfg link ttx = false := by
      rcases hne with h | h <;> simp [Dev.sealPasses, h, hx]
    have h := sealFrame_seals (epoch := epoch) (cfg := cfg) (link := link) (ttx := ttx) (now := now) hh
    rw [hpass, if_neg Bool.false_ne_true] at h
    exact Prod.mk.inj h
  case sealSend =>
    intro port now s hs hd
    refine Does.of_run (f := sealSend port.val now) rfl ?_
    have heq : sealSend port.val now s.dev = (s.dev.advance now).sendSeal port.val := by
      simp [sealSend, hs, hd]
    rw [heq, Dev.retag_port, Dev.retag_out, Dev.sendSeal_port_self, Dev.sendSeal, Dev.sendMgmt_out, Dev.turn_modPort_out _ _ rfl,
      Dev.advance_linkSeal, Dev.advance_cfg]
    exact ⟨rfl, rfl⟩
  case holdover =>
    intro now s hs hr
    refine Does.of_run (f := timeHoldover now) rfl ?_
    simp [timeHoldover, hs, hr, Dev.setTimeState_tm]
  case wrap =>
    intro now s hle hlt
    refine Does.of_run (f := fabricTimeWrap now) rfl ?_
    cases h : s.dev.reference.isNone <;> simp [fabricTimeWrap, hle, hlt, h]

end Sys2Proof.Machine
end

section
/-! # Frames are taken in order, acknowledged and sent again (O23) -/
namespace Sys2Proof.Machine

theorem Port.hears_iff (p : Port) : p.hears = true ↔ (p.state = .active ∨ p.state = .width) ∧ p.fr.locked = true := by
  simp [Port.hears]

/-! ### Acknowledgements (R319) -/

/-- How many frames of the replay buffer a FACK names. -/
def Port.acked (p : Port) (fack : BitVec 12) : Nat := match p.fr.replay with
  | f :: _ => if (fack - f.fseq + 1).toNat ≤ p.fr.replay.length then (fack - f.fseq + 1).toNat else 0
  | [] => 0

/-- A FACK without NAK takes the frames that it names out of the replay buffer. -/
theorem Dev.applyAck_of_noNak (d : Dev) (port : Nat) (fack : BitVec 12) : d.applyAck port fack false =
    if (d.port port).acked fack = 0 then d else d.modPort port fun p =>
      { p with fr := { p.fr with replay := p.fr.replay.drop ((d.port port).acked fack), peerAck := fack, ackAt := d.time } } := by
  unfold Dev.applyAck
  simp only [Bool.false_and, Bool.false_eq_true, if_false]
  rfl

theorem Dev.applyAck_replay (d : Dev) (port : Nat) (fack : BitVec 12) :
    ((d.applyAck port fack false).port port).fr.replay = (d.port port).fr.replay.drop ((d.port port).acked fack) := by
  rw [Dev.applyAck_of_noNak]
  split
  · next h => rw [h, List.drop_zero]
  · rw [Dev.modPort_port_self]

/-- What the receiving side has counted, an acknowledgement leaves alone. -/
theorem Dev.applyAck_rxCount (d : Dev) (port : Nat) (fack : BitVec 12) :
    ((d.applyAck port fack false).port port).fr.rxCount = (d.port port).fr.rxCount := by
  rw [Dev.applyAck_of_noNak]
  split
  · rfl
  · rw [Dev.modPort_port_self]

@[simp] theorem Dev.applyAck_fab (d : Dev) (port : Nat) (fack : BitVec 12) : (d.applyAck port fack false).fab = d.fab := by
  rw [Dev.applyAck_of_noNak]
  split <;> rfl

/-! ### Packets for the switch (R319) -/

@[simp] theorem Dev.rxPackets_port (d : Dev) (port q : Nat) (ps : List Packet) : (d.rxPackets port ps).port q = d.port q := by
  refine Dev.port_congr ?_ q
  rw [Dev.rxPackets, Dev.modSwitch_ports]
  exact foldl_keeps Dev.ports _ (by intros; rfl) _ _

/-- The packets of a frame go to the end of the port's switch input. -/
theorem Dev.rxPackets_input (d : Dev) (port : Nat) (ps : List Packet) :
    ((d.rxPackets port ps).fab.switches.get {} (port / 4)).inputs.get [] (port % 4) =
      (d.fab.switches.get {} (port / 4)).inputs.get [] (port % 4) ++ ps := by
  have h : ∀ e : Dev, ((e.modSwitch (port / 4) fun s => { s with inputs := s.inputs.upd [] (port % 4) (· ++ ps) }).fab.switches.get {}
      (port / 4)).inputs.get [] (port % 4) = (e.fab.switches.get {} (port / 4)).inputs.get [] (port % 4) ++ ps := fun e => by
    simp [Dev.modSwitch]
  rw [Dev.rxPackets, h]
  exact congrArg (fun m : KMap Switch => (m.get {} (port / 4)).inputs.get [] (port % 4) ++ ps)
    (foldl_keeps (fun d => d.fab.switches) _ (by intros; rfl) _ _)

/-! ### DATA and IDLE frames in the clear (R317, R319, R320) -/

theorem Port.tagOk_of_clear {p : Port} (h : p.encOn = false) (f : RxFrame) : p.tagOk f = true := by simp [Port.tagOk, h]

/-- A DATA frame next in order: acknowledged, its packets handed on, and an IDLE frame sent where no frame of its own would carry the FACK. -/
theorem linkDataFrame_of_next {d : Dev} {port : Nat} {bs : List Byte} {f : RxFrame} (now : Time) (hh : (d.port port).hears = true)
    (he : (d.port port).encOn = false) (hf : parseFrame bs = some f) (ht : f.ftype = 1) (hn : f.nak = false)
    (hs : f.fseq = (d.port port).fr.fack + 1) :
    ∃ e : Dev, (e.port port).fr.rxCount = rebuildCount (d.port port).fr.rxCount f.count + 1 ∧ e.fab = d.fab ∧
      ∃ e' : Dev, e' = (e.modPort port fun p => { p with fr := { p.fr with fack := f.fseq, nakSent := false } }).rxPackets port
          (parsePackets 12 (f.body.take f.len)) ∧
        linkDataFrame port bs now d = if (e'.port port).fr.frame.isEmpty then e'.sendFrame port 0 0 false [] else e' := by
  obtain ⟨hstate, hlock⟩ := (Port.hears_iff _).1 hh
  unfold linkDataFrame
  extract_lets d1 p
  have hp : p = d.port port := Dev.advance_port ..
  have hrun : ¬(decide (p.state ≠ .active) && decide (p.state ≠ .width)) = true := by
    rcases hstate with h | h <;> simp [hp, h]
  rw [if_neg hrun, if_neg (by simp [hp, hlock]), hf]
  dsimp only
  rw [if_neg (not_not_intro ht), if_neg (by simp [Port.tagOk_of_clear (hp ▸ he)]), hn, if_neg (by rw [hp]; exact not_not_intro hs), hp, he]
  refine ⟨_, ?_, ?_, _, rfl, rfl⟩
  · rw [Dev.applyAck_rxCount, Dev.modPort_port_self]
  · rw [Dev.applyAck_fab, Dev.modPort_fab, Dev.advance_fab]

/-- A DATA frame whose CRC fails is discarded. -/
theorem linkDataFrame_of_damaged {d : Dev} {port : Nat} {bs : List Byte} (now : Time) (hh : (d.port port).hears = true)
    (hf : parseFrame bs = none) : linkDataFrame port bs now d = (d.advance now).discardRx port := by
  obtain ⟨hstate, hlock⟩ := (Port.hears_iff _).1 hh
  rcases hstate with h | h <;> simp [linkDataFrame, h, hlock, hf]

/-- A discarded frame is NAKed, but for a gap that has had its NAK. -/
theorem Dev.discardRx_of_first {d : Dev} {port : Nat} (h : (d.port port).fr.nakSent = false) : d.discardRx port =
    (d.modPort port fun p => { p with fr := { p.fr with nakSent := true } }).sendFrame port 0 0 true [] := by
  simp [Dev.discardRx, h]

theorem Dev.discardRx_of_sent {d : Dev} {port : Nat} (h : (d.port port).fr.nakSent = true) : d.discardRx port = d := by
  simp [Dev.discardRx, h]

/-! ### Frames sent again (R320) -/

/-- Frames that may be sent once more are: each counts it, and progress is awaited anew. -/
theorem Dev.resendFrames_of_few {d : Dev} {port : Nat} (h : (d.port port).fr.replay.any (fun f => 8 ≤ f.sends) = false) :
    ∃ e : Dev, (e.port port).fr.replay = (d.port port).fr.replay ∧ (e.port port).replays = (d.port port).replays ∧ e.time = d.time ∧
      d.resendFrames port = e.modPort port fun p => { p with
        replays := p.replays + p.fr.replay.length
        fr := { p.fr with replay := p.fr.replay.map (fun (f : HeldFrame) => { f with sends := f.sends + 1 }), ackAt := e.time } } := by
  unfold Dev.resendFrames
  dsimp only
  rw [h, if_neg Bool.false_ne_true]
  exact ⟨_, Dev.foldl_sendFrame_keeps (·.fr.replay) (fun _ _ => rfl) .., Dev.foldl_sendFrame_keeps Port.replays (fun _ _ => rfl) ..,
    foldl_keeps Dev.time _ (fun d f => d.sendFrame_time ..) .., rfl⟩

/-! ### Windows of lane errors (R322, R323) -/

/-- The entry that a lane with a count has in the table of a window: none for a count of 0. -/
def countEntry (x : Nat × Nat) : Option (Nat × Nat) := if x.1 = 0 then none else some (x.2, x.1)

/-- The table of a window lists the lanes with a count other than 0, so that every lane reads its count. -/
theorem KMap.get_counts (l : List Nat) (k i : Nat) :
    KMap.get ((l.zipIdx k).filterMap countEntry) 0 i = if k ≤ i then l.getD (i - k) 0 else 0 := by
  induction l generalizing k with
  | nil => simp
  | cons n l ih =>
    have hskip : ¬i = k → (if k ≤ i then (n :: l).getD (i - k) 0 else 0) = if k + 1 ≤ i then l.getD (i - (k + 1)) 0 else 0 := fun hne => by
      by_cases h : k ≤ i
      · obtain ⟨j, rfl⟩ : ∃ j, i = k + (j + 1) := ⟨i - k - 1, by omega⟩
        rw [if_pos h, if_pos (by omega), show k + (j + 1) - k = j + 1 by omega, show k + (j + 1) - (k + 1) = j by omega]
        rfl
      · rw [if_neg h, if_neg (by omega)]
    rw [List.zipIdx_cons, List.filterMap_cons, countEntry]
    by_cases hn : n = 0
    · rw [if_pos hn, ih]
      by_cases hi : i = k
      · rw [hi, hn, if_neg (Nat.not_succ_le_self k), if_pos (Nat.le_refl k), Nat.sub_self]
        rfl
      · exact (hskip hi).symm
    · rw [if_neg hn]
      by_cases hi : i = k
      · rw [hi, if_pos (Nat.le_refl k), Nat.sub_self, KMap.get, KMap.find?, if_pos rfl]
        rfl
      · rw [hskip hi, ← ih, KMap.get, KMap.find?, if_neg hi]
        rfl

/-- A proposal of a width, and a request for a retrain, leave the lanes' counts. -/
theorem Dev.proposeWidth_laneOver (d : Dev) (port : Nat) (remove : BitVec 4) :
    ((d.proposeWidth port remove).port port).tr.laneOver = (d.port port).tr.laneOver := by
  unfold Dev.proposeWidth
  dsimp only
  split
  · rfl
  · split
    · rw [Dev.requestRetrain_keeps (·.tr.laneOver) (fun _ _ => rfl) (fun _ _ _ _ => rfl), Dev.retireLanes_port_self]
    · rw [Dev.sendMgmt_port_self, Dev.modPort_port_self]
      rfl

theorem laneSerWindowEnd_laneOver {d : Dev} {port : Nat} {lanes : List (Nat × Nat)} {bad total : Nat} {now : Time}
    (hs : (d.port port).state = .active ∨ (d.port port).state = .width) (ht : nsOf (d.advance now).time % 1000000000 = 0) {i : Nat} (hi : i < 4) :
    ((laneSerWindowEnd port lanes bad total now d).port port).tr.laneOver.get 0 i =
      if bit (d.port port).activeLanes i && serOver (d.serLimit port) (lanes.getD i (0, 0)).1 (lanes.getD i (0, 0)).2 then
        (d.port port).tr.laneOver.get 0 i + 1 else 0 := by
  unfold laneSerWindowEnd
  extract_lets d1 p above cw d2 gone d3
  have hp : p = d.port port := Dev.advance_port ..
  have hlimit : d1.serLimit port = d.serLimit port := congrArg Fmt.fp32.value (Dev.cfgNat_congr (d.advance_cfg now) ..)
  have h2 : (d2.port port).tr.laneOver = above.zipIdx.filterMap countEntry := by
    have hp2 : d2.port port = _ := d1.modPort_port_self port _
    rw [hp2]
    rfl
  have h3 : (d3.port port).tr.laneOver = (d2.port port).tr.laneOver := d2.proposeWidth_laneOver port gone
  have habove : above.getD i 0 = if bit p.activeLanes i && serOver (d1.serLimit port) (lanes.getD i (0, 0)).1 (lanes.getD i (0, 0)).2 then
      p.tr.laneOver.get 0 i + 1 else 0 := by
    simp [above, List.getD, hi]
  rw [if_neg, ← hp, ← hlimit, ← habove]
  · split
    · rw [Dev.requestRetrain_keeps (·.tr.laneOver) (fun _ _ => rfl) (fun _ _ _ _ => rfl), Dev.modPort_port_self, h3, h2]
      simpa using KMap.get_counts above 0 i
    · rw [h3, h2]
      simpa using KMap.get_counts above 0 i
  · rcases hs with h | h <;> simp [hp, h, d1, ht]

/-- Settles O23: each command under its premises takes the branch of its lemma, and port, switch input and output are read off there. -/
theorem linkFrames : Obligations.LinkFrames := by
  unfold Obligations.LinkFrames
  refine ⟨?data, ?damaged, ?idle, ?marker, ?replay, ?window, ?lockLost⟩
  case data =>
    intro port bs f now s hh he hf ht hn hs
    refine Does.of_run (f := linkDataFrame port.val bs now) rfl ?_
    obtain ⟨e, hrx, hfab, e', he', heq⟩ := linkDataFrame_of_next now hh he hf ht hn hs
    have hp : e'.port port.val = { e.port port.val with fr := { (e.port port.val).fr with fack := f.fseq, nakSent := false } } := by
      rw [he', Dev.rxPackets_port, Dev.modPort_port_self]
    have hin : (e'.fab.switches.get {} (port.val / 4)).inputs.get [] (port.val % 4) =
        (s.dev.fab.switches.get {} (port.val / 4)).inputs.get [] (port.val % 4) ++ parsePackets 12 (f.body.take f.len) := by
      rw [he', Dev.rxPackets_input, Dev.modPort_fab, hfab]
    rw [heq, Dev.retag_port, Dev.retag_fab]
    split
    · rw [Dev.sendFrame_port_self, Dev.sendFrame_fab, hp]
      exact ⟨rfl, rfl, hrx, hin⟩
    · rw [hp]
      exact ⟨rfl, rfl, hrx, hin⟩
  case damaged =>
    intro port bs now s hh hf
    refine Does.of_run (f := linkDataFrame port.val bs now) rfl ?_
    rw [linkDataFrame_of_damaged now hh hf, Dev.retag_port, Dev.retag_fab, Dev.retag_out]
    cases hn : (s.dev.port port.val).fr.nakSent with
    | true =>
      rw [Dev.discardRx_of_sent (by simpa using hn)]
      simp [hn]
    | false =>
      rw [Dev.discardRx_of_first (by simpa using hn), Dev.sendFrame_port_self, Dev.sendFrame_fab, Dev.sendFrame_out, Dev.turn_modPort_out _ _ rfl,
        Dev.modPort_port_self, Dev.modPort_fab, Dev.advance_fab, Dev.advance_port]
      exact ⟨rfl, rfl, rfl, rfl⟩
  case idle =>
    intro port bs f x xs now s hh he hf ht hn hr hle
    refine Does.of_run (f := linkIdleFrame port.val bs now) rfl ?_
    have heq : linkIdleFrame port.val bs now s.dev = ((s.dev.advance now).modPort port.val fun p =>
        { p with fr := { p.fr with rxCount := rebuildCount p.fr.rxCount f.count + 1 } }).applyAck port.val f.fack false := by
      simp [linkIdleFrame, hh, hf, ht, Port.tagOk_of_clear he, hn]
    rw [heq, Dev.retag_port, Dev.retag_fab, Dev.applyAck_replay, Dev.applyAck_fab, Dev.modPort_port_self, Dev.advance_port, Dev.modPort_fab,
      Dev.advance_fab]
    refine ⟨?_, rfl⟩
    simp only [Port.acked, hr, List.length_cons, if_pos hle]
  case marker =>
    intro port bs now s hs
    refine Does.of_run (f := groupMarker port.val bs now) rfl ?_
    unfold groupMarker
    extract_lets d1 ok
    rw [if_pos (by simpa [d1] using hs), Dev.retag_port, Dev.modPort_port_self]
    exact ⟨rfl, fun h => ⟨if_pos h, if_pos h⟩⟩
  case replay =>
    intro port now s hs hr ht hfew
    refine Does.of_run (f := linkReplayTimeout port.val now) rfl ?_
    have heq : linkReplayTimeout port.val now s.dev = (s.dev.advance now).resendFrames port.val := by
      rcases hs with h | h <;> simp [linkReplayTimeout, h, hr, ht]
    obtain ⟨e, hreplay, hreplays, htime, he⟩ := Dev.resendFrames_of_few (d := s.dev.advance now) (port := port.val) (by simpa using hfew)
    rw [Dev.advance_port] at hreplay hreplays
    rw [heq, he, Dev.retag_port, Dev.modPort_port_self, ← hreplay, ← hreplays, ← htime]
    exact ⟨rfl, rfl, rfl⟩
  case window =>
    intro port lanes bad total now s hs ht
    refine Does.of_run (f := laneSerWindowEnd port.val lanes bad total now) rfl ?_
    exact fun i hi => laneSerWindowEnd_laneOver hs ht hi
  case lockLost =>
    intro port now s hs
    refine Does.of_run (f := linkLockLost port.val now) rfl ?_
    have heq : linkLockLost port.val now s.dev = ((s.dev.advance now).modPort port.val fun p =>
        { p with lockLosses := p.lockLosses + 1 }).enterRetrain port.val ((s.dev.port port.val).tr.reqOutstanding.getD reasonLock) := by
      rcases hs with h | h <;> simp [linkLockLost, h]
    obtain ⟨r, hp⟩ := ((s.dev.advance now).modPort port.val fun p => { p with lockLosses := p.lockLosses + 1 }).enterRetrain_port_self port.val
      ((s.dev.port port.val).tr.reqOutstanding.getD reasonLock)
    rw [heq, Dev.retag_port, hp, Dev.modPort_port_self, Dev.advance_port]
    exact ⟨rfl, rfl, rfl, (Nat.add_assoc ..).symm⟩

end Sys2Proof.Machine
end
